-- ==== Sys2Proof/Word.lean ====
section
/-! DEFINITION. Word types of the block: the 32-bit register word and the byte. -/

namespace Sys2Proof

/-- A register word: every register of the map is 32 bits wide (22_register_pages.md R547). -/
abbrev Word := BitVec 32

/-- A byte of SRAM or of the plan store. -/
abbrev Byte := BitVec 8

end Sys2Proof
end

