-- ==== Sys2Proof/Syntax.lean ====
section
/-! DEFINITION. The commands of the block: one constructor of Instr per row of spec/opcode_table.json, with the
quantities the row's rule reads from outside the block as its operands. -/

namespace Sys2Proof

/-- The bus masters of R544. -/
inductive Master where
  | root | cox0 | cox1 | hspi | can0 | can1 | ring | seat | ump | debug
  deriving DecidableEq, Repr

/-- The supervised rails of R72. -/
inductive Rail where
  | vsup | v5 | vcsd | uref | vio | v18 | vcore | vdda
  deriving DecidableEq, Repr

/-- A reset cause that asserts (R77): the brown-out or the over-voltage of a rail. -/
inductive RailCause where
  | brownOut (r : Rail) | overVoltage (r : Rail)
  deriving DecidableEq, Repr

/-- A reset cause that may assert in one umpire cycle with others (R77, R79): a rail's, the control die declared failed on a
condition of R111 or R418, a comparator of a cox pair with the group that differs, a window watchdog, RST_N, RST_SWREQ, the RC
oscillator's failed start, a failed logic test of an island, or the fourth automatic restart. -/
inductive ResetCause where
  | rail (c : RailCause)
  | umpire (detail : Fin 256)
  | lockstep (x : Fin 2) (group : Fin 16)
  | wdog (x : Fin 2)
  | extRst
  | soft
  | clkStart
  | lbist (island : Fin 8)
  | restartLimit
  deriving DecidableEq, Repr

/-- What a bus read of a memory word meets (R180, R546): a single-bit error, or an uncorrectable one. -/
inductive MemErr where
  | corrected | uncorr
  deriving DecidableEq, Repr

/-- The width of a bus access (R17). -/
inductive AccessSize where
  | byte | half | word
  deriving DecidableEq, Repr

/-- Units: A, B, AUXA, AUXB (R243). -/
abbrev UnitIx := Fin 4

/-- Legs in the numbering of R331: 0 to 17 main, 18 to 23 aux. -/
abbrev LegIx := Fin 24

/-- Drive instances A and B. -/
abbrev DriveIx := Fin 2

/-- Fault inputs: FLT00 to FLT17, then FLTAUXA and FLTAUXB (R372). -/
abbrev FltIx := Fin 20

/-- Brake switches BRK0 to BRK3. -/
abbrev BrkIx := Fin 4

/-- Sigma-delta inputs SD00 to SD39 (R142). -/
abbrev SdIx := Fin 40

/-- What a seat meets when it issues a record (R170, R180, R186): nothing, a local-data or store error that ECC corrects, or
an uncorrectable error of its local data, a parity error of record fetch or decode, or an uncorrectable store word. -/
inductive SeatErr where
  | none | corrected | storeCorrected | localEcc | fetchParity | decodeParity | storeUncorr
  deriving DecidableEq, Repr

/-- The fields of a schedule record besides its opcode (R243). A reference holds KIND in [13:12] and INDEX in [11:0]
(R244). -/
structure OpRec where
  t : Fin 4
  unit : Fin 8
  k : Fin 8
  phase : Fin 128
  pinv : Bool
  slot : Fin 16
  pred : Fin 16384
  f0 : Fin 16384
  f1 : Fin 16384
  f2 : Fin 16384
  f3 : Fin 16384
  f4 : Fin 16384
  n : Fin 32
  m : Fin 8
  mode : Fin 256
  deriving DecidableEq, Repr

/-- What an SD input's filters give at bit density 0.75 and then 0.25 of the internal reference (R534, R538). -/
structure Loopback where
  input : Fin 40
  hiS : Int
  loS : Int
  hiP : Int
  loP : Int
  deriving DecidableEq, Repr

/-- A converter's conversions of VREF/2 and of VSS (R534, R538). -/
structure SarRefs where
  conv : Fin 2
  vref : List (BitVec 12)
  vss : List (BitVec 12)
  deriving DecidableEq, Repr

/-- What a CTL message carries that is not as its row says: an unlisted code, or a body of another length (R488). -/
structure CtlOdd where
  code : BitVec 8
  body : List Byte
  deriving DecidableEq, Repr

/-- A row or a column of a memory array (R529, R530). Arrays: 0 to 31 system SRAM, 32 to 63 race-plan store, 64 to 79 the seats' local
data, 80 to 87 cox caches (log entry 129). -/
structure MemLine where
  array : Fin 88
  column : Bool
  index : Nat
  deriving DecidableEq, Repr

/-- What the gate-off path test of one output reads: the ns after which the pre-driver reads back on, and off, if it does, and whether
the ball comparator has read high (R535). -/
structure GateRead where
  ball : Fin 52
  onNs : Option Nat
  offNs : Option Nat
  ballHigh : Bool
  deriving DecidableEq, Repr

/-- How a phase of the boot self-test ends (R527 to R535): the umpire's own logic test and gate-off path test; the memory test behind the
fuse read of R518, with the lines that the March sequence finds failing over data and ECC bits and the arrays that fail again after their
soft repair; the logic tests with their signatures and durations in ms; and what the analogue checks convert and read. -/
inductive BistEnd where
  | umpire (sig : Word)
  | gateOff (reads : List GateRead)
  | memory (fuseErr : Bool) (fails : List MemLine) (again : List (Fin 88)) (ms : Nat)
  | logicA (seat periph : Word) (seatMs periphMs : Nat)
  | logicB (cox pwm link : Word) (coxMs pwmMs linkMs : Nat)
  | analogue (loops : List Loopback) (refs : List SarRefs) (reads : List (List (BitVec 16))) (ms : Nat)
  deriving DecidableEq, Repr

/-- An error of a CAN controller: its LEC code (R474), and how often the standard raises the error count by a further 8 for it, for dominant
bits that follow the error flag (R472; ISO 11898-1; log entry 21). -/
structure CanErr where
  lec : Fin 7
  dominant : Nat
  deriving DecidableEq, Repr

/-- A CAN frame on the wire (R470): format 0 classical, 1 FD, 2 FD with BRS, 3 XL; `af` is the acceptance field of an XL frame. -/
structure CanFrame where
  fmt : Fin 4
  remote : Bool
  ext : Bool
  id : BitVec 29
  sec : Bool
  esi : Bool
  sdt : BitVec 8
  vcid : BitVec 8
  af : BitVec 32
  data : List Byte
  deriving DecidableEq, Repr

/-- Header of a ring frame besides its TYPE, ADDR and LEN (R483), whether a code violation was seen in it, and its CRC-32
(R485). -/
structure RingHdr where
  ring : Fin 2
  src : Fin 8
  dst : Fin 16
  hops : Fin 16
  tag : Fin 128
  attempt : BitVec 16
  viol : Bool
  crc : BitVec 32
  deriving DecidableEq, Repr


/-- What catch-spin has measured of one winding set (R280, R282): its speed, signed positive in the forward direction, the largest
line-to-line magnitude seen, VALID, and whether its crossings came in sequence. -/
structure SpinSet where
  f : BitVec 32
  v : BitVec 32
  valid : Bool
  inSeq : Bool
  deriving DecidableEq, Repr


/-- The commands, one constructor per row of spec/opcode_table.json. -/
inductive Instr where
  /-- POWER_UP (R73): VSUP becomes valid and the safety die starts its rail sequence from V5. -/
  | powerUp
  /-- RAIL_GOOD (R73): A rail of the power-up sequence reaches good and the next rail is enabled. -/
  | railGood (r : Rail)
  /-- RC_QUALIFICATION (R106): A start-up qualification attempt of the RC oscillator ends after its eight 16 µs windows, passing or failing. -/
  | rcQualification (counts : List Nat) (same : List ResetCause)
  /-- RC_RETRY (R106): The 1.0 ms stop after a failed qualification attempt expires and the next attempt starts. -/
  | rcRetry
  /-- CONTROL_DIE_RELEASE (R74): The safety die releases the control die from reset once the rails are good and RST_N is high. -/
  | controlDieRelease (rstHigh : Bool) (nowMs : Nat)
  /-- VSUP_OV_WARN (R71): VSUP crosses 82 V, rising or falling back by the hysteresis, and VSUP_OV_WARN changes. -/
  | vsupOvWarn (rising : Bool)
  /-- VSUP_OV (R71): VSUP has stayed above 82 V for 450 ms and the umpire acts on cause VSUP_OV. -/
  | vsupOv (same : List ResetCause)
  /-- BROWN_OUT (R72): A rail stays below its brown-out threshold for its filter time and its cause asserts. -/
  | brownOut (r : Rail) (same : List ResetCause)
  /-- RAIL_OV (R72): A regulated rail stays above its over-voltage threshold for its filter time and RAIL_OV is logged. -/
  | railOv (r : Rail) (same : List ResetCause)
  /-- POWER_DOWN (R76): VSUP falls below 7.0 V, V5 leaves regulation and the rails are shut down in order. -/
  | powerDown
  /-- EXT_RST (R78): A RST_N low pulse of at least 1 µs causes a control-die reset. -/
  | extRst (widthNs : Nat) (same : List ResetCause)
  /-- RST_SWREQ (R83): A write of the key to RST_SWREQ requests a SOFT control-die reset, or is refused. -/
  | rstSwreq (m : Master) (key : Word) (same : List ResetCause)
  /-- AUTOMATIC_RESTART (R80): The umpire releases the control die after an automatic-restart cause once its delays have passed. -/
  | automaticRestart (rstHigh : Bool) (nowMs : Nat) (same : List ResetCause)
  /-- RC_LADDER_CHECK (R108): A 16 µs ladder window of the qualified RC oscillator ends and its count is checked. -/
  | rcLadderCheck (count : Nat) (same : List ResetCause)
  /-- RC_EDGE_LOSS (R108): No RC edge arrives for 1 µs, which is an RC failure. -/
  | rcEdgeLoss (same : List ResetCause)
  /-- RC_TRIM_STEP (R109): Each 1 ms while LOCKED, the umpire steps the RC trim towards 16 MHz and updates TRIM_OK and TRIM_RANGE. -/
  | rcTrimStep (errPpm : Int)
  /-- LOCK_ATTEMPT (R95): A lock attempt starts from FREE when a reference is present and any retry delay has passed. -/
  | lockAttempt (refp : Bool) (refHz : Nat)
  /-- BAND_SEARCH_STEP (R97): A band-search step ends its DCO count and keeps or drops one band bit. -/
  | bandSearchStep (count count63 : Nat) (lost : Bool)
  /-- ACQUIRE_DONE (R98): The phase error has stayed within WIN for 16 reference cycles and ACQUIRE passes to TRACK. -/
  | acquireDone (errs : List (BitVec 16)) (lost : Bool)
  /-- ACQ_TIMEOUT (R98): 100 µs after SEARCH ends without acquisition, the attempt fails with ACQ_TIMEOUT. -/
  | acqTimeout (errs : List (BitVec 16)) (lost : Bool)
  /-- LOCK_TIMEOUT (R98): LOCKED is not declared within 4 × CYCLES reference cycles of TRACK and the attempt fails. -/
  | lockTimeout (errs : List (BitVec 16)) (lost : Bool)
  /-- LOCKED (R99): The phase error has stayed within WIN for CYCLES cycles in TRACK and the PLL declares LOCKED. -/
  | locked (errs : List (BitVec 16)) (lost : Bool) (tick : Nat) (offset : Int)
  /-- DIVIDER_CHANGE (R96): The island dividers change between nominal and half rate on the next 160-cycle boundary. -/
  | dividerChange
  /-- REF_LOSS (R92): The selected reference is lost: no REFP/REFN edge for 3 periods or loss of ring character lock. -/
  | refLoss (fines : List (BitVec 14))
  /-- LOL (R101): The phase error exceeds 2 × WIN for 4 consecutive cycles in LOCKED. -/
  | lol (errs : List (BitVec 16)) (fines : List (BitVec 14))
  /-- COAST_EXPIRED (R102): The coast exceeds PLL_COAST.MAX and the umpire declares the control die failed. -/
  | coastExpired (same : List ResetCause)
  /-- TAP_STOP (R111): No clock-monitor tap edge for 16 RC cycles; the control die is declared failed. -/
  | tapStop (same : List ResetCause)
  /-- FAST_HIGH (R111): A 2 µs tap window ends with too many counts and the control die is declared failed. -/
  | fastHigh (count : Nat) (same : List ResetCause)
  /-- MONITOR_WINDOW (R110): A 16 µs tap count window ends; the reference count may be latched and the frequency limits are judged. -/
  | monitorWindow (count : BitVec 9) (full : Bool) (same : List ResetCause)
  /-- CATCH (R119): A catch falls LEAD ticks before its update point and starts a computation cycle with a new context word. -/
  | catch (bits : List (Nat × List (Option Bool))) (done : Nat)
  /-- DATUM_ARRIVAL (R129): A tagged datum reaches the head of its consumer's FIFO and is accepted, held or discarded as stale. -/
  | datumArrival (b : Fin 2048) (tag : Fin 256)
  /-- INPUT_DEADLINE (R131): An input's deadline cycle passes without its datum and the input resolves as late to its held value. -/
  | inputDeadline (b : Fin 2048) (u : Fin 5)
  /-- CATCH_NUM_LO_READ (R141): A read of CATCH_NUM_LO latches the upper catch-number bits into CATCH_NUM_HI. -/
  | catchNumLoRead
  /-- SD_STUCK (R147): An input delivers 64 consecutive equal bits and STUCK sets. -/
  | sdStuck (n : SdIx) (bits : List (Option Bool))
  /-- MANCHESTER_LOCK (R145): A Manchester decoder counts 32 bits without a violation and locks. -/
  | manchesterLock (n : SdIx) (bits : List (Option Bool))
  /-- MANCHESTER_LOCK_LOSS (R145): A Manchester decoder counts 4 violations within 32 bits and loses lock. -/
  | manchesterLockLoss (n : SdIx) (bits : List (Option Bool))
  /-- COMPARATOR_ASSERT (R153): A protection-filter output passes HI or LO for DEB outputs and the comparator asserts to PROT. -/
  | comparatorAssert (n : SdIx) (bits : List (Option Bool))
  /-- COMPARATOR_DEASSERT (R153): An asserted comparator's output returns past its hysteresis and the comparator deasserts. -/
  | comparatorDeassert (n : SdIx) (bits : List (Option Bool))
  /-- SD_OFS_WRITE (R160): A write of SD_OFS or SAR_OFS applies from the next catch or is refused while the unit runs. -/
  | sdOfsWrite (m : Master) (sar : Bool) (i : Fin 40) (v : Word)
  /-- CALIBRATION_START (R161): An offset calibration starts at the next catch once the unit's gates are off. -/
  | calibrationStart (u : UnitIx)
  /-- CALIBRATION_SETTLED (R162): The 0.5 ms settling of a calibration ends and summing begins. -/
  | calibrationSettled (u : UnitIx)
  /-- CALIBRATION_END (R162): N results have been summed; the offsets are checked and written together or CAL_FAIL is set. -/
  | calibrationEnd (u : UnitIx)
  /-- SAR_ENTRY_START (R164): A SAR sequence entry starts at its trigger plus DELAY or when the converter is free. -/
  | sarEntryStart (e : Fin 32) (at' : Nat)
  /-- SAR_CONVERSION_DONE (R164): A SAR entry's conversions end and the tagged result enters the result FIFO. -/
  | sarConversionDone (e : Fin 32) (codes : List (BitVec 12))
  /-- NTC_AGE_TIMEOUT (R445): No result arrives for an NTC for NTC_AGE ms and it takes a fault. -/
  | ntcAgeTimeout (n : Fin 6)
  /-- ROTATION_TIMER (R181): The 250 ms rotation timer expires and a copy is due at the next catch. -/
  | rotationTimer
  /-- COPY_START (R183): COPY starts at schedule cycle 0 of a catch for the target slot. -/
  | copyStart
  /-- COPY_COMPLETE (R182): The copy port has transferred the slot's local data to the sub. -/
  | copyComplete (uncorr : Bool)
  /-- SUB_TAKEOVER (R183): The sub takes the slot at the next catch and the freed seat starts its in-service test. -/
  | subTakeover
  /-- IST_COMPLETE (R186): A freed seat's in-service test ends; it joins the pool tail or is retired. -/
  | istComplete (sig : Word) (march : List Nat) (corrected detected : Bool)
  /-- XBAR_CREDIT_RETURN (R176): A crossbar credit returns and a stalled slot is released in slot order. -/
  | xbarCreditReturn (i : Nat) (last : Bool) (cycles : Nat)
  /-- SCRUB_READ (R180): Every 50 µs the scrubber reads and corrects one store word. -/
  | scrubRead (outcome : Fin 3)
  /-- FABRIC_REACTIVATE (R186): Once every unit's gates are off after a SEAT_FAULT, the fabric re-activates the LIVE plan. -/
  | fabricReactivate (tick : Nat)
  /-- ACTIVATE (R190): PLAN_CMD ACTIVATE requests a cold switch to STAGE, accepted or refused. -/
  | activate (m : Master)
  /-- ARM (R191): PLAN_CMD ARM requests a warm switch at target catch N, accepted or refused. -/
  | arm (m : Master)
  /-- CANCEL (R577): PLAN_CMD CANCEL cancels an ARMED switch or is refused or ignored. -/
  | cancel (m : Master)
  /-- ACTIVATION_EFFECT (R190): An accepted activation takes effect: halves swap roles, slots are assigned and a new run starts. -/
  | activationEffect (tick : Nat)
  /-- SWITCH_COMMIT (R192): At catch N − 2 the budget is re-checked and the switch becomes COMMITTED or is refused. -/
  | switchCommit
  /-- SWITCH_SWAP (R192): At the close of catch N − 1 the halves swap roles and slots are reassigned. -/
  | switchSwap
  /-- LOAD_SRAM_PHASE_END (R261): The SRAM-phase checks of a load end, failing or entering LOADING. -/
  | loadSramPhaseEnd (ecc : Bool)
  /-- LOAD_COPY_END (R261): The copy into STAGE ends and VERIFYING begins. -/
  | loadCopyEnd
  /-- LOAD_VERIFY_END (R261): The store-phase checks end and STAGE becomes VERIFIED or FAILED. -/
  | loadVerifyEnd (ecc : Bool)
  /-- FLASH_READ_DONE (R262): The loader finishes reading a FLASH image into the load buffer. -/
  | flashReadDone (offset : Nat) (bytes : List Byte)
  /-- LOAD_SMP (R211): Reads an input's resolved value at its deadline and scales or copies it. -/
  | loadSmp (r : OpRec) (ix : Fin 8192) (err : SeatErr)
  /-- EMIT_PWM (R212): Sends leg compares, an optional period and PWM_COMMIT to the PWM shadows. -/
  | emitPwm (r : OpRec) (ix : Fin 8192) (err : SeatErr) (atNs : Nat)
  /-- EMIT_REG (R213): Sends one word to a bound output register. -/
  | emitReg (r : OpRec) (ix : Fin 8192) (err : SeatErr)
  /-- EXCH (R213): Sends w tagged words to an EXCH channel of another member. -/
  | exch (r : OpRec) (ix : Fin 8192) (err : SeatErr)
  /-- CAPTURE (R213): Sends w tagged words to a capture channel in SRAM. -/
  | capture (r : OpRec) (ix : Fin 8192) (err : SeatErr)
  /-- INJECT (R213): Adds the injection point's tagged sample to a value. -/
  | inject (r : OpRec) (ix : Fin 8192) (err : SeatErr) (late : Bool)
  /-- CLARKE3 (R214): Sums paralleled leg values per phase and computes alpha, beta and zero. -/
  | clarke3 (r : OpRec) (ix : Fin 8192) (err : SeatErr)
  /-- CLARKE_N (R215): Multiplies n inputs by an m × n coefficient matrix. -/
  | clarkeN (r : OpRec) (ix : Fin 8192) (err : SeatErr)
  /-- PARK (R216): Rotates alpha and beta into d and q. -/
  | park (r : OpRec) (ix : Fin 8192) (err : SeatErr)
  /-- IPARK (R216): Rotates d and q into alpha and beta. -/
  | ipark (r : OpRec) (ix : Fin 8192) (err : SeatErr)
  /-- SINCOS (R217): Interpolates sine and cosine of an angle from the sine table. -/
  | sincos (r : OpRec) (ix : Fin 8192) (err : SeatErr)
  /-- SVM3 (R218): Forms three phase duties with the chosen zero-sequence offset. -/
  | svm3 (r : OpRec) (ix : Fin 8192) (err : SeatErr)
  /-- SPWM_N (R219): Forms n phase duties from n voltages. -/
  | spwmN (r : OpRec) (ix : Fin 8192) (err : SeatErr)
  /-- DEADCOMP (R220): Compensates three duties for dead time by current sign. -/
  | deadcomp (r : OpRec) (ix : Fin 8192) (err : SeatErr)
  /-- PI (R221): Runs a PI controller with integrator clamping. -/
  | pi (r : OpRec) (ix : Fin 8192) (err : SeatErr)
  /-- PID_FD (R222): Runs a PID controller with filtered derivative. -/
  | pidFd (r : OpRec) (ix : Fin 8192) (err : SeatErr)
  /-- FF_ADD (R223): Adds a scaled feed-forward term. -/
  | ffAdd (r : OpRec) (ix : Fin 8192) (err : SeatErr)
  /-- LIMIT (R223): Clamps a value to lo and hi. -/
  | limit (r : OpRec) (ix : Fin 8192) (err : SeatErr)
  /-- RATE_LIM (R223): Limits the change of a value per execution. -/
  | rateLim (r : OpRec) (ix : Fin 8192) (err : SeatErr)
  /-- VLIM_CIRC (R224): Limits a voltage vector to a circle. -/
  | vlimCirc (r : OpRec) (ix : Fin 8192) (err : SeatErr)
  /-- LPF1 (R225): Runs a first-order low-pass filter. -/
  | lpf1 (r : OpRec) (ix : Fin 8192) (err : SeatErr)
  /-- NOTCH2 (R225): Runs a biquad notch filter. -/
  | notch2 (r : OpRec) (ix : Fin 8192) (err : SeatErr)
  /-- LUT1 (R227): Interpolates a one-dimensional table. -/
  | lut1 (r : OpRec) (ix : Fin 8192) (err : SeatErr)
  /-- LUT2 (R227): Interpolates a two-dimensional table bilinearly. -/
  | lut2 (r : OpRec) (ix : Fin 8192) (err : SeatErr)
  /-- BAND_SEL (R228): Writes the band-table row of the band in force. -/
  | bandSel (r : OpRec) (ix : Fin 8192) (err : SeatErr)
  /-- OBS_EMF (R229): Runs the stationary-frame EMF observer with confidence. -/
  | obsEmf (r : OpRec) (ix : Fin 8192) (err : SeatErr)
  /-- PLL_TRK (R230): Runs the angle tracking loop. -/
  | pllTrk (r : OpRec) (ix : Fin 8192) (err : SeatErr)
  /-- HFI_DEMOD (R231): Demodulates high-frequency injection and gives the next injection voltage. -/
  | hfiDemod (r : OpRec) (ix : Fin 8192) (err : SeatErr)
  /-- RSLV_DEMOD (R231): Demodulates resolver sine and cosine against the excitation phase. -/
  | rslvDemod (r : OpRec) (ix : Fin 8192) (err : SeatErr)
  /-- SHARE (R232): Trims paralleled leg duties to balance their currents. -/
  | share (r : OpRec) (ix : Fin 8192) (err : SeatErr)
  /-- TRQ_EST (R231): Sends a torque snapshot to COX0. -/
  | trqEst (r : OpRec) (ix : Fin 8192) (err : SeatErr)
  /-- MUL (R233): Multiplies two values. -/
  | mul (r : OpRec) (ix : Fin 8192) (err : SeatErr)
  /-- MAC (R233): Multiplies and accumulates. -/
  | mac (r : OpRec) (ix : Fin 8192) (err : SeatErr)
  /-- ADD (R233): Adds two values. -/
  | add (r : OpRec) (ix : Fin 8192) (err : SeatErr)
  /-- SUB (R233): Subtracts two values. -/
  | sub (r : OpRec) (ix : Fin 8192) (err : SeatErr)
  /-- ABS (R233): Takes the absolute value. -/
  | abs (r : OpRec) (ix : Fin 8192) (err : SeatErr)
  /-- SAT (R234): Converts a value between types with saturation. -/
  | sat (r : OpRec) (ix : Fin 8192) (err : SeatErr)
  /-- SQRT (R233): Takes the correctly rounded square root. -/
  | sqrt (r : OpRec) (ix : Fin 8192) (err : SeatErr)
  /-- RECIP (R233): Takes the correctly rounded reciprocal. -/
  | recip (r : OpRec) (ix : Fin 8192) (err : SeatErr)
  /-- ATAN2 (R235): Returns the angle of a vector as ANG. -/
  | atan2 (r : OpRec) (ix : Fin 8192) (err : SeatErr)
  /-- CMP (R236): Compares two values and writes 1 or 0. -/
  | cmp (r : OpRec) (ix : Fin 8192) (err : SeatErr)
  /-- SEL (R236): Selects one of two words by a condition. -/
  | sel (r : OpRec) (ix : Fin 8192) (err : SeatErr)
  /-- HOLD (R237): Holds or updates a state word under an enable. -/
  | hold (r : OpRec) (ix : Fin 8192) (err : SeatErr)
  /-- CHECK (R238): Judges a value against a range and sends the verdict to the umpire. -/
  | check (r : OpRec) (ix : Fin 8192) (err : SeatErr)
  /-- UPDATE_POINT (R326): A leg's boundary or centre update point applies pending shadows and band values and places the period's edges. -/
  | updatePoint (l : LegIx) (centre : Bool) (atNs : Nat)
  /-- INTERLOCK (R333): Both outputs of a leg are seen on; both go off until the next boundary and a trip is counted. -/
  | interlock (l : LegIx)
  /-- UMPIRE_INTERLOCK_REPORT (R30): The output stage reports both gate-edge lines of a leg high, handled as an interlock event. -/
  | umpireInterlockReport (l : LegIx)
  /-- BOOT_REFRESH (R337): An aux leg without low-side on-time for MAXON periods gets a forced bootstrap refresh. -/
  | bootRefresh (l : LegIx)
  /-- BOOT_UV_CHECK (R338): The bootstrap result after a refresh, or its absence by the period end, may latch the leg off. -/
  | bootUvCheck (l : LegIx) (periodEnd : Bool)
  /-- PWM_GATE_EN_SET (R339): COX0 sets gate-enable bits; the unit is checked and the gate grant requested, or refused. -/
  | pwmGateEnSet (m : Master) (page : Fin 3) (mask : BitVec 9)
  /-- PWM_GATE_EN_CLEAR (R341): COX0 clears gate-enable bits and the legs stop at their next boundary. -/
  | pwmGateEnClear (m : Master) (page : Fin 3) (mask : BitVec 9)
  /-- LEG_START (R340): A leg starts switching at its first boundary after the grant and the LIVE lead time. -/
  | legStart (l : LegIx) (atNs : Nat)
  /-- FS_LEAK (R344): A LEAK interval passes without a trip and the false-start count falls by 1. -/
  | fsLeak (l : LegIx)
  /-- LEG_FS_CLEAR (R345): COX0 clears LEG_FS.LATCH, or the clear is refused. -/
  | legFsClear (m : Master) (l : LegIx)
  /-- LEG_FAULT_INPUT (R372): A fault input level is accepted; a high level trips or pends the leg. -/
  | legFaultInput (i : FltIx) (samples : List Bool) (atNs : Nat)
  /-- BLANKING_END (R374): A blanking window ends and a pending fault still high becomes a trip. -/
  | blankingEnd (l : LegIx) (atNs : Nat)
  /-- CHOPPER_ON (R377): An armed control-die chopper turns its brake switch on when P reaches ON. -/
  | chopperOn (b : BrkIx) (tick : Nat)
  /-- CHOPPER_OFF (R377): The chopper turns off when P falls to OFF after MINON. -/
  | chopperOff (b : BrkIx) (tick : Nat)
  /-- BRK_ARM_WRITE (R377): COX0 writes PROT_BRKCTLb.ARM. -/
  | brkArmWrite (m : Master) (b : BrkIx) (arm : Bool)
  /-- BRAKE_FAULT_INPUT (R378): An accepted FLTBn turns its brake switch off and latches it. -/
  | brakeFaultInput (b : BrkIx) (samples : List Bool)
  /-- BRK_LATCH_CLEAR (R378): COX0 clears a brake-switch latch, or the clear is refused. -/
  | brkLatchClear (m : Master) (b : BrkIx)
  /-- PROT_REQ (R380): COX0 requests a unit's safe state with fault REQ. -/
  | protReq (m : Master) (u : UnitIx) (cls : Fin 4) (useCls : Bool) (go : Bool)
  /-- PROT_RELEASE (R385): COX0 writes PROT_CLRu.RELEASE to release a held safe state, or it is refused. -/
  | protRelease (m : Master) (u : UnitIx)
  /-- HW_EXIT (R383): The speed class has stayed S0 for HWEXIT ms and hold water changes to all-off. -/
  | hwExit (d : DriveIx)
  /-- DISCHARGE_START (R386): PROT_DISCMD START begins an active discharge, or is refused. -/
  | dischargeStart (m : Master)
  /-- DISCHARGE_STOP (R387): PROT_DISCMD STOP ends a discharge as FAILED with ABORTED. -/
  | dischargeStop (m : Master)
  /-- DISCHARGE_CHECKPOINT (R387): A STEP checkpoint of a discharge is judged and STALL may be set. -/
  | dischargeCheckpoint
  /-- DISCHARGE_DONE (R387): The link has stayed below TARGET for 10 catches and the discharge ends DONE. -/
  | dischargeDone
  /-- DISCHARGE_TIMEOUT (R387): TMAX passes without DONE and the discharge fails with TIMEOUT. -/
  | dischargeTimeout
  /-- DRIVER_TRANSACTION (R389): A driver-chain transaction ends and every position's response is judged. -/
  | driverTransaction (frames : List (BitVec 40))
  /-- DRIVER_ALERT (R390): DALRT_N is accepted low and status reads are put first. -/
  | driverAlert
  /-- ALERT_STUCK (R390): DALRT_N stays low 10 ms without a status fault and alerts are ignored. -/
  | alertStuck
  /-- UMP_STATUS_FRAME (R396): The control-to-safety STATUS slot mirrors PLL state, LATE_ESC and LIVE_VALID to the umpire. -/
  | umpStatusFrame
  /-- UMP_SAFETY_STATUS (R396): The safety-to-control STATUS slot carries umpire state and fault summary. -/
  | umpSafetyStatus
  /-- UMP_WD_CHALLENGE (R412): A WDCH slot delivers a new watchdog challenge to a cox pair. -/
  | umpWdChallenge (x : Fin 2)
  /-- UMP_CHECK_REPORT (R413): A CHECK slot reports a check's runs and fails and the umpire updates its count. -/
  | umpCheckReport (k : Fin 32)
  /-- UMP_XVAL (R398): An XVAL slot gives the umpire an EMF or link voltage for class and cross-check. -/
  | umpXval (kind : Fin 3)
  /-- UMP_CMD (R396): A CMD slot carries a command or configuration write to the umpire. -/
  | umpCmd (off : Fin 4096) (v : Word)
  /-- UMP_ANS (R396): An ANS slot returns the answer to the last CMD. -/
  | umpAns
  /-- UMP_MEAS (R396): A MEAS slot mirrors safety-die measurements to the UMP page. -/
  | umpMeas (ch : Fin 6) (code : BitVec 10) (usd : BitVec 64)
  /-- UMP_TQ_FRAME (R414): A TQ slot gives the umpire torque verdicts and the alive count. -/
  | umpTqFrame
  /-- UMP_CTR_STATE (R396): Slot 7 from the safety die mirrors STO and contactor state. -/
  | umpCtrState (closed : BitVec 4)
  /-- GATE_GRANT (R415): The umpire grants, refuses or withdraws a unit's gate request in URG. -/
  | gateGrant (u : UnitIx) (atNs : Nat)
  /-- GATE_VALID_STOP (R28): The gate-valid strobe stops for over 1 µs. -/
  | gateValidStop (same : List ResetCause)
  /-- FRAMES_MISSING (R28): Three consecutive umpire-channel frames are missing or bad. -/
  | framesMissing (nops : Nat) (frames : List (Option Word)) (same : List ResetCause)
  /-- LOCKSTEP_MISMATCH (R423): A cox pair's comparator mismatches; both cores stop and the lockstep-error line asserts. -/
  | lockstepMismatch (x : Fin 2) (main checker : List Nat) (same : List ResetCause)
  /-- LINK_OC (R403): USD1 passes OC_HI or OC_LO and the umpire latches LINK_OC and imposes its safe state. -/
  | linkOc (usd1 : BitVec 7)
  /-- LINK_OV (R403): USD0 exceeds OV for 3 outputs and the umpire latches LINK_OV and imposes its safe state. -/
  | linkOv (usd0 : BitVec 9)
  /-- HW_CHOPPER_ON (R403): USD0 exceeds CH_ON for 2 outputs and the hard-wired chopper turns its brake switches on. -/
  | hwChopperOn (usd0 : BitVec 8)
  /-- HW_CHOPPER_OFF (R403): USD0 falls to CH_OFF after 2 µs and the hard-wired chopper turns off. -/
  | hwChopperOff (usd0 : BitVec 7) (onNs : Nat)
  /-- TEMP_PATH (R404): A safety-die NTC is past TH for 4 conversions and MOD_HOT or BRK_HOT latches. -/
  | tempPath (k : Fin 3) (codes : List (BitVec 10))
  /-- XCHK (R405): A link-voltage cross-check has failed for T ms and XCHK latches. -/
  | xchk
  /-- STO_INPUT (R406): An STO channel level is accepted; STO activates or deactivates. -/
  | stoInput (b : Bool) (high : Bool)
  /-- STO_DISC (R406): The channels have disagreed for DISC_T ms and STO_DISC latches. -/
  | stoDisc
  /-- CONNECT (R409): UMP_CTRCMD CONNECT starts the contactor closing sequence. -/
  | connect (m : Master)
  /-- DISCONNECT (R410): UMP_CTRCMD DISCONNECT starts the opening sequence. -/
  | disconnect (m : Master)
  /-- EMERGENCY_OPEN (R410): UMP_CTRCMD EMERGENCY_OPEN opens every main contactor at once. -/
  | emergencyOpen (m : Master)
  /-- AUX_ON (R411): UMP_CTRCMD AUX_ON closes CTR_AUX. -/
  | auxOn (m : Master)
  /-- AUX_OFF (R411): UMP_CTRCMD AUX_OFF opens CTR_AUX. -/
  | auxOff (m : Master)
  /-- CONTACTOR_STEP_END (R409): A contactor sequence step passes on its condition or fails on its time limit. -/
  | contactorStepEnd (aux : Bool)
  /-- BREAK_CURRENT_WAIT (R410): The link current has stayed below I_BREAK for 10 ms and opening begins. -/
  | breakCurrentWait
  /-- CONTACTOR_DROP (R411): A closed contactor shows its feedback open for T_DROP; DROP latches with safe state. -/
  | contactorDrop (k : Fin 4)
  /-- CONTACTOR_WELD (R411): An open contactor shows its feedback closed for T_OPEN; its WELD code latches. -/
  | contactorWeld (k : Fin 4)
  /-- UMP_WDSVC (R412): A cox pair services its watchdog; the response and window are judged. -/
  | umpWdsvc (m : Master) (x : Fin 2) (resp : BitVec 12) (cycles : Nat) (same : List ResetCause)
  /-- WATCHDOG_TIMEOUT (R412): No service arrives by WMAX and the control die is reset with WDOG0 or WDOG1. -/
  | watchdogTimeout (x : Fin 2) (same : List ResetCause)
  /-- CHECK_MISSING (R413): A granted unit's check reports no run for TMO ms and CHECK_MISSING latches. -/
  | checkMissing (k : Fin 32)
  /-- TQ_STALL (R414): The TQ alive count does not change for ALIVE ms and TQ_STALL latches. -/
  | tqStall (d : DriveIx)
  /-- TQ_PATTERN_TIMEOUT (R414): 10 µs after verdict 2 without the control-die pattern, the umpire imposes its override. -/
  | tqPatternTimeout (d : DriveIx)
  /-- UMP_RELEASE (R402): COX0 writes UMP_RELEASE and the umpire lifts the override or refuses. -/
  | umpRelease (m : Master) (u : UnitIx) (same : BitVec 16)
  /-- BENCH_HV (R415): With LOCKSTEP_BROKEN, the link crosses 60 V and gate permission changes. -/
  | benchHv (rising : Bool)
  /-- LS_TEST (R425): The root's LS_TEST command starts the comparator test of a cox pair. -/
  | lsTest (x : Fin 2) (ended : Bool) (same : List ResetCause)
  /-- LS_TEST_WINDOW_EXPIRY (R426): The 100 µs test window ends before the sequencer reports and the test fails. -/
  | lsTestWindowExpiry (x : Fin 2) (same : List ResetCause)
  /-- DEBUG_ATTACH (R427): A debug attach selects a cox port; the comparator is disabled and LOCKSTEP_BROKEN set. -/
  | debugAttach (x : Fin 2)
  /-- WD_HOLD_WRITE (R428): A write of LSTP_DBG.WD_HOLD asks the umpire to suspend or resume a pair's watchdog. -/
  | wdHoldWrite (m : Master) (hold : Bool) (pair : Fin 2)
  /-- INFO (R435): The INFO service returns firmware version, SVN and stepping. -/
  | info (c : Fin 4)
  /-- PLAN_LOAD (R259): The PLAN_LOAD service starts a load from HOST, RING or FLASH. -/
  | planLoad (c : Fin 4)
  /-- PLAN_ACTIVATE (R435): The PLAN_ACTIVATE service issues ACTIVATE through COX0. -/
  | planActivate (c : Fin 4)
  /-- PLAN_ARM (R435): The PLAN_ARM service issues ARM, or starts a cascade mode change on the stroke. -/
  | planArm (c : Fin 4)
  /-- PLAN_CANCEL (R435): The PLAN_CANCEL service issues CANCEL. -/
  | planCancel (c : Fin 4)
  /-- CALIBRATE (R161): The CALIBRATE service starts, queues or refuses an offset calibration. -/
  | calibrate (c : Fin 4)
  /-- SELFTEST (R539): The SELFTEST service starts, queues or refuses a test on request. -/
  | selftest (c : Fin 4)
  /-- FS_CLEAR (R345): The FS_CLEAR service clears a false-start latch. -/
  | fsClear (c : Fin 4)
  /-- BRK_CLEAR (R378): The BRK_CLEAR service clears a brake-switch latch. -/
  | brkClear (c : Fin 4)
  /-- RELEASE (R438): The RELEASE service releases the umpire then the control die for a unit. -/
  | release (c : Fin 4)
  /-- DISCHARGE (R435): The DISCHARGE service starts or stops an active discharge. -/
  | discharge (c : Fin 4)
  /-- CONTACTOR (R435): The CONTACTOR service issues a UMP_CTRCMD code. -/
  | contactor (c : Fin 4)
  /-- ATTEST (R522): The ATTEST service signs an attestation report over a host nonce. -/
  | attest (c : Fin 4)
  /-- PAIRING (R524): The PAIRING service checks or installs the pairing record. -/
  | pairing (c : Fin 4)
  /-- MB_ABORT (R432): The ABORT service ends a queued request as FAILED with ABORTED. -/
  | mbAbort (m : Master) (c : Fin 4)
  /-- DRV_START (R278): A DRV_CMD START is taken by COX0 and starts, reverses or is refused. -/
  | drvStart (d : DriveIx) (vdc te : Word)
  /-- DRV_STOP (R289): A DRV_CMD STOP is taken by COX0 and easy-all begins or SPIN is abandoned. -/
  | drvStop (d : DriveIx) (te : Word)
  /-- DRV_TRQ_WRITE (R294): A torque request is stored, checked and applied within limits. -/
  | drvTrqWrite (m : Master) (d : DriveIx) (v : Word)
  /-- CATCH_SPIN_END (R282): Catch-spin ends and COX0 decides the start by the decision table. -/
  | catchSpinEnd (u : UnitIx) (vdc tc te : Word) (sets : List SpinSet)
  /-- START_TO_RUN (R270): The torque reaches the request or 500 ms pass and START becomes RUN. -/
  | startToRun (d : DriveIx)
  /-- REACQ_ENTRY (R287): COX0 sees OBS_LOSS and the instance enters REACQ. -/
  | reacqEntry (d : DriveIx)
  /-- REACQ_OK (R287): The plan reports REACQ_OK and the held state resumes. -/
  | reacqOk (d : DriveIx)
  /-- REACQ_TIMEOUT (R288): 20 ms in REACQ without REACQ_OK; OBS_LOST and the safe state follow. -/
  | reacqTimeout (d : DriveIx)
  /-- EASY_ALL_COMPLETE (R290): TZERO has held for 4 executions and easy-all completes to ZERO or the safe state. -/
  | easyAllComplete (u : UnitIx)
  /-- EASY_TIMEOUT (R290): Easy-all has not completed in EASY_MAX and the instance enters its safe state. -/
  | easyTimeout (d : DriveIx)
  /-- ZERO_TO_OFF (R270): The EMF has stayed below 0.90 × Vdc for 10 ms and ZERO becomes OFF. -/
  | zeroToOff (d : DriveIx)
  /-- ZTW_OPEN (R291): After the dwell, COX0 opens a zero-torque window and turns the gates off. -/
  | ztwOpen (d : DriveIx) (vdc : Word)
  /-- ZTW_CLOSE (R291): Queued work completes or ZT_HOLD passes and the window closes to OFF. -/
  | ztwClose (d : DriveIx) (vdc : Word)
  /-- BRAKE_TIMEOUT (R285): BRAKE lasts longer than BRAKE_MAX and easy-all starts. -/
  | brakeTimeout (d : DriveIx)
  /-- BRAKE_TO_START (R285): Speed falls below DRV_NREV in BRAKE and the state becomes START. -/
  | brakeToStart (d : DriveIx)
  /-- SHARE_LIM (R273): SHARE_LIM has stayed set for 100 ms and COX0 sets DRV_EVENT.SHARE_LIM. -/
  | shareLim (d : DriveIx)
  /-- STANDSTILL (R291): Speed below 0.5 Hz persists for 50 ms and STANDSTILL sets. -/
  | standstill (d : DriveIx)
  /-- TORQUE_SNAPSHOT (R293): COX0 computes delivered torque from a snapshot and compares it with DRV_TREF. -/
  | torqueSnapshot (d : DriveIx)
  /-- TQ_DEV (R414): A torque deviation persists for T ms; COX0 requests the safe state and sends verdict 2. -/
  | tqDev (d : DriveIx)
  /-- DIE_SENSOR_SAMPLE (R441): Every 100 µs the die sensors are sampled, screened and the thermal flags judged. -/
  | dieSensorSample (control : List (BitVec 16)) (safety : Option (List (BitVec 16)))
  /-- SD_GRACE_EXPIRY (R444): SD_GRACE expires after SHUTDOWN and COX0 requests every safe state. -/
  | sdGraceExpiry
  /-- DERATE_UPDATE (R443): Each millisecond under THROTTLE, COX0 recomputes the derating factor. -/
  | derateUpdate
  /-- SP_CTRL_WRITE (R300): A write of SP_CTRL applies from the next catch or is refused while the unit runs. -/
  | spCtrlWrite (m : Master) (v : Word)
  /-- PIN_PERIOD (R305): A pulse-input period ends on an accepted edge and its length is measured. -/
  | pinPeriod (k : Fin 2) (changes : List (Nat × Bool))
  /-- PIN_TIMEOUT (R305): No period ends within TMO; VALID clears and PIN_LOST is set. -/
  | pinTimeout (k : Fin 2)
  /-- INJ_START (R310): INJ_CMD START arms a generator or is refused. -/
  | injStart (m : Master) (g : Fin 2)
  /-- INJ_STOP (R311): INJ_CMD STOP tapers a running generator. -/
  | injStop (m : Master) (g : Fin 2)
  /-- INJ_ABORT (R311): INJ_CMD ABORT aborts a generator. -/
  | injAbort (m : Master) (g : Fin 2)
  /-- INJ_AMP_WRITE (R314): A write of INJ_AMPp is stored, limited to AMAX if needed. -/
  | injAmpWrite (m : Master) (p : Fin 8) (v : Word)
  /-- CAP_ARM (R317): CAP_CMD ARM arms a capture channel or is refused. -/
  | capArm (m : Master) (c : Fin 8)
  /-- CAP_STOP (R317): CAP_CMD STOP stops a capture channel. -/
  | capStop (m : Master) (c : Fin 8)
  /-- FRF_POINT (R320): Sub work completes one frequency-response point and writes it. -/
  | frfPoint (g : Fin 2) (io frf : Fin 8) (k : Fin 32)
  /-- ENC_STEP (R354): A quadrature change is accepted and counted, or an illegal change is recorded. -/
  | encStep (x : Fin 2) (a b : List (Nat × Bool))
  /-- ENC_INDEX (R355): An accepted index aligns or realigns the encoder. -/
  | encIndex (x : Fin 2) (z : List (Nat × Bool))
  /-- ENC_ZERO_TIMEOUT (R356): No step for ZTMO and the period speed becomes zero. -/
  | encZeroTimeout (x : Fin 2)
  /-- HALL_CHANGE (R358): An accepted Hall state change is a transition, a sequence error or a bad code. -/
  | hallChange (x : Fin 2) (u v w : List (Nat × Bool))
  /-- HALL_QUAL (R358): A valid Hall state has held 1 ms without SEQ and QUAL sets. -/
  | hallQual (x : Fin 2)
  /-- HALL_TIMEOUT (R359): No Hall transition for HTMO ms and the speed becomes zero. -/
  | hallTimeout (x : Fin 2)
  /-- SERIAL_FRAME_START (R360): A serial sensor frame starts TRIG ticks after its catch, or BUSY is recorded. -/
  | serialFrameStart (x : Fin 2) (low : Bool) (n tick : Nat)
  /-- SERIAL_FRAME_END (R362): A serial frame ends with its code and delivers angle, speed and status. -/
  | serialFrameEnd (x : Fin 2) (di : List (Nat × Bool))
  /-- SERIAL_TIMEOUT (R362): A frame has not finished by WTMO and ends with TIMEOUT. -/
  | serialTimeout (x : Fin 2)
  /-- HOST_READ (R454): A READ request is judged and executed and its answer queued. -/
  | hostRead (i : Fin 3) (bad : List (Nat × MemErr))
  /-- HOST_WRITE (R459): A WRITE request is judged and executed and its answer queued with CATCH. -/
  | hostWrite (i : Fin 3)
  /-- HEARTBEAT (R465): A HEARTBEAT request may renew the host heartbeat. -/
  | heartbeat (i : Fin 3) (atUs : Nat)
  /-- SYNC (R463): A SYNC request waits for busy tags, clears tags and events and returns NEXT_TAG. -/
  | sync (i : Fin 3)
  /-- EVENT_ACK (R464): An EVENT_ACK frees a pending event tag. -/
  | eventAck (i : Fin 3)
  /-- SPI_TRANSACTION (R468): A host SPI transaction ends; its request frame is taken and an output frame may leave the store. -/
  | spiTransaction (mosi : List Byte)
  /-- CAN_SEGMENT (R471): A CAN frame carrying a request segment is received and assembled. -/
  | canSegment (i : Fin 2) (errs : List CanErr) (f : CanFrame)
  /-- SEG_TIMEOUT (R471): 10 ms pass between segments and the partial frame is discarded. -/
  | segTimeout (i : Fin 2)
  /-- CAN_BUS_OFF (R472): A CAN controller goes bus-off under error confinement. -/
  | canBusOff (i : Fin 2)
  /-- CAN_RECOVER (R472): A write of CAN_CTRL.RECOVER starts bus-off recovery. -/
  | canRecover (m : Master) (i : Fin 2)
  /-- EVENT_RESEND (R464): An unacknowledged event is sent again with DUP after 10 ms. -/
  | eventResend (i : Fin 3) (tag : Fin 128)
  /-- HEARTBEAT_LOSS (R466): The heartbeat stops being alive and COX0 starts easy-all or safe states. -/
  | heartbeatLoss (nowUs : Nat)
  /-- LS (R482): A lane-status ordered set is received with SRCOK and lock status. -/
  | ls (r : Fin 2) (status pos check : BitVec 8) (fines : List (BitVec 14))
  /-- CM (R495): A catch marker arrives and places the crew member's catch. -/
  | cm (r : Fin 2) (bits : BitVec 24) (flags check : BitVec 8) (arrival : Nat)
  /-- SSN (R504): A received safe-state notice raises fault REQ in every drive instance. -/
  | ssn (pos : Fin 8) (reason check : BitVec 8)
  /-- REV (R507): A revert set makes switched members switch back at N + 2. -/
  | rev (bits : BitVec 8) (pos : Fin 8) (check : BitVec 8)
  /-- DLY (R492): A delay probe arrives and is timestamped and forwarded. -/
  | dly (r : Fin 2) (round check : BitVec 8) (arrival : Nat)
  /-- LINK_ABORT (R480): An ABORT set ends the class-1 frame in progress as bad. -/
  | linkAbort (r : Fin 2)
  /-- EXCH_FRAME (R499): An EXCH frame is received and its words delivered for CATCH + LAG. -/
  | exchFrame (h : RingHdr) (ch : Fin 16) (num : Word) (words : List Word)
  /-- SIG (R502): A SIG frame with another member's digest, signature and flags is received. -/
  | sig (h : RingHdr) (num : BitVec 48) (dig : List Byte) (wsig flags : Word)
  /-- RD (R487): A ring register-space read is executed or refused and answered. -/
  | rd (h : RingHdr) (addr : Word) (count : BitVec 16) (bad : List (Nat × MemErr))
  /-- WR (R487): A ring register-space write is executed or refused and answered. -/
  | wr (h : RingHdr) (addr : Word) (words : List Word)
  /-- RSP (R486): An answer to an RD or WR ends the transaction. -/
  | rsp (h : RingHdr) (status err : BitVec 8) (data : List Word)
  /-- CTLR (R488): An answer to a CTL message ends its transaction. -/
  | ctlr (h : RingHdr) (code status : BitVec 8) (body : List Byte)
  /-- ENUM (R491): A CTL ENUM sets the member's position from HOPS. -/
  | enum (h : RingHdr) (ring : Fin 2) (odd : Option CtlOdd)
  /-- LOOP (R492): A CTL LOOP gives L and the member computes d0 and d1. -/
  | loop (h : RingHdr) (l : Word) (odd : Option CtlOdd)
  /-- NONCE (R493): A CTL NONCE makes the member sign its report over the stroke's nonce. -/
  | nonce (h : RingHdr) (nonce : List Byte)
  /-- GET_NONCE (R493): A CTL GET_NONCE returns the member's nonce for the stroke. -/
  | getNonce (h : RingHdr) (odd : Option CtlOdd)
  /-- VERIFY_STROKE (R493): A CTL VERIFY_STROKE makes the member verify the stroke's report. -/
  | verifyStroke (h : RingHdr) (len : Word) (nonces : List (List Byte))
  /-- ALIGN (R495): A CTL ALIGN gives the full catch number to adopt. -/
  | align (h : RingHdr) (num : BitVec 48) (odd : Option CtlOdd)
  /-- READY_Q (R489): A CTL READY_Q returns the member's readiness flags. -/
  | readyQ (h : RingHdr) (odd : Option CtlOdd)
  /-- DRIVE (R501): A CTL DRIVE relays START, STOP, torque, easy-all or seed from an applying catch. -/
  | drive (h : RingHdr) (unit action : BitVec 8) (num : BitVec 48) (d0 d1 d2 : Word) (odd : Option CtlOdd)
  /-- PREPARE (R505): A CTL PREPARE arms the member for a drive-wide switch at N. -/
  | prepare (h : RingHdr) (num : BitVec 48) (old new : List (List Byte))
  /-- GO (R505): A CTL GO allows the member to commit at N − 2. -/
  | go (h : RingHdr) (num : BitVec 48) (odd : Option CtlOdd)
  /-- CTL_ABORT (R506): A CTL ABORT cancels the member's armed switch. -/
  | ctlAbort (h : RingHdr) (num : BitVec 48) (odd : Option CtlOdd)
  /-- RESTART (R490): A CTL RESTART returns the member to start step 4. -/
  | restart (h : RingHdr) (odd : Option CtlOdd)
  /-- TXN_TIMEOUT (R486): A class-1 transaction gets no answer in 100 µs and is retried or fails. -/
  | txnTimeout (ring : Fin 2) (tag : Fin 128)
  /-- LANE_DOWN (R482): A receive lane loses lock or takes 16 code violations and goes DOWN. -/
  | laneDown (r : Fin 2) (chars : List Bool) (lost : Bool) (fines : List (BitVec 14))
  /-- CASC_XFER (R494): A CASC_XFER write starts distribution of an image to a member. -/
  | cascXfer (m : Master) (v : Word)
  /-- CASC_CMD_RESTART (R490): CASC_CMD.RESTART on the stroke restarts the drive from step 4, or is refused. -/
  | cascCmdRestart (m : Master)
  /-- START_STEP_END (R489): A drive start step ends on every member or overruns its bound. -/
  | startStepEnd (ok : Bool) (us : Nat) (pos : Fin 8) (detail : BitVec 16)
  /-- DELAY_ROUND (R492): Every 10 µs the stroke sends a delay-measurement round. -/
  | delayRound (txAt : Nat)
  /-- BIST_PHASE_END (R527): A boot self-test phase completes and its result is recorded. -/
  | bistPhaseEnd (e : BistEnd) (same : List ResetCause)
  /-- KEYGEN_DONE (R511): Key generation completes and KEYS_VALID is set. -/
  | keygenDone (ok : Bool)
  /-- FW_SLOT_VERIFIED (R519): A firmware slot's read and verification end, passing or failing. -/
  | fwSlotVerified (flash : List (Nat × List Byte)) (ms : Nat)
  /-- SEC_FCMD_GO (R521): SEC_FCMD.GO submits a fuse command, refused or started. -/
  | secFcmdGo (m : Master)
  /-- FUSE_COMMAND_DONE (R521): An accepted fuse command finishes blowing and reading back. -/
  | fuseCommandDone (ok : Bool)
  /-- TESTEN_ENTRY (R525): TESTEN is accepted high and a scan entry is requested. -/
  | testenEntry
  /-- WIPE_DONE (R525): The wipe sequence completes and the port or scan chain opens, or WIPE_FAIL is set. -/
  | wipeDone (ok : Bool)
  /-- SIGNING_DONE (R523): The signing engine finishes a report or stops at SIGN_LIMIT. -/
  | signingDone
  /-- SELFTEST_START (R539): A requested or queued test starts at the next catch. -/
  | selftestStart (c : Fin 4)
  /-- SELFTEST_END (R540): A requested test ends and its results and outcomes are applied. -/
  | selftestEnd (c : Fin 4) (loops : List Loopback) (refs : List SarRefs) (gates : List GateRead) (reads : List (List (BitVec 16)))
  /-- REGISTER_WRITE (R548): A write to a register without its own row is judged, applied or refused and logged. -/
  | registerWrite (m : Master) (size : AccessSize) (addr : Word) (v same : Word)
  /-- PAGE_ENABLE_CLEAR (R115): A write clearing PAGE_CTRL.ENABLE is accepted or refused. -/
  | pageEnableClear (m : Master) (page : Fin 32)
  /-- BLOCK_IDLE (R115): A block whose ENABLE was cleared reaches its idle point and its clock stops. -/
  | blockIdle (page : Fin 32)
  /-- PAGE_SEAL (R550): A write of 1 to PAGE_CTRL.SEAL seals the page. -/
  | pageSeal (m : Master) (page : Fin 32)
  /-- PAGE_LOCK_WRITE (R551): A write to PAGE_LOCK takes, keeps or releases the lock, or is refused. -/
  | pageLockWrite (m : Master) (page : Fin 32) (lock : Bool)
  /-- PAGE_ERR_CLEAR (R547): A write of 1 to PAGE_ERR_COUNT.CLEAR clears the page's error log. -/
  | pageErrClear (m : Master) (page : Fin 32)
  /-- CAUSE_CLEAR (R80): A rail that asserted a brown-out or over-voltage cause returns past its threshold by the hysteresis and the cause clears. -/
  | causeClear (c : RailCause)
  /-- RETENTION_LOSS (R81): VSUP falls below 6 V and the retention latch loses its recorded cause, so the next power-up logs POR. -/
  | retentionLoss
  /-- CHARACTER_LOCK (R482): A ring receive lane gains character lock, making a reference present and the lane usable or standby-measurable. -/
  | characterLock (r : Fin 2) (offset : Int) (same : Bool)
  /-- SD_STUCK_CLEAR (R147): A stuck sigma-delta input shows a transition and STUCK clears. -/
  | sdStuckClear (n : SdIx) (bits : List (Option Bool))
  /-- MANCHESTER_VIOLATION (R145): A Manchester bit has no transition in its window, takes the previous value and SD_STAT.VIOL increases. -/
  | manchesterViolation (n : SdIx) (bits : List (Option Bool))
  /-- LINK_PATH_DEASSERT (R403): A USD0 or USD1 umpire link path returns inside its limits by its hysteresis and deasserts. -/
  | linkPathDeassert (ov : Bool) (usd : BitVec 7)
  /-- TEMP_PATH_DEASSERT (R404): A safety-die temperature path returns past TH by HYST and deasserts. -/
  | tempPathDeassert (k : Fin 3) (code : BitVec 10)
  /-- DRIVER_ALERT_RELEASE (R390): DALRT_N returns high and alerts are no longer ignored after ALERT_STUCK. -/
  | driverAlertRelease
  /-- CAN_BUS_OFF_RECOVERED (R472): A bus-off CAN controller completes the standard recovery sequence and resumes sending its queued answers and events. -/
  | canBusOffRecovered (i : Fin 2)
  /-- CAN_FRAME_SENT (R467): A CAN controller finishes transmitting an answer or event segment, freeing output-store space and updating its error counts. -/
  | canFrameSent (i : Fin 2) (errs : List CanErr)
  /-- GATE_READBACK_MISMATCH (R535): The umpire's per-cycle readback finds a gate ball differing from its command and imposes latched all-off until a device reset. -/
  | gateReadbackMismatch (ball : Fin 52) (line level : Bool)
  deriving DecidableEq, Repr

end Sys2Proof
end

