-- ==== Sys2Proof/Config.lean ====
section
/-! DEFINITION. What an implementation fixes and the values the spec leaves open: constants with no body, so that
no statement can rest on what they are (log entries 1, 3, 5 and 17). -/

namespace Sys2Proof.Config

/-- Free value number `k`: a word of the width `w` that the spec leaves open (log entry 1). -/
opaque freeBits (k w : Nat) : BitVec w

/-- Free choice number `k`: an alternative the spec leaves open, such as R78's pulse of 200 ns to 1 µs (log entry 1). -/
opaque freeChoice (k : Nat) : Bool

/-- ML-DSA-87 verification of FIPS 204 in pure mode: public key, context string, message, signature (R258; log entry 5). -/
opaque mldsaVerify (pk ctx msg sig : List Byte) : Bool

/-- Byte `k` of the ML-DSA-87 public key that KeyGen_internal of FIPS 204 derives from the seed (R511; log entry 5). -/
opaque mldsaPublicKey (seed : List Byte) (k : Nat) : Byte

/-- Byte `k` of the private key that goes with it (R511; log entry 5). -/
opaque mldsaPrivateKey (seed : List Byte) (k : Nat) : Byte

/-- Byte `k` of the ML-DSA-87 signature by the key of `seed` over `msg` with context `ctx`, and whether the
rejection loop of FIPS 204 ended within SIGN_LIMIT (R523; log entry 5). -/
opaque mldsaSign (seed ctx msg : List Byte) (k : Nat) : Byte

/-- Whether signing ends within the iteration limit of R523 (log entry 5). -/
opaque mldsaSignEnds (seed ctx msg : List Byte) : Bool

/-- The seed fused at the factory (R510; log entry 3). -/
opaque fusedSeed : List Byte

/-- Digest of Tirpogor's firmware key in the mask ROM (R514; log entry 3). -/
opaque fwKeyDigest : List Byte

/-- Fused maxima and minimum of the link thresholds, against which the umpire checks the UMP page (R417; log entry 3). -/
opaque fusedOvMax : Int
opaque fusedOcHiMax : Int
opaque fusedOcLoMin : Int

/-- GSTR that the device writes to the driver of brake switch `b`, which has no band entry (R390; log entry 17). -/
opaque brakeGstr (b : Nat) : BitVec 4

/-- Whether a greater RC trim code makes the oscillator faster (R109 does not say; log entry 1). -/
opaque trimRises : Bool

/-- What TRQ_EST's snapshots say of an instance's winding sets: id, iq, p, ψf, Ld and Lq of each (R293). The layout of the SNAPSHOT entry
and of its words is in no rule (log entry 108); an argument pairs each entry's body with its words. -/
opaque snapshotSets (d : Nat) (snaps : List (List Nat × List Word)) : List (Word × Word × Word × Word × Word × Word)

/-- The speed in the same snapshots (R293; log entry 108). -/
opaque snapshotSpeed (d : Nat) (snaps : List (List Nat × List Word)) : Word

/-- FACT and SP_HOLD of a unit's setpoint in the plan of a digest, which are constants of the plan with no place of their own (R304; log
entry 111). -/
opaque setpointFact (u : Nat) (digest : List (BitVec 32)) : BitVec 2
opaque setpointHold (u : Nat) (digest : List (BitVec 32)) : Nat

/-- Catch threshold, reversal threshold and EMF constant, binary32, of an aux channel in the plan of a digest: the spec gives a channel no
registers for them (R282, R307; log entry 109). -/
opaque auxNcatch (u : Nat) (digest : List (BitVec 32)) : BitVec 32
opaque auxNrev (u : Nat) (digest : List (BitVec 32)) : BitVec 32
opaque auxKe (u : Nat) (digest : List (BitVec 32)) : BitVec 32

/-- TYPE of the content `k` of a slot of the umpire channel; R395 gives only NOP its code (log entry 116). -/
opaque slotType (k : Nat) : BitVec 4

/-- Whether a positive phase error raises the fine word of the PLL (R93 does not say; log entry 24). -/
opaque loopRaises : Bool

end Sys2Proof.Config
end

