-- ==== Sys2Proof/Machine/RegMap.lean ====
section
/-! DEFINITION. The register map of 22_register_pages.md and of the register tables of chapters 03 to 22:
one row a register (or a regular array of them), with its access masks (R18) and its reset value. -/

namespace Sys2Proof.Machine

/-- One register, or `n1 × n2` of them at `off + s1·i + s2·j` of its page. The masks give the bits of each access type of
R18; `reset` is the value after reset (a `P` bit reads 0 until a plan is activated, an `F` bit holds the value fused at
the factory: log entries 2 and 3); `pmask` marks the bits that activation loads. -/
structure RegRow where
  name : String
  off : Nat
  n1 : Nat
  s1 : Nat
  n2 : Nat
  s2 : Nat
  rw : Nat
  rws : Nat
  w1c : Nat
  wo : Nat
  ro : Nat
  reset : Nat
  pmask : Nat
  deriving DecidableEq, Repr

/-- The row covers page offset `o`. -/
def RegRow.covers (r : RegRow) (o : Nat) : Bool :=
  decide (r.off ≤ o) && decide ((o - r.off) / r.s1 < r.n1) && decide (((o - r.off) % r.s1) / r.s2 < r.n2) &&
    decide (((o - r.off) % r.s1) % r.s2 = 0)

/-- Registers of page 0x0. -/
def rows_00 : List RegRow := [
  ⟨"SYS_ID", 0x40, 1, 0x4, 1, 4, 0x0, 0x0, 0x0, 0x0, 0x3ffffff, 0xa19640, 0x0⟩,
  ⟨"SYS_IRQ_SUM", 0x44, 1, 0x4, 1, 4, 0x0, 0x0, 0x0, 0x0, 0xffffffff, 0x0, 0x0⟩,
  ⟨"SYS_ERR_SUM", 0x48, 1, 0x4, 1, 4, 0x0, 0x0, 0x0, 0x0, 0xffffffff, 0x0, 0x0⟩,
  ⟨"SYS_ECC", 0x4c, 1, 0x4, 1, 4, 0x0, 0x0, 0x0, 0x0, 0xffff, 0x0, 0x0⟩,
  ⟨"SYS_ECC_ADDR", 0x50, 1, 0x4, 1, 4, 0x0, 0x0, 0x0, 0x0, 0xffffffff, 0x0, 0x0⟩,
  ⟨"SYS_EVENT", 0x54, 1, 0x4, 1, 4, 0x0, 0x0, 0x3, 0x0, 0x0, 0x0, 0x0⟩]

/-- Registers of page 0x1. -/
def rows_01 : List RegRow := [
  ⟨"RST_CAUSE", 0x40, 1, 0x4, 1, 4, 0x0, 0x0, 0x0, 0x0, 0xffffff, 0x0, 0x0⟩,
  ⟨"RST_ALSO", 0x44, 1, 0x4, 1, 4, 0x0, 0x0, 0x0, 0x0, 0xffffffff, 0x0, 0x0⟩,
  ⟨"RST_HIST", 0x48, 1, 0x4, 1, 4, 0x0, 0x0, 0x0, 0x0, 0xffffffff, 0x0, 0x0⟩,
  ⟨"RST_SWREQ", 0x4c, 1, 0x4, 1, 4, 0x0, 0x0, 0x0, 0xffff, 0x0, 0x0, 0x0⟩]

/-- Registers of page 0x2. -/
def rows_02 : List RegRow := [
  ⟨"CLK_ISLANDS", 0x40, 1, 0x4, 1, 4, 0x0, 0x0, 0x0, 0x0, 0x7f, 0x0, 0x0⟩,
  ⟨"CLK_GATE_STAT", 0x44, 1, 0x4, 1, 4, 0x0, 0x0, 0x0, 0x0, 0xffffffff, 0x0, 0x0⟩,
  ⟨"CLK_RC", 0x48, 1, 0x4, 1, 4, 0x0, 0x0, 0x0, 0x0, 0xffff, 0x0, 0x0⟩,
  ⟨"CLK_MON", 0x4c, 1, 0x4, 1, 4, 0x0, 0x0, 0x0, 0x0, 0x3ffff, 0x0, 0x0⟩,
  ⟨"CLK_EVENT", 0x50, 1, 0x4, 1, 4, 0x0, 0x0, 0x7f, 0x0, 0x0, 0x0, 0x0⟩]

/-- Registers of page 0x3. -/
def rows_03 : List RegRow := [
  ⟨"PLL_CTRL", 0x40, 1, 0x4, 1, 4, 0x4, 0x3, 0x0, 0x0, 0x0, 0x4, 0x0⟩,
  ⟨"PLL_DIV", 0x44, 1, 0x4, 1, 4, 0x0, 0xff, 0x0, 0x0, 0x0, 0xa0, 0x0⟩,
  ⟨"PLL_LOCK", 0x48, 1, 0x4, 1, 4, 0x1fffff, 0x0, 0x0, 0x0, 0x0, 0x10014, 0x0⟩,
  ⟨"PLL_LF", 0x4c, 1, 0x4, 1, 4, 0x0, 0xffff, 0x0, 0x0, 0x0, 0xc583, 0x0⟩,
  ⟨"PLL_STATUS", 0x50, 1, 0x4, 1, 4, 0x0, 0x0, 0x0, 0x0, 0xffff3f, 0x0, 0x0⟩,
  ⟨"PLL_BAND", 0x54, 1, 0x4, 1, 4, 0x0, 0x0, 0x0, 0x0, 0x3fff3f, 0x0, 0x0⟩,
  ⟨"PLL_PHERR", 0x58, 1, 0x4, 1, 4, 0x0, 0x0, 0x0, 0x0, 0xffffffff, 0x0, 0x0⟩,
  ⟨"PLL_COAST", 0x5c, 1, 0x4, 1, 4, 0x3fff, 0x0, 0x0, 0x0, 0x0, 0x2710, 0x0⟩]

/-- Registers of page 0x4. -/
def rows_04 : List RegRow := [
  ⟨"CATCH_CTRL", 0x40, 1, 0x4, 1, 4, 0xf0, 0x0, 0x0, 0x0, 0x3, 0x20, 0x2⟩,
  ⟨"CATCH_LEAD", 0x44, 1, 0x4, 1, 4, 0x0, 0x0, 0x0, 0x0, 0x3ffff, 0x0, 0x3ffff⟩,
  ⟨"CATCH_PERIOD", 0x48, 1, 0x4, 1, 4, 0x0, 0x0, 0x0, 0x0, 0x3ffff, 0x0, 0x0⟩,
  ⟨"CATCH_MINPER", 0x4c, 1, 0x4, 1, 4, 0x0, 0x0, 0x0, 0x0, 0x3ffff, 0x0, 0x3ffff⟩,
  ⟨"CATCH_NUM_LO", 0x50, 1, 0x4, 1, 4, 0x0, 0x0, 0x0, 0x0, 0xffffffff, 0x0, 0x0⟩,
  ⟨"CATCH_NUM_HI", 0x54, 1, 0x4, 1, 4, 0x0, 0x0, 0x0, 0x0, 0xffff, 0x0, 0x0⟩,
  ⟨"CATCH_BUDGET", 0x58, 1, 0x4, 1, 4, 0x0, 0x0, 0x0, 0x0, 0xfffff, 0x0, 0x0⟩,
  ⟨"CATCH_SLACK", 0x5c, 1, 0x4, 1, 4, 0x0, 0x0, 0x0, 0x0, 0xfffff, 0x0, 0x0⟩,
  ⟨"CATCH_LATE", 0x60, 1, 0x4, 1, 4, 0x0, 0x0, 0x0, 0x0, 0xffffffff, 0x0, 0x0⟩,
  ⟨"CATCH_LATE_TOTAL", 0x64, 1, 0x4, 1, 4, 0x0, 0x0, 0x0, 0x0, 0xffffffff, 0x0, 0x0⟩,
  ⟨"CATCH_LATE_FIRST", 0x68, 1, 0x4, 1, 4, 0x0, 0x0, 0x0, 0x0, 0xffffffff, 0x0, 0x0⟩,
  ⟨"CATCH_WSIG", 0x6c, 1, 0x4, 1, 4, 0x0, 0x0, 0x0, 0x0, 0xffffffff, 0x0, 0x0⟩,
  ⟨"CATCH_EVENT", 0x70, 1, 0x4, 1, 4, 0x0, 0x0, 0x1f, 0x0, 0x0, 0x0, 0x0⟩,
  ⟨"CATCH_STALE_COUNT", 0x74, 1, 0x4, 1, 4, 0x0, 0x0, 0x0, 0x0, 0xffffffff, 0x0, 0x0⟩]

/-- Registers of page 0x5. -/
def rows_05 : List RegRow := [
  ⟨"SDC_CFG", 0x40, 8, 0x4, 1, 4, 0x0, 0x0, 0x0, 0x0, 0x13f, 0x0, 0x13f⟩]

/-- Registers of page 0x5, 0x6. -/
def rows_05_06 : List RegRow := [
  ⟨"SDM_EVENT", 0x60, 1, 0x4, 1, 4, 0x0, 0x0, 0xff, 0x0, 0x0, 0x0, 0x0⟩,
  ⟨"SD_CFG", 0x100, 20, 0x20, 1, 4, 0x0, 0x0, 0x0, 0x0, 0x7ffff7f, 0x0, 0x7ffff7f⟩,
  ⟨"SD_MCFG", 0x104, 20, 0x20, 1, 4, 0x0, 0x0, 0x0, 0x0, 0x3fff, 0x0, 0x3fff⟩,
  ⟨"SD_RES", 0x108, 20, 0x20, 1, 4, 0x0, 0x0, 0x0, 0x0, 0x7ffffff, 0x0, 0x0⟩,
  ⟨"SD_STAT", 0x10c, 20, 0x20, 1, 4, 0x0, 0x0, 0x0, 0x0, 0x1ffffff, 0x0, 0x0⟩,
  ⟨"SD_PROT", 0x110, 20, 0x20, 1, 4, 0x0, 0x0, 0x0, 0x0, 0xfffff, 0x0, 0x0⟩,
  ⟨"SD_THR_HI", 0x114, 20, 0x20, 1, 4, 0x0, 0x0, 0x0, 0x0, 0x3ffffff, 0x0, 0x3ffffff⟩,
  ⟨"SD_THR_LO", 0x118, 20, 0x20, 1, 4, 0x0, 0x0, 0x0, 0x0, 0x3ffffff, 0x0, 0x3ffffff⟩,
  ⟨"SD_OFS", 0x11c, 20, 0x20, 1, 4, 0x1ffffff, 0x0, 0x0, 0x0, 0x0, 0x0, 0x1ffffff⟩]

/-- Registers of page 0x6. -/
def rows_06 : List RegRow := [
  ⟨"CHK_PAIR", 0x64, 1, 0x4, 1, 4, 0x0, 0x0, 0xffff, 0x0, 0x0, 0x0, 0x0⟩,
  ⟨"CHK_SUM", 0x68, 1, 0x4, 1, 4, 0x0, 0x0, 0xff, 0x0, 0x0, 0x0, 0x0⟩,
  ⟨"CHK_FIRST", 0x6c, 1, 0x4, 1, 4, 0x0, 0x0, 0x0, 0x0, 0xffff003f, 0x0, 0x0⟩]

/-- Registers of page 0x7. -/
def rows_07 : List RegRow := [
  ⟨"SAR_CTRL", 0x40, 1, 0x4, 1, 4, 0x0, 0x0, 0x0, 0x0, 0x1f1f, 0x0, 0x1f1f⟩,
  ⟨"SAR_EVENT", 0x44, 1, 0x4, 1, 4, 0x0, 0x0, 0x3, 0x0, 0x0, 0x0, 0x0⟩,
  ⟨"SAR_SEQ", 0x80, 32, 0x4, 1, 4, 0x0, 0x0, 0x0, 0x0, 0x1fffffff, 0x0, 0x1fffffff⟩,
  ⟨"SAR_RES", 0x100, 32, 0x4, 1, 4, 0x0, 0x0, 0x0, 0x0, 0xff3fff, 0x0, 0x0⟩,
  ⟨"SAR_OFS", 0x180, 32, 0x4, 1, 4, 0xfff, 0x0, 0x0, 0x0, 0x0, 0x0, 0xfff⟩]

/-- Registers of page 0x8. -/
def rows_08 : List RegRow := [
  ⟨"RSX_CFG", 0x40, 2, 0x4, 1, 4, 0x0, 0x0, 0x0, 0x0, 0x1ffffff, 0x0, 0x1ffffff⟩,
  ⟨"RSX_PHASE", 0x48, 2, 0x4, 1, 4, 0x0, 0x0, 0x0, 0x0, 0xffff, 0x0, 0xffff⟩,
  ⟨"RSLV_EPH", 0x50, 2, 0x4, 1, 4, 0x0, 0x0, 0x0, 0x0, 0xffffffff, 0x0, 0x0⟩,
  ⟨"RSLV_ANG", 0x58, 2, 0x4, 1, 4, 0x0, 0x0, 0x0, 0x0, 0xffffffff, 0x0, 0x0⟩,
  ⟨"RSLV_SPD", 0x60, 2, 0x4, 1, 4, 0x0, 0x0, 0x0, 0x0, 0xffffffff, 0x0, 0x0⟩,
  ⟨"RSLV_STAT", 0x68, 2, 0x4, 1, 4, 0x0, 0x0, 0x0, 0x0, 0xff, 0x0, 0x0⟩]

/-- Registers of page 0x9. -/
def rows_09 : List RegRow := [
  ⟨"FAB_CFG", 0x40, 1, 0x4, 1, 4, 0x0, 0x0, 0x0, 0x0, 0xf, 0x0, 0xf⟩,
  ⟨"FAB_SEATS", 0x44, 1, 0x4, 1, 4, 0x0, 0x0, 0x0, 0x0, 0xffff, 0xffff, 0x0⟩,
  ⟨"FAB_MAP0", 0x48, 1, 0x4, 1, 4, 0x0, 0x0, 0x0, 0x0, 0xffffffff, 0x76543210, 0x0⟩,
  ⟨"FAB_MAP1", 0x4c, 1, 0x4, 1, 4, 0x0, 0x0, 0x0, 0x0, 0xffffffff, 0xfedcba98, 0x0⟩,
  ⟨"FAB_ROT", 0x50, 1, 0x4, 1, 4, 0x0, 0x0, 0x0, 0x0, 0xff7, 0x0, 0x0⟩,
  ⟨"FAB_ROT_COUNT", 0x54, 1, 0x4, 1, 4, 0x0, 0x0, 0x0, 0x0, 0xffffffff, 0x0, 0x0⟩,
  ⟨"FAB_XBAR", 0x58, 1, 0x4, 1, 4, 0x0, 0x0, 0x0, 0x0, 0xffffffff, 0x0, 0x0⟩,
  ⟨"FAB_ECC", 0x5c, 1, 0x4, 1, 4, 0x0, 0x0, 0x0, 0x0, 0xffff, 0x0, 0x0⟩,
  ⟨"FAB_EVENT", 0x60, 1, 0x4, 1, 4, 0x0, 0x0, 0x1f, 0x0, 0x0, 0x0, 0x0⟩,
  ⟨"FAB_FAULT", 0x64, 1, 0x4, 1, 4, 0x0, 0x0, 0x0, 0x0, 0xffff0fff, 0x0, 0x0⟩]

/-- Registers of page 0xa. -/
def rows_0a : List RegRow := [
  ⟨"PLAN_STATUS", 0x40, 1, 0x4, 1, 4, 0x0, 0x0, 0x0, 0x0, 0xff1f, 0x0, 0x0⟩,
  ⟨"PLAN_TARGET_LO", 0x44, 1, 0x4, 1, 4, 0xffffffff, 0x0, 0x0, 0x0, 0x0, 0x0, 0x0⟩,
  ⟨"PLAN_TARGET_HI", 0x48, 1, 0x4, 1, 4, 0xffff, 0x0, 0x0, 0x0, 0x0, 0x0, 0x0⟩,
  ⟨"PLAN_CMD", 0x4c, 1, 0x4, 1, 4, 0x0, 0x0, 0x0, 0xf, 0x0, 0x0, 0x0⟩,
  ⟨"PLAN_USE", 0x50, 1, 0x4, 1, 4, 0x0, 0x0, 0x0, 0x0, 0x3ffff, 0x0, 0x0⟩,
  ⟨"PLAN_USE_STAGE", 0x54, 1, 0x4, 1, 4, 0x0, 0x0, 0x0, 0x0, 0x3ffff, 0x0, 0x0⟩,
  ⟨"PLAN_EVENT", 0x58, 1, 0x4, 1, 4, 0x0, 0x0, 0x3f, 0x0, 0x0, 0x0, 0x0⟩,
  ⟨"PLAN_LAST", 0x5c, 1, 0x4, 1, 4, 0x0, 0x0, 0x0, 0x0, 0xffffff, 0x0, 0x0⟩,
  ⟨"PLAN_SCRUB", 0x60, 1, 0x4, 1, 4, 0x0, 0x0, 0x0, 0x0, 0xffffffff, 0x0, 0x0⟩,
  ⟨"PLAN_LIVE_DIG", 0x80, 16, 0x4, 1, 4, 0x0, 0x0, 0x0, 0x0, 0xffffffff, 0x0, 0x0⟩,
  ⟨"PLAN_STAGE_DIG", 0xc0, 16, 0x4, 1, 4, 0x0, 0x0, 0x0, 0x0, 0xffffffff, 0x0, 0x0⟩]

/-- Leg blocks of pages PWMA and PWMB. -/
def rows_0b_0c : List RegRow := [
  ⟨"LEG_CFG", 0x100, 9, 0x40, 1, 4, 0x0, 0x0, 0x0, 0x0, 0xfffff, 0x0, 0xfffff⟩,
  ⟨"LEG_PER_SH", 0x104, 9, 0x40, 1, 4, 0x0, 0x0, 0x0, 0x0, 0x3ffff, 0x0, 0x0⟩,
  ⟨"LEG_CMP_SH", 0x108, 9, 0x40, 1, 4, 0x0, 0x0, 0x0, 0x0, 0x7fffff, 0x0, 0x0⟩,
  ⟨"LEG_PER", 0x10c, 9, 0x40, 1, 4, 0x0, 0x0, 0x0, 0x0, 0x3ffff, 0x0, 0x0⟩,
  ⟨"LEG_CMP", 0x110, 9, 0x40, 1, 4, 0x0, 0x0, 0x0, 0x0, 0xffffff, 0x0, 0x0⟩,
  ⟨"LEG_DT", 0x114, 9, 0x40, 1, 4, 0x0, 0x0, 0x0, 0x0, 0xffffffff, 0x0, 0xffffffff⟩,
  ⟨"LEG_MINP", 0x118, 9, 0x40, 1, 4, 0x0, 0x0, 0x0, 0x0, 0x7fffff, 0x700000, 0xfffff⟩,
  ⟨"LEG_CARRY", 0x11c, 9, 0x40, 1, 4, 0x0, 0x0, 0x0, 0x0, 0xffff, 0x0, 0x0⟩,
  ⟨"LEG_FS", 0x120, 9, 0x40, 1, 4, 0x0, 0x0, 0x100, 0x0, 0xff, 0x0, 0x0⟩,
  ⟨"LEG_STAT", 0x124, 9, 0x40, 1, 4, 0x0, 0x0, 0x0, 0x0, 0xf, 0x0, 0x0⟩]

/-- Registers of page 0xb, 0xc, 0xd. -/
def rows_0b_0c_0d : List RegRow := [
  ⟨"PWM_GATE_EN", 0x40, 1, 0x4, 1, 4, 0x1ff, 0x0, 0x0, 0x0, 0x0, 0x0, 0x0⟩,
  ⟨"PWM_PENDING", 0x44, 1, 0x4, 1, 4, 0x0, 0x0, 0x0, 0x0, 0x1ff, 0x0, 0x0⟩,
  ⟨"PWM_COMMIT", 0x48, 1, 0x4, 1, 4, 0x0, 0x0, 0x0, 0x3ff, 0x0, 0x0, 0x0⟩,
  ⟨"PWM_STATUS", 0x4c, 1, 0x4, 1, 4, 0x0, 0x0, 0x1ff, 0x0, 0x0, 0x0, 0x0⟩,
  ⟨"PWM_LATE_COUNT", 0x50, 1, 0x4, 1, 4, 0x0, 0x0, 0x0, 0x0, 0xffffffff, 0x0, 0x0⟩,
  ⟨"PWM_ENLAST", 0x54, 1, 0x4, 1, 4, 0x0, 0x0, 0x0, 0x0, 0xffff0fff, 0x0, 0x0⟩,
  ⟨"PWM_FSCFG", 0x58, 1, 0x4, 1, 4, 0x0, 0x0, 0x0, 0x0, 0xffffff, 0x0, 0xffffff⟩]

/-- Registers of page 0xd. -/
def rows_0d : List RegRow := [
  ⟨"LEG_CFG", 0x100, 6, 0x40, 1, 4, 0x0, 0x0, 0x0, 0x0, 0xfffff, 0x0, 0xfffff⟩,
  ⟨"LEG_PER_SH", 0x104, 6, 0x40, 1, 4, 0x0, 0x0, 0x0, 0x0, 0x3ffff, 0x0, 0x0⟩,
  ⟨"LEG_CMP_SH", 0x108, 6, 0x40, 1, 4, 0x0, 0x0, 0x0, 0x0, 0x7fffff, 0x0, 0x0⟩,
  ⟨"LEG_PER", 0x10c, 6, 0x40, 1, 4, 0x0, 0x0, 0x0, 0x0, 0x3ffff, 0x0, 0x0⟩,
  ⟨"LEG_CMP", 0x110, 6, 0x40, 1, 4, 0x0, 0x0, 0x0, 0x0, 0xffffff, 0x0, 0x0⟩,
  ⟨"LEG_DT", 0x114, 6, 0x40, 1, 4, 0x0, 0x0, 0x0, 0x0, 0xffffffff, 0x0, 0xffffffff⟩,
  ⟨"LEG_MINP", 0x118, 6, 0x40, 1, 4, 0x0, 0x0, 0x0, 0x0, 0x7fffff, 0x700000, 0xfffff⟩,
  ⟨"LEG_CARRY", 0x11c, 6, 0x40, 1, 4, 0x0, 0x0, 0x0, 0x0, 0xffff, 0x0, 0x0⟩,
  ⟨"LEG_FS", 0x120, 6, 0x40, 1, 4, 0x0, 0x0, 0x100, 0x0, 0xff, 0x0, 0x0⟩,
  ⟨"LEG_STAT", 0x124, 6, 0x40, 1, 4, 0x0, 0x0, 0x0, 0x0, 0xf, 0x0, 0x0⟩,
  ⟨"AUX_CFG", 0x60, 2, 0x4, 1, 4, 0x0, 0x0, 0x0, 0x0, 0xfffffff, 0x0, 0xfffffff⟩,
  ⟨"AUX_BOOT", 0x68, 2, 0x4, 1, 4, 0x0, 0x0, 0x0, 0x0, 0xfffff, 0x0, 0xfffff⟩,
  ⟨"AUX_BSAR", 0x70, 2, 0x4, 1, 4, 0x0, 0x0, 0x0, 0x0, 0x1f1f1f, 0x0, 0x1f1f1f⟩]

/-- Registers of page 0xe. -/
def rows_0e : List RegRow := [
  ⟨"PROT_FLTCFG", 0x40, 1, 0x4, 1, 4, 0x0, 0x0, 0x0, 0x0, 0x7, 0x0, 0x7⟩,
  ⟨"PROT_BRKCTL", 0x50, 4, 0x4, 1, 4, 0x1, 0x0, 0x2, 0x0, 0xc, 0x0, 0x0⟩,
  ⟨"PROT_CHON", 0x60, 4, 0x8, 1, 4, 0x0, 0x0, 0x0, 0x0, 0xffffff, 0x0, 0xffffff⟩,
  ⟨"PROT_CHOFF", 0x64, 4, 0x8, 1, 4, 0x0, 0x0, 0x0, 0x0, 0xfffffff, 0x0, 0xfffffff⟩,
  ⟨"PROT_DISCFG", 0x80, 1, 0x4, 1, 4, 0x0, 0x0, 0x0, 0x0, 0x7ffffff, 0x0, 0x7ffffff⟩,
  ⟨"PROT_DISTGT", 0x84, 1, 0x4, 1, 4, 0x0, 0x0, 0x0, 0x0, 0x1ffffff, 0x0, 0x1ffffff⟩,
  ⟨"PROT_DISCHK", 0x88, 1, 0x4, 1, 4, 0x0, 0x0, 0x0, 0x0, 0xffff, 0x0, 0xffff⟩,
  ⟨"PROT_DISCMD", 0x8c, 1, 0x4, 1, 4, 0x0, 0x0, 0x0, 0x3, 0x0, 0x0, 0x0⟩,
  ⟨"PROT_DISSTAT", 0x90, 1, 0x4, 1, 4, 0x0, 0x0, 0x0, 0x0, 0xffffff07, 0x0, 0x0⟩,
  ⟨"PROT_REQ", 0x94, 1, 0x4, 1, 4, 0x0, 0x0, 0x0, 0x11f, 0x0, 0x0, 0x0⟩,
  ⟨"PROT_EVENT", 0x98, 1, 0x4, 1, 4, 0x0, 0x0, 0x1ff, 0x0, 0x0, 0x0, 0x0⟩,
  ⟨"PROT_UCFG", 0x100, 4, 0x40, 1, 4, 0x0, 0x0, 0x0, 0x0, 0x7ffff, 0x0, 0x7ffff⟩,
  ⟨"PROT_MATRIX", 0x104, 4, 0x40, 1, 4, 0x0, 0x0, 0x0, 0x0, 0xffffff, 0x0, 0xffffff⟩,
  ⟨"PROT_SPD", 0x108, 4, 0x40, 1, 4, 0x0, 0x0, 0x0, 0x0, 0x7, 0x2, 0x0⟩,
  ⟨"PROT_STATE", 0x10c, 4, 0x40, 1, 4, 0x0, 0x0, 0x0, 0x0, 0xffff00ff, 0x0, 0x0⟩,
  ⟨"PROT_FAULT", 0x110, 4, 0x40, 1, 4, 0x0, 0x0, 0xffff, 0x0, 0x0, 0x0, 0x0⟩,
  ⟨"PROT_FIRST", 0x114, 4, 0x40, 1, 4, 0x0, 0x0, 0x0, 0x0, 0xffff03ff, 0x0, 0x0⟩,
  ⟨"PROT_PEND", 0x118, 4, 0x40, 1, 4, 0x0, 0x0, 0x0, 0x0, 0x3ffff, 0x0, 0x0⟩,
  ⟨"PROT_PDROP", 0x11c, 4, 0x40, 1, 4, 0x0, 0x0, 0x0, 0x0, 0xffffffff, 0x0, 0x0⟩,
  ⟨"PROT_CLR", 0x120, 4, 0x40, 1, 4, 0x0, 0x0, 0x0, 0x1, 0x0, 0x0, 0x0⟩]

/-- Registers of page 0xf. -/
def rows_0f : List RegRow := [
  ⟨"DRVC_CFG", 0x40, 1, 0x4, 1, 4, 0x0, 0x0, 0x0, 0x0, 0xfffffff, 0x0, 0xfffffff⟩,
  ⟨"DRVC_STAT", 0x44, 1, 0x4, 1, 4, 0x0, 0x0, 0x0, 0x0, 0x3, 0x0, 0x0⟩,
  ⟨"DRVC_LAST", 0x4c, 1, 0x4, 1, 4, 0x0, 0x0, 0x0, 0x0, 0xffffff3f, 0x0, 0x0⟩,
  ⟨"DRVC_EVENT", 0x50, 1, 0x4, 1, 4, 0x0, 0x0, 0x7f, 0x0, 0x0, 0x0, 0x0⟩,
  ⟨"DRVC_RETRIES", 0x54, 1, 0x4, 1, 4, 0x0, 0x0, 0x0, 0x0, 0xffffffff, 0x0, 0x0⟩,
  ⟨"DRVC_TXN", 0x58, 1, 0x4, 1, 4, 0x0, 0x0, 0x0, 0x0, 0xffffffff, 0x0, 0x0⟩,
  ⟨"DRVC_MAP", 0x80, 40, 0x4, 1, 4, 0x0, 0x0, 0x0, 0x0, 0x3f, 0x0, 0x3f⟩,
  ⟨"DRVC_IMG", 0x120, 8, 0x4, 1, 4, 0x0, 0x0, 0x0, 0x0, 0xffffff, 0x0, 0xffffff⟩,
  ⟨"DRVC_POS", 0x140, 3, 0x4, 1, 4, 0x0, 0x0, 0x0, 0x0, 0xffffffff, 0x0, 0x0⟩,
  ⟨"DRVC_DSTAT", 0x200, 40, 0x4, 1, 4, 0x0, 0x0, 0x0, 0x0, 0xff0fffff, 0x0, 0x0⟩]

/-- Registers of page 0x10, 0x11. -/
def rows_10_11 : List RegRow := [
  ⟨"POS_EVENT", 0x40, 1, 0x4, 1, 4, 0x0, 0x0, 0x7f, 0x0, 0x0, 0x0, 0x0⟩,
  ⟨"ENC_CFG", 0x80, 1, 0x4, 1, 4, 0x0, 0x0, 0x0, 0x0, 0xffffffff, 0x0, 0xffffffff⟩,
  ⟨"ENC_CPT", 0x84, 1, 0x4, 1, 4, 0x0, 0x0, 0x0, 0x0, 0xffffff, 0x0, 0xffffff⟩,
  ⟨"ENC_ZOFS", 0x88, 1, 0x4, 1, 4, 0x0, 0x0, 0x0, 0x0, 0xffffffff, 0x0, 0xffffffff⟩,
  ⟨"ENC_COUNT", 0x8c, 1, 0x4, 1, 4, 0x0, 0x0, 0x0, 0x0, 0xffffffff, 0x0, 0x0⟩,
  ⟨"ENC_CREF", 0x90, 1, 0x4, 1, 4, 0x0, 0x0, 0x0, 0x0, 0xffffffff, 0x0, 0x0⟩,
  ⟨"ENC_ANG", 0x94, 1, 0x4, 1, 4, 0x0, 0x0, 0x0, 0x0, 0xffffffff, 0x0, 0x0⟩,
  ⟨"ENC_SPD", 0x98, 1, 0x4, 1, 4, 0x0, 0x0, 0x0, 0x0, 0xffffffff, 0x0, 0x0⟩,
  ⟨"ENC_SPDC", 0x9c, 1, 0x4, 1, 4, 0x0, 0x0, 0x0, 0x0, 0xffffffff, 0x0, 0x0⟩,
  ⟨"ENC_STAT", 0xa0, 1, 0x4, 1, 4, 0x0, 0x0, 0x0, 0x0, 0xffffff, 0x0, 0x0⟩,
  ⟨"ENC_ALIGN", 0xa4, 1, 0x4, 1, 4, 0x0, 0x0, 0x0, 0xffffffff, 0x0, 0x0, 0x0⟩,
  ⟨"HALL_CFG", 0xc0, 1, 0x4, 1, 4, 0x0, 0x0, 0x0, 0x0, 0xffff01ff, 0x0, 0xffff01ff⟩,
  ⟨"HALL_OFS", 0xc4, 1, 0x4, 1, 4, 0x0, 0x0, 0x0, 0x0, 0xffffffff, 0x0, 0xffffffff⟩,
  ⟨"HALL_STATE", 0xc8, 1, 0x4, 1, 4, 0x0, 0x0, 0x0, 0x0, 0xffffff0f, 0x0, 0x0⟩,
  ⟨"HALL_ANG", 0xcc, 1, 0x4, 1, 4, 0x0, 0x0, 0x0, 0x0, 0xffffffff, 0x0, 0x0⟩,
  ⟨"HALL_SPD", 0xd0, 1, 0x4, 1, 4, 0x0, 0x0, 0x0, 0x0, 0xffffffff, 0x0, 0x0⟩,
  ⟨"SER_CFG", 0x100, 1, 0x4, 1, 4, 0x0, 0x0, 0x0, 0x0, 0xfffffff, 0x0, 0xfffffff⟩,
  ⟨"SER_FMT", 0x104, 1, 0x4, 1, 4, 0x0, 0x0, 0x0, 0x0, 0xffffffff, 0x0, 0xffffffff⟩,
  ⟨"SER_CRC", 0x108, 1, 0x4, 1, 4, 0x0, 0x0, 0x0, 0x0, 0xffffffff, 0x0, 0xffffffff⟩,
  ⟨"SER_TIME", 0x10c, 1, 0x4, 1, 4, 0x0, 0x0, 0x0, 0x0, 0xffffffff, 0x0, 0xffffffff⟩,
  ⟨"SER_OFS", 0x110, 1, 0x4, 1, 4, 0x0, 0x0, 0x0, 0x0, 0xffffffff, 0x0, 0xffffffff⟩,
  ⟨"SER_QCFG", 0x114, 1, 0x4, 1, 4, 0x0, 0x0, 0x0, 0x0, 0x1fff, 0x0, 0x1fff⟩,
  ⟨"SER_POS", 0x118, 1, 0x4, 1, 4, 0x0, 0x0, 0x0, 0x0, 0xffffffff, 0x0, 0x0⟩,
  ⟨"SER_MT", 0x11c, 1, 0x4, 1, 4, 0x0, 0x0, 0x0, 0x0, 0xffffff, 0x0, 0x0⟩,
  ⟨"SER_ANG", 0x120, 1, 0x4, 1, 4, 0x0, 0x0, 0x0, 0x0, 0xffffffff, 0x0, 0x0⟩,
  ⟨"SER_SPD", 0x124, 1, 0x4, 1, 4, 0x0, 0x0, 0x0, 0x0, 0xffffffff, 0x0, 0x0⟩,
  ⟨"SER_STAT", 0x128, 1, 0x4, 1, 4, 0x0, 0x0, 0x0, 0x0, 0xffff01ff, 0x0, 0x0⟩]

/-- Registers of page 0x12. -/
def rows_12 : List RegRow := [
  ⟨"DRV_CMD", 0x40, 2, 0x800, 1, 4, 0x0, 0x0, 0x0, 0x3f, 0x0, 0x0, 0x0⟩,
  ⟨"DRV_TRQ", 0x44, 2, 0x800, 1, 4, 0xffffffff, 0x0, 0x0, 0x0, 0x0, 0x0, 0x0⟩,
  ⟨"DRV_STATE", 0x48, 2, 0x800, 1, 4, 0x0, 0x0, 0x0, 0x0, 0xffff00ff, 0x60, 0x0⟩,
  ⟨"DRV_SPEED", 0x4c, 2, 0x800, 1, 4, 0x0, 0x0, 0x0, 0x0, 0xffffffff, 0x0, 0x0⟩,
  ⟨"DRV_TREF", 0x50, 2, 0x800, 1, 4, 0x0, 0x0, 0x0, 0x0, 0xffffffff, 0x0, 0x0⟩,
  ⟨"DRV_TRATE", 0x54, 2, 0x800, 1, 4, 0x0, 0x0, 0x0, 0x0, 0xffffffff, 0x0, 0x0⟩,
  ⟨"DRV_MODE", 0x58, 2, 0x800, 1, 4, 0x0, 0x0, 0x0, 0x0, 0x3f, 0x0, 0x0⟩,
  ⟨"DRV_SEED_ANG", 0x5c, 2, 0x800, 1, 4, 0x0, 0x0, 0x0, 0x0, 0xffffffff, 0x0, 0x0⟩,
  ⟨"DRV_SEED_W", 0x60, 2, 0x800, 1, 4, 0x0, 0x0, 0x0, 0x0, 0xffffffff, 0x0, 0x0⟩,
  ⟨"DRV_PSTAT", 0x64, 2, 0x800, 1, 4, 0x0, 0x0, 0x0, 0x0, 0xffff, 0xc0, 0x0⟩,
  ⟨"DRV_SPIN", 0x68, 2, 0x800, 1, 4, 0x0, 0x0, 0x0, 0x0, 0x3ff, 0x0, 0x0⟩,
  ⟨"DRV_SPIN_F", 0x6c, 2, 0x800, 1, 4, 0x0, 0x0, 0x0, 0x0, 0xffffffff, 0x0, 0x0⟩,
  ⟨"DRV_SPIN_V", 0x70, 2, 0x800, 1, 4, 0x0, 0x0, 0x0, 0x0, 0xffffffff, 0x0, 0x0⟩,
  ⟨"DRV_SPIN_A", 0x74, 2, 0x800, 1, 4, 0x0, 0x0, 0x0, 0x0, 0xffffffff, 0x0, 0x0⟩,
  ⟨"DRV_NCATCH", 0x78, 2, 0x800, 1, 4, 0x0, 0x0, 0x0, 0x0, 0xffffffff, 0x0, 0xffffffff⟩,
  ⟨"DRV_NREV", 0x7c, 2, 0x800, 1, 4, 0x0, 0x0, 0x0, 0x0, 0xffffffff, 0x0, 0xffffffff⟩,
  ⟨"DRV_NHO", 0x80, 2, 0x800, 1, 4, 0x0, 0x0, 0x0, 0x0, 0xffffffff, 0x0, 0xffffffff⟩,
  ⟨"DRV_RAMP", 0x84, 2, 0x800, 1, 4, 0x0, 0x0, 0x0, 0x0, 0xffffffff, 0x0, 0xffffffff⟩,
  ⟨"DRV_EASY", 0x88, 2, 0x800, 1, 4, 0x0, 0x0, 0x0, 0x0, 0xffffffff, 0x0, 0xffffffff⟩,
  ⟨"DRV_EASYCLK", 0x8c, 2, 0x800, 1, 4, 0x0, 0x0, 0x0, 0x0, 0xffffffff, 0x0, 0xffffffff⟩,
  ⟨"DRV_KE", 0x90, 2, 0x800, 1, 4, 0x0, 0x0, 0x0, 0x0, 0xffffffff, 0x0, 0xffffffff⟩,
  ⟨"DRV_TMAX", 0x94, 2, 0x800, 1, 4, 0x0, 0x0, 0x0, 0x0, 0xffffffff, 0x0, 0xffffffff⟩,
  ⟨"DRV_OBS", 0x98, 2, 0x800, 1, 4, 0x0, 0x0, 0x0, 0x0, 0xffffff, 0x0, 0xffffff⟩,
  ⟨"DRV_TIMES", 0x9c, 2, 0x800, 1, 4, 0x0, 0x0, 0x0, 0x0, 0xffffffff, 0x0, 0xffffffff⟩,
  ⟨"DRV_TQ", 0xa0, 2, 0x800, 1, 4, 0x0, 0x0, 0x0, 0x0, 0xffffffff, 0x0, 0x0⟩,
  ⟨"DRV_EVENT", 0xa4, 2, 0x800, 1, 4, 0x0, 0x0, 0x3ff, 0x0, 0x0, 0x0, 0x0⟩,
  ⟨"DRV_LAST", 0xa8, 2, 0x800, 1, 4, 0x0, 0x0, 0x0, 0x0, 0xffff00ff, 0x0, 0x0⟩]

/-- Registers of page 0x13. -/
def rows_13 : List RegRow := [
  ⟨"SP_CTRL", 0x40, 1, 0x4, 1, 4, 0xb0b0f0f, 0x0, 0x0, 0x0, 0x0, 0x0, 0xb0b0f0f⟩,
  ⟨"SP_REF", 0x44, 4, 0x4, 1, 4, 0xffffffff, 0x0, 0x0, 0x0, 0x0, 0x0, 0x0⟩,
  ⟨"SP_STAT", 0x54, 1, 0x4, 1, 4, 0x0, 0x0, 0x0, 0x0, 0xf0f0f0f, 0x0, 0x0⟩,
  ⟨"INJ_EVENT", 0x58, 1, 0x4, 1, 4, 0x0, 0x0, 0x1ff, 0x0, 0x0, 0x0, 0x0⟩,
  ⟨"PIN_CFG", 0x60, 2, 0x4, 1, 4, 0x0, 0x0, 0x0, 0x0, 0xfffff, 0x0, 0xfffff⟩,
  ⟨"PIN_PER", 0x68, 2, 0x8, 1, 4, 0x0, 0x0, 0x0, 0x0, 0x1fffffff, 0x0, 0x0⟩,
  ⟨"PIN_HI", 0x6c, 2, 0x8, 1, 4, 0x0, 0x0, 0x0, 0x0, 0xfffffff, 0x0, 0x0⟩,
  ⟨"INJ_CFG", 0x100, 2, 0x40, 1, 4, 0x7fff7f, 0x0, 0x0, 0x0, 0x0, 0x800, 0x0⟩,
  ⟨"INJ_TAPER", 0x104, 2, 0x40, 1, 4, 0xffff, 0x0, 0x0, 0x0, 0x0, 0x0, 0x0⟩,
  ⟨"INJ_SEED", 0x108, 2, 0x40, 1, 4, 0x7fffffff, 0x0, 0x0, 0x0, 0x0, 0x7fffffff, 0x0⟩,
  ⟨"INJ_F0", 0x10c, 2, 0x40, 1, 4, 0xffffffff, 0x0, 0x0, 0x0, 0x0, 0x0, 0x0⟩,
  ⟨"INJ_DF", 0x110, 2, 0x40, 1, 4, 0xffffffff, 0x0, 0x0, 0x0, 0x0, 0x0, 0x0⟩,
  ⟨"INJ_LEN", 0x114, 2, 0x40, 1, 4, 0xffffffff, 0x0, 0x0, 0x0, 0x0, 0x0, 0x0⟩,
  ⟨"INJ_START_LO", 0x118, 2, 0x40, 1, 4, 0xffffffff, 0x0, 0x0, 0x0, 0x0, 0x0, 0x0⟩,
  ⟨"INJ_START_HI", 0x11c, 2, 0x40, 1, 4, 0xffff, 0x0, 0x0, 0x0, 0x0, 0x0, 0x0⟩,
  ⟨"INJ_CMD", 0x120, 2, 0x40, 1, 4, 0x0, 0x0, 0x0, 0x3, 0x0, 0x0, 0x0⟩,
  ⟨"INJ_STATUS", 0x124, 2, 0x40, 1, 4, 0x0, 0x0, 0x0, 0x0, 0xffff, 0x0, 0x0⟩,
  ⟨"INJ_POS", 0x128, 2, 0x40, 1, 4, 0x0, 0x0, 0x0, 0x0, 0xffffffff, 0x0, 0x0⟩,
  ⟨"INJ_STEPA", 0x200, 2, 0x100, 32, 8, 0xfffff, 0x0, 0x0, 0x0, 0x0, 0x0, 0x0⟩,
  ⟨"INJ_STEPB", 0x204, 2, 0x100, 32, 8, 0xffff, 0x0, 0x0, 0x0, 0x0, 0x0, 0x0⟩,
  ⟨"INJ_AMP", 0x400, 8, 0x8, 1, 4, 0xffffffff, 0x0, 0x0, 0x0, 0x0, 0x0, 0x0⟩,
  ⟨"INJ_PTCTL", 0x404, 8, 0x8, 1, 4, 0x3, 0x0, 0x0, 0x0, 0x0, 0x0, 0x0⟩,
  ⟨"CAP_CMD", 0x500, 8, 0x20, 1, 4, 0x0, 0x0, 0x0, 0x3, 0x0, 0x0, 0x0⟩,
  ⟨"CAP_CFG", 0x504, 8, 0x20, 1, 4, 0xffffff3f, 0x0, 0x0, 0x0, 0x0, 0x0, 0x0⟩,
  ⟨"CAP_START_LO", 0x508, 8, 0x20, 1, 4, 0xffffffff, 0x0, 0x0, 0x0, 0x0, 0x0, 0x0⟩,
  ⟨"CAP_START_HI", 0x50c, 8, 0x20, 1, 4, 0xffff, 0x0, 0x0, 0x0, 0x0, 0x0, 0x0⟩,
  ⟨"CAP_STAT", 0x510, 8, 0x20, 1, 4, 0x0, 0x0, 0x0, 0x0, 0xf0f, 0x0, 0xf00⟩,
  ⟨"CAP_WIDX", 0x514, 8, 0x20, 1, 4, 0x0, 0x0, 0x0, 0x0, 0xffffffff, 0x0, 0x0⟩,
  ⟨"CAP_LOST", 0x518, 8, 0x20, 1, 4, 0x0, 0x0, 0x0, 0x0, 0xffffffff, 0x0, 0x0⟩,
  ⟨"CAP_GEOM", 0x51c, 8, 0x20, 1, 4, 0x0, 0x0, 0x0, 0x0, 0x7fffffff, 0x0, 0x7fffffff⟩]

/-- Registers of page 0x14. -/
def rows_14 : List RegRow := [
  ⟨"THRM_STATUS", 0x40, 1, 0x4, 1, 4, 0x0, 0x0, 0x0, 0x0, 0xff, 0x70, 0x0⟩,
  ⟨"THRM_DIE", 0x44, 1, 0x4, 1, 4, 0x0, 0x0, 0x0, 0x0, 0xffffffff, 0x0, 0x0⟩,
  ⟨"THRM_MOD", 0x48, 1, 0x4, 1, 4, 0x0, 0x0, 0x0, 0x0, 0x3fffff, 0x0, 0x0⟩,
  ⟨"THRM_DERATE", 0x4c, 1, 0x4, 1, 4, 0x0, 0x0, 0x0, 0x0, 0x1ff, 0x100, 0x0⟩,
  ⟨"THRM_CFG", 0x50, 1, 0x4, 1, 4, 0x0, 0x0, 0x0, 0x0, 0xffffffff, 0x0, 0xffffffff⟩,
  ⟨"THRM_EVENT", 0x54, 1, 0x4, 1, 4, 0x0, 0x0, 0x7f, 0x0, 0x0, 0x0, 0x0⟩,
  ⟨"THRM_LAST", 0x58, 1, 0x4, 1, 4, 0x0, 0x0, 0x0, 0x0, 0xffff00ff, 0x0, 0x0⟩,
  ⟨"THRM_EDGE", 0x60, 7, 0x4, 1, 4, 0x0, 0x0, 0x0, 0x0, 0xffff, 0x0, 0xffff⟩,
  ⟨"THRM_NTC", 0x80, 6, 0x4, 1, 4, 0x0, 0x0, 0x0, 0x0, 0xffffffff, 0x0, 0xffffffff⟩,
  ⟨"THRM_NTCT", 0xa0, 6, 0x4, 1, 4, 0x0, 0x0, 0x0, 0x0, 0x3ffff, 0x0, 0x0⟩,
  ⟨"THRM_CURVE", 0x100, 2, 0x80, 17, 4, 0x0, 0x0, 0x0, 0x0, 0xffff, 0x0, 0xffff⟩,
  ⟨"THRM_RO", 0x200, 16, 0x4, 1, 4, 0x0, 0x0, 0x0, 0x0, 0x1ffff, 0x0, 0x0⟩]

/-- Registers of page 0x15. -/
def rows_15 : List RegRow := [
  ⟨"HSPI_STAT", 0x80, 1, 0x4, 1, 4, 0x0, 0x0, 0x0, 0x0, 0xffffffff, 0x0, 0x0⟩]

/-- Registers of page 0x15, 0x16, 0x17. -/
def rows_15_16_17 : List RegRow := [
  ⟨"CONV_CFG", 0x40, 1, 0x4, 1, 4, 0x0, 0x7, 0x0, 0x0, 0x0, 0x0, 0x0⟩,
  ⟨"HB_CFG", 0x44, 1, 0x4, 1, 4, 0x0, 0x0, 0x0, 0x0, 0x7ff, 0x0, 0x7ff⟩,
  ⟨"CONV_STAT", 0x48, 1, 0x4, 1, 4, 0x0, 0x0, 0x0, 0x0, 0xffff7f03, 0x0, 0x0⟩,
  ⟨"CONV_EVENT", 0x4c, 1, 0x4, 1, 4, 0x0, 0x0, 0x1ff, 0x0, 0x0, 0x0, 0x0⟩,
  ⟨"CONV_CNT0", 0x50, 1, 0x4, 1, 4, 0x0, 0x0, 0x0, 0x0, 0xffffffff, 0x0, 0x0⟩,
  ⟨"CONV_CNT1", 0x54, 1, 0x4, 1, 4, 0x0, 0x0, 0x0, 0x0, 0xffffffff, 0x0, 0x0⟩,
  ⟨"CONV_LAST", 0x58, 1, 0x4, 1, 4, 0x0, 0x0, 0x0, 0x0, 0xffff7fff, 0x0, 0x0⟩,
  ⟨"HB_LAST", 0x5c, 1, 0x4, 1, 4, 0x0, 0x0, 0x0, 0x0, 0xffffffff, 0x0, 0x0⟩,
  ⟨"HB_JUMP", 0x60, 1, 0x4, 1, 4, 0x0, 0x0, 0x0, 0x0, 0xffff, 0x0, 0x0⟩]

/-- Registers of page 0x16, 0x17. -/
def rows_16_17 : List RegRow := [
  ⟨"CAN_CTRL", 0x80, 1, 0x4, 1, 4, 0x0, 0xf, 0x0, 0x100, 0x0, 0x0, 0x0⟩,
  ⟨"CAN_NBT", 0x84, 1, 0x4, 1, 4, 0x0, 0x7f7fffff, 0x0, 0x0, 0x0, 0x0, 0x0⟩,
  ⟨"CAN_DBT", 0x88, 1, 0x4, 1, 4, 0x0, 0x7ffffff, 0x0, 0x0, 0x0, 0x0, 0x0⟩,
  ⟨"CAN_XBT", 0x8c, 1, 0x4, 1, 4, 0x0, 0xffffffff, 0x0, 0x0, 0x0, 0x0, 0x0⟩,
  ⟨"CAN_TDC", 0x90, 1, 0x4, 1, 4, 0x0, 0xffff, 0x0, 0x0, 0x0, 0x0, 0x0⟩,
  ⟨"CAN_ID_RX", 0x94, 1, 0x4, 1, 4, 0x0, 0x1fffffff, 0x0, 0x0, 0x0, 0x0, 0x0⟩,
  ⟨"CAN_ID_TX", 0x98, 1, 0x4, 1, 4, 0x0, 0x1fffffff, 0x0, 0x0, 0x0, 0x0, 0x0⟩,
  ⟨"CAN_ID_EVT", 0x9c, 1, 0x4, 1, 4, 0x0, 0x1fffffff, 0x0, 0x0, 0x0, 0x0, 0x0⟩,
  ⟨"CAN_XL", 0xa0, 1, 0x4, 1, 4, 0x0, 0x7ffff, 0x0, 0x0, 0x0, 0x0, 0x0⟩,
  ⟨"CAN_ERR", 0xa4, 1, 0x4, 1, 4, 0x0, 0x0, 0x0, 0x0, 0x703ffff, 0x0, 0x0⟩,
  ⟨"CAN_SEG", 0xa8, 1, 0x4, 1, 4, 0x0, 0x0, 0x0, 0x0, 0xffffffff, 0x0, 0x0⟩]

/-- Registers of page 0x18. -/
def rows_18 : List RegRow := [
  ⟨"LINK_STAT", 0x40, 2, 0x4, 1, 4, 0x0, 0x0, 0x0, 0x0, 0xffffff0f, 0x0, 0x0⟩,
  ⟨"LINK_RES", 0x48, 1, 0x4, 1, 4, 0x0, 0x0, 0x0, 0x0, 0x1ff, 0x0, 0x0⟩,
  ⟨"LINK_LOOP", 0x4c, 1, 0x4, 1, 4, 0x0, 0x0, 0x0, 0x0, 0xffffffff, 0x0, 0x0⟩,
  ⟨"LINK_TXN", 0x50, 1, 0x4, 1, 4, 0x0, 0x0, 0x0, 0x0, 0xffffffff, 0x0, 0x0⟩,
  ⟨"LINK_EVENT", 0x54, 1, 0x4, 1, 4, 0x0, 0x0, 0xf, 0x0, 0x0, 0x0, 0x0⟩]

/-- Registers of page 0x19. -/
def rows_19 : List RegRow := [
  ⟨"CASC_CFG", 0x40, 1, 0x4, 1, 4, 0x0, 0xf, 0x0, 0x0, 0x0, 0x0, 0x0⟩,
  ⟨"CASC_STATE", 0x44, 1, 0x4, 1, 4, 0x0, 0x0, 0x0, 0x0, 0x7ffff, 0x0, 0x0⟩,
  ⟨"CASC_START", 0x48, 1, 0x4, 1, 4, 0x0, 0x0, 0x0, 0x0, 0xffff7fff, 0x0, 0x0⟩,
  ⟨"CASC_MEMBERS", 0x4c, 1, 0x4, 1, 4, 0x0, 0x0, 0x0, 0x0, 0xffffff, 0x0, 0x0⟩,
  ⟨"CASC_ALIGN", 0x50, 1, 0x4, 1, 4, 0x0, 0x0, 0x0, 0x0, 0x1ffff, 0x0, 0x0⟩,
  ⟨"CASC_DELAY", 0x54, 1, 0x4, 1, 4, 0x0, 0x0, 0x0, 0x0, 0xffffffff, 0x0, 0x0⟩,
  ⟨"CASC_MODE", 0x58, 1, 0x4, 1, 4, 0x0, 0x0, 0x0, 0x0, 0x7ff0f, 0x0, 0x0⟩,
  ⟨"CASC_MODE_N", 0x5c, 1, 0x4, 1, 4, 0x0, 0x0, 0x0, 0x0, 0xffffffff, 0x0, 0x0⟩,
  ⟨"CASC_XFER", 0x60, 1, 0x4, 1, 4, 0x0, 0x0, 0x0, 0x1fffff, 0x0, 0x0, 0x0⟩,
  ⟨"CASC_XSTAT", 0x64, 1, 0x4, 1, 4, 0x0, 0x0, 0x0, 0x0, 0x7ff03, 0x0, 0x0⟩,
  ⟨"CASC_CMD", 0x68, 1, 0x4, 1, 4, 0x0, 0x0, 0x0, 0x1, 0x0, 0x0, 0x0⟩,
  ⟨"CASC_EVENT", 0x6c, 1, 0x4, 1, 4, 0x0, 0x0, 0x3ff, 0x0, 0x0, 0x0, 0x0⟩,
  ⟨"CASC_SSN", 0x70, 1, 0x4, 1, 4, 0x0, 0x0, 0x0, 0x0, 0xffffff07, 0x0, 0x0⟩,
  ⟨"CASC_ID", 0x80, 8, 0x4, 1, 4, 0x0, 0x0, 0x0, 0x0, 0xffffffff, 0x0, 0x0⟩]

/-- Registers of page 0x1a. -/
def rows_1a : List RegRow := [
  ⟨"SEC_LC", 0x40, 1, 0x4, 1, 4, 0x0, 0x0, 0x0, 0x0, 0x1f, 0x5, 0x0⟩,
  ⟨"SEC_BOOT", 0x44, 1, 0x4, 1, 4, 0x0, 0x0, 0x0, 0x0, 0xffff07ff, 0x0, 0x0⟩,
  ⟨"SEC_SVN", 0x48, 1, 0x4, 1, 4, 0x0, 0x0, 0x0, 0x0, 0x3f3f, 0x0, 0x0⟩,
  ⟨"SEC_SLOT", 0x4c, 1, 0x4, 1, 4, 0x0, 0x0, 0x0, 0x0, 0xf, 0x0, 0x0⟩,
  ⟨"SEC_PMIN", 0x50, 2, 0x4, 1, 4, 0x0, 0x0, 0x0, 0x0, 0xff, 0x0, 0x0⟩,
  ⟨"SEC_EVENT", 0x58, 1, 0x4, 1, 4, 0x0, 0x0, 0x3f, 0x0, 0x0, 0x0, 0x0⟩,
  ⟨"SEC_FCMD", 0x5c, 1, 0x4, 1, 4, 0x0, 0x0, 0x0, 0x1, 0x0, 0x0, 0x0⟩,
  ⟨"SEC_FSTAT", 0x60, 1, 0x4, 1, 4, 0x0, 0x0, 0x0, 0x0, 0xff03, 0x0, 0x0⟩,
  ⟨"SEC_BOOTCFG", 0x64, 1, 0x4, 1, 4, 0x0, 0x3, 0x0, 0x0, 0x0, 0x0, 0x0⟩,
  ⟨"SEC_SERIAL", 0x68, 2, 0x4, 1, 4, 0x0, 0x0, 0x0, 0x0, 0xffffffff, 0x0, 0x0⟩,
  ⟨"SEC_ID", 0x80, 16, 0x4, 1, 4, 0x0, 0x0, 0x0, 0x0, 0xffffffff, 0x0, 0x0⟩,
  ⟨"SEC_FWDIG", 0xc0, 16, 0x4, 1, 4, 0x0, 0x0, 0x0, 0x0, 0xffffffff, 0x0, 0x0⟩,
  ⟨"SEC_SLOTDIG", 0x100, 2, 0x40, 16, 4, 0x0, 0x0, 0x0, 0x0, 0xffffffff, 0x0, 0x0⟩,
  ⟨"SEC_PK", 0x400, 648, 0x4, 1, 4, 0x0, 0x0, 0x0, 0x0, 0xffffffff, 0x0, 0x0⟩]

/-- Registers of page 0x1b. -/
def rows_1b : List RegRow := [
  ⟨"BIST_RESULT", 0x40, 1, 0x4, 1, 4, 0x0, 0x0, 0x0, 0x0, 0xffffff1f, 0x0, 0x0⟩,
  ⟨"BIST_MEM", 0x44, 1, 0x4, 1, 4, 0x0, 0x0, 0x0, 0x0, 0xffff, 0x0, 0x0⟩,
  ⟨"BIST_LBIST", 0x48, 6, 0x4, 1, 4, 0x0, 0x0, 0x0, 0x0, 0x1ffff, 0x0, 0x0⟩,
  ⟨"BIST_SD0", 0x60, 1, 0x4, 1, 4, 0x0, 0x0, 0x0, 0x0, 0xfffff, 0x0, 0x0⟩,
  ⟨"BIST_SD1", 0x64, 1, 0x4, 1, 4, 0x0, 0x0, 0x0, 0x0, 0xfffff, 0x0, 0x0⟩,
  ⟨"BIST_SAR", 0x68, 1, 0x4, 1, 4, 0x0, 0x0, 0x0, 0x0, 0xff03, 0x0, 0x0⟩,
  ⟨"BIST_GRB", 0x6c, 1, 0x4, 1, 4, 0x0, 0x0, 0x0, 0x0, 0x7f, 0x0, 0x0⟩,
  ⟨"BIST_IST", 0x70, 1, 0x4, 1, 4, 0x0, 0x0, 0x0, 0x0, 0xffff001f, 0x0, 0x0⟩,
  ⟨"BIST_EVENT", 0x74, 1, 0x4, 1, 4, 0x0, 0x0, 0xf, 0x0, 0x0, 0x0, 0x0⟩]

/-- Registers of page 0x1c. -/
def rows_1c : List RegRow := [
  ⟨"LSTP_STATUS", 0x40, 1, 0x4, 1, 4, 0x0, 0x0, 0x0, 0x0, 0x7f, 0x0, 0x0⟩,
  ⟨"LSTP_LAST", 0x44, 1, 0x4, 1, 4, 0x0, 0x0, 0x0, 0x0, 0xfff1, 0x0, 0x0⟩,
  ⟨"LSTP_DBG", 0x48, 1, 0x4, 1, 4, 0x3, 0x0, 0x4, 0x0, 0x0, 0x0, 0x0⟩,
  ⟨"LSTP_EVENT", 0x4c, 1, 0x4, 1, 4, 0x0, 0x0, 0x3, 0x0, 0x0, 0x0, 0x0⟩]

/-- Registers of page 0x1d. -/
def rows_1d : List RegRow := [
  ⟨"MBOX_FW", 0x40, 1, 0x4, 1, 4, 0x0, 0x0, 0x0, 0x0, 0xffffffff, 0x0, 0x0⟩,
  ⟨"MBOX_EVENT", 0x44, 1, 0x4, 1, 4, 0x0, 0x0, 0xff, 0x0, 0x0, 0x0, 0x0⟩,
  ⟨"MB_REQ", 0x100, 4, 0x40, 1, 4, 0x0, 0x0, 0x0, 0xffff, 0x0, 0x0, 0x0⟩,
  ⟨"MB_ARG", 0x104, 4, 0x40, 4, 4, 0xffffffff, 0x0, 0x0, 0x0, 0x0, 0x0, 0x0⟩,
  ⟨"MB_STATE", 0x114, 4, 0x40, 1, 4, 0x0, 0x0, 0x0, 0x0, 0xffffff0f, 0x0, 0x0⟩,
  ⟨"MB_RES", 0x118, 4, 0x40, 4, 4, 0x0, 0x0, 0x0, 0x0, 0xffffffff, 0x0, 0x0⟩]

/-- Registers of page 0x1e. -/
def rows_1e : List RegRow := [
  ⟨"UMP_STATE", 0x40, 1, 0x4, 1, 4, 0x0, 0x0, 0x0, 0x0, 0x1fffff, 0x0, 0x0⟩,
  ⟨"UMP_FAULT", 0x44, 1, 0x4, 1, 4, 0x0, 0x0, 0x0, 0x0, 0xffff, 0x0, 0x0⟩,
  ⟨"UMP_EVENT", 0x48, 1, 0x4, 1, 4, 0x0, 0x0, 0x1ffff, 0x0, 0x0, 0x0, 0x0⟩,
  ⟨"UMP_REFUSE", 0x4c, 1, 0x4, 1, 4, 0x0, 0x0, 0x0, 0x0, 0x3ff, 0x0, 0x0⟩,
  ⟨"UMP_STO", 0x50, 1, 0x4, 1, 4, 0x0, 0x1ff0, 0x0, 0x0, 0xf, 0x0, 0x0⟩,
  ⟨"UMP_CTRCMD", 0x54, 1, 0x4, 1, 4, 0x0, 0x0, 0x0, 0x7, 0x0, 0x0, 0x0⟩,
  ⟨"UMP_CTRSTAT", 0x58, 1, 0x4, 1, 4, 0x0, 0x0, 0x0, 0x0, 0xff3fff, 0x0, 0x0⟩,
  ⟨"UMP_CTRCFG", 0x5c, 1, 0x4, 1, 4, 0x0, 0xfffffff, 0x0, 0x0, 0x0, 0x0, 0x0⟩,
  ⟨"UMP_PRE", 0x60, 1, 0x4, 1, 4, 0x0, 0xfffffff, 0x0, 0x0, 0x0, 0x0, 0x0⟩,
  ⟨"UMP_IBREAK", 0x64, 1, 0x4, 1, 4, 0x0, 0xffff, 0x0, 0x0, 0x0, 0x0, 0x0⟩,
  ⟨"UMP_LINK", 0x68, 1, 0x4, 1, 4, 0x0, 0x3fffffff, 0x0, 0x0, 0x0, 0x0, 0x0⟩,
  ⟨"UMP_LINKCFG", 0x6c, 1, 0x4, 1, 4, 0x0, 0xff, 0x0, 0x0, 0x0, 0x0, 0x0⟩,
  ⟨"UMP_TEMP", 0x70, 3, 0x4, 1, 4, 0x0, 0x1fffff, 0x0, 0x0, 0x0, 0x0, 0x0⟩,
  ⟨"UMP_CLS", 0x80, 1, 0x4, 1, 4, 0x0, 0xffffff, 0x0, 0x0, 0x0, 0x0, 0x0⟩,
  ⟨"UMP_VSCALE", 0x84, 1, 0x4, 1, 4, 0x0, 0xffff, 0x0, 0x0, 0x0, 0x0, 0x0⟩,
  ⟨"UMP_USCALE", 0x88, 1, 0x4, 1, 4, 0x0, 0xffffffff, 0x0, 0x0, 0x0, 0x0, 0x0⟩,
  ⟨"UMP_XCHK", 0x8c, 1, 0x4, 1, 4, 0x0, 0xffffff, 0x0, 0x0, 0x0, 0x0, 0x0⟩,
  ⟨"UMP_MATRIX", 0x90, 1, 0x4, 1, 4, 0x0, 0xfff, 0x0, 0x0, 0x0, 0x0, 0x0⟩,
  ⟨"UMP_HWDT", 0x94, 1, 0x4, 1, 4, 0x0, 0xff, 0x0, 0x0, 0x0, 0x8, 0x0⟩,
  ⟨"UMP_TQ", 0x98, 1, 0x4, 1, 4, 0x0, 0xffffffff, 0x0, 0x0, 0x0, 0x0, 0x0⟩,
  ⟨"UMP_WDCFG", 0x9c, 1, 0x4, 1, 4, 0x0, 0x0, 0x0, 0x0, 0xffffff, 0x12c0c8, 0x0⟩,
  ⟨"UMP_WDCH", 0xa0, 2, 0x4, 1, 4, 0x0, 0x0, 0x0, 0x0, 0xfff, 0x0, 0x0⟩,
  ⟨"UMP_WDSVC", 0xa8, 2, 0x4, 1, 4, 0x0, 0x0, 0x0, 0xfff, 0x0, 0x0, 0x0⟩,
  ⟨"UMP_RELEASE", 0xb0, 1, 0x4, 1, 4, 0x0, 0x0, 0x0, 0x3, 0x0, 0x0, 0x0⟩,
  ⟨"UMP_CFGSTAT", 0xb4, 1, 0x4, 1, 4, 0x0, 0x0, 0x0, 0x0, 0xff03, 0x0, 0x0⟩,
  ⟨"UMP_MEAS0", 0xb8, 1, 0x4, 1, 4, 0x0, 0x0, 0x0, 0x0, 0x3ff03ff, 0x0, 0x0⟩,
  ⟨"UMP_MEAS1", 0xbc, 1, 0x4, 1, 4, 0x0, 0x0, 0x0, 0x0, 0x3ff03ff, 0x0, 0x0⟩,
  ⟨"UMP_USD", 0xc0, 1, 0x4, 1, 4, 0x0, 0x0, 0x0, 0x0, 0xffffffff, 0x0, 0x0⟩,
  ⟨"UMP_CKCFG", 0x100, 32, 0x4, 1, 4, 0x0, 0xff7f, 0x0, 0x0, 0x0, 0x0, 0x0⟩,
  ⟨"UMP_CKCNT", 0x180, 32, 0x4, 1, 4, 0x0, 0x0, 0x0, 0x0, 0xff, 0x0, 0x0⟩]

/-- Registers of page 0x1f. -/
def rows_1f : List RegRow := [
  ⟨"DBG_STAT", 0x40, 1, 0x4, 1, 4, 0x0, 0x0, 0x0, 0x0, 0x7, 0x0, 0x0⟩,
  ⟨"DBG_COUNT", 0x44, 1, 0x4, 1, 4, 0x0, 0x0, 0x0, 0x0, 0xff, 0x0, 0x0⟩,
  ⟨"DBG_EVENT", 0x48, 1, 0x4, 1, 4, 0x0, 0x0, 0x3, 0x0, 0x0, 0x0, 0x0⟩]

/-- Registers of every page. -/
def rows_all : List RegRow := [
  ⟨"PAGE_ID", 0x0, 1, 0x4, 1, 4, 0x0, 0x0, 0x0, 0x0, 0xffffffff, 0x96400100, 0x0⟩,
  ⟨"PAGE_CAP", 0x4, 1, 0x4, 1, 4, 0x0, 0x0, 0x0, 0x0, 0x73, 0x0, 0x0⟩,
  ⟨"PAGE_CTRL", 0x8, 1, 0x4, 1, 4, 0x80000007, 0x0, 0x0, 0x0, 0x0, 0x0, 0x0⟩,
  ⟨"PAGE_STATUS", 0xc, 1, 0x4, 1, 4, 0x0, 0x0, 0x0, 0x0, 0x1f, 0x0, 0x0⟩,
  ⟨"PAGE_IRQ_RAW", 0x10, 1, 0x4, 1, 4, 0x0, 0x0, 0x0, 0x0, 0xffffffff, 0x0, 0x0⟩,
  ⟨"PAGE_IRQ_EN", 0x14, 1, 0x4, 1, 4, 0xffffffff, 0x0, 0x0, 0x0, 0x0, 0x0, 0x0⟩,
  ⟨"PAGE_IRQ_STAT", 0x18, 1, 0x4, 1, 4, 0x0, 0x0, 0x0, 0x0, 0xffffffff, 0x0, 0x0⟩,
  ⟨"PAGE_LOCK", 0x1c, 1, 0x4, 1, 4, 0x100, 0x0, 0x0, 0x0, 0xf, 0xf, 0x0⟩,
  ⟨"PAGE_ERR_ADDR", 0x20, 1, 0x4, 1, 4, 0x0, 0x0, 0x0, 0x0, 0xffffffff, 0x0, 0x0⟩,
  ⟨"PAGE_ERR_INFO", 0x24, 1, 0x4, 1, 4, 0x0, 0x0, 0x0, 0x0, 0xffff01ff, 0x0, 0x0⟩,
  ⟨"PAGE_ERR_COUNT", 0x28, 1, 0x4, 1, 4, 0x0, 0x0, 0x0, 0x80000000, 0xffff, 0x0, 0x0⟩]

/-- The rows of page `p`: its own and the header every page has (R547). -/
def pageRows (p : Nat) : List RegRow :=
  match p with
  | 0x0 => rows_00 ++ rows_all
  | 0x1 => rows_01 ++ rows_all
  | 0x2 => rows_02 ++ rows_all
  | 0x3 => rows_03 ++ rows_all
  | 0x4 => rows_04 ++ rows_all
  | 0x5 => rows_05 ++ rows_05_06 ++ rows_all
  | 0x6 => rows_05_06 ++ rows_06 ++ rows_all
  | 0x7 => rows_07 ++ rows_all
  | 0x8 => rows_08 ++ rows_all
  | 0x9 => rows_09 ++ rows_all
  | 0xa => rows_0a ++ rows_all
  | 0xb => rows_0b_0c ++ rows_0b_0c_0d ++ rows_all
  | 0xc => rows_0b_0c ++ rows_0b_0c_0d ++ rows_all
  | 0xd => rows_0b_0c_0d ++ rows_0d ++ rows_all
  | 0xe => rows_0e ++ rows_all
  | 0xf => rows_0f ++ rows_all
  | 0x10 => rows_10_11 ++ rows_all
  | 0x11 => rows_10_11 ++ rows_all
  | 0x12 => rows_12 ++ rows_all
  | 0x13 => rows_13 ++ rows_all
  | 0x14 => rows_14 ++ rows_all
  | 0x15 => rows_15 ++ rows_15_16_17 ++ rows_all
  | 0x16 => rows_15_16_17 ++ rows_16_17 ++ rows_all
  | 0x17 => rows_15_16_17 ++ rows_16_17 ++ rows_all
  | 0x18 => rows_18 ++ rows_all
  | 0x19 => rows_19 ++ rows_all
  | 0x1a => rows_1a ++ rows_all
  | 0x1b => rows_1b ++ rows_all
  | 0x1c => rows_1c ++ rows_all
  | 0x1d => rows_1d ++ rows_all
  | 0x1e => rows_1e ++ rows_all
  | 0x1f => rows_1f ++ rows_all
  | _ => []

/-- First address of register page `p` (R545, R547). -/
def pageBase (p : Nat) : Nat := 0x40000000 + p * 0x1000

/-- The page of a register address; 0x40000 for an address outside the register pages. -/
def pageOf (a : Nat) : Nat := if a / 0x40000000 = 1 then a / 0x1000 % 0x40000 else 0x40000

/-- The register at address `a`, where the map has one. -/
def regRow (a : Nat) : Option RegRow :=
  if 0x40000000 ≤ a ∧ a < 0x40020000 then (pageRows (pageOf a)).find? (fun r => r.covers (a % 0x1000))
  else none

/-- What a register reads after reset; an address with no register reads 0. -/
def resetWord (a : Nat) : Word :=
  match regRow a with
  | some r => BitVec.ofNat 32 r.reset
  | none => 0

/-- Base of sigma-delta input `n` of the device, 0 to 39: twenty in page 0x05, twenty in page 0x06 (R159). -/
def sdBase (n : Nat) : Nat := pageBase (5 + n / 20) + 0x100 + 0x20 * (n % 20)

/-- Base of the block of leg `l`: main legs 0 to 17 in PWMA and PWMB, aux legs 18 to 23 in PWMC (R331, R348). -/
def legBase (l : Nat) : Nat :=
  if l < 9 then pageBase 0x0B + 0x100 + 0x40 * l
  else if l < 18 then pageBase 0x0C + 0x100 + 0x40 * (l - 9)
  else pageBase 0x0D + 0x100 + 0x40 * (l - 18)

/-- Page of leg `l` (R348). -/
def legPage (l : Nat) : Nat := if l < 9 then 0x0B else if l < 18 then 0x0C else 0x0D

/-- Bit of leg `l` in the registers of its page (R347). -/
def legBit (l : Nat) : Nat := if l < 9 then l else if l < 18 then l - 9 else l - 18

/-- Base of the registers of drive `u` in page DRV (R296). -/
def drvBase (u : Nat) : Nat := pageBase 0x12 + 0x40 + 0x800 * u

/-- Base of the PROT block of unit `u` (R393). -/
def protBase (u : Nat) : Nat := pageBase 0x0E + 0x100 + 0x40 * u

end Sys2Proof.Machine
end

