-- ==== Sys2Proof/Machine/Fields.lean ====
section
/-! DEFINITION. Names for every register and register field of the spec: `R.<register>` is an address and
`F.<register>_<field>` a field, with the spec's own names and the rule of the table that gives it. -/

namespace Sys2Proof.Machine

/-- A field of a register: the register's address, the lowest bit and the width. -/
structure Field where
  addr : Nat
  lo : Nat
  width : Nat
  deriving DecidableEq, Repr

/-- RST_CAUSE (R82). -/
def R.RST_CAUSE : Nat := pageBase 0x1 + 0x40
def F.RST_CAUSE_CODE : Field := ⟨R.RST_CAUSE, 0, 8⟩
def F.RST_CAUSE_DETAIL : Field := ⟨R.RST_CAUSE, 8, 8⟩
def F.RST_CAUSE_RESTARTS : Field := ⟨R.RST_CAUSE, 16, 8⟩
/-- RST_ALSO (R82). -/
def R.RST_ALSO : Nat := pageBase 0x1 + 0x44
def F.RST_ALSO_ALSO : Field := ⟨R.RST_ALSO, 0, 32⟩
/-- RST_HIST (R82). -/
def R.RST_HIST : Nat := pageBase 0x1 + 0x48
def F.RST_HIST_HIST : Field := ⟨R.RST_HIST, 0, 32⟩
/-- RST_SWREQ (R82). -/
def R.RST_SWREQ : Nat := pageBase 0x1 + 0x4c
def F.RST_SWREQ_KEY : Field := ⟨R.RST_SWREQ, 0, 16⟩
/-- PLL_CTRL (R105). -/
def R.PLL_CTRL : Nat := pageBase 0x3 + 0x40
def F.PLL_CTRL_REF_SEL : Field := ⟨R.PLL_CTRL, 0, 2⟩
def F.PLL_CTRL_STANDBY_EN : Field := ⟨R.PLL_CTRL, 2, 1⟩
/-- PLL_DIV (R105). -/
def R.PLL_DIV : Nat := pageBase 0x3 + 0x44
def F.PLL_DIV_N : Field := ⟨R.PLL_DIV, 0, 8⟩
/-- PLL_LOCK (R105). -/
def R.PLL_LOCK : Nat := pageBase 0x3 + 0x48
def F.PLL_LOCK_WIN : Field := ⟨R.PLL_LOCK, 0, 8⟩
def F.PLL_LOCK_CYCLES : Field := ⟨R.PLL_LOCK, 8, 13⟩
/-- PLL_LF (R105). -/
def R.PLL_LF : Nat := pageBase 0x3 + 0x4c
def F.PLL_LF_ACQ_KP_SH : Field := ⟨R.PLL_LF, 0, 4⟩
def F.PLL_LF_ACQ_KI_SH : Field := ⟨R.PLL_LF, 4, 4⟩
def F.PLL_LF_TRK_KP_SH : Field := ⟨R.PLL_LF, 8, 4⟩
def F.PLL_LF_TRK_KI_SH : Field := ⟨R.PLL_LF, 12, 4⟩
/-- PLL_STATUS (R105). -/
def R.PLL_STATUS : Nat := pageBase 0x3 + 0x50
def F.PLL_STATUS_STATE : Field := ⟨R.PLL_STATUS, 0, 3⟩
def F.PLL_STATUS_SRC : Field := ⟨R.PLL_STATUS, 3, 2⟩
def F.PLL_STATUS_STANDBY_OK : Field := ⟨R.PLL_STATUS, 5, 1⟩
def F.PLL_STATUS_ATTEMPTS : Field := ⟨R.PLL_STATUS, 8, 8⟩
def F.PLL_STATUS_FAIL : Field := ⟨R.PLL_STATUS, 16, 8⟩
/-- PLL_BAND (R105). -/
def R.PLL_BAND : Nat := pageBase 0x3 + 0x54
def F.PLL_BAND_BAND : Field := ⟨R.PLL_BAND, 0, 6⟩
def F.PLL_BAND_FINE : Field := ⟨R.PLL_BAND, 8, 14⟩
/-- PLL_PHERR (R105). -/
def R.PLL_PHERR : Nat := pageBase 0x3 + 0x58
def F.PLL_PHERR_ERR : Field := ⟨R.PLL_PHERR, 0, 16⟩
def F.PLL_PHERR_PEAK : Field := ⟨R.PLL_PHERR, 16, 16⟩
/-- PLL_COAST (R105). -/
def R.PLL_COAST : Nat := pageBase 0x3 + 0x5c
def F.PLL_COAST_MAX : Field := ⟨R.PLL_COAST, 0, 14⟩
/-- CLK_ISLANDS (R113). -/
def R.CLK_ISLANDS : Nat := pageBase 0x2 + 0x40
def F.CLK_ISLANDS_RUN : Field := ⟨R.CLK_ISLANDS, 0, 6⟩
def F.CLK_ISLANDS_HALF : Field := ⟨R.CLK_ISLANDS, 6, 1⟩
/-- CLK_GATE_STAT (R113). -/
def R.CLK_GATE_STAT : Nat := pageBase 0x2 + 0x44
def F.CLK_GATE_STAT_PAGE_RUN : Field := ⟨R.CLK_GATE_STAT, 0, 32⟩
/-- CLK_RC (R113). -/
def R.CLK_RC : Nat := pageBase 0x2 + 0x48
def F.CLK_RC_TRIM : Field := ⟨R.CLK_RC, 0, 12⟩
def F.CLK_RC_TRIM_OK : Field := ⟨R.CLK_RC, 12, 1⟩
def F.CLK_RC_TRIM_RANGE : Field := ⟨R.CLK_RC, 13, 1⟩
def F.CLK_RC_QUAL : Field := ⟨R.CLK_RC, 14, 2⟩
/-- CLK_MON (R113). -/
def R.CLK_MON : Nat := pageBase 0x2 + 0x4c
def F.CLK_MON_COUNT : Field := ⟨R.CLK_MON, 0, 9⟩
def F.CLK_MON_C : Field := ⟨R.CLK_MON, 9, 9⟩
/-- CLK_EVENT (R113). -/
def R.CLK_EVENT : Nat := pageBase 0x2 + 0x50
def F.CLK_EVENT_LOCKED : Field := ⟨R.CLK_EVENT, 0, 1⟩
def F.CLK_EVENT_LOL : Field := ⟨R.CLK_EVENT, 1, 1⟩
def F.CLK_EVENT_REF_LOSS : Field := ⟨R.CLK_EVENT, 2, 1⟩
def F.CLK_EVENT_REF_SWITCH : Field := ⟨R.CLK_EVENT, 3, 1⟩
def F.CLK_EVENT_COAST : Field := ⟨R.CLK_EVENT, 4, 1⟩
def F.CLK_EVENT_ATTEMPT_FAIL : Field := ⟨R.CLK_EVENT, 5, 1⟩
def F.CLK_EVENT_TRIM_RANGE : Field := ⟨R.CLK_EVENT, 6, 1⟩
/-- CATCH_CTRL (R141). -/
def R.CATCH_CTRL : Nat := pageBase 0x4 + 0x40
def F.CATCH_CTRL_RUN : Field := ⟨R.CATCH_CTRL, 0, 1⟩
def F.CATCH_CTRL_MODE : Field := ⟨R.CATCH_CTRL, 1, 1⟩
def F.CATCH_CTRL_LATE_LIMIT : Field := ⟨R.CATCH_CTRL, 4, 4⟩
/-- CATCH_LEAD (R141). -/
def R.CATCH_LEAD : Nat := pageBase 0x4 + 0x44
def F.CATCH_LEAD_LEAD : Field := ⟨R.CATCH_LEAD, 0, 18⟩
/-- CATCH_PERIOD (R141). -/
def R.CATCH_PERIOD : Nat := pageBase 0x4 + 0x48
def F.CATCH_PERIOD_CARRIER : Field := ⟨R.CATCH_PERIOD, 0, 18⟩
/-- CATCH_MINPER (R141). -/
def R.CATCH_MINPER : Nat := pageBase 0x4 + 0x4c
def F.CATCH_MINPER_MINPER : Field := ⟨R.CATCH_MINPER, 0, 18⟩
/-- CATCH_NUM_LO (R141). -/
def R.CATCH_NUM_LO : Nat := pageBase 0x4 + 0x50
def F.CATCH_NUM_LO_NUM_LO : Field := ⟨R.CATCH_NUM_LO, 0, 32⟩
/-- CATCH_NUM_HI (R141). -/
def R.CATCH_NUM_HI : Nat := pageBase 0x4 + 0x54
def F.CATCH_NUM_HI_NUM_HI : Field := ⟨R.CATCH_NUM_HI, 0, 16⟩
/-- CATCH_BUDGET (R141). -/
def R.CATCH_BUDGET : Nat := pageBase 0x4 + 0x58
def F.CATCH_BUDGET_BUDGET : Field := ⟨R.CATCH_BUDGET, 0, 20⟩
/-- CATCH_SLACK (R141). -/
def R.CATCH_SLACK : Nat := pageBase 0x4 + 0x5c
def F.CATCH_SLACK_MIN_SLACK : Field := ⟨R.CATCH_SLACK, 0, 20⟩
/-- CATCH_LATE (R141). -/
def R.CATCH_LATE : Nat := pageBase 0x4 + 0x60
def F.CATCH_LATE_CONSEC_A : Field := ⟨R.CATCH_LATE, 0, 8⟩
def F.CATCH_LATE_CONSEC_B : Field := ⟨R.CATCH_LATE, 8, 8⟩
def F.CATCH_LATE_CONSEC_AUXA : Field := ⟨R.CATCH_LATE, 16, 8⟩
def F.CATCH_LATE_CONSEC_AUXB : Field := ⟨R.CATCH_LATE, 24, 8⟩
/-- CATCH_LATE_TOTAL (R141). -/
def R.CATCH_LATE_TOTAL : Nat := pageBase 0x4 + 0x64
def F.CATCH_LATE_TOTAL_TOTAL : Field := ⟨R.CATCH_LATE_TOTAL, 0, 32⟩
/-- CATCH_LATE_FIRST (R141). -/
def R.CATCH_LATE_FIRST : Nat := pageBase 0x4 + 0x68
def F.CATCH_LATE_FIRST_INPUT : Field := ⟨R.CATCH_LATE_FIRST, 0, 16⟩
def F.CATCH_LATE_FIRST_CATCH : Field := ⟨R.CATCH_LATE_FIRST, 16, 16⟩
/-- CATCH_WSIG (R141). -/
def R.CATCH_WSIG : Nat := pageBase 0x4 + 0x6c
def F.CATCH_WSIG_WSIG : Field := ⟨R.CATCH_WSIG, 0, 32⟩
/-- CATCH_EVENT (R141). -/
def R.CATCH_EVENT : Nat := pageBase 0x4 + 0x70
def F.CATCH_EVENT_LATE : Field := ⟨R.CATCH_EVENT, 0, 1⟩
def F.CATCH_EVENT_LATE_ESC : Field := ⟨R.CATCH_EVENT, 1, 1⟩
def F.CATCH_EVENT_STALE : Field := ⟨R.CATCH_EVENT, 2, 1⟩
def F.CATCH_EVENT_OVERRUN : Field := ⟨R.CATCH_EVENT, 3, 1⟩
def F.CATCH_EVENT_PERIOD_CHANGE : Field := ⟨R.CATCH_EVENT, 4, 1⟩
/-- CATCH_STALE_COUNT (R141). -/
def R.CATCH_STALE_COUNT : Nat := pageBase 0x4 + 0x74
def F.CATCH_STALE_COUNT_STALE : Field := ⟨R.CATCH_STALE_COUNT, 0, 32⟩
/-- SDC_CFG (R159). -/
def R.SDC_CFG (n : Nat) : Nat := pageBase 5 + 0x40 + 4 * n
def F.SDC_CFG_DIV (n : Nat) : Field := ⟨R.SDC_CFG n, 0, 6⟩
def F.SDC_CFG_EN (n : Nat) : Field := ⟨R.SDC_CFG n, 8, 1⟩
/-- SDM_EVENT (R159). -/
def R.SDM_EVENT (h : Nat) : Nat := pageBase (5 + h) + 0x60
def F.SDM_EVENT_ERR (h : Nat) : Field := ⟨R.SDM_EVENT h, 0, 1⟩
def F.SDM_EVENT_STUCK (h : Nat) : Field := ⟨R.SDM_EVENT h, 1, 1⟩
def F.SDM_EVENT_LOCK_LOSS (h : Nat) : Field := ⟨R.SDM_EVENT h, 2, 1⟩
def F.SDM_EVENT_HI_TRIP (h : Nat) : Field := ⟨R.SDM_EVENT h, 3, 1⟩
def F.SDM_EVENT_LO_TRIP (h : Nat) : Field := ⟨R.SDM_EVENT h, 4, 1⟩
def F.SDM_EVENT_CHK_FAIL (h : Nat) : Field := ⟨R.SDM_EVENT h, 5, 1⟩
def F.SDM_EVENT_CAL_DONE (h : Nat) : Field := ⟨R.SDM_EVENT h, 6, 1⟩
def F.SDM_EVENT_CAL_FAIL (h : Nat) : Field := ⟨R.SDM_EVENT h, 7, 1⟩
/-- CHK_PAIR (R159). -/
def R.CHK_PAIR : Nat := pageBase 0x6 + 0x64
def F.CHK_PAIR_PAIR : Field := ⟨R.CHK_PAIR, 0, 16⟩
/-- CHK_SUM (R159). -/
def R.CHK_SUM : Nat := pageBase 0x6 + 0x68
def F.CHK_SUM_SUM : Field := ⟨R.CHK_SUM, 0, 8⟩
/-- CHK_FIRST (R159). -/
def R.CHK_FIRST : Nat := pageBase 0x6 + 0x6c
def F.CHK_FIRST_INDEX : Field := ⟨R.CHK_FIRST, 0, 5⟩
def F.CHK_FIRST_KIND : Field := ⟨R.CHK_FIRST, 5, 1⟩
def F.CHK_FIRST_CATCH : Field := ⟨R.CHK_FIRST, 16, 16⟩
/-- SD_CFG (R159). -/
def R.SD_CFG (n : Nat) : Nat := sdBase n + 0x0
def F.SD_CFG_MODE (n : Nat) : Field := ⟨R.SD_CFG n, 0, 2⟩
def F.SD_CFG_CLK (n : Nat) : Field := ⟨R.SD_CFG n, 2, 3⟩
def F.SD_CFG_SDLY (n : Nat) : Field := ⟨R.SD_CFG n, 5, 2⟩
def F.SD_CFG_R (n : Nat) : Field := ⟨R.SD_CFG n, 8, 9⟩
def F.SD_CFG_PORD (n : Nat) : Field := ⟨R.SD_CFG n, 17, 2⟩
def F.SD_CFG_M (n : Nat) : Field := ⟨R.SD_CFG n, 19, 6⟩
def F.SD_CFG_DEB (n : Nat) : Field := ⟨R.SD_CFG n, 25, 2⟩
/-- SD_MCFG (R159). -/
def R.SD_MCFG (n : Nat) : Nat := sdBase n + 0x4
def F.SD_MCFG_RATE (n : Nat) : Field := ⟨R.SD_MCFG n, 0, 8⟩
def F.SD_MCFG_KIND (n : Nat) : Field := ⟨R.SD_MCFG n, 8, 3⟩
def F.SD_MCFG_UNIT (n : Nat) : Field := ⟨R.SD_MCFG n, 11, 3⟩
/-- SD_RES (R159). -/
def R.SD_RES (n : Nat) : Nat := sdBase n + 0x8
def F.SD_RES_VALUE (n : Nat) : Field := ⟨R.SD_RES n, 0, 25⟩
def F.SD_RES_VALID (n : Nat) : Field := ⟨R.SD_RES n, 25, 1⟩
def F.SD_RES_ERR (n : Nat) : Field := ⟨R.SD_RES n, 26, 1⟩
/-- SD_STAT (R159). -/
def R.SD_STAT (n : Nat) : Nat := sdBase n + 0xc
def F.SD_STAT_TAG (n : Nat) : Field := ⟨R.SD_STAT n, 0, 8⟩
def F.SD_STAT_VIOL (n : Nat) : Field := ⟨R.SD_STAT n, 8, 8⟩
def F.SD_STAT_ERRCNT (n : Nat) : Field := ⟨R.SD_STAT n, 16, 8⟩
def F.SD_STAT_LOCK (n : Nat) : Field := ⟨R.SD_STAT n, 24, 1⟩
/-- SD_PROT (R159). -/
def R.SD_PROT (n : Nat) : Nat := sdBase n + 0x10
def F.SD_PROT_P (n : Nat) : Field := ⟨R.SD_PROT n, 0, 18⟩
def F.SD_PROT_HI (n : Nat) : Field := ⟨R.SD_PROT n, 18, 1⟩
def F.SD_PROT_LO (n : Nat) : Field := ⟨R.SD_PROT n, 19, 1⟩
/-- SD_THR_HI (R159). -/
def R.SD_THR_HI (n : Nat) : Nat := sdBase n + 0x14
def F.SD_THR_HI_HI (n : Nat) : Field := ⟨R.SD_THR_HI n, 0, 18⟩
def F.SD_THR_HI_HYST (n : Nat) : Field := ⟨R.SD_THR_HI n, 18, 8⟩
/-- SD_THR_LO (R159). -/
def R.SD_THR_LO (n : Nat) : Nat := sdBase n + 0x18
def F.SD_THR_LO_LO (n : Nat) : Field := ⟨R.SD_THR_LO n, 0, 18⟩
def F.SD_THR_LO_HYST (n : Nat) : Field := ⟨R.SD_THR_LO n, 18, 8⟩
/-- SD_OFS (R159). -/
def R.SD_OFS (n : Nat) : Nat := sdBase n + 0x1c
def F.SD_OFS_OFS (n : Nat) : Field := ⟨R.SD_OFS n, 0, 25⟩
/-- SAR_CTRL (R165). -/
def R.SAR_CTRL : Nat := pageBase 0x7 + 0x40
def F.SAR_CTRL_LEN0 : Field := ⟨R.SAR_CTRL, 0, 5⟩
def F.SAR_CTRL_LEN1 : Field := ⟨R.SAR_CTRL, 8, 5⟩
/-- SAR_EVENT (R165). -/
def R.SAR_EVENT : Nat := pageBase 0x7 + 0x44
def F.SAR_EVENT_SKIP : Field := ⟨R.SAR_EVENT, 0, 1⟩
def F.SAR_EVENT_REFCHK : Field := ⟨R.SAR_EVENT, 1, 1⟩
/-- SAR_SEQ (R165). -/
def R.SAR_SEQ (i : Nat) : Nat := pageBase 7 + 0x80 + 4 * i
def F.SAR_SEQ_INPUT (i : Nat) : Field := ⟨R.SAR_SEQ i, 0, 4⟩
def F.SAR_SEQ_TRIG (i : Nat) : Field := ⟨R.SAR_SEQ i, 4, 2⟩
def F.SAR_SEQ_DELAY (i : Nat) : Field := ⟨R.SAR_SEQ i, 6, 10⟩
def F.SAR_SEQ_K (i : Nat) : Field := ⟨R.SAR_SEQ i, 16, 3⟩
def F.SAR_SEQ_PHASE (i : Nat) : Field := ⟨R.SAR_SEQ i, 19, 7⟩
def F.SAR_SEQ_AVG (i : Nat) : Field := ⟨R.SAR_SEQ i, 26, 2⟩
def F.SAR_SEQ_SHUNT (i : Nat) : Field := ⟨R.SAR_SEQ i, 28, 1⟩
/-- SAR_RES (R165). -/
def R.SAR_RES (i : Nat) : Nat := pageBase 7 + 0x100 + 4 * i
def F.SAR_RES_VALUE (i : Nat) : Field := ⟨R.SAR_RES i, 0, 13⟩
def F.SAR_RES_VALID (i : Nat) : Field := ⟨R.SAR_RES i, 13, 1⟩
def F.SAR_RES_TAG (i : Nat) : Field := ⟨R.SAR_RES i, 16, 8⟩
/-- SAR_OFS (R165). -/
def R.SAR_OFS (i : Nat) : Nat := pageBase 7 + 0x180 + 4 * i
def F.SAR_OFS_OFS (i : Nat) : Field := ⟨R.SAR_OFS i, 0, 12⟩
/-- RSX_CFG (R169). -/
def R.RSX_CFG (i : Nat) : Nat := pageBase 8 + 0x40 + 4 * i
def F.RSX_CFG_PERIOD (i : Nat) : Field := ⟨R.RSX_CFG i, 0, 16⟩
def F.RSX_CFG_AMP (i : Nat) : Field := ⟨R.RSX_CFG i, 16, 8⟩
def F.RSX_CFG_EN (i : Nat) : Field := ⟨R.RSX_CFG i, 24, 1⟩
/-- RSX_PHASE (R169). -/
def R.RSX_PHASE (i : Nat) : Nat := pageBase 8 + 0x48 + 4 * i
def F.RSX_PHASE_PHASE (i : Nat) : Field := ⟨R.RSX_PHASE i, 0, 16⟩
/-- FAB_CFG (R196). -/
def R.FAB_CFG : Nat := pageBase 0x9 + 0x40
def F.FAB_CFG_SLOTS : Field := ⟨R.FAB_CFG, 0, 4⟩
/-- FAB_SEATS (R196). -/
def R.FAB_SEATS : Nat := pageBase 0x9 + 0x44
def F.FAB_SEATS_HEALTHY : Field := ⟨R.FAB_SEATS, 0, 16⟩
/-- FAB_MAP0 (R196). -/
def R.FAB_MAP0 : Nat := pageBase 0x9 + 0x48
def F.FAB_MAP0_SLOT0_7 : Field := ⟨R.FAB_MAP0, 0, 32⟩
/-- FAB_MAP1 (R196). -/
def R.FAB_MAP1 : Nat := pageBase 0x9 + 0x4c
def F.FAB_MAP1_SLOT8_14 : Field := ⟨R.FAB_MAP1, 0, 28⟩
def F.FAB_MAP1_SUB : Field := ⟨R.FAB_MAP1, 28, 4⟩
/-- FAB_ROT (R196). -/
def R.FAB_ROT : Nat := pageBase 0x9 + 0x50
def F.FAB_ROT_STATE : Field := ⟨R.FAB_ROT, 0, 2⟩
def F.FAB_ROT_TARGET : Field := ⟨R.FAB_ROT, 4, 4⟩
def F.FAB_ROT_TESTED : Field := ⟨R.FAB_ROT, 8, 4⟩
def F.FAB_ROT_NO_POOL : Field := ⟨R.FAB_ROT, 2, 1⟩
/-- FAB_ROT_COUNT (R196). -/
def R.FAB_ROT_COUNT : Nat := pageBase 0x9 + 0x54
def F.FAB_ROT_COUNT_COUNT : Field := ⟨R.FAB_ROT_COUNT, 0, 32⟩
/-- FAB_XBAR (R196). -/
def R.FAB_XBAR : Nat := pageBase 0x9 + 0x58
def F.FAB_XBAR_PEAK : Field := ⟨R.FAB_XBAR, 0, 8⟩
def F.FAB_XBAR_STALL_CYC : Field := ⟨R.FAB_XBAR, 8, 24⟩
/-- FAB_ECC (R196). -/
def R.FAB_ECC : Nat := pageBase 0x9 + 0x5c
def F.FAB_ECC_CORR : Field := ⟨R.FAB_ECC, 0, 16⟩
/-- FAB_EVENT (R196). -/
def R.FAB_EVENT : Nat := pageBase 0x9 + 0x60
def F.FAB_EVENT_ROT_DONE : Field := ⟨R.FAB_EVENT, 0, 1⟩
def F.FAB_EVENT_IST_FAIL : Field := ⟨R.FAB_EVENT, 1, 1⟩
def F.FAB_EVENT_SEAT_FAULT : Field := ⟨R.FAB_EVENT, 2, 1⟩
def F.FAB_EVENT_SEAT_SHORT : Field := ⟨R.FAB_EVENT, 3, 1⟩
def F.FAB_EVENT_NO_SUB : Field := ⟨R.FAB_EVENT, 4, 1⟩
/-- FAB_FAULT (R196). -/
def R.FAB_FAULT : Nat := pageBase 0x9 + 0x64
def F.FAB_FAULT_SEAT : Field := ⟨R.FAB_FAULT, 0, 4⟩
def F.FAB_FAULT_SLOT : Field := ⟨R.FAB_FAULT, 4, 4⟩
def F.FAB_FAULT_CODE : Field := ⟨R.FAB_FAULT, 8, 4⟩
def F.FAB_FAULT_CATCH : Field := ⟨R.FAB_FAULT, 16, 16⟩
/-- PLAN_STATUS (R197). -/
def R.PLAN_STATUS : Nat := pageBase 0xa + 0x40
def F.PLAN_STATUS_STAGE_STATE : Field := ⟨R.PLAN_STATUS, 0, 3⟩
def F.PLAN_STATUS_LIVE_VALID : Field := ⟨R.PLAN_STATUS, 3, 1⟩
def F.PLAN_STATUS_LIVE_HALF : Field := ⟨R.PLAN_STATUS, 4, 1⟩
def F.PLAN_STATUS_FAIL : Field := ⟨R.PLAN_STATUS, 8, 8⟩
/-- PLAN_TARGET_LO (R197). -/
def R.PLAN_TARGET_LO : Nat := pageBase 0xa + 0x44
def F.PLAN_TARGET_LO_N_LO : Field := ⟨R.PLAN_TARGET_LO, 0, 32⟩
/-- PLAN_TARGET_HI (R197). -/
def R.PLAN_TARGET_HI : Nat := pageBase 0xa + 0x48
def F.PLAN_TARGET_HI_N_HI : Field := ⟨R.PLAN_TARGET_HI, 0, 16⟩
/-- PLAN_CMD (R197). -/
def R.PLAN_CMD : Nat := pageBase 0xa + 0x4c
def F.PLAN_CMD_CMD : Field := ⟨R.PLAN_CMD, 0, 4⟩
/-- PLAN_USE (R197). -/
def R.PLAN_USE : Nat := pageBase 0xa + 0x50
def F.PLAN_USE_LIVE_BYTES : Field := ⟨R.PLAN_USE, 0, 18⟩
/-- PLAN_USE_STAGE (R197). -/
def R.PLAN_USE_STAGE : Nat := pageBase 0xa + 0x54
def F.PLAN_USE_STAGE_STAGE_BYTES : Field := ⟨R.PLAN_USE_STAGE, 0, 18⟩
/-- PLAN_EVENT (R197). -/
def R.PLAN_EVENT : Nat := pageBase 0xa + 0x58
def F.PLAN_EVENT_LOADED : Field := ⟨R.PLAN_EVENT, 0, 1⟩
def F.PLAN_EVENT_LOAD_FAIL : Field := ⟨R.PLAN_EVENT, 1, 1⟩
def F.PLAN_EVENT_SWITCHED : Field := ⟨R.PLAN_EVENT, 2, 1⟩
def F.PLAN_EVENT_SWITCH_REFUSED : Field := ⟨R.PLAN_EVENT, 3, 1⟩
def F.PLAN_EVENT_CANCELLED : Field := ⟨R.PLAN_EVENT, 4, 1⟩
def F.PLAN_EVENT_UNCORR : Field := ⟨R.PLAN_EVENT, 5, 1⟩
/-- PLAN_LAST (R197). -/
def R.PLAN_LAST : Nat := pageBase 0xa + 0x5c
def F.PLAN_LAST_CATCH : Field := ⟨R.PLAN_LAST, 0, 16⟩
def F.PLAN_LAST_CODE : Field := ⟨R.PLAN_LAST, 16, 8⟩
/-- PLAN_SCRUB (R197). -/
def R.PLAN_SCRUB : Nat := pageBase 0xa + 0x60
def F.PLAN_SCRUB_CORR : Field := ⟨R.PLAN_SCRUB, 0, 16⟩
def F.PLAN_SCRUB_PASSES : Field := ⟨R.PLAN_SCRUB, 16, 16⟩
/-- PLAN_LIVE_DIG (R197). -/
def R.PLAN_LIVE_DIG (k : Nat) : Nat := pageBase 10 + 0x80 + 4 * k
def F.PLAN_LIVE_DIG_DIG (k : Nat) : Field := ⟨R.PLAN_LIVE_DIG k, 0, 32⟩
/-- PLAN_STAGE_DIG (R197). -/
def R.PLAN_STAGE_DIG (k : Nat) : Nat := pageBase 10 + 0xc0 + 4 * k
def F.PLAN_STAGE_DIG_DIG (k : Nat) : Field := ⟨R.PLAN_STAGE_DIG k, 0, 32⟩
/-- DRV_CMD (R296). -/
def R.DRV_CMD (u : Nat) : Nat := drvBase u + 0x0
def F.DRV_CMD_CMD (u : Nat) : Field := ⟨R.DRV_CMD u, 0, 4⟩
def F.DRV_CMD_DIR (u : Nat) : Field := ⟨R.DRV_CMD u, 4, 1⟩
def F.DRV_CMD_BRK (u : Nat) : Field := ⟨R.DRV_CMD u, 5, 1⟩
/-- DRV_TRQ (R296). -/
def R.DRV_TRQ (u : Nat) : Nat := drvBase u + 0x4
def F.DRV_TRQ_TRQ (u : Nat) : Field := ⟨R.DRV_TRQ u, 0, 32⟩
/-- DRV_STATE (R296). -/
def R.DRV_STATE (u : Nat) : Nat := drvBase u + 0x8
def F.DRV_STATE_STATE (u : Nat) : Field := ⟨R.DRV_STATE u, 0, 4⟩
def F.DRV_STATE_DIR (u : Nat) : Field := ⟨R.DRV_STATE u, 4, 1⟩
def F.DRV_STATE_SRC (u : Nat) : Field := ⟨R.DRV_STATE u, 5, 2⟩
def F.DRV_STATE_STANDSTILL (u : Nat) : Field := ⟨R.DRV_STATE u, 7, 1⟩
def F.DRV_STATE_CATCH (u : Nat) : Field := ⟨R.DRV_STATE u, 16, 16⟩
/-- DRV_SPEED (R296). -/
def R.DRV_SPEED (u : Nat) : Nat := drvBase u + 0xc
def F.DRV_SPEED_F (u : Nat) : Field := ⟨R.DRV_SPEED u, 0, 32⟩
/-- DRV_TREF (R296). -/
def R.DRV_TREF (u : Nat) : Nat := drvBase u + 0x10
def F.DRV_TREF_TREF (u : Nat) : Field := ⟨R.DRV_TREF u, 0, 32⟩
/-- DRV_TRATE (R296). -/
def R.DRV_TRATE (u : Nat) : Nat := drvBase u + 0x14
def F.DRV_TRATE_RATE (u : Nat) : Field := ⟨R.DRV_TRATE u, 0, 32⟩
/-- DRV_MODE (R296). -/
def R.DRV_MODE (u : Nat) : Nat := drvBase u + 0x18
def F.DRV_MODE_STATE (u : Nat) : Field := ⟨R.DRV_MODE u, 0, 4⟩
def F.DRV_MODE_DIR (u : Nat) : Field := ⟨R.DRV_MODE u, 4, 1⟩
def F.DRV_MODE_SEED (u : Nat) : Field := ⟨R.DRV_MODE u, 5, 1⟩
/-- DRV_SEED_ANG (R296). -/
def R.DRV_SEED_ANG (u : Nat) : Nat := drvBase u + 0x1c
def F.DRV_SEED_ANG_ANG (u : Nat) : Field := ⟨R.DRV_SEED_ANG u, 0, 32⟩
/-- DRV_SEED_W (R296). -/
def R.DRV_SEED_W (u : Nat) : Nat := drvBase u + 0x20
def F.DRV_SEED_W_W (u : Nat) : Field := ⟨R.DRV_SEED_W u, 0, 32⟩
/-- DRV_PSTAT (R296). -/
def R.DRV_PSTAT (u : Nat) : Nat := drvBase u + 0x24
def F.DRV_PSTAT_TZERO (u : Nat) : Field := ⟨R.DRV_PSTAT u, 0, 1⟩
def F.DRV_PSTAT_OBS_OK (u : Nat) : Field := ⟨R.DRV_PSTAT u, 1, 1⟩
def F.DRV_PSTAT_OBS_LOSS (u : Nat) : Field := ⟨R.DRV_PSTAT u, 2, 1⟩
def F.DRV_PSTAT_REACQ_OK (u : Nat) : Field := ⟨R.DRV_PSTAT u, 3, 1⟩
def F.DRV_PSTAT_VSAT (u : Nat) : Field := ⟨R.DRV_PSTAT u, 4, 1⟩
def F.DRV_PSTAT_SHARE_LIM (u : Nat) : Field := ⟨R.DRV_PSTAT u, 5, 1⟩
def F.DRV_PSTAT_SRC (u : Nat) : Field := ⟨R.DRV_PSTAT u, 6, 2⟩
def F.DRV_PSTAT_CONF (u : Nat) : Field := ⟨R.DRV_PSTAT u, 8, 8⟩
/-- DRV_SPIN (R296). -/
def R.DRV_SPIN (u : Nat) : Nat := drvBase u + 0x28
def F.DRV_SPIN_COUNT (u : Nat) : Field := ⟨R.DRV_SPIN u, 0, 8⟩
def F.DRV_SPIN_DIR (u : Nat) : Field := ⟨R.DRV_SPIN u, 8, 1⟩
def F.DRV_SPIN_VALID (u : Nat) : Field := ⟨R.DRV_SPIN u, 9, 1⟩
/-- DRV_SPIN_F (R296). -/
def R.DRV_SPIN_F (u : Nat) : Nat := drvBase u + 0x2c
def F.DRV_SPIN_F_F (u : Nat) : Field := ⟨R.DRV_SPIN_F u, 0, 32⟩
/-- DRV_SPIN_V (R296). -/
def R.DRV_SPIN_V (u : Nat) : Nat := drvBase u + 0x30
def F.DRV_SPIN_V_V (u : Nat) : Field := ⟨R.DRV_SPIN_V u, 0, 32⟩
/-- DRV_SPIN_A (R296). -/
def R.DRV_SPIN_A (u : Nat) : Nat := drvBase u + 0x34
def F.DRV_SPIN_A_ANG (u : Nat) : Field := ⟨R.DRV_SPIN_A u, 0, 32⟩
/-- DRV_NCATCH (R296). -/
def R.DRV_NCATCH (u : Nat) : Nat := drvBase u + 0x38
def F.DRV_NCATCH_F (u : Nat) : Field := ⟨R.DRV_NCATCH u, 0, 32⟩
/-- DRV_NREV (R296). -/
def R.DRV_NREV (u : Nat) : Nat := drvBase u + 0x3c
def F.DRV_NREV_F (u : Nat) : Field := ⟨R.DRV_NREV u, 0, 32⟩
/-- DRV_NHO (R296). -/
def R.DRV_NHO (u : Nat) : Nat := drvBase u + 0x40
def F.DRV_NHO_F (u : Nat) : Field := ⟨R.DRV_NHO u, 0, 32⟩
/-- DRV_RAMP (R296). -/
def R.DRV_RAMP (u : Nat) : Nat := drvBase u + 0x44
def F.DRV_RAMP_R (u : Nat) : Field := ⟨R.DRV_RAMP u, 0, 32⟩
/-- DRV_EASY (R296). -/
def R.DRV_EASY (u : Nat) : Nat := drvBase u + 0x48
def F.DRV_EASY_R (u : Nat) : Field := ⟨R.DRV_EASY u, 0, 32⟩
/-- DRV_EASYCLK (R296). -/
def R.DRV_EASYCLK (u : Nat) : Nat := drvBase u + 0x4c
def F.DRV_EASYCLK_R (u : Nat) : Field := ⟨R.DRV_EASYCLK u, 0, 32⟩
/-- DRV_KE (R296). -/
def R.DRV_KE (u : Nat) : Nat := drvBase u + 0x50
def F.DRV_KE_KE (u : Nat) : Field := ⟨R.DRV_KE u, 0, 32⟩
/-- DRV_TMAX (R296). -/
def R.DRV_TMAX (u : Nat) : Nat := drvBase u + 0x54
def F.DRV_TMAX_T (u : Nat) : Field := ⟨R.DRV_TMAX u, 0, 32⟩
/-- DRV_OBS (R296). -/
def R.DRV_OBS (u : Nat) : Nat := drvBase u + 0x58
def F.DRV_OBS_CONF_ON (u : Nat) : Field := ⟨R.DRV_OBS u, 0, 8⟩
def F.DRV_OBS_CONF_OFF (u : Nat) : Field := ⟨R.DRV_OBS u, 8, 8⟩
def F.DRV_OBS_ON_N (u : Nat) : Field := ⟨R.DRV_OBS u, 16, 4⟩
def F.DRV_OBS_LOSS_N (u : Nat) : Field := ⟨R.DRV_OBS u, 20, 4⟩
/-- DRV_TIMES (R296). -/
def R.DRV_TIMES (u : Nat) : Nat := drvBase u + 0x5c
def F.DRV_TIMES_EASY_MAX (u : Nat) : Field := ⟨R.DRV_TIMES u, 0, 8⟩
def F.DRV_TIMES_ZT_HOLD (u : Nat) : Field := ⟨R.DRV_TIMES u, 8, 8⟩
def F.DRV_TIMES_ZT_DWELL (u : Nat) : Field := ⟨R.DRV_TIMES u, 16, 8⟩
def F.DRV_TIMES_BRAKE_MAX (u : Nat) : Field := ⟨R.DRV_TIMES u, 24, 8⟩
/-- DRV_TQ (R296). -/
def R.DRV_TQ (u : Nat) : Nat := drvBase u + 0x60
def F.DRV_TQ_T (u : Nat) : Field := ⟨R.DRV_TQ u, 0, 32⟩
/-- DRV_EVENT (R296). -/
def R.DRV_EVENT (u : Nat) : Nat := drvBase u + 0x64
def F.DRV_EVENT_STARTED (u : Nat) : Field := ⟨R.DRV_EVENT u, 0, 1⟩
def F.DRV_EVENT_REFUSED (u : Nat) : Field := ⟨R.DRV_EVENT u, 1, 1⟩
def F.DRV_EVENT_OBS_LOST (u : Nat) : Field := ⟨R.DRV_EVENT u, 2, 1⟩
def F.DRV_EVENT_OBS_REGAINED (u : Nat) : Field := ⟨R.DRV_EVENT u, 3, 1⟩
def F.DRV_EVENT_EASY_DONE (u : Nat) : Field := ⟨R.DRV_EVENT u, 4, 1⟩
def F.DRV_EVENT_EASY_TIMEOUT (u : Nat) : Field := ⟨R.DRV_EVENT u, 5, 1⟩
def F.DRV_EVENT_ZTW (u : Nat) : Field := ⟨R.DRV_EVENT u, 6, 1⟩
def F.DRV_EVENT_SHARE_LIM (u : Nat) : Field := ⟨R.DRV_EVENT u, 7, 1⟩
def F.DRV_EVENT_BAD_REQ (u : Nat) : Field := ⟨R.DRV_EVENT u, 8, 1⟩
def F.DRV_EVENT_CMD_LOST (u : Nat) : Field := ⟨R.DRV_EVENT u, 9, 1⟩
/-- DRV_LAST (R296). -/
def R.DRV_LAST (u : Nat) : Nat := drvBase u + 0x68
def F.DRV_LAST_CODE (u : Nat) : Field := ⟨R.DRV_LAST u, 0, 8⟩
def F.DRV_LAST_CATCH (u : Nat) : Field := ⟨R.DRV_LAST u, 16, 16⟩
/-- SP_CTRL (R321). -/
def R.SP_CTRL : Nat := pageBase 0x13 + 0x40
def F.SP_CTRL_SRC (u : Nat) : Field := ⟨R.SP_CTRL, 0 + 8 * u, 2⟩
def F.SP_CTRL_LOOP (u : Nat) : Field := ⟨R.SP_CTRL, 2 + 8 * u, 1⟩
def F.SP_CTRL_PIN (u : Nat) : Field := ⟨R.SP_CTRL, 3 + 8 * u, 1⟩
/-- SP_REF (R321). -/
def R.SP_REF (u : Nat) : Nat := pageBase 0x13 + 0x44 + 4 * u
def F.SP_REF_REF (u : Nat) : Field := ⟨R.SP_REF u, 0, 32⟩
/-- SP_STAT (R321). -/
def R.SP_STAT : Nat := pageBase 0x13 + 0x54
def F.SP_STAT_FAULT (u : Nat) : Field := ⟨R.SP_STAT, 0 + 8 * u, 1⟩
def F.SP_STAT_DEFAULT (u : Nat) : Field := ⟨R.SP_STAT, 1 + 8 * u, 1⟩
def F.SP_STAT_ON (u : Nat) : Field := ⟨R.SP_STAT, 2 + 8 * u, 1⟩
def F.SP_STAT_DIRCLAMP (u : Nat) : Field := ⟨R.SP_STAT, 3 + 8 * u, 1⟩
/-- INJ_EVENT (R321). -/
def R.INJ_EVENT : Nat := pageBase 0x13 + 0x58
def F.INJ_EVENT_GENg_DONE (g : Nat) : Field := ⟨R.INJ_EVENT, 0 + g, 1⟩
def F.INJ_EVENT_GENg_ABORT (g : Nat) : Field := ⟨R.INJ_EVENT, 2 + g, 1⟩
def F.INJ_EVENT_AMP_LIM : Field := ⟨R.INJ_EVENT, 4, 1⟩
def F.INJ_EVENT_CAP_FULL : Field := ⟨R.INJ_EVENT, 5, 1⟩
def F.INJ_EVENT_CAP_FROZEN : Field := ⟨R.INJ_EVENT, 6, 1⟩
def F.INJ_EVENT_SP_FAULT : Field := ⟨R.INJ_EVENT, 7, 1⟩
def F.INJ_EVENT_PIN_LOST : Field := ⟨R.INJ_EVENT, 8, 1⟩
/-- PIN_CFG (R321). -/
def R.PIN_CFG (k : Nat) : Nat := pageBase 0x13 + 0x60 + 4 * k
def F.PIN_CFG_GLITCH (k : Nat) : Field := ⟨R.PIN_CFG k, 0, 8⟩
def F.PIN_CFG_TMO (k : Nat) : Field := ⟨R.PIN_CFG k, 8, 11⟩
def F.PIN_CFG_POL (k : Nat) : Field := ⟨R.PIN_CFG k, 19, 1⟩
/-- PIN_PER (R321). -/
def R.PIN_PER (k : Nat) : Nat := pageBase 0x13 + 0x68 + 8 * k
def F.PIN_PER_PER (k : Nat) : Field := ⟨R.PIN_PER k, 0, 28⟩
def F.PIN_PER_VALID (k : Nat) : Field := ⟨R.PIN_PER k, 28, 1⟩
/-- PIN_HI (R321). -/
def R.PIN_HI (k : Nat) : Nat := pageBase 0x13 + 0x6c + 8 * k
def F.PIN_HI_HI (k : Nat) : Field := ⟨R.PIN_HI k, 0, 28⟩
/-- INJ_CFG (R321). -/
def R.INJ_CFG (g : Nat) : Nat := pageBase 0x13 + 0x100 + 0x40 * g
def F.INJ_CFG_WAVE (g : Nat) : Field := ⟨R.INJ_CFG g, 0, 2⟩
def F.INJ_CFG_NSTEP (g : Nat) : Field := ⟨R.INJ_CFG g, 2, 5⟩
def F.INJ_CFG_ORDER (g : Nat) : Field := ⟨R.INJ_CFG g, 8, 3⟩
def F.INJ_CFG_HOLD (g : Nat) : Field := ⟨R.INJ_CFG g, 11, 8⟩
def F.INJ_CFG_LOG (g : Nat) : Field := ⟨R.INJ_CFG g, 19, 3⟩
def F.INJ_CFG_LOG_EN (g : Nat) : Field := ⟨R.INJ_CFG g, 22, 1⟩
/-- INJ_TAPER (R321). -/
def R.INJ_TAPER (g : Nat) : Nat := pageBase 0x13 + 0x104 + 0x40 * g
def F.INJ_TAPER_TAPER (g : Nat) : Field := ⟨R.INJ_TAPER g, 0, 16⟩
/-- INJ_SEED (R321). -/
def R.INJ_SEED (g : Nat) : Nat := pageBase 0x13 + 0x108 + 0x40 * g
def F.INJ_SEED_SEED (g : Nat) : Field := ⟨R.INJ_SEED g, 0, 31⟩
/-- INJ_F0 (R321). -/
def R.INJ_F0 (g : Nat) : Nat := pageBase 0x13 + 0x10c + 0x40 * g
def F.INJ_F0_F0 (g : Nat) : Field := ⟨R.INJ_F0 g, 0, 32⟩
/-- INJ_DF (R321). -/
def R.INJ_DF (g : Nat) : Nat := pageBase 0x13 + 0x110 + 0x40 * g
def F.INJ_DF_DF (g : Nat) : Field := ⟨R.INJ_DF g, 0, 32⟩
/-- INJ_LEN (R321). -/
def R.INJ_LEN (g : Nat) : Nat := pageBase 0x13 + 0x114 + 0x40 * g
def F.INJ_LEN_LEN (g : Nat) : Field := ⟨R.INJ_LEN g, 0, 32⟩
/-- INJ_START_LO (R321). -/
def R.INJ_START_LO (g : Nat) : Nat := pageBase 0x13 + 0x118 + 0x40 * g
def F.INJ_START_LO_S_LO (g : Nat) : Field := ⟨R.INJ_START_LO g, 0, 32⟩
/-- INJ_START_HI (R321). -/
def R.INJ_START_HI (g : Nat) : Nat := pageBase 0x13 + 0x11c + 0x40 * g
def F.INJ_START_HI_S_HI (g : Nat) : Field := ⟨R.INJ_START_HI g, 0, 16⟩
/-- INJ_CMD (R321). -/
def R.INJ_CMD (g : Nat) : Nat := pageBase 0x13 + 0x120 + 0x40 * g
def F.INJ_CMD_CMD (g : Nat) : Field := ⟨R.INJ_CMD g, 0, 2⟩
/-- INJ_STATUS (R321). -/
def R.INJ_STATUS (g : Nat) : Nat := pageBase 0x13 + 0x124 + 0x40 * g
def F.INJ_STATUS_STATE (g : Nat) : Field := ⟨R.INJ_STATUS g, 0, 3⟩
def F.INJ_STATUS_STEP (g : Nat) : Field := ⟨R.INJ_STATUS g, 3, 5⟩
def F.INJ_STATUS_CODE (g : Nat) : Field := ⟨R.INJ_STATUS g, 8, 8⟩
/-- INJ_POS (R321). -/
def R.INJ_POS (g : Nat) : Nat := pageBase 0x13 + 0x128 + 0x40 * g
def F.INJ_POS_J (g : Nat) : Field := ⟨R.INJ_POS g, 0, 32⟩
/-- INJ_STEPA (R321). -/
def R.INJ_STEPA (g k : Nat) : Nat := pageBase 0x13 + 0x200 + 0x100 * g + 8 * k
def F.INJ_STEPA_DIV (g k : Nat) : Field := ⟨R.INJ_STEPA g k, 0, 20⟩
/-- INJ_STEPB (R321). -/
def R.INJ_STEPB (g k : Nat) : Nat := pageBase 0x13 + 0x204 + 0x100 * g + 8 * k
def F.INJ_STEPB_SETTLE (g k : Nat) : Field := ⟨R.INJ_STEPB g k, 0, 8⟩
def F.INJ_STEPB_MEAS (g k : Nat) : Field := ⟨R.INJ_STEPB g k, 8, 8⟩
/-- INJ_AMP (R321). -/
def R.INJ_AMP (p : Nat) : Nat := pageBase 0x13 + 0x400 + 8 * p
def F.INJ_AMP_AMP (p : Nat) : Field := ⟨R.INJ_AMP p, 0, 32⟩
/-- INJ_PTCTL (R321). -/
def R.INJ_PTCTL (p : Nat) : Nat := pageBase 0x13 + 0x404 + 8 * p
def F.INJ_PTCTL_EN (p : Nat) : Field := ⟨R.INJ_PTCTL p, 0, 1⟩
def F.INJ_PTCTL_GEN (p : Nat) : Field := ⟨R.INJ_PTCTL p, 1, 1⟩
/-- CAP_CMD (R321). -/
def R.CAP_CMD (c : Nat) : Nat := pageBase 0x13 + 0x500 + 0x20 * c
def F.CAP_CMD_CMD (c : Nat) : Field := ⟨R.CAP_CMD c, 0, 2⟩
/-- CAP_CFG (R321). -/
def R.CAP_CFG (c : Nat) : Nat := pageBase 0x13 + 0x504 + 0x20 * c
def F.CAP_CFG_TRIG (c : Nat) : Field := ⟨R.CAP_CFG c, 0, 2⟩
def F.CAP_CFG_GEN (c : Nat) : Field := ⟨R.CAP_CFG c, 2, 1⟩
def F.CAP_CFG_FREEZE_EN (c : Nat) : Field := ⟨R.CAP_CFG c, 3, 1⟩
def F.CAP_CFG_FREEZE_UNIT (c : Nat) : Field := ⟨R.CAP_CFG c, 4, 2⟩
def F.CAP_CFG_POST (c : Nat) : Field := ⟨R.CAP_CFG c, 8, 24⟩
/-- CAP_START_LO (R321). -/
def R.CAP_START_LO (c : Nat) : Nat := pageBase 0x13 + 0x508 + 0x20 * c
def F.CAP_START_LO_S_LO (c : Nat) : Field := ⟨R.CAP_START_LO c, 0, 32⟩
/-- CAP_START_HI (R321). -/
def R.CAP_START_HI (c : Nat) : Nat := pageBase 0x13 + 0x50c + 0x20 * c
def F.CAP_START_HI_S_HI (c : Nat) : Field := ⟨R.CAP_START_HI c, 0, 16⟩
/-- CAP_STAT (R321). -/
def R.CAP_STAT (c : Nat) : Nat := pageBase 0x13 + 0x510 + 0x20 * c
def F.CAP_STAT_STATE (c : Nat) : Field := ⟨R.CAP_STAT c, 0, 3⟩
def F.CAP_STAT_WRAPPED (c : Nat) : Field := ⟨R.CAP_STAT c, 3, 1⟩
def F.CAP_STAT_W (c : Nat) : Field := ⟨R.CAP_STAT c, 8, 4⟩
/-- CAP_WIDX (R321). -/
def R.CAP_WIDX (c : Nat) : Nat := pageBase 0x13 + 0x514 + 0x20 * c
def F.CAP_WIDX_WIDX (c : Nat) : Field := ⟨R.CAP_WIDX c, 0, 32⟩
/-- CAP_LOST (R321). -/
def R.CAP_LOST (c : Nat) : Nat := pageBase 0x13 + 0x518 + 0x20 * c
def F.CAP_LOST_LOST (c : Nat) : Field := ⟨R.CAP_LOST c, 0, 32⟩
/-- CAP_GEOM (R321). -/
def R.CAP_GEOM (c : Nat) : Nat := pageBase 0x13 + 0x51c + 0x20 * c
def F.CAP_GEOM_BASE (c : Nat) : Field := ⟨R.CAP_GEOM c, 0, 14⟩
def F.CAP_GEOM_LEN (c : Nat) : Field := ⟨R.CAP_GEOM c, 14, 15⟩
def F.CAP_GEOM_RING (c : Nat) : Field := ⟨R.CAP_GEOM c, 29, 1⟩
def F.CAP_GEOM_GEN (c : Nat) : Field := ⟨R.CAP_GEOM c, 30, 1⟩
/-- PWM_GATE_EN (R347). -/
def R.PWM_GATE_EN (p : Nat) : Nat := pageBase p + 0x40
def F.PWM_GATE_EN_EN (p : Nat) : Field := ⟨R.PWM_GATE_EN p, 0, 9⟩
/-- PWM_PENDING (R347). -/
def R.PWM_PENDING (p : Nat) : Nat := pageBase p + 0x44
def F.PWM_PENDING_PEND (p : Nat) : Field := ⟨R.PWM_PENDING p, 0, 9⟩
/-- PWM_COMMIT (R347). -/
def R.PWM_COMMIT (p : Nat) : Nat := pageBase p + 0x48
def F.PWM_COMMIT_MASK (p : Nat) : Field := ⟨R.PWM_COMMIT p, 0, 9⟩
def F.PWM_COMMIT_PERIOD (p : Nat) : Field := ⟨R.PWM_COMMIT p, 9, 1⟩
/-- PWM_STATUS (R347). -/
def R.PWM_STATUS (p : Nat) : Nat := pageBase p + 0x4c
def F.PWM_STATUS_LATE_COMMIT (p : Nat) : Field := ⟨R.PWM_STATUS p, 0, 1⟩
def F.PWM_STATUS_CLAMP (p : Nat) : Field := ⟨R.PWM_STATUS p, 1, 1⟩
def F.PWM_STATUS_PER_REFUSED (p : Nat) : Field := ⟨R.PWM_STATUS p, 2, 1⟩
def F.PWM_STATUS_DEPTH (p : Nat) : Field := ⟨R.PWM_STATUS p, 3, 1⟩
def F.PWM_STATUS_INTERLOCK (p : Nat) : Field := ⟨R.PWM_STATUS p, 4, 1⟩
def F.PWM_STATUS_EN_REFUSED (p : Nat) : Field := ⟨R.PWM_STATUS p, 5, 1⟩
def F.PWM_STATUS_FS_LATCH (p : Nat) : Field := ⟨R.PWM_STATUS p, 6, 1⟩
def F.PWM_STATUS_BOOT_REFRESH (p : Nat) : Field := ⟨R.PWM_STATUS p, 7, 1⟩
def F.PWM_STATUS_BOOT_UV (p : Nat) : Field := ⟨R.PWM_STATUS p, 8, 1⟩
/-- PWM_LATE_COUNT (R347). -/
def R.PWM_LATE_COUNT (p : Nat) : Nat := pageBase p + 0x50
def F.PWM_LATE_COUNT_COUNT (p : Nat) : Field := ⟨R.PWM_LATE_COUNT p, 0, 32⟩
/-- PWM_ENLAST (R347). -/
def R.PWM_ENLAST (p : Nat) : Nat := pageBase p + 0x54
def F.PWM_ENLAST_LEG (p : Nat) : Field := ⟨R.PWM_ENLAST p, 0, 4⟩
def F.PWM_ENLAST_CODE (p : Nat) : Field := ⟨R.PWM_ENLAST p, 4, 8⟩
def F.PWM_ENLAST_CATCH (p : Nat) : Field := ⟨R.PWM_ENLAST p, 16, 16⟩
/-- PWM_FSCFG (R347). -/
def R.PWM_FSCFG (p : Nat) : Nat := pageBase p + 0x58
def F.PWM_FSCFG_LIMIT (p : Nat) : Field := ⟨R.PWM_FSCFG p, 0, 8⟩
def F.PWM_FSCFG_LEAK (p : Nat) : Field := ⟨R.PWM_FSCFG p, 8, 16⟩
/-- LEG_CFG (R348). -/
def R.LEG_CFG (l : Nat) : Nat := legBase l + 0x0
def F.LEG_CFG_MODE (l : Nat) : Field := ⟨R.LEG_CFG l, 0, 1⟩
def F.LEG_CFG_UPD (l : Nat) : Field := ⟨R.LEG_CFG l, 1, 1⟩
def F.LEG_CFG_PHASE (l : Nat) : Field := ⟨R.LEG_CFG l, 2, 18⟩
/-- LEG_PER_SH (R348). -/
def R.LEG_PER_SH (l : Nat) : Nat := legBase l + 0x4
def F.LEG_PER_SH_PER (l : Nat) : Field := ⟨R.LEG_PER_SH l, 0, 18⟩
/-- LEG_CMP_SH (R348). -/
def R.LEG_CMP_SH (l : Nat) : Nat := legBase l + 0x8
def F.LEG_CMP_SH_CMP (l : Nat) : Field := ⟨R.LEG_CMP_SH l, 0, 23⟩
/-- LEG_PER (R348). -/
def R.LEG_PER (l : Nat) : Nat := legBase l + 0xc
def F.LEG_PER_PER (l : Nat) : Field := ⟨R.LEG_PER l, 0, 18⟩
/-- LEG_CMP (R348). -/
def R.LEG_CMP (l : Nat) : Nat := legBase l + 0x10
def F.LEG_CMP_CMP (l : Nat) : Field := ⟨R.LEG_CMP l, 0, 23⟩
def F.LEG_CMP_STALE (l : Nat) : Field := ⟨R.LEG_CMP l, 23, 1⟩
/-- LEG_DT (R348). -/
def R.LEG_DT (l : Nat) : Nat := legBase l + 0x14
def F.LEG_DT_DTH (l : Nat) : Field := ⟨R.LEG_DT l, 0, 16⟩
def F.LEG_DT_DTL (l : Nat) : Field := ⟨R.LEG_DT l, 16, 16⟩
/-- LEG_MINP (R348). -/
def R.LEG_MINP (l : Nat) : Nat := legBase l + 0x18
def F.LEG_MINP_MINP (l : Nat) : Field := ⟨R.LEG_MINP l, 0, 16⟩
def F.LEG_MINP_GSTR (l : Nat) : Field := ⟨R.LEG_MINP l, 16, 4⟩
def F.LEG_MINP_BAND (l : Nat) : Field := ⟨R.LEG_MINP l, 20, 3⟩
/-- LEG_CARRY (R348). -/
def R.LEG_CARRY (l : Nat) : Nat := legBase l + 0x1c
def F.LEG_CARRY_K (l : Nat) : Field := ⟨R.LEG_CARRY l, 0, 16⟩
/-- LEG_FS (R348). -/
def R.LEG_FS (l : Nat) : Nat := legBase l + 0x20
def F.LEG_FS_COUNT (l : Nat) : Field := ⟨R.LEG_FS l, 0, 8⟩
def F.LEG_FS_LATCH (l : Nat) : Field := ⟨R.LEG_FS l, 8, 1⟩
/-- LEG_STAT (R348). -/
def R.LEG_STAT (l : Nat) : Nat := legBase l + 0x24
def F.LEG_STAT_EN (l : Nat) : Field := ⟨R.LEG_STAT l, 0, 1⟩
def F.LEG_STAT_DROP (l : Nat) : Field := ⟨R.LEG_STAT l, 1, 1⟩
def F.LEG_STAT_STRETCH (l : Nat) : Field := ⟨R.LEG_STAT l, 2, 1⟩
def F.LEG_STAT_BOOT_UV (l : Nat) : Field := ⟨R.LEG_STAT l, 3, 1⟩
/-- AUX_CFG (R349). -/
def R.AUX_CFG (x : Nat) : Nat := pageBase 0x0D + 0x60 + 4 * x
def F.AUX_CFG_WIN (x : Nat) : Field := ⟨R.AUX_CFG x, 0, 10⟩
def F.AUX_CFG_MAXON (x : Nat) : Field := ⟨R.AUX_CFG x, 10, 6⟩
def F.AUX_CFG_REFRESH (x : Nat) : Field := ⟨R.AUX_CFG x, 16, 12⟩
/-- AUX_BOOT (R349). -/
def R.AUX_BOOT (x : Nat) : Nat := pageBase 0x0D + 0x68 + 4 * x
def F.AUX_BOOT_UVTH (x : Nat) : Field := ⟨R.AUX_BOOT x, 0, 12⟩
def F.AUX_BOOT_UVHYS (x : Nat) : Field := ⟨R.AUX_BOOT x, 12, 8⟩
/-- AUX_BSAR (R349). -/
def R.AUX_BSAR (x : Nat) : Nat := pageBase 0x0D + 0x70 + 4 * x
def F.AUX_BSAR_U (x : Nat) : Field := ⟨R.AUX_BSAR x, 0, 5⟩
def F.AUX_BSAR_V (x : Nat) : Field := ⟨R.AUX_BSAR x, 8, 5⟩
def F.AUX_BSAR_W (x : Nat) : Field := ⟨R.AUX_BSAR x, 16, 5⟩
/-- POS_EVENT (R368). -/
def R.POS_EVENT (x : Nat) : Nat := pageBase (0x10 + x) + 0x40
def F.POS_EVENT_ENC_ILLEGAL (x : Nat) : Field := ⟨R.POS_EVENT x, 0, 1⟩
def F.POS_EVENT_ENC_ZERR (x : Nat) : Field := ⟨R.POS_EVENT x, 1, 1⟩
def F.POS_EVENT_ENC_ALIGNED (x : Nat) : Field := ⟨R.POS_EVENT x, 2, 1⟩
def F.POS_EVENT_HALL_BAD (x : Nat) : Field := ⟨R.POS_EVENT x, 3, 1⟩
def F.POS_EVENT_HALL_SEQ (x : Nat) : Field := ⟨R.POS_EVENT x, 4, 1⟩
def F.POS_EVENT_SER_ERR (x : Nat) : Field := ⟨R.POS_EVENT x, 5, 1⟩
def F.POS_EVENT_SER_QLOSS (x : Nat) : Field := ⟨R.POS_EVENT x, 6, 1⟩
/-- ENC_CFG (R368). -/
def R.ENC_CFG (x : Nat) : Nat := pageBase (0x10 + x) + 0x80
def F.ENC_CFG_FILT (x : Nat) : Field := ⟨R.ENC_CFG x, 0, 4⟩
def F.ENC_CFG_PP (x : Nat) : Field := ⟨R.ENC_CFG x, 4, 5⟩
def F.ENC_CFG_ZMODE (x : Nat) : Field := ⟨R.ENC_CFG x, 9, 2⟩
def F.ENC_CFG_HLINK (x : Nat) : Field := ⟨R.ENC_CFG x, 11, 1⟩
def F.ENC_CFG_INV (x : Nat) : Field := ⟨R.ENC_CFG x, 12, 1⟩
def F.ENC_CFG_SPW (x : Nat) : Field := ⟨R.ENC_CFG x, 13, 3⟩
def F.ENC_CFG_ZTMO (x : Nat) : Field := ⟨R.ENC_CFG x, 16, 16⟩
/-- ENC_CPT (R368). -/
def R.ENC_CPT (x : Nat) : Nat := pageBase (0x10 + x) + 0x84
def F.ENC_CPT_CPT (x : Nat) : Field := ⟨R.ENC_CPT x, 0, 24⟩
/-- ENC_ZOFS (R368). -/
def R.ENC_ZOFS (x : Nat) : Nat := pageBase (0x10 + x) + 0x88
def F.ENC_ZOFS_OFS (x : Nat) : Field := ⟨R.ENC_ZOFS x, 0, 32⟩
/-- ENC_COUNT (R368). -/
def R.ENC_COUNT (x : Nat) : Nat := pageBase (0x10 + x) + 0x8c
def F.ENC_COUNT_C (x : Nat) : Field := ⟨R.ENC_COUNT x, 0, 32⟩
/-- ENC_CREF (R368). -/
def R.ENC_CREF (x : Nat) : Nat := pageBase (0x10 + x) + 0x90
def F.ENC_CREF_CREF (x : Nat) : Field := ⟨R.ENC_CREF x, 0, 32⟩
/-- ENC_ANG (R368). -/
def R.ENC_ANG (x : Nat) : Nat := pageBase (0x10 + x) + 0x94
def F.ENC_ANG_ANG (x : Nat) : Field := ⟨R.ENC_ANG x, 0, 32⟩
/-- ENC_SPD (R368). -/
def R.ENC_SPD (x : Nat) : Nat := pageBase (0x10 + x) + 0x98
def F.ENC_SPD_F (x : Nat) : Field := ⟨R.ENC_SPD x, 0, 32⟩
/-- ENC_SPDC (R368). -/
def R.ENC_SPDC (x : Nat) : Nat := pageBase (0x10 + x) + 0x9c
def F.ENC_SPDC_F (x : Nat) : Field := ⟨R.ENC_SPDC x, 0, 32⟩
/-- ENC_STAT (R368). -/
def R.ENC_STAT (x : Nat) : Nat := pageBase (0x10 + x) + 0xa0
def F.ENC_STAT_STAT (x : Nat) : Field := ⟨R.ENC_STAT x, 0, 8⟩
def F.ENC_STAT_ILLEGAL (x : Nat) : Field := ⟨R.ENC_STAT x, 8, 8⟩
def F.ENC_STAT_ZERR (x : Nat) : Field := ⟨R.ENC_STAT x, 16, 8⟩
/-- ENC_ALIGN (R368). -/
def R.ENC_ALIGN (x : Nat) : Nat := pageBase (0x10 + x) + 0xa4
def F.ENC_ALIGN_ANG (x : Nat) : Field := ⟨R.ENC_ALIGN x, 0, 32⟩
/-- HALL_CFG (R368). -/
def R.HALL_CFG (x : Nat) : Nat := pageBase (0x10 + x) + 0xc0
def F.HALL_CFG_HFILT (x : Nat) : Field := ⟨R.HALL_CFG x, 0, 8⟩
def F.HALL_CFG_ORDER (x : Nat) : Field := ⟨R.HALL_CFG x, 8, 1⟩
def F.HALL_CFG_HTMO (x : Nat) : Field := ⟨R.HALL_CFG x, 16, 16⟩
/-- HALL_OFS (R368). -/
def R.HALL_OFS (x : Nat) : Nat := pageBase (0x10 + x) + 0xc4
def F.HALL_OFS_OFS (x : Nat) : Field := ⟨R.HALL_OFS x, 0, 32⟩
/-- HALL_STATE (R368). -/
def R.HALL_STATE (x : Nat) : Nat := pageBase (0x10 + x) + 0xc8
def F.HALL_STATE_CODE (x : Nat) : Field := ⟨R.HALL_STATE x, 0, 3⟩
def F.HALL_STATE_BAD (x : Nat) : Field := ⟨R.HALL_STATE x, 3, 1⟩
def F.HALL_STATE_BAD_CNT (x : Nat) : Field := ⟨R.HALL_STATE x, 8, 8⟩
def F.HALL_STATE_SEQ_CNT (x : Nat) : Field := ⟨R.HALL_STATE x, 16, 8⟩
def F.HALL_STATE_STAT (x : Nat) : Field := ⟨R.HALL_STATE x, 24, 8⟩
/-- HALL_ANG (R368). -/
def R.HALL_ANG (x : Nat) : Nat := pageBase (0x10 + x) + 0xcc
def F.HALL_ANG_ANG (x : Nat) : Field := ⟨R.HALL_ANG x, 0, 32⟩
/-- HALL_SPD (R368). -/
def R.HALL_SPD (x : Nat) : Nat := pageBase (0x10 + x) + 0xd0
def F.HALL_SPD_F (x : Nat) : Field := ⟨R.HALL_SPD x, 0, 32⟩
/-- SER_CFG (R368). -/
def R.SER_CFG (x : Nat) : Nat := pageBase (0x10 + x) + 0x100
def F.SER_CFG_PROTO (x : Nat) : Field := ⟨R.SER_CFG x, 0, 1⟩
def F.SER_CFG_CODE (x : Nat) : Field := ⟨R.SER_CFG x, 1, 1⟩
def F.SER_CFG_DIV (x : Nat) : Field := ⟨R.SER_CFG x, 2, 11⟩
def F.SER_CFG_DLY (x : Nat) : Field := ⟨R.SER_CFG x, 13, 8⟩
def F.SER_CFG_K (x : Nat) : Field := ⟨R.SER_CFG x, 21, 3⟩
def F.SER_CFG_INV (x : Nat) : Field := ⟨R.SER_CFG x, 24, 1⟩
def F.SER_CFG_SPW (x : Nat) : Field := ⟨R.SER_CFG x, 25, 3⟩
/-- SER_FMT (R368). -/
def R.SER_FMT (x : Nat) : Nat := pageBase (0x10 + x) + 0x104
def F.SER_FMT_ST (x : Nat) : Field := ⟨R.SER_FMT x, 0, 6⟩
def F.SER_FMT_MT (x : Nat) : Field := ⟨R.SER_FMT x, 6, 5⟩
def F.SER_FMT_ERRB (x : Nat) : Field := ⟨R.SER_FMT x, 11, 2⟩
def F.SER_FMT_CRCLEN (x : Nat) : Field := ⟨R.SER_FMT x, 13, 5⟩
def F.SER_FMT_CRCINV (x : Nat) : Field := ⟨R.SER_FMT x, 18, 1⟩
def F.SER_FMT_PP (x : Nat) : Field := ⟨R.SER_FMT x, 19, 5⟩
def F.SER_FMT_ACK_MAX (x : Nat) : Field := ⟨R.SER_FMT x, 24, 8⟩
/-- SER_CRC (R368). -/
def R.SER_CRC (x : Nat) : Nat := pageBase (0x10 + x) + 0x108
def F.SER_CRC_POLY (x : Nat) : Field := ⟨R.SER_CRC x, 0, 16⟩
def F.SER_CRC_INIT (x : Nat) : Field := ⟨R.SER_CRC x, 16, 16⟩
/-- SER_TIME (R368). -/
def R.SER_TIME (x : Nat) : Nat := pageBase (0x10 + x) + 0x10c
def F.SER_TIME_TRIG (x : Nat) : Field := ⟨R.SER_TIME x, 0, 16⟩
def F.SER_TIME_WTMO (x : Nat) : Field := ⟨R.SER_TIME x, 16, 16⟩
/-- SER_OFS (R368). -/
def R.SER_OFS (x : Nat) : Nat := pageBase (0x10 + x) + 0x110
def F.SER_OFS_OFS (x : Nat) : Field := ⟨R.SER_OFS x, 0, 32⟩
/-- SER_QCFG (R368). -/
def R.SER_QCFG (x : Nat) : Nat := pageBase (0x10 + x) + 0x114
def F.SER_QCFG_QN (x : Nat) : Field := ⟨R.SER_QCFG x, 0, 8⟩
def F.SER_QCFG_QLOSS (x : Nat) : Field := ⟨R.SER_QCFG x, 8, 5⟩
/-- SER_POS (R368). -/
def R.SER_POS (x : Nat) : Nat := pageBase (0x10 + x) + 0x118
def F.SER_POS_ST (x : Nat) : Field := ⟨R.SER_POS x, 0, 32⟩
/-- SER_MT (R368). -/
def R.SER_MT (x : Nat) : Nat := pageBase (0x10 + x) + 0x11c
def F.SER_MT_MT (x : Nat) : Field := ⟨R.SER_MT x, 0, 24⟩
/-- SER_ANG (R368). -/
def R.SER_ANG (x : Nat) : Nat := pageBase (0x10 + x) + 0x120
def F.SER_ANG_ANG (x : Nat) : Field := ⟨R.SER_ANG x, 0, 32⟩
/-- SER_SPD (R368). -/
def R.SER_SPD (x : Nat) : Nat := pageBase (0x10 + x) + 0x124
def F.SER_SPD_F (x : Nat) : Field := ⟨R.SER_SPD x, 0, 32⟩
/-- SER_STAT (R368). -/
def R.SER_STAT (x : Nat) : Nat := pageBase (0x10 + x) + 0x128
def F.SER_STAT_STAT (x : Nat) : Field := ⟨R.SER_STAT x, 0, 8⟩
def F.SER_STAT_WARN (x : Nat) : Field := ⟨R.SER_STAT x, 8, 1⟩
def F.SER_STAT_ERRCNT (x : Nat) : Field := ⟨R.SER_STAT x, 16, 16⟩
/-- RSLV_EPH (R369). -/
def R.RSLV_EPH (i : Nat) : Nat := pageBase 8 + 0x50 + 4 * i
def F.RSLV_EPH_PHASE (i : Nat) : Field := ⟨R.RSLV_EPH i, 0, 32⟩
/-- RSLV_ANG (R369). -/
def R.RSLV_ANG (i : Nat) : Nat := pageBase 8 + 0x58 + 4 * i
def F.RSLV_ANG_ANG (i : Nat) : Field := ⟨R.RSLV_ANG i, 0, 32⟩
/-- RSLV_SPD (R369). -/
def R.RSLV_SPD (i : Nat) : Nat := pageBase 8 + 0x60 + 4 * i
def F.RSLV_SPD_F (i : Nat) : Field := ⟨R.RSLV_SPD i, 0, 32⟩
/-- RSLV_STAT (R369). -/
def R.RSLV_STAT (i : Nat) : Nat := pageBase 8 + 0x68 + 4 * i
def F.RSLV_STAT_STAT (i : Nat) : Field := ⟨R.RSLV_STAT i, 0, 8⟩
/-- PROT_FLTCFG (R392). -/
def R.PROT_FLTCFG : Nat := pageBase 0xe + 0x40
def F.PROT_FLTCFG_FILT : Field := ⟨R.PROT_FLTCFG, 0, 3⟩
/-- PROT_BRKCTL (R392). -/
def R.PROT_BRKCTL (b : Nat) : Nat := pageBase 0x0E + 0x50 + 4 * b
def F.PROT_BRKCTL_ARM (b : Nat) : Field := ⟨R.PROT_BRKCTL b, 0, 1⟩
def F.PROT_BRKCTL_LATCH (b : Nat) : Field := ⟨R.PROT_BRKCTL b, 1, 1⟩
def F.PROT_BRKCTL_ON (b : Nat) : Field := ⟨R.PROT_BRKCTL b, 2, 1⟩
def F.PROT_BRKCTL_ARMED (b : Nat) : Field := ⟨R.PROT_BRKCTL b, 3, 1⟩
/-- PROT_CHON (R392). -/
def R.PROT_CHON (b : Nat) : Nat := pageBase 0x0E + 0x60 + 8 * b
def F.PROT_CHON_ON (b : Nat) : Field := ⟨R.PROT_CHON b, 0, 18⟩
def F.PROT_CHON_SD (b : Nat) : Field := ⟨R.PROT_CHON b, 18, 6⟩
/-- PROT_CHOFF (R392). -/
def R.PROT_CHOFF (b : Nat) : Nat := pageBase 0x0E + 0x64 + 8 * b
def F.PROT_CHOFF_OFF (b : Nat) : Field := ⟨R.PROT_CHOFF b, 0, 18⟩
def F.PROT_CHOFF_MINON (b : Nat) : Field := ⟨R.PROT_CHOFF b, 18, 10⟩
/-- PROT_DISCFG (R392). -/
def R.PROT_DISCFG : Nat := pageBase 0xe + 0x80
def F.PROT_DISCFG_PATH : Field := ⟨R.PROT_DISCFG, 0, 1⟩
def F.PROT_DISCFG_BRK : Field := ⟨R.PROT_DISCFG, 1, 4⟩
def F.PROT_DISCFG_SD : Field := ⟨R.PROT_DISCFG, 5, 6⟩
def F.PROT_DISCFG_TMAX : Field := ⟨R.PROT_DISCFG, 11, 16⟩
/-- PROT_DISTGT (R392). -/
def R.PROT_DISTGT : Nat := pageBase 0xe + 0x84
def F.PROT_DISTGT_TARGET : Field := ⟨R.PROT_DISTGT, 0, 25⟩
/-- PROT_DISCHK (R392). -/
def R.PROT_DISCHK : Nat := pageBase 0xe + 0x88
def F.PROT_DISCHK_RATIO : Field := ⟨R.PROT_DISCHK, 0, 8⟩
def F.PROT_DISCHK_STEP : Field := ⟨R.PROT_DISCHK, 8, 8⟩
/-- PROT_DISCMD (R392). -/
def R.PROT_DISCMD : Nat := pageBase 0xe + 0x8c
def F.PROT_DISCMD_CMD : Field := ⟨R.PROT_DISCMD, 0, 2⟩
/-- PROT_DISSTAT (R392). -/
def R.PROT_DISSTAT : Nat := pageBase 0xe + 0x90
def F.PROT_DISSTAT_STATE : Field := ⟨R.PROT_DISSTAT, 0, 3⟩
def F.PROT_DISSTAT_CODE : Field := ⟨R.PROT_DISSTAT, 8, 8⟩
def F.PROT_DISSTAT_ELAPSED : Field := ⟨R.PROT_DISSTAT, 16, 16⟩
/-- PROT_REQ (R392). -/
def R.PROT_REQ : Nat := pageBase 0xe + 0x94
def F.PROT_REQ_UNIT : Field := ⟨R.PROT_REQ, 0, 2⟩
def F.PROT_REQ_CLS : Field := ⟨R.PROT_REQ, 2, 2⟩
def F.PROT_REQ_USE_CLS : Field := ⟨R.PROT_REQ, 4, 1⟩
def F.PROT_REQ_GO : Field := ⟨R.PROT_REQ, 8, 1⟩
/-- PROT_EVENT (R392). -/
def R.PROT_EVENT : Nat := pageBase 0xe + 0x98
def F.PROT_EVENT_SAFE_ENTER : Field := ⟨R.PROT_EVENT, 0, 4⟩
def F.PROT_EVENT_DISCH_DONE : Field := ⟨R.PROT_EVENT, 4, 1⟩
def F.PROT_EVENT_DISCH_FAIL : Field := ⟨R.PROT_EVENT, 5, 1⟩
def F.PROT_EVENT_BRK_LATCH : Field := ⟨R.PROT_EVENT, 6, 1⟩
def F.PROT_EVENT_P2P : Field := ⟨R.PROT_EVENT, 7, 1⟩
def F.PROT_EVENT_HW_EXIT : Field := ⟨R.PROT_EVENT, 8, 1⟩
/-- PROT_UCFG (R393). -/
def R.PROT_UCFG (u : Nat) : Nat := protBase u + 0x0
def F.PROT_UCFG_FLTMODE (u : Nat) : Field := ⟨R.PROT_UCFG u, 0, 1⟩
def F.PROT_UCFG_BLANK (u : Nat) : Field := ⟨R.PROT_UCFG u, 1, 8⟩
def F.PROT_UCFG_HWEXIT (u : Nat) : Field := ⟨R.PROT_UCFG u, 9, 10⟩
/-- PROT_MATRIX (R393). -/
def R.PROT_MATRIX (u : Nat) : Nat := protBase u + 0x4
def F.PROT_MATRIX_CELLS (u : Nat) : Field := ⟨R.PROT_MATRIX u, 0, 24⟩
/-- PROT_SPD (R393). -/
def R.PROT_SPD (u : Nat) : Nat := protBase u + 0x8
def F.PROT_SPD_CLS (u : Nat) : Field := ⟨R.PROT_SPD u, 0, 2⟩
def F.PROT_SPD_VALID (u : Nat) : Field := ⟨R.PROT_SPD u, 2, 1⟩
/-- PROT_STATE (R393). -/
def R.PROT_STATE (u : Nat) : Nat := protBase u + 0xc
def F.PROT_STATE_PATTERN (u : Nat) : Field := ⟨R.PROT_STATE u, 0, 2⟩
def F.PROT_STATE_LOC (u : Nat) : Field := ⟨R.PROT_STATE u, 2, 2⟩
def F.PROT_STATE_CLS (u : Nat) : Field := ⟨R.PROT_STATE u, 4, 2⟩
def F.PROT_STATE_HELD (u : Nat) : Field := ⟨R.PROT_STATE u, 6, 1⟩
def F.PROT_STATE_READY (u : Nat) : Field := ⟨R.PROT_STATE u, 7, 1⟩
def F.PROT_STATE_CATCH (u : Nat) : Field := ⟨R.PROT_STATE u, 16, 16⟩
/-- PROT_FAULT (R393). -/
def R.PROT_FAULT (u : Nat) : Nat := protBase u + 0x10
def F.PROT_FAULT_FAULT (u : Nat) : Field := ⟨R.PROT_FAULT u, 0, 16⟩
/-- PROT_FIRST (R393). -/
def R.PROT_FIRST (u : Nat) : Nat := protBase u + 0x14
def F.PROT_FIRST_BIT (u : Nat) : Field := ⟨R.PROT_FIRST u, 0, 4⟩
def F.PROT_FIRST_LEG (u : Nat) : Field := ⟨R.PROT_FIRST u, 4, 5⟩
def F.PROT_FIRST_SIDE (u : Nat) : Field := ⟨R.PROT_FIRST u, 9, 1⟩
def F.PROT_FIRST_CATCH (u : Nat) : Field := ⟨R.PROT_FIRST u, 16, 16⟩
/-- PROT_PEND (R393). -/
def R.PROT_PEND (u : Nat) : Nat := protBase u + 0x18
def F.PROT_PEND_PEND (u : Nat) : Field := ⟨R.PROT_PEND u, 0, 18⟩
/-- PROT_PDROP (R393). -/
def R.PROT_PDROP (u : Nat) : Nat := protBase u + 0x1c
def F.PROT_PDROP_COUNT (u : Nat) : Field := ⟨R.PROT_PDROP u, 0, 32⟩
/-- PROT_CLR (R393). -/
def R.PROT_CLR (u : Nat) : Nat := protBase u + 0x20
def F.PROT_CLR_RELEASE (u : Nat) : Field := ⟨R.PROT_CLR u, 0, 1⟩
/-- DRVC_CFG (R394). -/
def R.DRVC_CFG : Nat := pageBase 0xf + 0x40
def F.DRVC_CFG_NDRV : Field := ⟨R.DRVC_CFG, 0, 6⟩
def F.DRVC_CFG_DIV : Field := ⟨R.DRVC_CFG, 6, 7⟩
def F.DRVC_CFG_RETRY : Field := ⟨R.DRVC_CFG, 13, 3⟩
def F.DRVC_CFG_DIAG_PER : Field := ⟨R.DRVC_CFG, 16, 8⟩
def F.DRVC_CFG_NIMG : Field := ⟨R.DRVC_CFG, 24, 4⟩
/-- DRVC_STAT (R394). -/
def R.DRVC_STAT : Nat := pageBase 0xf + 0x44
def F.DRVC_STAT_STATE : Field := ⟨R.DRVC_STAT, 0, 2⟩
/-- DRVC_LAST (R394). -/
def R.DRVC_LAST : Nat := pageBase 0xf + 0x4c
def F.DRVC_LAST_POS : Field := ⟨R.DRVC_LAST, 0, 6⟩
def F.DRVC_LAST_CODE : Field := ⟨R.DRVC_LAST, 8, 8⟩
def F.DRVC_LAST_CATCH : Field := ⟨R.DRVC_LAST, 16, 16⟩
/-- DRVC_EVENT (R394). -/
def R.DRVC_EVENT : Nat := pageBase 0xf + 0x50
def F.DRVC_EVENT_POS_LOST : Field := ⟨R.DRVC_EVENT, 0, 1⟩
def F.DRVC_EVENT_DRV_FAULT : Field := ⟨R.DRVC_EVENT, 1, 1⟩
def F.DRVC_EVENT_CFG_MISMATCH : Field := ⟨R.DRVC_EVENT, 2, 1⟩
def F.DRVC_EVENT_DRV_RESET : Field := ⟨R.DRVC_EVENT, 3, 1⟩
def F.DRVC_EVENT_ALERT : Field := ⟨R.DRVC_EVENT, 4, 1⟩
def F.DRVC_EVENT_ALERT_STUCK : Field := ⟨R.DRVC_EVENT, 5, 1⟩
def F.DRVC_EVENT_CHAIN_BROKEN : Field := ⟨R.DRVC_EVENT, 6, 1⟩
/-- DRVC_RETRIES (R394). -/
def R.DRVC_RETRIES : Nat := pageBase 0xf + 0x54
def F.DRVC_RETRIES_COUNT : Field := ⟨R.DRVC_RETRIES, 0, 32⟩
/-- DRVC_TXN (R394). -/
def R.DRVC_TXN : Nat := pageBase 0xf + 0x58
def F.DRVC_TXN_COUNT : Field := ⟨R.DRVC_TXN, 0, 32⟩
/-- DRVC_MAP (R394). -/
def R.DRVC_MAP (i : Nat) : Nat := pageBase 0x0F + 0x80 + 4 * i
def F.DRVC_MAP_SWITCH (i : Nat) : Field := ⟨R.DRVC_MAP i, 0, 5⟩
def F.DRVC_MAP_SIDE (i : Nat) : Field := ⟨R.DRVC_MAP i, 5, 1⟩
/-- DRVC_IMG (R394). -/
def R.DRVC_IMG (i : Nat) : Nat := pageBase 0x0F + 0x120 + 4 * i
def F.DRVC_IMG_REG (i : Nat) : Field := ⟨R.DRVC_IMG i, 0, 8⟩
def F.DRVC_IMG_DATA (i : Nat) : Field := ⟨R.DRVC_IMG i, 8, 16⟩
/-- DRVC_POS (R394). -/
def R.DRVC_POS (i : Nat) : Nat := pageBase 0x0F + 0x140 + 4 * i
def F.DRVC_POS_STATE (i : Nat) : Field := ⟨R.DRVC_POS i, 0, 32⟩
/-- DRVC_DSTAT (R394). -/
def R.DRVC_DSTAT (i : Nat) : Nat := pageBase 0x0F + 0x200 + 4 * i
def F.DRVC_DSTAT_STATUS (i : Nat) : Field := ⟨R.DRVC_DSTAT i, 0, 16⟩
def F.DRVC_DSTAT_SEQ (i : Nat) : Field := ⟨R.DRVC_DSTAT i, 16, 4⟩
def F.DRVC_DSTAT_FAILS (i : Nat) : Field := ⟨R.DRVC_DSTAT i, 24, 8⟩
/-- UMP_STATE (R417). -/
def R.UMP_STATE : Nat := pageBase 0x1e + 0x40
def F.UMP_STATE_HELD : Field := ⟨R.UMP_STATE, 0, 4⟩
def F.UMP_STATE_PATTERN : Field := ⟨R.UMP_STATE, 4, 8⟩
def F.UMP_STATE_GRANT : Field := ⟨R.UMP_STATE, 12, 4⟩
def F.UMP_STATE_CLS : Field := ⟨R.UMP_STATE, 16, 4⟩
def F.UMP_STATE_VSUP_OV_WARN : Field := ⟨R.UMP_STATE, 20, 1⟩
/-- UMP_FAULT (R417). -/
def R.UMP_FAULT : Nat := pageBase 0x1e + 0x44
def F.UMP_FAULT_FAULT : Field := ⟨R.UMP_FAULT, 0, 16⟩
/-- UMP_EVENT (R417). -/
def R.UMP_EVENT : Nat := pageBase 0x1e + 0x48
def F.UMP_EVENT_FAULT_SET : Field := ⟨R.UMP_EVENT, 0, 16⟩
def F.UMP_EVENT_REFUSED : Field := ⟨R.UMP_EVENT, 16, 1⟩
/-- UMP_REFUSE (R417). -/
def R.UMP_REFUSE : Nat := pageBase 0x1e + 0x4c
def F.UMP_REFUSE_CODE : Field := ⟨R.UMP_REFUSE, 0, 8⟩
def F.UMP_REFUSE_UNIT : Field := ⟨R.UMP_REFUSE, 8, 2⟩
/-- UMP_STO (R417). -/
def R.UMP_STO : Nat := pageBase 0x1e + 0x50
def F.UMP_STO_LEVEL : Field := ⟨R.UMP_STO, 0, 2⟩
def F.UMP_STO_DISC : Field := ⟨R.UMP_STO, 2, 1⟩
def F.UMP_STO_TESTED : Field := ⟨R.UMP_STO, 3, 1⟩
def F.UMP_STO_AUX_SCOPE : Field := ⟨R.UMP_STO, 4, 1⟩
def F.UMP_STO_DISC_T : Field := ⟨R.UMP_STO, 5, 8⟩
/-- UMP_CTRCMD (R417). -/
def R.UMP_CTRCMD : Nat := pageBase 0x1e + 0x54
def F.UMP_CTRCMD_CMD : Field := ⟨R.UMP_CTRCMD, 0, 3⟩
/-- UMP_CTRSTAT (R417). -/
def R.UMP_CTRSTAT : Nat := pageBase 0x1e + 0x58
def F.UMP_CTRSTAT_STATE : Field := ⟨R.UMP_CTRSTAT, 0, 3⟩
def F.UMP_CTRSTAT_STEP : Field := ⟨R.UMP_CTRSTAT, 3, 3⟩
def F.UMP_CTRSTAT_CMDED : Field := ⟨R.UMP_CTRSTAT, 6, 4⟩
def F.UMP_CTRSTAT_SENSED : Field := ⟨R.UMP_CTRSTAT, 10, 4⟩
def F.UMP_CTRSTAT_CODE : Field := ⟨R.UMP_CTRSTAT, 16, 8⟩
/-- UMP_CTRCFG (R417). -/
def R.UMP_CTRCFG : Nat := pageBase 0x1e + 0x5c
def F.UMP_CTRCFG_USE : Field := ⟨R.UMP_CTRCFG, 0, 4⟩
def F.UMP_CTRCFG_T_CLOSE : Field := ⟨R.UMP_CTRCFG, 4, 8⟩
def F.UMP_CTRCFG_T_OPEN : Field := ⟨R.UMP_CTRCFG, 12, 8⟩
def F.UMP_CTRCFG_T_DROP : Field := ⟨R.UMP_CTRCFG, 20, 8⟩
/-- UMP_PRE (R417). -/
def R.UMP_PRE : Nat := pageBase 0x1e + 0x60
def F.UMP_PRE_V_PRE : Field := ⟨R.UMP_PRE, 0, 10⟩
def F.UMP_PRE_V_LIVE : Field := ⟨R.UMP_PRE, 10, 10⟩
def F.UMP_PRE_T_PRE : Field := ⟨R.UMP_PRE, 20, 8⟩
/-- UMP_IBREAK (R417). -/
def R.UMP_IBREAK : Nat := pageBase 0x1e + 0x64
def F.UMP_IBREAK_I_BREAK : Field := ⟨R.UMP_IBREAK, 0, 16⟩
/-- UMP_LINK (R417). -/
def R.UMP_LINK : Nat := pageBase 0x1e + 0x68
def F.UMP_LINK_OC_HI : Field := ⟨R.UMP_LINK, 0, 6⟩
def F.UMP_LINK_OC_LO : Field := ⟨R.UMP_LINK, 6, 6⟩
def F.UMP_LINK_OV : Field := ⟨R.UMP_LINK, 12, 6⟩
def F.UMP_LINK_CH_ON : Field := ⟨R.UMP_LINK, 18, 6⟩
def F.UMP_LINK_CH_OFF : Field := ⟨R.UMP_LINK, 24, 6⟩
/-- UMP_LINKCFG (R417). -/
def R.UMP_LINKCFG : Nat := pageBase 0x1e + 0x6c
def F.UMP_LINKCFG_BRK : Field := ⟨R.UMP_LINKCFG, 0, 4⟩
def F.UMP_LINKCFG_UNITS : Field := ⟨R.UMP_LINKCFG, 4, 4⟩
/-- UMP_TEMP (R417). -/
def R.UMP_TEMP (k : Nat) : Nat := pageBase 0x1E + 0x70 + 4 * k
def F.UMP_TEMP_TH (k : Nat) : Field := ⟨R.UMP_TEMP k, 0, 10⟩
def F.UMP_TEMP_HYST (k : Nat) : Field := ⟨R.UMP_TEMP k, 10, 6⟩
def F.UMP_TEMP_POL (k : Nat) : Field := ⟨R.UMP_TEMP k, 16, 1⟩
def F.UMP_TEMP_UNITS (k : Nat) : Field := ⟨R.UMP_TEMP k, 17, 4⟩
/-- UMP_CLS (R417). -/
def R.UMP_CLS : Nat := pageBase 0x1e + 0x80
def F.UMP_CLS_K01 : Field := ⟨R.UMP_CLS, 0, 8⟩
def F.UMP_CLS_K12 : Field := ⟨R.UMP_CLS, 8, 8⟩
def F.UMP_CLS_AGE : Field := ⟨R.UMP_CLS, 16, 8⟩
/-- UMP_VSCALE (R417). -/
def R.UMP_VSCALE : Nat := pageBase 0x1e + 0x84
def F.UMP_VSCALE_V : Field := ⟨R.UMP_VSCALE, 0, 16⟩
/-- UMP_USCALE (R417). -/
def R.UMP_USCALE : Nat := pageBase 0x1e + 0x88
def F.UMP_USCALE_V : Field := ⟨R.UMP_USCALE, 0, 32⟩
/-- UMP_XCHK (R417). -/
def R.UMP_XCHK : Nat := pageBase 0x1e + 0x8c
def F.UMP_XCHK_ABS : Field := ⟨R.UMP_XCHK, 0, 8⟩
def F.UMP_XCHK_REL : Field := ⟨R.UMP_XCHK, 8, 8⟩
def F.UMP_XCHK_T : Field := ⟨R.UMP_XCHK, 16, 8⟩
/-- UMP_MATRIX (R417). -/
def R.UMP_MATRIX : Nat := pageBase 0x1e + 0x90
def F.UMP_MATRIX_A : Field := ⟨R.UMP_MATRIX, 0, 6⟩
def F.UMP_MATRIX_B : Field := ⟨R.UMP_MATRIX, 6, 6⟩
/-- UMP_HWDT (R417). -/
def R.UMP_HWDT : Nat := pageBase 0x1e + 0x94
def F.UMP_HWDT_HWDT : Field := ⟨R.UMP_HWDT, 0, 8⟩
/-- UMP_TQ (R417). -/
def R.UMP_TQ : Nat := pageBase 0x1e + 0x98
def F.UMP_TQ_ABS : Field := ⟨R.UMP_TQ, 0, 8⟩
def F.UMP_TQ_REL : Field := ⟨R.UMP_TQ, 8, 8⟩
def F.UMP_TQ_T : Field := ⟨R.UMP_TQ, 16, 8⟩
def F.UMP_TQ_ALIVE : Field := ⟨R.UMP_TQ, 24, 8⟩
/-- UMP_WDCFG (R417). -/
def R.UMP_WDCFG : Nat := pageBase 0x1e + 0x9c
def F.UMP_WDCFG_WMIN : Field := ⟨R.UMP_WDCFG, 0, 12⟩
def F.UMP_WDCFG_WMAX : Field := ⟨R.UMP_WDCFG, 12, 12⟩
/-- UMP_WDCH (R417). -/
def R.UMP_WDCH (k : Nat) : Nat := pageBase 0x1E + 0xa0 + 4 * k
def F.UMP_WDCH_CH (k : Nat) : Field := ⟨R.UMP_WDCH k, 0, 12⟩
/-- UMP_WDSVC (R417). -/
def R.UMP_WDSVC (k : Nat) : Nat := pageBase 0x1E + 0xa8 + 4 * k
def F.UMP_WDSVC_RESP (k : Nat) : Field := ⟨R.UMP_WDSVC k, 0, 12⟩
/-- UMP_RELEASE (R417). -/
def R.UMP_RELEASE : Nat := pageBase 0x1e + 0xb0
def F.UMP_RELEASE_UNIT : Field := ⟨R.UMP_RELEASE, 0, 2⟩
/-- UMP_CFGSTAT (R417). -/
def R.UMP_CFGSTAT : Nat := pageBase 0x1e + 0xb4
def F.UMP_CFGSTAT_ACCEPTED : Field := ⟨R.UMP_CFGSTAT, 0, 1⟩
def F.UMP_CFGSTAT_REJECT : Field := ⟨R.UMP_CFGSTAT, 1, 1⟩
def F.UMP_CFGSTAT_FIRST : Field := ⟨R.UMP_CFGSTAT, 8, 8⟩
/-- UMP_MEAS0 (R417). -/
def R.UMP_MEAS0 : Nat := pageBase 0x1e + 0xb8
def F.UMP_MEAS0_UAIN0 : Field := ⟨R.UMP_MEAS0, 0, 10⟩
def F.UMP_MEAS0_UAIN1 : Field := ⟨R.UMP_MEAS0, 16, 10⟩
/-- UMP_MEAS1 (R417). -/
def R.UMP_MEAS1 : Nat := pageBase 0x1e + 0xbc
def F.UMP_MEAS1_UAIN2 : Field := ⟨R.UMP_MEAS1, 0, 10⟩
def F.UMP_MEAS1_UAIN3 : Field := ⟨R.UMP_MEAS1, 16, 10⟩
/-- UMP_USD (R417). -/
def R.UMP_USD : Nat := pageBase 0x1e + 0xc0
def F.UMP_USD_USD0 : Field := ⟨R.UMP_USD, 0, 16⟩
def F.UMP_USD_USD1 : Field := ⟨R.UMP_USD, 16, 16⟩
/-- UMP_CKCFG (R417). -/
def R.UMP_CKCFG (k : Nat) : Nat := pageBase 0x1E + 0x100 + 4 * k
def F.UMP_CKCFG_UNIT (k : Nat) : Field := ⟨R.UMP_CKCFG k, 0, 3⟩
def F.UMP_CKCFG_LIM (k : Nat) : Field := ⟨R.UMP_CKCFG k, 3, 4⟩
def F.UMP_CKCFG_TMO (k : Nat) : Field := ⟨R.UMP_CKCFG k, 8, 8⟩
/-- UMP_CKCNT (R417). -/
def R.UMP_CKCNT (k : Nat) : Nat := pageBase 0x1E + 0x180 + 4 * k
def F.UMP_CKCNT_COUNT (k : Nat) : Field := ⟨R.UMP_CKCNT k, 0, 8⟩
/-- LSTP_STATUS (R431). -/
def R.LSTP_STATUS : Nat := pageBase 0x1c + 0x40
def F.LSTP_STATUS_CMP_EN0 : Field := ⟨R.LSTP_STATUS, 0, 1⟩
def F.LSTP_STATUS_CMP_EN1 : Field := ⟨R.LSTP_STATUS, 1, 1⟩
def F.LSTP_STATUS_CTEST_OK0 : Field := ⟨R.LSTP_STATUS, 2, 1⟩
def F.LSTP_STATUS_CTEST_OK1 : Field := ⟨R.LSTP_STATUS, 3, 1⟩
def F.LSTP_STATUS_LOCKSTEP_BROKEN : Field := ⟨R.LSTP_STATUS, 4, 1⟩
def F.LSTP_STATUS_BROKEN0 : Field := ⟨R.LSTP_STATUS, 5, 1⟩
def F.LSTP_STATUS_BROKEN1 : Field := ⟨R.LSTP_STATUS, 6, 1⟩
/-- LSTP_LAST (R431). -/
def R.LSTP_LAST : Nat := pageBase 0x1c + 0x44
def F.LSTP_LAST_PAIR : Field := ⟨R.LSTP_LAST, 0, 1⟩
def F.LSTP_LAST_GROUP : Field := ⟨R.LSTP_LAST, 4, 4⟩
def F.LSTP_LAST_RESETS : Field := ⟨R.LSTP_LAST, 8, 8⟩
/-- LSTP_DBG (R431). -/
def R.LSTP_DBG : Nat := pageBase 0x1c + 0x48
def F.LSTP_DBG_WD_HOLD : Field := ⟨R.LSTP_DBG, 0, 1⟩
def F.LSTP_DBG_PAIR : Field := ⟨R.LSTP_DBG, 1, 1⟩
def F.LSTP_DBG_HOLD_REFUSED : Field := ⟨R.LSTP_DBG, 2, 1⟩
/-- LSTP_EVENT (R431). -/
def R.LSTP_EVENT : Nat := pageBase 0x1c + 0x4c
def F.LSTP_EVENT_ATTACH : Field := ⟨R.LSTP_EVENT, 0, 1⟩
def F.LSTP_EVENT_HOLD_END : Field := ⟨R.LSTP_EVENT, 1, 1⟩
/-- MBOX_FW (R439). -/
def R.MBOX_FW : Nat := pageBase 0x1d + 0x40
def F.MBOX_FW_MINOR : Field := ⟨R.MBOX_FW, 0, 16⟩
def F.MBOX_FW_MAJOR : Field := ⟨R.MBOX_FW, 16, 16⟩
/-- MBOX_EVENT (R439). -/
def R.MBOX_EVENT : Nat := pageBase 0x1d + 0x44
def F.MBOX_EVENT_DONE : Field := ⟨R.MBOX_EVENT, 0, 4⟩
def F.MBOX_EVENT_QUEUED : Field := ⟨R.MBOX_EVENT, 4, 4⟩
/-- MB_REQ (R439). -/
def R.MB_REQ (c : Nat) : Nat := pageBase 0x1D + 0x100 + 0x40 * c
def F.MB_REQ_SERVICE (c : Nat) : Field := ⟨R.MB_REQ c, 0, 8⟩
def F.MB_REQ_SEQ (c : Nat) : Field := ⟨R.MB_REQ c, 8, 8⟩
/-- MB_ARG (R439). -/
def R.MB_ARG (c k : Nat) : Nat := pageBase 0x1D + 0x104 + 0x40 * c + 4 * k
def F.MB_ARG_ARG (c k : Nat) : Field := ⟨R.MB_ARG c k, 0, 32⟩
/-- MB_STATE (R439). -/
def R.MB_STATE (c : Nat) : Nat := pageBase 0x1D + 0x114 + 0x40 * c
def F.MB_STATE_STATE (c : Nat) : Field := ⟨R.MB_STATE c, 0, 3⟩
def F.MB_STATE_DUP (c : Nat) : Field := ⟨R.MB_STATE c, 3, 1⟩
def F.MB_STATE_SEQ (c : Nat) : Field := ⟨R.MB_STATE c, 8, 8⟩
def F.MB_STATE_CODE (c : Nat) : Field := ⟨R.MB_STATE c, 16, 8⟩
def F.MB_STATE_SERVICE (c : Nat) : Field := ⟨R.MB_STATE c, 24, 8⟩
/-- MB_RES (R439). -/
def R.MB_RES (c k : Nat) : Nat := pageBase 0x1D + 0x118 + 0x40 * c + 4 * k
def F.MB_RES_RES (c k : Nat) : Field := ⟨R.MB_RES c k, 0, 32⟩
/-- THRM_STATUS (R449). -/
def R.THRM_STATUS : Nat := pageBase 0x14 + 0x40
def F.THRM_STATUS_WARN : Field := ⟨R.THRM_STATUS, 0, 1⟩
def F.THRM_STATUS_THROTTLE : Field := ⟨R.THRM_STATUS, 1, 1⟩
def F.THRM_STATUS_SHUTDOWN : Field := ⟨R.THRM_STATUS, 2, 1⟩
def F.THRM_STATUS_BAND_VALID : Field := ⟨R.THRM_STATUS, 3, 1⟩
def F.THRM_STATUS_BAND : Field := ⟨R.THRM_STATUS, 4, 3⟩
def F.THRM_STATUS_DIE_SENSE : Field := ⟨R.THRM_STATUS, 7, 1⟩
/-- THRM_DIE (R449). -/
def R.THRM_DIE : Nat := pageBase 0x14 + 0x44
def F.THRM_DIE_TCD : Field := ⟨R.THRM_DIE, 0, 16⟩
def F.THRM_DIE_TSD : Field := ⟨R.THRM_DIE, 16, 16⟩
/-- THRM_MOD (R449). -/
def R.THRM_MOD : Nat := pageBase 0x14 + 0x48
def F.THRM_MOD_TM : Field := ⟨R.THRM_MOD, 0, 16⟩
def F.THRM_MOD_GOOD : Field := ⟨R.THRM_MOD, 16, 6⟩
/-- THRM_DERATE (R449). -/
def R.THRM_DERATE : Nat := pageBase 0x14 + 0x4c
def F.THRM_DERATE_KTH : Field := ⟨R.THRM_DERATE, 0, 9⟩
/-- THRM_CFG (R449). -/
def R.THRM_CFG : Nat := pageBase 0x14 + 0x50
def F.THRM_CFG_DSLOPE : Field := ⟨R.THRM_CFG, 0, 8⟩
def F.THRM_CFG_KMIN : Field := ⟨R.THRM_CFG, 8, 8⟩
def F.THRM_CFG_SD_GRACE : Field := ⟨R.THRM_CFG, 16, 8⟩
def F.THRM_CFG_NTC_AGE : Field := ⟨R.THRM_CFG, 24, 8⟩
/-- THRM_EVENT (R449). -/
def R.THRM_EVENT : Nat := pageBase 0x14 + 0x54
def F.THRM_EVENT_WARN : Field := ⟨R.THRM_EVENT, 0, 1⟩
def F.THRM_EVENT_THROTTLE : Field := ⟨R.THRM_EVENT, 1, 1⟩
def F.THRM_EVENT_SHUTDOWN : Field := ⟨R.THRM_EVENT, 2, 1⟩
def F.THRM_EVENT_BAND_CHANGE : Field := ⟨R.THRM_EVENT, 3, 1⟩
def F.THRM_EVENT_NTC_FAULT : Field := ⟨R.THRM_EVENT, 4, 1⟩
def F.THRM_EVENT_SENS_FAULT : Field := ⟨R.THRM_EVENT, 5, 1⟩
def F.THRM_EVENT_SD_HARD : Field := ⟨R.THRM_EVENT, 6, 1⟩
/-- THRM_LAST (R449). -/
def R.THRM_LAST : Nat := pageBase 0x14 + 0x58
def F.THRM_LAST_CODE : Field := ⟨R.THRM_LAST, 0, 8⟩
def F.THRM_LAST_CATCH : Field := ⟨R.THRM_LAST, 16, 16⟩
/-- THRM_EDGE (R449). -/
def R.THRM_EDGE (i : Nat) : Nat := pageBase 0x14 + 0x60 + 4 * i
def F.THRM_EDGE_E (i : Nat) : Field := ⟨R.THRM_EDGE i, 0, 16⟩
/-- THRM_NTC (R449). -/
def R.THRM_NTC (i : Nat) : Nat := pageBase 0x14 + 0x80 + 4 * i
def F.THRM_NTC_ENTRY (i : Nat) : Field := ⟨R.THRM_NTC i, 0, 5⟩
def F.THRM_NTC_CURVE (i : Nat) : Field := ⟨R.THRM_NTC i, 5, 1⟩
def F.THRM_NTC_BAND (i : Nat) : Field := ⟨R.THRM_NTC i, 6, 1⟩
def F.THRM_NTC_EN (i : Nat) : Field := ⟨R.THRM_NTC i, 7, 1⟩
def F.THRM_NTC_CODE_LO (i : Nat) : Field := ⟨R.THRM_NTC i, 8, 12⟩
def F.THRM_NTC_CODE_HI (i : Nat) : Field := ⟨R.THRM_NTC i, 20, 12⟩
/-- THRM_NTCT (R449). -/
def R.THRM_NTCT (i : Nat) : Nat := pageBase 0x14 + 0xa0 + 4 * i
def F.THRM_NTCT_T (i : Nat) : Field := ⟨R.THRM_NTCT i, 0, 16⟩
def F.THRM_NTCT_VALID (i : Nat) : Field := ⟨R.THRM_NTCT i, 16, 1⟩
def F.THRM_NTCT_FAULT (i : Nat) : Field := ⟨R.THRM_NTCT i, 17, 1⟩
/-- THRM_CURVE (R449). -/
def R.THRM_CURVE (c i : Nat) : Nat := pageBase 0x14 + 0x100 + 0x80 * c + 4 * i
def F.THRM_CURVE_T (c i : Nat) : Field := ⟨R.THRM_CURVE c i, 0, 16⟩
/-- THRM_RO (R449). -/
def R.THRM_RO (i : Nat) : Nat := pageBase 0x14 + 0x200 + 4 * i
def F.THRM_RO_T (i : Nat) : Field := ⟨R.THRM_RO i, 0, 16⟩
def F.THRM_RO_EXCL (i : Nat) : Field := ⟨R.THRM_RO i, 16, 1⟩
/-- CONV_CFG (R474). -/
def R.CONV_CFG (p : Nat) : Nat := pageBase p + 0x40
def F.CONV_CFG_INTF_EN (p : Nat) : Field := ⟨R.CONV_CFG p, 0, 1⟩
def F.CONV_CFG_ORDER (p : Nat) : Field := ⟨R.CONV_CFG p, 1, 1⟩
def F.CONV_CFG_EVT_EN (p : Nat) : Field := ⟨R.CONV_CFG p, 2, 1⟩
/-- HB_CFG (R474). -/
def R.HB_CFG (p : Nat) : Nat := pageBase p + 0x44
def F.HB_CFG_HB_EN (p : Nat) : Field := ⟨R.HB_CFG p, 0, 1⟩
def F.HB_CFG_TMO (p : Nat) : Field := ⟨R.HB_CFG p, 1, 10⟩
/-- CONV_STAT (R474). -/
def R.CONV_STAT (p : Nat) : Nat := pageBase p + 0x48
def F.CONV_STAT_OPEN (p : Nat) : Field := ⟨R.CONV_STAT p, 0, 1⟩
def F.CONV_STAT_HB_ALIVE (p : Nat) : Field := ⟨R.CONV_STAT p, 1, 1⟩
def F.CONV_STAT_NEXT_TAG (p : Nat) : Field := ⟨R.CONV_STAT p, 8, 7⟩
def F.CONV_STAT_BUSY (p : Nat) : Field := ⟨R.CONV_STAT p, 16, 8⟩
def F.CONV_STAT_EVT_PEND (p : Nat) : Field := ⟨R.CONV_STAT p, 24, 8⟩
/-- CONV_EVENT (R474). -/
def R.CONV_EVENT (p : Nat) : Nat := pageBase p + 0x4c
def F.CONV_EVENT_FRAME_ERR (p : Nat) : Field := ⟨R.CONV_EVENT p, 0, 1⟩
def F.CONV_EVENT_BAD_REQ (p : Nat) : Field := ⟨R.CONV_EVENT p, 1, 1⟩
def F.CONV_EVENT_DUP (p : Nat) : Field := ⟨R.CONV_EVENT p, 2, 1⟩
def F.CONV_EVENT_ORDER (p : Nat) : Field := ⟨R.CONV_EVENT p, 3, 1⟩
def F.CONV_EVENT_HB_LOST (p : Nat) : Field := ⟨R.CONV_EVENT p, 4, 1⟩
def F.CONV_EVENT_EVT_OVF (p : Nat) : Field := ⟨R.CONV_EVENT p, 5, 1⟩
def F.CONV_EVENT_SEG_ERR (p : Nat) : Field := ⟨R.CONV_EVENT p, 6, 1⟩
def F.CONV_EVENT_BUS_OFF (p : Nat) : Field := ⟨R.CONV_EVENT p, 7, 1⟩
def F.CONV_EVENT_FULL (p : Nat) : Field := ⟨R.CONV_EVENT p, 8, 1⟩
/-- CONV_CNT0 (R474). -/
def R.CONV_CNT0 (p : Nat) : Nat := pageBase p + 0x50
def F.CONV_CNT0_FRAMES (p : Nat) : Field := ⟨R.CONV_CNT0 p, 0, 16⟩
def F.CONV_CNT0_FRAME_ERRS (p : Nat) : Field := ⟨R.CONV_CNT0 p, 16, 16⟩
/-- CONV_CNT1 (R474). -/
def R.CONV_CNT1 (p : Nat) : Nat := pageBase p + 0x54
def F.CONV_CNT1_DUPS (p : Nat) : Field := ⟨R.CONV_CNT1 p, 0, 16⟩
def F.CONV_CNT1_ORDER_ERRS (p : Nat) : Field := ⟨R.CONV_CNT1 p, 16, 16⟩
/-- CONV_LAST (R474). -/
def R.CONV_LAST (p : Nat) : Nat := pageBase p + 0x58
def F.CONV_LAST_STATUS (p : Nat) : Field := ⟨R.CONV_LAST p, 0, 8⟩
def F.CONV_LAST_TAG (p : Nat) : Field := ⟨R.CONV_LAST p, 8, 7⟩
def F.CONV_LAST_CATCH (p : Nat) : Field := ⟨R.CONV_LAST p, 16, 16⟩
/-- HB_LAST (R474). -/
def R.HB_LAST (p : Nat) : Nat := pageBase p + 0x5c
def F.HB_LAST_COUNTER (p : Nat) : Field := ⟨R.HB_LAST p, 0, 32⟩
/-- HB_JUMP (R474). -/
def R.HB_JUMP (p : Nat) : Nat := pageBase p + 0x60
def F.HB_JUMP_COUNT (p : Nat) : Field := ⟨R.HB_JUMP p, 0, 16⟩
/-- CAN_CTRL (R476). -/
def R.CAN_CTRL (p : Nat) : Nat := pageBase p + 0x80
def F.CAN_CTRL_FD_EN (p : Nat) : Field := ⟨R.CAN_CTRL p, 0, 1⟩
def F.CAN_CTRL_XL_EN (p : Nat) : Field := ⟨R.CAN_CTRL p, 1, 1⟩
def F.CAN_CTRL_EXT_ID (p : Nat) : Field := ⟨R.CAN_CTRL p, 2, 1⟩
def F.CAN_CTRL_AUTO_RECOV (p : Nat) : Field := ⟨R.CAN_CTRL p, 3, 1⟩
def F.CAN_CTRL_RECOVER (p : Nat) : Field := ⟨R.CAN_CTRL p, 8, 1⟩
/-- CAN_NBT (R476). -/
def R.CAN_NBT (p : Nat) : Nat := pageBase p + 0x84
def F.CAN_NBT_BRP (p : Nat) : Field := ⟨R.CAN_NBT p, 0, 8⟩
def F.CAN_NBT_TSEG1 (p : Nat) : Field := ⟨R.CAN_NBT p, 8, 8⟩
def F.CAN_NBT_TSEG2 (p : Nat) : Field := ⟨R.CAN_NBT p, 16, 7⟩
def F.CAN_NBT_SJW (p : Nat) : Field := ⟨R.CAN_NBT p, 24, 7⟩
/-- CAN_DBT (R476). -/
def R.CAN_DBT (p : Nat) : Nat := pageBase p + 0x88
def F.CAN_DBT_BRP (p : Nat) : Field := ⟨R.CAN_DBT p, 0, 5⟩
def F.CAN_DBT_TSEG1 (p : Nat) : Field := ⟨R.CAN_DBT p, 5, 8⟩
def F.CAN_DBT_TSEG2 (p : Nat) : Field := ⟨R.CAN_DBT p, 13, 7⟩
def F.CAN_DBT_SJW (p : Nat) : Field := ⟨R.CAN_DBT p, 20, 7⟩
/-- CAN_XBT (R476). -/
def R.CAN_XBT (p : Nat) : Nat := pageBase p + 0x8c
def F.CAN_XBT_XBT (p : Nat) : Field := ⟨R.CAN_XBT p, 0, 32⟩
/-- CAN_TDC (R476). -/
def R.CAN_TDC (p : Nat) : Nat := pageBase p + 0x90
def F.CAN_TDC_DTDCO (p : Nat) : Field := ⟨R.CAN_TDC p, 0, 8⟩
def F.CAN_TDC_XTDCO (p : Nat) : Field := ⟨R.CAN_TDC p, 8, 8⟩
/-- CAN_ID_RX (R476). -/
def R.CAN_ID_RX (p : Nat) : Nat := pageBase p + 0x94
def F.CAN_ID_RX_ID (p : Nat) : Field := ⟨R.CAN_ID_RX p, 0, 29⟩
/-- CAN_ID_TX (R476). -/
def R.CAN_ID_TX (p : Nat) : Nat := pageBase p + 0x98
def F.CAN_ID_TX_ID (p : Nat) : Field := ⟨R.CAN_ID_TX p, 0, 29⟩
/-- CAN_ID_EVT (R476). -/
def R.CAN_ID_EVT (p : Nat) : Nat := pageBase p + 0x9c
def F.CAN_ID_EVT_ID (p : Nat) : Field := ⟨R.CAN_ID_EVT p, 0, 29⟩
/-- CAN_XL (R476). -/
def R.CAN_XL (p : Nat) : Nat := pageBase p + 0xa0
def F.CAN_XL_SDT (p : Nat) : Field := ⟨R.CAN_XL p, 0, 8⟩
def F.CAN_XL_VCID (p : Nat) : Field := ⟨R.CAN_XL p, 8, 8⟩
def F.CAN_XL_VCID_EN (p : Nat) : Field := ⟨R.CAN_XL p, 16, 1⟩
def F.CAN_XL_EVT_FMT (p : Nat) : Field := ⟨R.CAN_XL p, 17, 2⟩
/-- CAN_ERR (R476). -/
def R.CAN_ERR (p : Nat) : Nat := pageBase p + 0xa4
def F.CAN_ERR_TEC (p : Nat) : Field := ⟨R.CAN_ERR p, 0, 8⟩
def F.CAN_ERR_REC (p : Nat) : Field := ⟨R.CAN_ERR p, 8, 8⟩
def F.CAN_ERR_STATE (p : Nat) : Field := ⟨R.CAN_ERR p, 16, 2⟩
def F.CAN_ERR_LEC (p : Nat) : Field := ⟨R.CAN_ERR p, 24, 3⟩
/-- CAN_SEG (R476). -/
def R.CAN_SEG (p : Nat) : Nat := pageBase p + 0xa8
def F.CAN_SEG_SEG_LOST (p : Nat) : Field := ⟨R.CAN_SEG p, 0, 16⟩
def F.CAN_SEG_SEG_TMO (p : Nat) : Field := ⟨R.CAN_SEG p, 16, 16⟩
/-- LINK_STAT (R508). -/
def R.LINK_STAT (r : Nat) : Nat := pageBase 0x18 + 0x40 + 4 * r
def F.LINK_STAT_RX_UP (r : Nat) : Field := ⟨R.LINK_STAT r, 0, 1⟩
def F.LINK_STAT_CHAR_LOCK (r : Nat) : Field := ⟨R.LINK_STAT r, 1, 1⟩
def F.LINK_STAT_SRCOK (r : Nat) : Field := ⟨R.LINK_STAT r, 2, 1⟩
def F.LINK_STAT_TX_ACTIVE (r : Nat) : Field := ⟨R.LINK_STAT r, 3, 1⟩
def F.LINK_STAT_CODE_ERR (r : Nat) : Field := ⟨R.LINK_STAT r, 8, 8⟩
def F.LINK_STAT_CRC_ERR (r : Nat) : Field := ⟨R.LINK_STAT r, 16, 16⟩
/-- LINK_RES (R508). -/
def R.LINK_RES : Nat := pageBase 0x18 + 0x48
def F.LINK_RES_RES : Field := ⟨R.LINK_RES, 0, 9⟩
/-- LINK_LOOP (R508). -/
def R.LINK_LOOP : Nat := pageBase 0x18 + 0x4c
def F.LINK_LOOP_L0 : Field := ⟨R.LINK_LOOP, 0, 16⟩
def F.LINK_LOOP_L1 : Field := ⟨R.LINK_LOOP, 16, 16⟩
/-- LINK_TXN (R508). -/
def R.LINK_TXN : Nat := pageBase 0x18 + 0x50
def F.LINK_TXN_OUT : Field := ⟨R.LINK_TXN, 0, 8⟩
def F.LINK_TXN_RETRIES : Field := ⟨R.LINK_TXN, 8, 16⟩
def F.LINK_TXN_FAILS : Field := ⟨R.LINK_TXN, 24, 8⟩
/-- LINK_EVENT (R508). -/
def R.LINK_EVENT : Nat := pageBase 0x18 + 0x54
def F.LINK_EVENT_LANE_DOWN0 : Field := ⟨R.LINK_EVENT, 0, 1⟩
def F.LINK_EVENT_LANE_DOWN1 : Field := ⟨R.LINK_EVENT, 1, 1⟩
def F.LINK_EVENT_CRC : Field := ⟨R.LINK_EVENT, 2, 1⟩
def F.LINK_EVENT_TXN_FAIL : Field := ⟨R.LINK_EVENT, 3, 1⟩
/-- CASC_CFG (R509). -/
def R.CASC_CFG : Nat := pageBase 0x19 + 0x40
def F.CASC_CFG_DEVICES : Field := ⟨R.CASC_CFG, 0, 4⟩
/-- CASC_STATE (R509). -/
def R.CASC_STATE : Nat := pageBase 0x19 + 0x44
def F.CASC_STATE_ROLE : Field := ⟨R.CASC_STATE, 0, 2⟩
def F.CASC_STATE_POS : Field := ⟨R.CASC_STATE, 2, 3⟩
def F.CASC_STATE_SEEN : Field := ⟨R.CASC_STATE, 5, 4⟩
def F.CASC_STATE_STEP : Field := ⟨R.CASC_STATE, 9, 4⟩
def F.CASC_STATE_READY : Field := ⟨R.CASC_STATE, 13, 1⟩
def F.CASC_STATE_DEGRADED : Field := ⟨R.CASC_STATE, 14, 1⟩
def F.CASC_STATE_ALIGNED : Field := ⟨R.CASC_STATE, 15, 1⟩
def F.CASC_STATE_BREAK : Field := ⟨R.CASC_STATE, 16, 3⟩
/-- CASC_START (R509). -/
def R.CASC_START : Nat := pageBase 0x19 + 0x48
def F.CASC_START_CODE : Field := ⟨R.CASC_START, 0, 8⟩
def F.CASC_START_STEP : Field := ⟨R.CASC_START, 8, 4⟩
def F.CASC_START_POS : Field := ⟨R.CASC_START, 12, 3⟩
def F.CASC_START_DETAIL : Field := ⟨R.CASC_START, 16, 16⟩
/-- CASC_MEMBERS (R509). -/
def R.CASC_MEMBERS : Nat := pageBase 0x19 + 0x4c
def F.CASC_MEMBERS_ALIVE : Field := ⟨R.CASC_MEMBERS, 0, 8⟩
def F.CASC_MEMBERS_LOST : Field := ⟨R.CASC_MEMBERS, 8, 8⟩
def F.CASC_MEMBERS_ATTESTED : Field := ⟨R.CASC_MEMBERS, 16, 8⟩
/-- CASC_ALIGN (R509). -/
def R.CASC_ALIGN : Nat := pageBase 0x19 + 0x50
def F.CASC_ALIGN_ERR : Field := ⟨R.CASC_ALIGN, 0, 16⟩
def F.CASC_ALIGN_MSRC : Field := ⟨R.CASC_ALIGN, 16, 1⟩
/-- CASC_DELAY (R509). -/
def R.CASC_DELAY : Nat := pageBase 0x19 + 0x54
def F.CASC_DELAY_D0 : Field := ⟨R.CASC_DELAY, 0, 16⟩
def F.CASC_DELAY_D1 : Field := ⟨R.CASC_DELAY, 16, 16⟩
/-- CASC_MODE (R509). -/
def R.CASC_MODE : Nat := pageBase 0x19 + 0x58
def F.CASC_MODE_STATE : Field := ⟨R.CASC_MODE, 0, 4⟩
def F.CASC_MODE_CODE : Field := ⟨R.CASC_MODE, 8, 8⟩
def F.CASC_MODE_POS : Field := ⟨R.CASC_MODE, 16, 3⟩
/-- CASC_MODE_N (R509). -/
def R.CASC_MODE_N : Nat := pageBase 0x19 + 0x5c
def F.CASC_MODE_N_N : Field := ⟨R.CASC_MODE_N, 0, 32⟩
/-- CASC_XFER (R509). -/
def R.CASC_XFER : Nat := pageBase 0x19 + 0x60
def F.CASC_XFER_POS : Field := ⟨R.CASC_XFER, 0, 3⟩
def F.CASC_XFER_LEN : Field := ⟨R.CASC_XFER, 3, 18⟩
/-- CASC_XSTAT (R509). -/
def R.CASC_XSTAT : Nat := pageBase 0x19 + 0x64
def F.CASC_XSTAT_STATE : Field := ⟨R.CASC_XSTAT, 0, 2⟩
def F.CASC_XSTAT_CODE : Field := ⟨R.CASC_XSTAT, 8, 8⟩
def F.CASC_XSTAT_POS : Field := ⟨R.CASC_XSTAT, 16, 3⟩
/-- CASC_CMD (R509). -/
def R.CASC_CMD : Nat := pageBase 0x19 + 0x68
def F.CASC_CMD_RESTART : Field := ⟨R.CASC_CMD, 0, 1⟩
/-- CASC_EVENT (R509). -/
def R.CASC_EVENT : Nat := pageBase 0x19 + 0x6c
def F.CASC_EVENT_START_DONE : Field := ⟨R.CASC_EVENT, 0, 1⟩
def F.CASC_EVENT_START_FAIL : Field := ⟨R.CASC_EVENT, 1, 1⟩
def F.CASC_EVENT_RING_BREAK : Field := ⟨R.CASC_EVENT, 2, 1⟩
def F.CASC_EVENT_MEMBER_LOST : Field := ⟨R.CASC_EVENT, 3, 1⟩
def F.CASC_EVENT_SSN_RX : Field := ⟨R.CASC_EVENT, 4, 1⟩
def F.CASC_EVENT_MODE_DONE : Field := ⟨R.CASC_EVENT, 5, 1⟩
def F.CASC_EVENT_MODE_FAIL : Field := ⟨R.CASC_EVENT, 6, 1⟩
def F.CASC_EVENT_CATCH_SLIP : Field := ⟨R.CASC_EVENT, 7, 1⟩
def F.CASC_EVENT_ALIGN_LOST : Field := ⟨R.CASC_EVENT, 8, 1⟩
def F.CASC_EVENT_XFER_DONE : Field := ⟨R.CASC_EVENT, 9, 1⟩
/-- CASC_SSN (R509). -/
def R.CASC_SSN : Nat := pageBase 0x19 + 0x70
def F.CASC_SSN_POS : Field := ⟨R.CASC_SSN, 0, 3⟩
def F.CASC_SSN_REASON : Field := ⟨R.CASC_SSN, 8, 8⟩
def F.CASC_SSN_CATCH : Field := ⟨R.CASC_SSN, 16, 16⟩
/-- CASC_ID (R509). -/
def R.CASC_ID (p : Nat) : Nat := pageBase 0x19 + 0x80 + 4 * p
def F.CASC_ID_ID (p : Nat) : Field := ⟨R.CASC_ID p, 0, 32⟩
/-- SEC_LC (R526). -/
def R.SEC_LC : Nat := pageBase 0x1a + 0x40
def F.SEC_LC_STATE : Field := ⟨R.SEC_LC, 0, 2⟩
def F.SEC_LC_SEED_OK : Field := ⟨R.SEC_LC, 2, 1⟩
def F.SEC_LC_KEYS_VALID : Field := ⟨R.SEC_LC, 3, 1⟩
def F.SEC_LC_WIPED : Field := ⟨R.SEC_LC, 4, 1⟩
/-- SEC_BOOT (R526). -/
def R.SEC_BOOT : Nat := pageBase 0x1a + 0x44
def F.SEC_BOOT_CODE : Field := ⟨R.SEC_BOOT, 0, 8⟩
def F.SEC_BOOT_SLOT : Field := ⟨R.SEC_BOOT, 8, 1⟩
def F.SEC_BOOT_CFG_UMP_OK : Field := ⟨R.SEC_BOOT, 9, 1⟩
def F.SEC_BOOT_CFG_IF_OK : Field := ⟨R.SEC_BOOT, 10, 1⟩
def F.SEC_BOOT_ALT_CODE : Field := ⟨R.SEC_BOOT, 16, 8⟩
def F.SEC_BOOT_MS : Field := ⟨R.SEC_BOOT, 24, 8⟩
/-- SEC_SVN (R526). -/
def R.SEC_SVN : Nat := pageBase 0x1a + 0x48
def F.SEC_SVN_FW_SVN : Field := ⟨R.SEC_SVN, 0, 6⟩
def F.SEC_SVN_FW_MIN : Field := ⟨R.SEC_SVN, 8, 6⟩
/-- SEC_SLOT (R526). -/
def R.SEC_SLOT : Nat := pageBase 0x1a + 0x4c
def F.SEC_SLOT_STATE : Field := ⟨R.SEC_SLOT, 0, 4⟩
/-- SEC_PMIN (R526). -/
def R.SEC_PMIN (k : Nat) : Nat := pageBase 0x1A + 0x50 + 4 * k
def F.SEC_PMIN_MIN (k : Nat) : Field := ⟨R.SEC_PMIN k, 0, 8⟩
/-- SEC_EVENT (R526). -/
def R.SEC_EVENT : Nat := pageBase 0x1a + 0x58
def F.SEC_EVENT_DEBUG_REFUSED : Field := ⟨R.SEC_EVENT, 0, 1⟩
def F.SEC_EVENT_TESTEN : Field := ⟨R.SEC_EVENT, 1, 1⟩
def F.SEC_EVENT_WIPE_DONE : Field := ⟨R.SEC_EVENT, 2, 1⟩
def F.SEC_EVENT_WIPE_FAIL : Field := ⟨R.SEC_EVENT, 3, 1⟩
def F.SEC_EVENT_FUSE_DONE : Field := ⟨R.SEC_EVENT, 4, 1⟩
def F.SEC_EVENT_FUSE_FAIL : Field := ⟨R.SEC_EVENT, 5, 1⟩
/-- SEC_FCMD (R526). -/
def R.SEC_FCMD : Nat := pageBase 0x1a + 0x5c
def F.SEC_FCMD_GO : Field := ⟨R.SEC_FCMD, 0, 1⟩
/-- SEC_FSTAT (R526). -/
def R.SEC_FSTAT : Nat := pageBase 0x1a + 0x60
def F.SEC_FSTAT_STATE : Field := ⟨R.SEC_FSTAT, 0, 2⟩
def F.SEC_FSTAT_CODE : Field := ⟨R.SEC_FSTAT, 8, 8⟩
/-- SEC_BOOTCFG (R526). -/
def R.SEC_BOOTCFG : Nat := pageBase 0x1a + 0x64
def F.SEC_BOOTCFG_AUTO_PLAN : Field := ⟨R.SEC_BOOTCFG, 0, 2⟩
/-- SEC_SERIAL (R526). -/
def R.SEC_SERIAL (k : Nat) : Nat := pageBase 0x1A + 0x68 + 4 * k
def F.SEC_SERIAL_SERIAL (k : Nat) : Field := ⟨R.SEC_SERIAL k, 0, 32⟩
/-- SEC_ID (R526). -/
def R.SEC_ID (k : Nat) : Nat := pageBase 0x1A + 0x80 + 4 * k
def F.SEC_ID_ID (k : Nat) : Field := ⟨R.SEC_ID k, 0, 32⟩
/-- SEC_FWDIG (R526). -/
def R.SEC_FWDIG (k : Nat) : Nat := pageBase 0x1A + 0xc0 + 4 * k
def F.SEC_FWDIG_DIG (k : Nat) : Field := ⟨R.SEC_FWDIG k, 0, 32⟩
/-- SEC_SLOTDIG (R526). -/
def R.SEC_SLOTDIG (s k : Nat) : Nat := pageBase 0x1A + 0x100 + 0x40 * s + 4 * k
def F.SEC_SLOTDIG_DIG (s k : Nat) : Field := ⟨R.SEC_SLOTDIG s k, 0, 32⟩
/-- SEC_PK (R526). -/
def R.SEC_PK (k : Nat) : Nat := pageBase 0x1A + 0x400 + 4 * k
def F.SEC_PK_PK (k : Nat) : Field := ⟨R.SEC_PK k, 0, 32⟩
/-- BIST_RESULT (R542). -/
def R.BIST_RESULT : Nat := pageBase 0x1b + 0x40
def F.BIST_RESULT_MEM_OK : Field := ⟨R.BIST_RESULT, 0, 1⟩
def F.BIST_RESULT_LBIST_OK : Field := ⟨R.BIST_RESULT, 1, 1⟩
def F.BIST_RESULT_ANA_OK : Field := ⟨R.BIST_RESULT, 2, 1⟩
def F.BIST_RESULT_REPAIRED : Field := ⟨R.BIST_RESULT, 3, 1⟩
def F.BIST_RESULT_SEAT_RETIRED : Field := ⟨R.BIST_RESULT, 4, 1⟩
def F.BIST_RESULT_CODE : Field := ⟨R.BIST_RESULT, 8, 8⟩
def F.BIST_RESULT_UNIT : Field := ⟨R.BIST_RESULT, 16, 8⟩
def F.BIST_RESULT_MS : Field := ⟨R.BIST_RESULT, 24, 8⟩
/-- BIST_MEM (R542). -/
def R.BIST_MEM : Nat := pageBase 0x1b + 0x44
def F.BIST_MEM_FUSED : Field := ⟨R.BIST_MEM, 0, 8⟩
def F.BIST_MEM_SOFT : Field := ⟨R.BIST_MEM, 8, 8⟩
/-- BIST_LBIST (R542). -/
def R.BIST_LBIST (i : Nat) : Nat := pageBase 0x1B + 0x48 + 4 * i
def F.BIST_LBIST_COV (i : Nat) : Field := ⟨R.BIST_LBIST i, 0, 8⟩
def F.BIST_LBIST_MS (i : Nat) : Field := ⟨R.BIST_LBIST i, 8, 8⟩
def F.BIST_LBIST_PASS (i : Nat) : Field := ⟨R.BIST_LBIST i, 16, 1⟩
/-- BIST_SD0 (R542). -/
def R.BIST_SD0 : Nat := pageBase 0x1b + 0x60
def F.BIST_SD0_FAIL : Field := ⟨R.BIST_SD0, 0, 20⟩
/-- BIST_SD1 (R542). -/
def R.BIST_SD1 : Nat := pageBase 0x1b + 0x64
def F.BIST_SD1_FAIL : Field := ⟨R.BIST_SD1, 0, 20⟩
/-- BIST_SAR (R542). -/
def R.BIST_SAR : Nat := pageBase 0x1b + 0x68
def F.BIST_SAR_FAIL : Field := ⟨R.BIST_SAR, 0, 2⟩
def F.BIST_SAR_REFCHK : Field := ⟨R.BIST_SAR, 8, 8⟩
/-- BIST_GRB (R542). -/
def R.BIST_GRB : Nat := pageBase 0x1b + 0x6c
def F.BIST_GRB_BALL : Field := ⟨R.BIST_GRB, 0, 6⟩
def F.BIST_GRB_LATCH : Field := ⟨R.BIST_GRB, 6, 1⟩
/-- BIST_IST (R542). -/
def R.BIST_IST : Nat := pageBase 0x1b + 0x70
def F.BIST_IST_SEAT : Field := ⟨R.BIST_IST, 0, 4⟩
def F.BIST_IST_PASS : Field := ⟨R.BIST_IST, 4, 1⟩
def F.BIST_IST_COUNT : Field := ⟨R.BIST_IST, 16, 16⟩
/-- BIST_EVENT (R542). -/
def R.BIST_EVENT : Nat := pageBase 0x1b + 0x74
def F.BIST_EVENT_SD_FAIL : Field := ⟨R.BIST_EVENT, 0, 1⟩
def F.BIST_EVENT_SAR_FAIL : Field := ⟨R.BIST_EVENT, 1, 1⟩
def F.BIST_EVENT_GATE_FAIL : Field := ⟨R.BIST_EVENT, 2, 1⟩
def F.BIST_EVENT_REQ_DONE : Field := ⟨R.BIST_EVENT, 3, 1⟩
/-- PAGE_ID (R547). -/
def R.PAGE_ID (p : Nat) : Nat := pageBase p + 0x0
def F.PAGE_ID_INDEX (p : Nat) : Field := ⟨R.PAGE_ID p, 0, 8⟩
def F.PAGE_ID_REV (p : Nat) : Field := ⟨R.PAGE_ID p, 8, 8⟩
def F.PAGE_ID_PART (p : Nat) : Field := ⟨R.PAGE_ID p, 16, 16⟩
/-- PAGE_CAP (R547). -/
def R.PAGE_CAP (p : Nat) : Nat := pageBase p + 0x4
def F.PAGE_CAP_ENABLE_FIXED (p : Nat) : Field := ⟨R.PAGE_CAP p, 0, 1⟩
def F.PAGE_CAP_HAS_RWS (p : Nat) : Field := ⟨R.PAGE_CAP p, 1, 1⟩
def F.PAGE_CAP_ISLAND (p : Nat) : Field := ⟨R.PAGE_CAP p, 4, 3⟩
/-- PAGE_CTRL (R547). -/
def R.PAGE_CTRL (p : Nat) : Nat := pageBase p + 0x8
def F.PAGE_CTRL_ENABLE (p : Nat) : Field := ⟨R.PAGE_CTRL p, 0, 1⟩
def F.PAGE_CTRL_AUTO_GATE (p : Nat) : Field := ⟨R.PAGE_CTRL p, 1, 1⟩
def F.PAGE_CTRL_GATE_POLICY (p : Nat) : Field := ⟨R.PAGE_CTRL p, 2, 1⟩
def F.PAGE_CTRL_SEAL (p : Nat) : Field := ⟨R.PAGE_CTRL p, 31, 1⟩
/-- PAGE_STATUS (R547). -/
def R.PAGE_STATUS (p : Nat) : Nat := pageBase p + 0xc
def F.PAGE_STATUS_CLK_RUN (p : Nat) : Field := ⟨R.PAGE_STATUS p, 0, 1⟩
def F.PAGE_STATUS_SEALED (p : Nat) : Field := ⟨R.PAGE_STATUS p, 1, 1⟩
def F.PAGE_STATUS_LOCKED (p : Nat) : Field := ⟨R.PAGE_STATUS p, 2, 1⟩
def F.PAGE_STATUS_BOUND (p : Nat) : Field := ⟨R.PAGE_STATUS p, 3, 1⟩
def F.PAGE_STATUS_CLR_PEND (p : Nat) : Field := ⟨R.PAGE_STATUS p, 4, 1⟩
/-- PAGE_IRQ_RAW (R547). -/
def R.PAGE_IRQ_RAW (p : Nat) : Nat := pageBase p + 0x10
def F.PAGE_IRQ_RAW_RAW (p : Nat) : Field := ⟨R.PAGE_IRQ_RAW p, 0, 32⟩
/-- PAGE_IRQ_EN (R547). -/
def R.PAGE_IRQ_EN (p : Nat) : Nat := pageBase p + 0x14
def F.PAGE_IRQ_EN_EN (p : Nat) : Field := ⟨R.PAGE_IRQ_EN p, 0, 32⟩
/-- PAGE_IRQ_STAT (R547). -/
def R.PAGE_IRQ_STAT (p : Nat) : Nat := pageBase p + 0x18
def F.PAGE_IRQ_STAT_STAT (p : Nat) : Field := ⟨R.PAGE_IRQ_STAT p, 0, 32⟩
/-- PAGE_LOCK (R547). -/
def R.PAGE_LOCK (p : Nat) : Nat := pageBase p + 0x1c
def F.PAGE_LOCK_OWNER (p : Nat) : Field := ⟨R.PAGE_LOCK p, 0, 4⟩
def F.PAGE_LOCK_LOCK (p : Nat) : Field := ⟨R.PAGE_LOCK p, 8, 1⟩
/-- PAGE_ERR_ADDR (R547). -/
def R.PAGE_ERR_ADDR (p : Nat) : Nat := pageBase p + 0x20
def F.PAGE_ERR_ADDR_ADDR (p : Nat) : Field := ⟨R.PAGE_ERR_ADDR p, 0, 32⟩
/-- PAGE_ERR_INFO (R547). -/
def R.PAGE_ERR_INFO (p : Nat) : Nat := pageBase p + 0x24
def F.PAGE_ERR_INFO_CODE (p : Nat) : Field := ⟨R.PAGE_ERR_INFO p, 0, 4⟩
def F.PAGE_ERR_INFO_MASTER (p : Nat) : Field := ⟨R.PAGE_ERR_INFO p, 4, 4⟩
def F.PAGE_ERR_INFO_WRITE (p : Nat) : Field := ⟨R.PAGE_ERR_INFO p, 8, 1⟩
def F.PAGE_ERR_INFO_CATCH (p : Nat) : Field := ⟨R.PAGE_ERR_INFO p, 16, 16⟩
/-- PAGE_ERR_COUNT (R547). -/
def R.PAGE_ERR_COUNT (p : Nat) : Nat := pageBase p + 0x28
def F.PAGE_ERR_COUNT_COUNT (p : Nat) : Field := ⟨R.PAGE_ERR_COUNT p, 0, 16⟩
def F.PAGE_ERR_COUNT_CLEAR (p : Nat) : Field := ⟨R.PAGE_ERR_COUNT p, 31, 1⟩
/-- SYS_ID (R554). -/
def R.SYS_ID : Nat := pageBase 0x0 + 0x40
def F.SYS_ID_PART : Field := ⟨R.SYS_ID, 0, 16⟩
def F.SYS_ID_STEPPING : Field := ⟨R.SYS_ID, 16, 8⟩
def F.SYS_ID_GRADE : Field := ⟨R.SYS_ID, 24, 2⟩
/-- SYS_IRQ_SUM (R554). -/
def R.SYS_IRQ_SUM : Nat := pageBase 0x0 + 0x44
def F.SYS_IRQ_SUM_PAGE : Field := ⟨R.SYS_IRQ_SUM, 0, 32⟩
/-- SYS_ERR_SUM (R554). -/
def R.SYS_ERR_SUM : Nat := pageBase 0x0 + 0x48
def F.SYS_ERR_SUM_PAGE : Field := ⟨R.SYS_ERR_SUM, 0, 32⟩
/-- SYS_ECC (R554). -/
def R.SYS_ECC : Nat := pageBase 0x0 + 0x4c
def F.SYS_ECC_UNCORR : Field := ⟨R.SYS_ECC, 0, 16⟩
/-- SYS_ECC_ADDR (R554). -/
def R.SYS_ECC_ADDR : Nat := pageBase 0x0 + 0x50
def F.SYS_ECC_ADDR_ADDR : Field := ⟨R.SYS_ECC_ADDR, 0, 32⟩
/-- SYS_EVENT (R554). -/
def R.SYS_EVENT : Nat := pageBase 0x0 + 0x54
def F.SYS_EVENT_SRAM_UNCORR : Field := ⟨R.SYS_EVENT, 0, 1⟩
def F.SYS_EVENT_ERR_OUTSIDE : Field := ⟨R.SYS_EVENT, 1, 1⟩
/-- DBG_STAT (R555). -/
def R.DBG_STAT : Nat := pageBase 0x1f + 0x40
def F.DBG_STAT_PORT_EN : Field := ⟨R.DBG_STAT, 0, 1⟩
def F.DBG_STAT_SCAN : Field := ⟨R.DBG_STAT, 1, 1⟩
def F.DBG_STAT_WIPE_RUN : Field := ⟨R.DBG_STAT, 2, 1⟩
/-- DBG_COUNT (R555). -/
def R.DBG_COUNT : Nat := pageBase 0x1f + 0x44
def F.DBG_COUNT_ATTACHES : Field := ⟨R.DBG_COUNT, 0, 8⟩
/-- DBG_EVENT (R555). -/
def R.DBG_EVENT : Nat := pageBase 0x1f + 0x48
def F.DBG_EVENT_ENTRY_REQ : Field := ⟨R.DBG_EVENT, 0, 1⟩
def F.DBG_EVENT_ENTRY_OPEN : Field := ⟨R.DBG_EVENT, 1, 1⟩
/-- HSPI_STAT (R475). -/
def R.HSPI_STAT : Nat := pageBase 0x15 + 0x80
def F.HSPI_STAT_TRUNC : Field := ⟨R.HSPI_STAT, 0, 16⟩
def F.HSPI_STAT_SHORT : Field := ⟨R.HSPI_STAT, 16, 16⟩

end Sys2Proof.Machine
end

