-- ==== Sys2Proof/Machine/SparseMap.lean ====
section
/-! DEFINITION. Sparse maps as plain data: a list of (key, value) pairs with keys strictly rising and no
entry equal to what an unlisted key reads as. Registers, memory and local data are kept in this form. -/

namespace Sys2Proof.Machine

/-- What key `k` of the map reads as; `d` gives the value of an unlisted key. -/
def mapGet {α : Type} (d : Nat → α) : List (Nat × α) → Nat → α
  | [], k => d k
  | (a, v) :: m, k => if a = k then v else mapGet d m k

/-- The map without key `k`. -/
def mapErase {α : Type} (k : Nat) (m : List (Nat × α)) : List (Nat × α) :=
  m.filter (fun e => !decide (e.1 = k))

/-- Key `k` put before the first larger key. -/
def mapInsert {α : Type} (k : Nat) (v : α) : List (Nat × α) → List (Nat × α)
  | [] => [(k, v)]
  | (a, x) :: m => if k < a then (k, v) :: (a, x) :: m else (a, x) :: mapInsert k v m

/-- A write of one key: writing the unlisted value removes the entry. -/
def mapPut {α : Type} [DecidableEq α] (d : Nat → α) (m : List (Nat × α)) (k : Nat) (v : α) : List (Nat × α) :=
  if v = d k then mapErase k m else mapInsert k v (mapErase k m)

/-- The canonical form, with every key at or above `lo`. -/
def mapWfFrom {α : Type} [DecidableEq α] (d : Nat → α) : Nat → List (Nat × α) → Bool
  | _, [] => true
  | lo, (a, v) :: m => decide (lo ≤ a) && !decide (v = d a) && mapWfFrom d (a + 1) m

/-- The canonical form of a sparse map. -/
def mapWf {α : Type} [DecidableEq α] (d : Nat → α) (m : List (Nat × α)) : Bool := mapWfFrom d 0 m

end Sys2Proof.Machine
end

