-- ==== Sys2Proof/Machine/State.lean ====
section
/-! DEFINITION. The state of the block as plain data: the register file, the memories, and what the rules give each
block besides its registers; and the state after reset. -/

namespace Sys2Proof.Machine

/-- Why a command stops. -/
inductive Fault where
  /-- A schedule record that no load check lets through (R263) was given as a command: its counts or references lie
  outside the operation's definition. Safe: the device never issues such a record. -/
  | illFormed
  deriving DecidableEq, Repr

/-- Why a command has no meaning. -/
inductive Refusal where
  /-- The row of the opcode table has no meaning in the model. Safe. -/
  | notModelled (mnemonic : String)
  deriving DecidableEq, Repr

/-- A sparse map of numbers by index, absent entries reading 0. -/
abbrev Tab := List (Nat × Nat)

def Tab.get (t : Tab) (i : Nat) : Nat := mapGet (fun _ => 0) t i
def Tab.set (t : Tab) (i v : Nat) : Tab := mapPut (fun _ => 0) t i v

/-- An entry of a plan's binding section (R254), its body words decoded. -/
inductive Bind where
  | unit (u first last perPhase sets : Nat)
  | catchE (mode lead refLeg initPer : Nat)
  | sdc (n word : Nat)
  | sd (n cfg mcfg : Nat) (nominal ofsMax : Nat) (thr : List (Nat × Nat))
  | pair (j lim cnt m0 m1 : Nat)
  | sum (j lim cnt : Nat) (members : List Nat)
  | sar (e seq nominal ofsMax : Nat)
  | rsx (n cfg phase : Nat)
  | legGroup (first count unit : Nat)
  | brake (b mask : Nat)
  | pos (i : Nat) (body : List Nat)
  | regIn (page off : Nat)
  | regOut (page off : Nat)
  | exch (ch : Nat) (body : List Nat)
  | capture (ch : Nat) (body : List Nat)
  | inject (p : Nat) (body : List Nat)
  | bandSet (leg table field : Nat)
  | bandIn
  | snapshot (body : List Nat)
  | regImage (page off value : Nat)
  deriving DecidableEq, Repr

/-- What a verified plan declares (R241, R254). -/
structure PlanInfo where
  slots : Nat
  cw : Nat
  w : Nat
  prologue : Nat
  sineTable : Nat
  dcoMin : Nat
  storedLen : Nat
  bind : List Bind
  deriving DecidableEq, Repr

def PlanInfo.empty : PlanInfo := ⟨0, 0, 0, 0, 0, 0, 0, []⟩

/-- The control die as its reset line leaves it (R84): the safety die down, held in reset, running, or reset-hold. -/
inductive Die where
  | down | held | running | resetHold
  deriving DecidableEq, Repr

/-- Supply and reset state of the safety die (chapter 3). -/
structure Supply where
  vsup : Bool              -- VSUP is valid
  good : List Rail         -- rails that have reached good, latest first
  bad : List RailCause     -- causes that are asserted and have not cleared
  umpire : Bool            -- the umpire runs (step 3 of R73)
  umpTest : Bool           -- it has passed the logic test of its island (R528)
  gateTest : Bool          -- the gate-off path has been tested (R528)
  rcTries : Nat            -- failed qualification attempts of the RC oscillator (R106)
  rcStopped : Bool         -- stopped for 1.0 ms after a failed attempt
  rcFailed : Bool          -- RC failure (R108)
  above82 : Bool           -- VSUP above 82 V since the crossing (R71)
  die : Die
  code : Nat               -- cause log kept on the safety die (R81)
  detail : Nat
  restarts : Nat
  also : Word
  hist : Word
  restartTimes : List Nat  -- times of the automatic restarts of the last 60 s, in ms (R80)
  retained : Option Nat    -- retention latch (R81)
  deriving DecidableEq, Repr

def Supply.init : Supply :=
  { vsup := false, good := [], bad := [], umpire := false, umpTest := false, gateTest := false, rcTries := 0, rcStopped := false, rcFailed := false,
    above82 := false, die := .down, code := 0, detail := 0, restarts := 0, also := 0, hist := 0, restartTimes := [],
    retained := none }

/-- An STO channel since the umpire started: accepted low, then accepted high (R407). -/
structure StoCh where
  sawLow : Bool
  sawHigh : Bool
  deriving DecidableEq, Repr

/-- One direction of the umpire channel: SEQ of the last frame, its slot, and the frame (R395, R396). -/
structure Channel where
  seq : Nat
  slot : Nat
  frame : Word
  deriving DecidableEq, Repr

/-- Before the first frame, which takes slot 0 (log entry 116). -/
def Channel.init : Channel := { seq := 15, slot := 7, frame := 0 }

/-- The umpire's state besides the UMP page (chapter 15). -/
structure Umpire where
  windows : Nat                  -- 16 µs ladder windows counted: the umpire's time (log entry 8)
  emfA : Option (Nat × Nat)      -- latest XVAL value in 2 V units, and the window of its arrival
  emfB : Option (Nat × Nat)
  pll : Nat                      -- mirrored PLL state (R396)
  coast : Bool
  liveValid : Bool
  lateEsc : Nat                  -- mirrored LATE_ESC bits
  lockedSince : Bool             -- the PLL has been LOCKED since the last control-die reset (R415)
  failed : Bool                  -- the control die has been declared failed (R28)
  stoA : StoCh
  stoB : StoCh
  linkOc : Bool                  -- link comparators asserted (R403)
  linkOv : Bool
  chopper : Bool                 -- hard-wired chopper on (R403)
  hot : Nat                      -- temperature paths asserted, bit k (R404)
  ctrPhase : Nat                 -- part of a disconnect: 0 waiting for the current, 1 PRE and MP, 2 MN (R410)
  ctrAux : Nat                   -- CTR_AUX code in force
  wdCh : Tab                     -- challenge of each pair (R412)
  wdAt : Tab                     -- window of each pair's latest accepted service (R412)
  wdDue : Nat                    -- bit x: a new challenge is due to pair x
  ans : Bool                     -- the answer to the last CMD is due (R396)
  linkV : Option (Nat × Nat)     -- check-2 value in 2 V units, and the window of its arrival
  wdFirst : Nat                  -- bit x: the first service after the release is still due
  wdHold : Nat                   -- bit x: watchdog suspended (R428)
  faultUnits : Tab               -- units for which each UMP_FAULT bit is latched
  verdict : Tab                  -- torque verdict of A and B (R414)
  alive : Nat
  aliveAt : Nat                  -- window of the alive count's latest change (R414)
  ckAt : Tab                     -- window of each check's latest report (R413)
  grantAt : Tab                  -- window in which each unit's grant was given
  tqWait : Nat                   -- bit u: verdict 2 taken, the control die's pattern awaited
  requests : Nat                 -- gate requests in URG
  lockstepBroken : Bool
  benchHv : Bool                 -- UAIN0 link voltage above 60 V and not yet below 58 V (R415)
  grbLatched : Bool              -- readback mismatch, latched all-off (R535)
  trim : Int                     -- RC trim, steps from the fused point (R109)
  trimRun : Nat                  -- consecutive steps within ±0.25 %
  trimOk : Bool
  trimRange : Bool
  rcQual : Nat                   -- attempts needed at the last start (R113)
  lsWindow : Option Nat          -- pair whose comparator test window is open (R425)
  lsSeen : List (Fin 8)          -- groups of the assertions counted in it
  legsA : Option (Nat × Nat)     -- first and last leg of A and B as last bound, kept across control-die resets
  legsB : Option (Nat × Nat)
  liveAt : Nat                   -- instant of LIVE's first edge at the latest grant that found it static, ns (R85)
  down : Channel                 -- frames from the control die, and to it (R395)
  up : Channel
  meas : Nat                     -- value whose MEAS slot is next: UAIN0 to UAIN3, USD0, USD1 (R396)
  cfgPassed : List Nat           -- offsets of the RWS registers whose written value has passed (R417)
  deriving DecidableEq, Repr

def Umpire.init : Umpire :=
  { windows := 0, emfA := none, emfB := none, pll := 0, coast := false, liveValid := false,
    lateEsc := 0, lockedSince := false, failed := false, stoA := ⟨false, false⟩, stoB := ⟨false, false⟩,
    linkOc := false, linkOv := false, chopper := false, hot := 0, ctrPhase := 0, ctrAux := 0, wdCh := [], wdAt := [], wdDue := 3, ans := false, linkV := none,
    wdFirst := 0, wdHold := 0, faultUnits := [], verdict := [], alive := 0, aliveAt := 0, ckAt := [], grantAt := [], tqWait := 0, requests := 0,
    lockstepBroken := false, benchHv := false, grbLatched := false, trim := 0, trimRun := 0, trimOk := false, trimRange := false,
    rcQual := 0, lsWindow := none, lsSeen := [],
    legsA := none, legsB := none, liveAt := 0, down := Channel.init, up := Channel.init, meas := 0, cfgPassed := [] }

/-- One leg of the PWM blocks besides its registers (chapter 12). -/
structure Leg where
  pendPer : Option Nat  -- period that the pending commit has sent, if it carries one (R212, R326)
  group : List Nat      -- legs that the pending commit names (R328)
  cmp : Nat             -- compare in force before the clamp of R329
  latchAt : Nat         -- when the pending commit latched, ns
  shStale : Bool        -- the shadow compare was written by a commit whose period was dropped (R329)
  hasPer : Bool         -- a commit has applied a period since activation (R339)
  hasCmp : Bool         -- a commit has applied a compare since activation
  granted : Bool        -- enabled and granted, waiting for its first boundary (R340)
  startAt : Nat         -- earliest first edge, ns (R340)
  offUntil : Bool       -- off until the next boundary (R333, R373)
  lockUntil : Bool      -- both gate-edge lines held off until the next boundary by an interlock (R30, R333)
  offAt : Option Int    -- step of the period from which the leg has been off; none while it emits its edges (R373, R374)
  cold : Bool           -- the low side was not on at the start of the period (R337)
  acted : Bool          -- a trip, an override or a refresh acted in this period (R335)
  boundary : Nat        -- instant of the latest boundary, ns
  rise : Nat            -- planned command edges of the period in force, steps
  fall : Nat
  dropped : Bool        -- the high pulse of the period was dropped
  fromHigh : Bool       -- the high-side command is on at the boundary
  due : Bool            -- and its fall is at the boundary, so that the low pulse has yet to be judged (R334)
  lowOn : Int           -- when the low side last turned on, steps from the boundary
  highOn : Int          -- the same of the high side
  limA : Nat            -- min(c, lim) of the boundary compare
  limB : Option Nat     -- min(cb, lim) of a centre compare
  noLow : Nat           -- consecutive periods without low-side on-time (R337)
  refresh : Bool        -- a forced refresh runs at the boundary (R337)
  refreshEnd : Option Nat -- end of the refresh whose check is still to come, steps (R338)
  refreshTag : Option Nat -- the first catch at or after it, modulo 256
  barUv : Bool          -- BOOT_UV has latched since the leg last started (R338)
  flt : Bool            -- accepted level of the leg's fault input
  pendSide : Bool       -- switch whose turn-on opened the blanking window of a pending fault (R373)
  side : Bool           -- switch of the latest trip, true = high side
  tripAt : Option Nat   -- instant of the latest trip, ns
  cfgNew : Option Word  -- LEG_CFG of a warm switch, for the next boundary (R346)
  drvFault : Nat        -- switches whose driver has reported DRV_FAULT: bit 0 low side, bit 1 high side
  deriving DecidableEq, Repr

def Leg.init : Leg :=
  { pendPer := none, group := [], cmp := 0, latchAt := 0, shStale := false, hasPer := false, hasCmp := false, granted := false, startAt := 0,
    offUntil := false, lockUntil := false, offAt := some 0, cold := false, acted := false, boundary := 0, rise := 0, fall := 0, dropped := false, fromHigh := false, due := false,
    lowOn := -(2 ^ 30), highOn := -(2 ^ 30), limA := 0, limB := none, noLow := 0, refresh := false, refreshEnd := none, refreshTag := none, barUv := false, flt := false, pendSide := false, side := false,
    tripAt := none, cfgNew := none, drvFault := 0 }

/-- The protection block besides its registers (chapter 14). -/
structure Prot where
  brkFlt : Nat          -- accepted levels of FLTB0 to FLTB3
  heldOff : Nat         -- legs held off within the hold-water pattern in force (R382)
  chopOn : Tab          -- tick at which each control-die chopper turned on
  chopSelf : Nat        -- switches that their own chopper holds on, whether or not a discharge does (R377, R387)
  entered : Tab         -- tick at which each unit entered its safe state, plus one; 0 where no instant was given (R384)
  disPrev : Int         -- VALUE at the previous discharge checkpoint (R387)
  disBelow : Nat        -- consecutive catches at or below TARGET
  disArm : Nat          -- brake switches the running discharge holds on
  disch : Bool          -- DISCH ball
  disTicks : Nat        -- ticks of the catches since the discharge started (R387)
  disChk : Nat          -- its checkpoints so far
  fltRun : Tab          -- consecutive samples against the accepted level: FltIx i at i, FLTBb at 20 + b (R372)
  deriving DecidableEq, Repr

def Prot.init : Prot :=
  { brkFlt := 0, heldOff := 0, chopOn := [], chopSelf := 0, entered := [], disPrev := 0, disBelow := 0, disArm := 0, disch := false, disTicks := 0, disChk := 0,
    fltRun := [] }

/-- A command of the driver chain (R389). -/
inductive ChainCmd where
  | nop
  | read (reg : Nat)
  | write (reg data : Nat)
  | diag (reg : Nat)
  deriving DecidableEq, Repr

/-- One driver-chain position besides its registers (R389, R390). Each command is kept with its SEQ. -/
structure Chain where
  sent : Option (ChainCmd × Nat)   -- command whose response the transaction in progress brings; none at chain start
  out : Option (ChainCmd × Nat)    -- command that the transaction in progress sends
  retry : Option (ChainCmd × Nat)  -- command to be repeated
  queue : List ChainCmd            -- commands due ahead of the regular ones
  cfg : Nat                        -- steps of CONFIG sent
  good : Nat                       -- readbacks of CONFIG that matched: image j bit j, GSTR bit 8, STATUS bit 9
  rewrites : Tab                   -- rewrites of each mismatching register, by its bit in `good`
  seq : Nat                        -- SEQ of the last new command (R389)
  gstr : Nat                       -- GSTR value last written
  image : Nat                      -- image register whose readback is next
  deriving DecidableEq, Repr

def Chain.init : Chain :=
  { sent := none, out := none, retry := none, queue := [], cfg := 0, good := 0, rewrites := [], seq := 0, gstr := 0, image := 0 }

/-- The driver chain as a whole (R390). -/
structure ChainBus where
  alert : Bool          -- DALRT_N accepted low and not yet served
  low : Bool            -- DALRT_N is low
  ignore : Bool         -- ALERT_STUCK: alerts are ignored until DALRT_N is high
  diagAt : Nat          -- position whose DIAG is next
  dso : List (BitVec 40) -- frames on DSO in the transaction in progress, in the order sent (R389)
  deriving DecidableEq, Repr

def ChainBus.init : ChainBus := { alert := false, low := false, ignore := false, diagAt := 0, dso := [] }

/-- An input of the plan, named by its binding index (R129, R131, R132). -/
structure Input where
  fifo : List (Nat × List Word × Bool)   -- tag, words, VALID, head first
  held : Option (List Word × Bool)       -- last accepted value
  res : Option (List Word × Bool × Bool) -- resolved for this catch: words, VALID, late
  deriving DecidableEq, Repr

def Input.init : Input := { fifo := [], held := none, res := none }

/-- The CATCH block besides its registers (chapter 5). -/
structure Catch where
  num : Nat                 -- catch number, 48 bits (R122)
  centre : Bool             -- update kind of the context word (R123)
  budget : Nat              -- seat budget of the catch (R125)
  upAt : Nat                -- instant of the update point the catch serves, ns (R119)
  tick : Nat                -- tick of the latest catch
  next : Nat                -- tick at which the next catch falls (R119, R121)
  first : Bool              -- no catch has fallen since the activation
  waitLock : Bool           -- generation waits for the first LOCKED (R121)
  lapsed : Bool             -- the guarantee of R136 has lapsed
  late : Nat                -- units late in this catch
  lateEsc : Nat             -- units whose LATE_ESC the next STATUS slot reports (R134)
  ran : Nat                 -- units with an operation in this catch, under R126
  sig : List (Nat × List Word)   -- words written in this catch, by schedule record in section order (R140)
  inputs : List (Nat × Input)
  deriving DecidableEq, Repr

def Catch.init : Catch :=
  { num := 0, centre := false, budget := 0, upAt := 0, tick := 0, next := 0, first := false, waitLock := false, lapsed := false, late := 0, lateEsc := 0,
    ran := 0, sig := [], inputs := [] }

/-- COX0's record of a drive instance besides the DRVA registers (chapter 10). -/
structure Drive where
  cmd : Option (BitVec 6)   -- DRV_CMD latched and not yet taken (R278): CMD, DIR, BRK
  want : BitVec 6           -- the START in progress: direction and brake-through permission
  spun : Bool               -- a catch-spin has run since activation (R279)
  heldState : Nat           -- state held at the loss of the observer (R287)
  easyState : Nat           -- state held before easy-all (R289)
  easyCause : Nat           -- row of R289 in force: 0 none, 1 STOP, 2 BRAKE_TIMEOUT, 3 heartbeat, 4 thermal, 5 COAST
  tzero : Nat               -- consecutive executions with TZERO (R290)
  lastSpeed : Word          -- speed at the loss of the observer (R288)
  trqHeld : Bool            -- a START or a torque request waits for the zero-torque window to close (R291)
  rampDue : Bool            -- the torque ramp starts once a leg reports LEG_STAT.EN (R283)
  gatesDue : Bool           -- PWM_GATE_EN is written in the next catch, which is the seed's (R283)
  safeDue : Bool            -- the instance becomes SAFE at the next catch boundary (R269, R270 row 1)
  easyDue : Nat             -- row of R289 that takes effect at the next catch boundary, 0 none (R269, R270 row 10)
  verdict : Nat             -- torque verdict that the TQ slot carries (R396, R414)
  te : Word                 -- execution interval of the current loop in seconds, binary32 (R283, R289)
  deriving DecidableEq, Repr

def Drive.init : Drive :=
  { cmd := none, want := 0, spun := false, heldState := 0, easyState := 0, easyCause := 0, tzero := 0, lastSpeed := 0,
    trqHeld := false, rampDue := false, gatesDue := false, safeDue := false, easyDue := 0, verdict := 0, te := 0 }

/-- One sigma-delta input besides its registers (chapter 6). -/
structure SdIn where
  bits : Nat            -- the last 256 bits, bit 0 the latest (R148)
  count : Nat           -- bits received since activation, up to 256 (R150)
  run : Nat             -- consecutive equal bits up to now, at most 64 (R147)
  got : Nat             -- bits received since the last catch (R143)
  good : Nat            -- consecutive bits without a violation, while the decoder is unlocked (R145)
  viols : Nat           -- violations among the last 32 bits since it locked, bit 0 the latest
  hiRun : Nat           -- consecutive outputs at or beyond HI, and LO, at most 4 (R153)
  loRun : Nat
  deriving DecidableEq, Repr

def SdIn.init : SdIn := { bits := 0, count := 0, run := 0, got := 0, good := 0, viols := 0, hiRun := 0, loRun := 0 }

/-- What a calibration has summed of one input: results so far, their sum, and whether one lay too far off (R162). -/
structure CalSum where
  n : Nat
  sum : Int
  far : Bool
  deriving DecidableEq, Repr

def CalSum.init : CalSum := { n := 0, sum := 0, far := false }

/-- Where an offset calibration of a unit stands (R161, R162). -/
inductive CalPhase where
  | idle | queuedWindow | queuedStandstill | due | settling | summing
  deriving DecidableEq, Repr

/-- Sensing besides its registers: checks, calibrations, SAR sequence (chapter 6). -/
structure Sense where
  chk : Tab                    -- failure counts: pair check j at j, sum group j at 16 + j (R157)
  cal : List (Nat × CalPhase × Nat × Nat)   -- unit, phase, CAL_LOG2, failure code of the last calibration
  calSum : List (Nat × CalSum) -- sums of the running calibration: SD input n at n, SAR entry e at 40 + e
  sarAt : Tab                  -- catch number in which each SAR entry last started
  sarOfs : Tab                 -- offset of the catch in which it started
  sarOld : Tab                 -- offset before a write of this catch, plus one (R160)
  sarBusy : Nat                -- entries started and not yet done
  sarJudged : Option Nat       -- catch whose skipped entries have been reported (R164)
  rsxAt : List (Nat × Int)     -- tick of the start of each excitation (R168)
  sdFailed : Nat               -- SD inputs failed by a loopback check (R536)
  sarFailed : Nat              -- SAR converters failed
  refchk : Tab                 -- consecutive REFCHK results of each converter
  deriving DecidableEq, Repr

def Sense.init : Sense :=
  { chk := [], cal := [], calSum := [], sarAt := [], sarOfs := [], sarOld := [], sarBusy := 0, sarJudged := none, rsxAt := [], sdFailed := 0, sarFailed := 0,
    refchk := [] }


/-- What a write of a slot has replaced (R186): a word at an address of the register pages, of SRAM or of local data; what stood for a leg
before a commit that names it, with PEND; or the counts of a check before one of its runs. -/
inductive Undo where
  | word (a : Nat) (v : Word)
  | leg (l : Nat) (pend : Bool) (pendPer : Option Nat) (group : List Nat) (latchAt : Nat) (shStale : Bool)
  | check (k fails x : Nat) (xval : Bool)
  deriving DecidableEq, Repr

/-- The control fabric and plan switching besides their registers (chapter 7). -/
structure Fab where
  pool : List Nat       -- the sub pool, its head the sub (R171)
  testing : Option Nat  -- the freed seat under test
  timerDue : Bool       -- the rotation timer has expired; COPY starts at the next catch (R181)
  taken : Option Nat    -- the slot taken last since the activation (R181)
  copied : Bool         -- the copy port has finished in this catch (R182)
  noSub : Bool          -- rotation is STOPPED: no enable until an activation restarts it (R186)
  short : Bool          -- too few seats for the plan (R186)
  reactivate : Bool     -- SEAT_FAULT: the LIVE plan is activated again once the gates are off
  dropSlot : Option Nat -- slot whose writes in the current catch are discarded
  waiting : Bool        -- an accepted ACTIVATE waits to take effect (R190)
  prevDig : List Word   -- digest of the plan LIVE before the present one (R191)
  scrubAt : Nat         -- next word of LIVE, and of STAGE, that the scrubber reads (R180)
  scrubStageAt : Nat
  scrubStage : Bool     -- the next scrub read is of STAGE
  credits : Nat         -- crossbar credits in use (R174)
  stalled : List Nat    -- the slot of each transfer that waits for a credit, in slot order (R176)
  own : List (Nat × Nat × Word)     -- results of the record that a seat runs, written in its last cycle (R205): seat, word, value
  flight : List (Nat × Nat × List Word × Nat)  -- transfers to other slots not yet delivered, oldest first: seat, first word, words, sender's slot
  undo : List (Nat × Undo)    -- what each slot's writes of this catch have replaced, latest first, under the slot (R186)
  armN : Nat            -- target catch of the ARMED switch (R191)
  go : Bool             -- a cascade member holds GO (R505)
  stageSlot : Nat       -- plan-key slot of the plan in STAGE, and of the LIVE plan (R265)
  liveSlot : Nat
  cur : Tab             -- flag word of each unit so far in this catch (R209)
  prev : Tab            -- the same at the close of the previous catch
  snap : List (Nat × Nat × List Word)   -- torque snapshot of each SNAPSHOT entry: catch, words (R231)
  deriving DecidableEq, Repr

def Fab.init : Fab :=
  { pool := [], testing := none, timerDue := false, taken := none, copied := false, noSub := false, short := false,
    reactivate := false, dropSlot := none, waiting := false, prevDig := [], scrubAt := 0, scrubStageAt := 0,
    scrubStage := false, credits := 0, stalled := [], own := [], flight := [], undo := [], armN := 0, go := false,
    stageSlot := 0, liveSlot := 0, cur := [], prev := [], snap := [] }

/-- The CHECK crossing (R238, R397). -/
structure Checks where
  runs : Tab            -- runs of each check since its last report
  fails : Tab
  x : Tab               -- x of the latest run of checks 0, 1 and 2
  alive : Nat           -- alive count of the TQ slot, 8 bits
  last : Nat            -- check number of the latest report (R397)
  xval : Nat            -- bit k: the x of check k has yet to go out in its XVAL slot (R397)
  deriving DecidableEq, Repr

def Checks.init : Checks := { runs := [], fails := [], x := [], alive := 0, last := 31, xval := 0 }

/-- A test on request (R538, R539). Phase: 0 due at the next catch, 1 queued for a zero-torque window, 2 queued for
standstill, 3 queued until every gate output is off, 4 running. -/
structure SelfReq where
  kind : Nat
  unit : Nat
  chan : Nat
  phase : Nat
  sd : List (Nat × Nat × Nat)   -- a kind 2 test's inputs with G and M^PORD of the configuration it started with
  sar : Nat                     -- and its converters
  deriving DecidableEq, Repr

/-- Tests on request (R538 to R541). -/
structure SelfT where
  reqs : List SelfReq
  deriving DecidableEq, Repr

def SelfT.init : SelfT := { reqs := [] }

/-- Temperature sensing besides its registers (chapter 17). -/
structure Therm where
  far : Tab             -- consecutive samples of each sensor more than 10 K from the median (R441)
  near : Tab            -- consecutive samples of an excluded sensor within 5 K
  count : Tab           -- persistence of WARN, THROTTLE, SHUTDOWN and the 160 °C condition (R442, R444)
  hard : Bool           -- the 160 °C condition
  grace : Bool          -- SD_GRACE runs
  ntcRun : Tab          -- consecutive results of each NTC without a fault (R445)
  age : Nat             -- samples since a value of the safety die arrived, at most 10 (R441)
  deriving DecidableEq, Repr

def Therm.init : Therm := { far := [], near := [], count := [], hard := false, grace := false, ntcRun := [], age := 0 }

/-- The PLL besides its registers (chapter 4). -/
structure Pll where
  lanes : List Nat      -- rings whose receive lane holds character lock, in the order of gaining it
  offset : Int          -- recorded phase offset of the standby lane, and the offset in force after a switch (R104)
  shift : Int
  n : Nat               -- divider and lock settings of the attempt (R103)
  win : Nat
  cycles : Nat
  standby : Bool
  integ : Int           -- integral of the loop filter, in units of 2^-15 fine steps (R93)
  refHz : Nat           -- reference frequency of the attempt
  step : Nat            -- band-search step, 1 to 6
  kept : Option Nat     -- count of the latest band that was kept
  lolWin : Nat          -- window of the loss-of-lock test (R103)
  coastMax : Nat        -- PLL_COAST.MAX as the umpire took it over (R102)
  deriving DecidableEq, Repr

def Pll.init : Pll :=
  { lanes := [], offset := 0, shift := 0, n := 0, win := 1, cycles := 16, standby := false, integ := 0, refHz := 0, step := 0, kept := none, lolWin := 1,
    coastMax := 10000 }

/-- An incremental encoder besides its registers (R353 to R356). -/
structure Enc where
  a : Bool              -- accepted levels of A, B and Z
  b : Bool
  z : Bool
  c : Nat               -- count C, 32 bits
  rev : Bool            -- DIR: reverse
  step : Option (Nat × Nat)   -- C and tick of the latest step that changed C
  caps : List (Nat × Nat × Option (Nat × Nat))  -- captures of the window: C, tick, latest step; latest first
  last : Word           -- last speed by period
  slow : Bool
  src : Nat             -- alignment in force: 0 none, 1 index, 2 Hall transition, 3 ENC_ALIGN
  ofs : Nat             -- OFS of a Hall or ENC_ALIGN alignment
  coarse : Bool
  illegal : Bool        -- an ILLEGAL has occurred since the last alignment
  illegalCap : Bool     -- an ILLEGAL has occurred since the last capture
  zerr : Bool           -- a ZERR has occurred since the last index within 2 counts
  indexSeen : Bool      -- an index has aligned the encoder
  indexCap : Bool       -- an index has aligned it since the last capture (R367)
  indexAt : Nat         -- tick of the latest index that aligned it (R367)
  spd : Word            -- speed by period of the last capture (R351)
  stat : Nat            -- status of the last capture (R351, R352)
  deriving DecidableEq, Repr

def Enc.init : Enc :=
  { a := true, b := true, z := true, c := 0, rev := false, step := none, caps := [], last := 0, slow := false, src := 0, ofs := 0, coarse := false,
    illegal := false, illegalCap := false, zerr := false, indexSeen := false, indexCap := false, indexAt := 0, spd := 0, stat := 0 }

/-- A Hall set besides its registers (R357 to R359). -/
structure Hall where
  level : Nat           -- accepted levels U, V and W, bits 0 to 2
  code : Option Nat     -- accepted state; none before the first
  since : Nat           -- tick from which the levels of a set that has restarted have stood (R357, R366)
  rev : Bool
  trans : Option (Nat × Nat)  -- sector entered at the latest transition, and its tick
  speed : Option Nat    -- ticks between the last two transitions; none while the speed is +0
  qual : Bool
  abs : Bool
  stat : Nat            -- status of the last capture (R351, R352)
  deriving DecidableEq, Repr

def Hall.init : Hall := { level := 7, code := none, since := 0, rev := false, trans := none, speed := none, qual := false, abs := false, stat := 0 }

/-- A serial sensor besides its registers (R360 to R363). -/
structure Ser where
  busy : Bool
  frame : Nat × Nat     -- triggering catch of the frame in progress, and that catch's tick
  tag : Nat             -- triggering catch of the last frame that ended, modulo 256
  code : Nat            -- its code
  hist : List (Option (Nat × Nat))  -- POS_ST and catch tick of the frames of the window, latest first; none for a bad one
  codes : List Nat      -- codes of the last 16 frames
  run : Nat             -- consecutive frames with code 0
  qual : Bool
  rev : Bool
  lastErr : Nat         -- code of the last error
  deriving DecidableEq, Repr

def Ser.init : Ser :=
  { busy := false, frame := (0, 0), tag := 0, code := 0, hist := [], codes := [], run := 0, qual := false, rev := false,
    lastErr := 0 }

/-- The position interfaces (chapter 13). -/
structure Pos where
  enc : List (Nat × Enc)
  hall : List (Nat × Hall)
  ser : List (Nat × Ser)
  deriving DecidableEq, Repr

def Pos.init : Pos := { enc := [], hall := [], ser := [] }

/-- A test-signal generator besides its registers (R308 to R311). -/
structure Gen where
  start : Nat           -- start catch S
  len : Nat             -- run length L
  lfsr : Nat            -- PRBS register
  theta : Nat           -- θ and inc of the next catch
  inc : Int
  shown : Nat           -- θ, or the register after the shift, of this catch
  sample : Word         -- s_j of this catch
  abort : Nat           -- code of an abort that takes effect at the next catch; 0 none
  deriving DecidableEq, Repr

def Gen.init : Gen :=
  { start := 0, len := 0, lfsr := 0, theta := 0, inc := 0, shown := 0, sample := 0, abort := 0 }

/-- A pulse input besides its registers (R305). Ticks are those of the delayed edges. -/
structure Pin where
  level : Bool                -- accepted level
  start : Option Nat          -- latest edge that ends a period
  mid : Option Nat            -- opposite edge since then
  last : Option (Nat × Nat × Nat)  -- last period: PER, HI, tick of its end
  deriving DecidableEq, Repr

def Pin.init : Pin := { level := false, start := none, mid := none, last := none }

/-- Tuning: generators, capture channels and pulse inputs besides their registers (chapter 11). -/
structure Inj where
  gen : List (Nat × Gen)
  inside : Nat          -- points whose unit was in a state of R313 at the last catch
  safe : Nat            -- units that held a safe state at the last catch
  easy : Nat            -- units in easy-all at the last catch
  capAt : Tab           -- start catch of each ARMED capture channel
  capStop : Nat         -- channels that stop at the next catch
  post : List (Nat × Nat)   -- entries still to be written before FROZEN
  capN : Tab            -- entries written since RUN where CAP_WIDX has saturated (R316)
  auxEasy : Tab         -- easy-all of AUXA and AUXB: row of R289 in force, 0 none (R102, R307, R444)
  auxSpun : Nat         -- aux channels that have run a catch-spin since activation (R279, R307)
  auxSpin : Nat         -- aux channels whose catch-spin runs (R280, R307)
  auxGo : Nat           -- aux channels whose gates are enabled in the next catch (R283, R307)
  spRun : Tab           -- executions in a row with SP_STAT.FAULT, by unit (R304)
  pin : List (Nat × Pin)
  deriving DecidableEq, Repr

def Inj.init : Inj :=
  { gen := [], inside := 0, safe := 0, easy := 0, capAt := [], capStop := 0, post := [], capN := [], auxEasy := [],
    auxSpun := 0, auxSpin := 0, auxGo := 0, spRun := [], pin := [] }

/-- A plan load (R259 to R262). Phase: 0 none, 1 reading flash, 2 SRAM phase, 3 copying, 4 verifying. -/
structure Load where
  phase : Nat
  len : Option Nat      -- length stated for a HOST or RING load
  superseded : Bool     -- an ACTIVATE or ARM was accepted during the SRAM phase
  digest : List Byte    -- digest block, STORED_LEN and key slot as the SRAM phase has verified them
  stored : Nat
  slot : Nat
  deriving DecidableEq, Repr

def Load.init : Load := { phase := 0, len := none, superseded := false, digest := [], stored := 0, slot := 0 }

/-- Fuses as fuse commands have left them; nothing returns them (R510, R521). -/
structure Fuses where
  words : List (Nat × Word)   -- SEC registers whose fused value a command has changed
  stage : Nat                 -- lifecycle code that the blown stage bits give
  lc : Nat                    -- lifecycle in force since the last device reset
  done : List (List Byte)     -- the fuse-command objects accepted
  repairs : List MemLine      -- fused repair entries, at most 64 (R530)
  sigs : Tab                  -- fused signatures: island `k` at k, seat `x` at 16 + x (R532, R537; log entry 129)
  deriving DecidableEq, Repr

def Fuses.init : Fuses := { words := [], stage := 1, lc := 1, done := [], repairs := [], sigs := [] }

/-- Security state kept until the next device reset (R455, R525, R533). -/
structure Sec where
  wiped : Bool
  island : Option Nat   -- island whose logic test has failed, shown after the next boot that passes
  session : Nat         -- control-die releases since the last device reset, modulo 256
  deriving DecidableEq, Repr

def Sec.init : Sec := { wiped := false, island := none, session := 0 }

/-- A report being signed, for a mailbox channel or for the stroke's nonce (R493, R522). -/
structure Signing where
  chan : Option Nat
  body : List Byte
  num : Nat             -- catch number at signing
  deriving DecidableEq, Repr

/-- The boot of the control die and what its security engines do (R511, R518, R521 to R525). Step: 0 fuses and memory test,
1 logic phase A, 2 logic phase B, 3 analogue checks, 4 firmware slots, 5 comparator tests and records, 6 firmware runs,
7 boot halt, 8 wiping or wiped with the entry still closed, 9 scan. -/
structure Boot where
  step : Nat
  soft : List MemLine       -- rows and columns that a spare has replaced since the release (R530)
  latch : Option (List Byte)    -- seed latch (R511)
  keys : List Byte          -- key store: the private key (R511)
  tried : List (Nat × Nat)  -- slots that have failed, the latest first, with their codes
  umpRec : List Byte        -- records read from flash for step 7 of R518
  ifRec : List Byte
  pairRec : List Byte
  pair : List (List Byte)   -- identities of the pairing record in force (R524)
  pairNext : List (List Byte)   -- those of an installed record, from the next drive start
  pairOk : Bool             -- a pairing record is accepted
  fuse : Option (List Byte) -- fuse command running
  sign : Option Signing
  entry : Nat               -- 0 none, 1 and 2 debug entry to COX0 and COX1, 3 scan entry: the wipe runs
  want : Nat                -- pairs whose attach is held until the sequence of R525 completes
  back : Nat                -- step at which the boot goes on after a debug wipe
  ports : Nat               -- pairs whose debug port is open
  auto : Nat                -- AUTO_PLAN: 0 still due, 1 its load runs and activates, 2 done
  deriving DecidableEq, Repr

def Boot.init : Boot :=
  { step := 0, soft := [], latch := none, keys := [], tried := [], umpRec := [], ifRec := [], pairRec := [], pair := [], pairNext := [],
    pairOk := false, fuse := none, sign := none, entry := 0, want := 0, back := 4, ports := 0, auto := 0 }

/-- A mailbox request as submitted (R432, R433). -/
structure MbReq where
  service : Nat
  seq : Nat
  args : List Word
  deriving DecidableEq, Repr

def MbReq.init : MbReq := { service := 0, seq := 0, args := [0, 0, 0, 0] }

/-- The mailbox besides its registers. -/
structure Mail where
  req : List (Nat × MbReq)   -- latest request of each channel
  order : List Nat           -- PENDING channels in the order of their MB_REQ writes
  deriving DecidableEq, Repr

def Mail.init : Mail := { req := [], order := [] }

/-- A frame in an output store: the bytes still to be sent, the CAN format, and whether it is an answer without payload. -/
structure OutFrame where
  bytes : List Byte
  fmt : Nat
  first : Bool      -- nothing of it has been sent
  count : Nat       -- segment counter of the next CAN segment
  bare : Bool
  event : Bool
  deriving DecidableEq, Repr

/-- A pending event: tag, frame and whether it has been sent (R464). -/
structure HostEvent where
  tag : Nat
  bytes : List Byte
  sent : Bool
  deriving DecidableEq, Repr

/-- One host interface: 0 host SPI, 1 CAN0, 2 CAN1 (chapter 18). -/
structure HostIf where
  asm : Option (List Byte × Nat × Nat)   -- partial frame, next segment counter, CAN format
  busy : List (Nat × List Byte)          -- BUSY tags with their requests
  cache : List (Nat × List Byte × List Byte)   -- DONE tags with request and answer
  out : List OutFrame
  events : List HostEvent
  nextEv : Nat
  dropped : Nat
  hb : Option Nat                        -- time of the last accepted HEARTBEAT in µs, while it keeps the heartbeat alive (R465)
  sent : Option CanFrame                 -- the last frame on CANx_TX (R470, R471)
  recov : Bool                           -- RECOVER has been written since the bus-off (R472)
  deriving DecidableEq, Repr

def HostIf.init : HostIf :=
  { asm := none, busy := [], cache := [], out := [], events := [], nextEv := 0, dropped := 0, hb := none, sent := none, recov := false }

/-- The conversation: interfaces, and the accepted requests in the order of acceptance (R459): interface, frame, format. -/
structure Conv where
  ifs : List (Nat × HostIf)
  queue : List (Nat × List Byte × Nat)
  hmiso : List Byte                      -- bytes on HMISO in the last transaction (R469)
  hbLast : Nat                           -- COUNTER of the latest accepted HEARTBEAT of any interface (R466)
  hbLive : Bool                          -- the heartbeat has been alive since its last loss (R466)
  deriving DecidableEq, Repr

def Conv.init : Conv := { ifs := [], queue := [], hmiso := [], hbLast := 0, hbLive := false }

/-- A class-1 transaction that the stroke has sent (R486): what it was, and where it goes. -/
structure RingTxn where
  ring : Nat
  tag : Nat
  typ : Nat             -- TYPE of R484
  dst : Nat
  addr : Nat
  body : List Byte
  attempt : Nat
  got : Nat             -- positions that have answered
  deriving DecidableEq, Repr

/-- A transfer that the stroke runs with a member (R493, R494). Kind: 0 an image to the member, 1 the stroke's report to the
member, 2 the member's report read back. Step: 1 copying, 2 arguments, 3 request. -/
structure Xfer where
  kind : Nat
  pos : Nat
  len : Nat
  ofs : Nat
  step : Nat
  deriving DecidableEq, Repr

/-- A DRIVE message waiting for its catch (R501): unit, action, catch, data. -/
structure DriveMsg where
  unit : Nat
  action : Nat
  num : Nat
  data : List Word
  deriving DecidableEq, Repr

/-- A drive-wide switch (R505 to R507). -/
structure Mode where
  n : Nat                       -- target catch N
  oldDig : List (List Byte)     -- digest prefixes by position
  newDig : List (List Byte)
  ready : Nat                   -- positions whose READY has arrived
  switched : Bool               -- this member switched at N
  phase : Nat                   -- 0 none, 1 prepared, 2 confirming, 3 reverting
  revertAt : Nat                -- catch of the revert
  deriving DecidableEq, Repr

def Mode.init : Mode := { n := 0, oldDig := [], newDig := [], ready := 0, switched := false, phase := 0, revertAt := 0 }

/-- The Mecen ring besides its registers (chapter 19). -/
structure Ring where
  down : Nat                     -- lanes that are DOWN until a RESTART
  enumerated : Bool
  roleFixed : Bool
  noSrc : Tab                    -- consecutive LS sets with SRCOK = 0, by ring
  num48 : Option Nat             -- full catch number of a CTL ALIGN
  placed : Bool                  -- the catches have been placed by a marker
  epsSum : Int                   -- sum and count of ε over the running 16 catches
  epsN : Nat
  good : Nat                     -- consecutive catches with |ε| ≤ 1 ns
  bad : Nat                      -- consecutive catches with |ε| > 8 ns
  noCm : Nat                     -- consecutive catches without a CM
  cmSeen : Bool
  txAt : Nat                     -- instant of the latest DLY, 125 ps steps
  rounds : List (Int × Int)      -- L0 and L1, or a0 and a1, of each round, latest first
  half : Option (Nat × Nat × Nat)  -- round, ring and instant of the first DLY of a round
  loop : Nat                     -- L
  res : Nat                      -- residence r
  nonceOwn : List (Nat × List Byte)  -- nonces: the member's own for the stroke at 0; the stroke's for each position
  attested : Nat                 -- positions that have passed R493
  unpaired : Nat
  trusted : Bool                 -- attestation has passed (R487)
  ids : List (Nat × List Byte)   -- identity of each position
  dist : List (Nat × List Byte)  -- STAGE digest distributed to each position
  mine : List Byte               -- digest of the plan that the stroke has distributed to this member (R488)
  sigs : List (Nat × Nat × List Byte × Nat)  -- SIG of each member: catch, digest prefix, flags
  miss : Tab                     -- consecutive catches without a SIG, by position
  expect : List (Nat × List Byte)  -- expected digest prefix of each position
  exch : List (Nat × Nat)        -- latest catches taken of each sender and channel
  answers : List (Nat × List Byte × List Byte)  -- by source and tag: request and answer
  txns : List RingTxn
  nextTag : Nat
  xfer : Option Xfer
  polls : List Nat               -- positions whose load the stroke polls (R494)
  dist8 : Nat                    -- start step 8: position whose image comes next from flash; 0 none
  rep : List Byte                -- bytes read of the report of the member under attestation
  due : Option (Nat × Nat × List Byte)  -- NONCE request whose answer waits for the signature: source, tag, request
  base : Int                     -- timebase: 125 ps steps from the tick grid to this member's own
  drive : List DriveMsg
  mode : Mode
  sent : List (Nat × Nat × Nat)  -- notices sent in this catch: kind (1 SSN, 2 REV, 3 DLY, 4 CM), two values
  exchOut : List (Nat × Nat × List Word)  -- EXCH frames sent in this catch: channel, destination, words (R499)
  sigOut : List Byte             -- payload of the last SIG frame sent (R502)
  fwd : Option RingHdr           -- header with which the last received frame was forwarded (R483)
  viols : Tab                    -- consecutive code violations, by ring, at most 16 (R482)
  deriving DecidableEq, Repr

def Ring.init : Ring :=
  { down := 0, enumerated := false, roleFixed := false, noSrc := [], num48 := none, placed := false, epsSum := 0, epsN := 0,
    good := 0, bad := 0, noCm := 0, cmSeen := false, txAt := 0, rounds := [], half := none, loop := 0, res := 0,
    nonceOwn := [], attested := 0, unpaired := 0, trusted := false, ids := [], dist := [], mine := [], sigs := [], miss := [],
    expect := [], exch := [], answers := [], txns := [], nextTag := 0, xfer := none, polls := [], dist8 := 0, rep := [], due := none, base := 0, drive := [], mode := Mode.init,
    sent := [], exchOut := [], sigOut := [], fwd := none, viols := [] }

/-- The whole block. -/
structure State where
  regs : List (Nat × Word)       -- registers, unlisted ones at their reset value
  sram : List Host.Cell          -- system SRAM, unlisted bytes 0 (log entry 4)
  half0 : List Host.Cell         -- race-plan store, physical halves H0 and H1
  half1 : List Host.Cell
  locals : List (Nat × Word)     -- seat local data: word `w` of seat `s` at key 4096·s + w
  caches : List Host.Cell        -- caches of the cox cores, 32 KB each (R529)
  sup : Supply
  ump : Umpire
  legs : List (Nat × Leg)
  prot : Prot
  chain : List (Nat × Chain)
  chainBus : ChainBus
  live : PlanInfo                -- the LIVE plan
  stage : PlanInfo               -- the plan in STAGE
  cat : Catch
  drives : List (Nat × Drive)
  sdIn : List (Nat × SdIn)
  sense : Sense
  fab : Fab
  checks : Checks
  self : SelfT
  therm : Therm
  pll : Pll
  pos : Pos
  inj : Inj
  load : Load
  fuses : Fuses
  sec : Sec
  boot : Boot
  mail : Mail
  conv : Conv
  ring : Ring
  freeCtr : Nat                  -- the model's own: free values taken so far (log entry 1)
  pending : List Instr           -- the model's own: commands waiting, first in, first out
  deriving DecidableEq, Repr

/-- The device before power: the safety die is down and every register holds its reset value. -/
def State.reset : State :=
  { regs := [], sram := [], half0 := [], half1 := [], locals := [], caches := [], sup := Supply.init, ump := Umpire.init,
    legs := [], prot := Prot.init, chain := [], chainBus := ChainBus.init, live := PlanInfo.empty,
    stage := PlanInfo.empty,
    cat := Catch.init,
    drives := [],
    sdIn := [], sense := Sense.init,
    fab := Fab.init,
    checks := Checks.init,
    self := SelfT.init,
    therm := Therm.init,
    pll := Pll.init,
    pos := Pos.init,
    inj := Inj.init,
    load := Load.init, fuses := Fuses.init, sec := Sec.init, boot := Boot.init, mail := Mail.init,
    conv := Conv.init, ring := Ring.init,
    freeCtr := 0, pending := [] }

end Sys2Proof.Machine
end

