-- ==== Sys2Proof/Machine/Ops.lean ====
section
/-! DEFINITION. The named operations over registers and memory, the questions about the LIVE plan's binding, and the
saturating counters and event bits that every block shares. -/

namespace Sys2Proof.Machine

/-- A word of the field's width at the field's place. -/
def Field.put (f : Field) (v : Nat) : Word := BitVec.ofNat 32 ((v % 2 ^ f.width) * 2 ^ f.lo)

/-- The bits of a field. -/
def Field.mask (f : Field) : Word := BitVec.ofNat 32 ((2 ^ f.width - 1) * 2 ^ f.lo)

/-- The word `w` with the field set to `v`. -/
def Field.insert (f : Field) (w : Word) (v : Nat) : Word := (w &&& ~~~ f.mask) ||| f.put v

/-- The field of the word `w`. -/
def Field.get (f : Field) (w : Word) : Nat := (w.toNat >>> f.lo) % 2 ^ f.width

/-- A `width`-bit reading as two's complement (R8, R11). -/
def signed (width v : Nat) : Int := if v < 2 ^ (width - 1) then (v : Int) else (v : Int) - 2 ^ width

/-- The `width`-bit two's complement word of an integer. -/
def unsigned (width : Nat) (v : Int) : Nat := (v % 2 ^ width).toNat

/-- Bit `i` of a number. -/
def bit (v i : Nat) : Bool := v.testBit i

/-- A number with bit `i` set, or cleared. -/
def setBit (v i : Nat) : Nat := v ||| 2 ^ i
def clearBit (v i : Nat) : Nat := if v.testBit i then v - 2 ^ i else v

/-- `x` held between `lo` and `hi`. -/
def clampI (x lo hi : Int) : Int := if x < lo then lo else if hi < x then hi else x

/-- The register at an address. -/
def State.rd (s : State) (a : Nat) : Word := mapGet resetWord s.regs a

/-- A register written whole, by hardware. -/
def State.wr (s : State) (a : Nat) (w : Word) : State := { s with regs := mapPut resetWord s.regs a w }

/-- A register field. -/
def State.fld (s : State) (f : Field) : Nat := f.get (s.rd f.addr)

/-- A register field read as two's complement. -/
def State.ifld (s : State) (f : Field) : Int := signed f.width (s.fld f)

/-- A one-bit register field. -/
def State.on (s : State) (f : Field) : Bool := s.fld f == 1

/-- A register field written by hardware. -/
def State.set (s : State) (f : Field) (v : Nat) : State := s.wr f.addr (f.insert (s.rd f.addr) v)

/-- A register field set to an integer, in two's complement. -/
def State.iset (s : State) (f : Field) (v : Int) : State := s.set f (unsigned f.width v)

/-- An event or status bit set by hardware (R19). -/
def State.ev (s : State) (f : Field) : State := s.set f (2 ^ f.width - 1)

/-- Bit `i` of a field of bits, set or cleared. -/
def State.setFldBit (s : State) (f : Field) (i : Nat) : State := s.set f (setBit (s.fld f) i)
def State.clearFldBit (s : State) (f : Field) (i : Nat) : State := s.set f (clearBit (s.fld f) i)

/-- A saturating counter of `width` bits after `n` more. -/
def satAdd (width v n : Nat) : Nat := min (v + n) (2 ^ width - 1)

/-- A counter field increased, saturating. -/
def State.bump (s : State) (f : Field) (n : Nat := 1) : State := s.set f (satAdd f.width (s.fld f) n)

/-- Apply `f` when the condition holds. -/
def State.when (s : State) (c : Bool) (f : State → State) : State := if c then f s else s

/-- Apply `f` at every index of the list, in order. -/
def State.each {α : Type} (s : State) (l : List α) (f : α → State → State) : State := l.foldl (fun t x => f x t) s

/-- A free value of `w` bits: the counter names it and advances (log entry 1). -/
def State.fresh (s : State) (w : Nat) : BitVec w × State :=
  (Config.freeBits s.freeCtr w, { s with freeCtr := s.freeCtr + 1 })

/-- A free choice (log entry 1). -/
def State.freshBool (s : State) : Bool × State :=
  (Config.freeChoice s.freeCtr, { s with freeCtr := s.freeCtr + 1 })

/-! ### Memory -/

/-- A byte of SRAM; a byte nothing has written reads 0 (log entry 4). -/
def State.byte (s : State) (a : Nat) : Byte := mapGet (fun _ => 0#8) s.sram a

def State.setByte (s : State) (a : Nat) (b : Byte) : State := { s with sram := mapPut (fun _ => 0#8) s.sram a b }

/-- The little-endian word of four bytes (R9). -/
def word32 (b0 b1 b2 b3 : Byte) : Word := b3 ++ b2 ++ b1 ++ b0

/-- An SRAM word (R9). -/
def State.sramWord (s : State) (a : Nat) : Word :=
  word32 (s.byte a) (s.byte (a + 1)) (s.byte (a + 2)) (s.byte (a + 3))

def State.setSramWord (s : State) (a : Nat) (w : Word) : State :=
  (((s.setByte a (w.extractLsb' 0 8)).setByte (a + 1) (w.extractLsb' 8 8)).setByte (a + 2)
    (w.extractLsb' 16 8)).setByte (a + 3) (w.extractLsb' 24 8)

/-- The physical half that holds the LIVE role (R177, R197). -/
def State.liveHalf (s : State) : Nat := s.fld F.PLAN_STATUS_LIVE_HALF

/-- A physical half of the store. -/
def State.half (s : State) (h : Nat) : List Host.Cell := if h = 0 then s.half0 else s.half1

/-- A half of the store written whole, by the loader (R178). -/
def State.setHalf (s : State) (h : Nat) (m : List Host.Cell) : State :=
  if h = 0 then { s with half0 := m } else { s with half1 := m }

/-- Byte `x` of the LIVE half, and of the STAGE half (R178, R240). -/
def State.liveByte (s : State) (x : Nat) : Byte := mapGet (fun _ => 0#8) (s.half s.liveHalf) x
def State.stageByte (s : State) (x : Nat) : Byte := mapGet (fun _ => 0#8) (s.half (1 - s.liveHalf)) x

/-- A word of the LIVE half. -/
def State.liveWord (s : State) (x : Nat) : Word :=
  word32 (s.liveByte x) (s.liveByte (x + 1)) (s.liveByte (x + 2)) (s.liveByte (x + 3))

/-- A local-data word of a seat (R170). -/
def State.localWord (s : State) (seat w : Nat) : Word := mapGet (fun _ => 0#32) s.locals (4096 * seat + w)

def State.setLocal (s : State) (seat w : Nat) (v : Word) : State :=
  { s with locals := mapPut (fun _ => 0#32) s.locals (4096 * seat + w) v }

/-- The sub's own local data, under a number of its own: it goes on with the sub work whichever seat is the sub (R185). -/
def workSeat : Nat := 16

/-- The nibble of FAB_MAP that names the seat of slot `k`. -/
def slotField (k : Nat) : Field := if k < 8 then ⟨R.FAB_MAP0, 4 * k, 4⟩ else ⟨R.FAB_MAP1, 4 * (k - 8), 4⟩

def State.slotSeat (s : State) (k : Nat) : Nat := s.fld (slotField k)

def State.slots (s : State) : Nat := s.fld F.FAB_CFG_SLOTS

/-- The slot a seat holds. -/
def State.slotOf (s : State) (seat : Nat) : Option Nat := (List.range s.slots).find? (fun k => s.slotSeat k == seat)

/-- The word at an address of the register pages, of SRAM or, below both, of local data, and writing it back. -/
def State.wordAt (s : State) (a : Nat) : Word :=
  if 0x40000000 ≤ a then s.rd a else if 0x20000000 ≤ a then s.sramWord a else s.localWord (a / 4096) (a % 4096)
def State.putAt (s : State) (a : Nat) (v : Word) : State :=
  if 0x40000000 ≤ a then s.wr a v else if 0x20000000 ≤ a then s.setSramWord a v else s.setLocal (a / 4096) (a % 4096) v

/-- What a write of a slot replaces is kept for the catch (R186). -/
def State.keep (s : State) (slot : Nat) (u : Undo) : State := { s with fab := { s.fab with undo := (slot, u) :: s.fab.undo } }

/-- A slot is about to write the word at `a` (R186). -/
def State.keepWord (s : State) (slot a : Nat) : State := s.keep slot (.word a (s.wordAt a))

/-- A slot writes a local-data word of a seat. -/
def State.slotLocal (s : State) (slot seat w : Nat) (v : Word) : State := (s.keepWord slot (4096 * seat + w)).setLocal seat w v

/-- The results that a seat's record still holds are written (R205). -/
def State.flushOwn (s : State) (seat : Nat) : State :=
  let slot := if seat = workSeat then 15 else (s.slotOf seat).getD 15
  let t := (s.fab.own.filter (fun e => e.1 == seat)).foldl (fun t e => t.slotLocal slot seat e.2.1 e.2.2) s
  { t with fab := { t.fab with own := s.fab.own.filter (fun e => e.1 != seat) } }

/-- Transfer `i` in flight is delivered to its local-data words (R174, R205). -/
def State.deliver (s : State) (i : Nat) : State :=
  match s.fab.flight[i]? with
  | some (seat, w, ws, slot) =>
    let t := ws.zipIdx.foldl (fun t e => t.slotLocal slot seat (w + e.2) e.1) s
    { t with fab := { t.fab with flight := t.fab.flight.eraseIdx i } }
  | none => s

/-- A delivered transfer returns its credit, which the lowest stalled slot takes (R174, R176). -/
def State.returnCredit (s : State) : State :=
  match s.fab.stalled with
  | _ :: l => { s with fab := { s.fab with stalled := l } }
  | [] => { s with fab := { s.fab with credits := s.fab.credits - 1 } }

/-- Every result is written and every transfer delivered, its credit returned: no record runs across the close of a catch. -/
def State.settleSeats (s : State) : State :=
  let t := (List.range 17).foldl State.flushOwn s
  (List.range t.fab.flight.length).foldl (fun t _ => (t.deliver 0).returnCredit) t

/-! ### Indexed blocks -/

def State.leg (s : State) (l : Nat) : Leg := mapGet (fun _ => Leg.init) s.legs l
def State.setLeg (s : State) (l : Nat) (x : Leg) : State := { s with legs := mapPut (fun _ => Leg.init) s.legs l x }
def State.modLeg (s : State) (l : Nat) (f : Leg → Leg) : State := s.setLeg l (f (s.leg l))

def State.drive (s : State) (d : Nat) : Drive := mapGet (fun _ => Drive.init) s.drives d
def State.setDrive (s : State) (d : Nat) (x : Drive) : State :=
  { s with drives := mapPut (fun _ => Drive.init) s.drives d x }
def State.modDrive (s : State) (d : Nat) (f : Drive → Drive) : State := s.setDrive d (f (s.drive d))

/-! ### Catch number and stamps -/

/-- The low 16 bits of the catch number, as the stamps of the pages take them. -/
def State.stamp (s : State) : Nat := s.cat.num % 65536

/-! ### The LIVE plan's binding (R45, R46, R254) -/

/-- A plan is LIVE. -/
def State.liveValid (s : State) : Bool := s.on F.PLAN_STATUS_LIVE_VALID

/-- First leg, last leg and legs per phase of a unit in a plan; an aux unit has its three fixed legs (R5, R331). -/
def PlanInfo.unitLegs (p : PlanInfo) (u : Nat) : Option (Nat × Nat × Nat) :=
  p.bind.findSome? (fun b => match b with
    | .unit v f l k _ => if v = u then some (if u = 2 then (18, 20, 1) else if u = 3 then (21, 23, 1) else (f, l, k)) else none
    | _ => none)

/-- The legs of a unit, in binding order. -/
def PlanInfo.legsOf (p : PlanInfo) (u : Nat) : List Nat :=
  match p.unitLegs u with
  | some (f, l, _) => (List.range 24).filter (fun x => decide (f ≤ x) && decide (x ≤ l))
  | none => []

/-- The unit a leg belongs to. -/
def PlanInfo.unitOf (p : PlanInfo) (l : Nat) : Option Nat :=
  (List.range 4).find? (fun u => (p.legsOf u).contains l)

/-- The phase of a leg within its unit (R45). -/
def PlanInfo.phaseOf (p : PlanInfo) (u l : Nat) : Nat :=
  match p.unitLegs u with
  | some (f, _, k) => (l - f) / (max k 1)
  | none => 0

/-- The unit has a binding in the plan. -/
def PlanInfo.bound (p : PlanInfo) (u : Nat) : Bool := (p.unitLegs u).isSome

/-- Mask of the drives that brake switch `b` serves; `none` if it is not bound (R46, R254). -/
def PlanInfo.brakeMask (p : PlanInfo) (b : Nat) : Option Nat :=
  p.bind.findSome? (fun e => match e with
    | .brake c m => if c = b then some m else none
    | _ => none)

def State.legsOf (s : State) (u : Nat) : List Nat := s.live.legsOf u
def State.unitOf (s : State) (l : Nat) : Option Nat := s.live.unitOf l

/-- The leg's enable bit in PWM_GATE_EN (R347). -/
def State.gateEn (s : State) (l : Nat) : Bool := bit (s.fld (F.PWM_GATE_EN_EN (legPage l))) (legBit l)

/-- The leg is enabled or still switching. -/
def State.legOn (s : State) (l : Nat) : Bool := s.gateEn l || s.on (F.LEG_STAT_EN l)

/-- A gate output of the unit is enabled. -/
def State.unitOn (s : State) (u : Nat) : Bool := (s.legsOf u).any s.legOn

/-- A gate output of the device is enabled. -/
def State.anyOn (s : State) : Bool := (List.range 24).any s.legOn

/-! ### Tables of the LIVE plan (R226, R249) -/

/-- A 32-bit field of the LIVE plan's header (R241). -/
def State.liveHdr (s : State) (o : Nat) : Nat := (s.liveWord o).toNat

/-- Word `k` of the descriptor of table `t`. -/
def State.tableWord (s : State) (t k : Nat) : Word := s.liveWord (s.liveHdr 0x20 + 32 * t + 4 * k)

/-- Format, NX and NY of a table. -/
def State.tableFormat (s : State) (t : Nat) : Nat := (s.tableWord t 1).toNat % 4
def State.tableNx (s : State) (t : Nat) : Nat := (s.tableWord t 1).toNat / 4 % 8192
def State.tableNy (s : State) (t : Nat) : Nat := (s.tableWord t 1).toNat / 2 ^ 15 % 8192

/-- The raw entry at position `i`: a word for F32, a signed or unsigned halfword otherwise. -/
def State.tableRaw (s : State) (t i : Nat) : Int :=
  let base := (s.tableWord t 0).toNat
  let h := (s.liveByte (base + 2 * i)).toNat + 256 * (s.liveByte (base + 2 * i + 1)).toNat
  match s.tableFormat t with
  | 0 => ((s.liveWord (base + 4 * i)).toNat : Int)
  | 1 => signed 16 h
  | _ => (h : Int)

/-- The temperature band in force: the hottest until the band is valid (R228, R332). -/
def State.band (s : State) : Nat := if s.on F.THRM_STATUS_BAND_VALID then s.fld F.THRM_STATUS_BAND else 7

/-- The catch period that a carrier period gives under a mode, the shorter of the two (R118). -/
def catchPeriod (mode p : Nat) : Nat := if mode = 1 then p / 2 else p

/-- The catch period in force, in ticks. -/
def State.period (s : State) : Nat := catchPeriod (s.fld F.CATCH_CTRL_MODE) (s.fld F.CATCH_PERIOD_CARRIER)

/-! ### The cascade (R477) -/

/-- Devices in the drive; 0 and values above 8 read as 1. -/
def State.devices (s : State) : Nat :=
  let d := s.fld F.CASC_CFG_DEVICES
  if d = 0 ∨ 8 < d then 1 else d

/-- The device is a cascade member. -/
def State.cascaded (s : State) : Bool := decide (1 < s.devices)

/-- Roles of CASC_STATE. -/
def roleStroke := 1
def roleCrew := 2

def State.role (s : State) : Nat := s.fld F.CASC_STATE_ROLE
def State.pos' (s : State) : Nat := s.fld F.CASC_STATE_POS

/-! ### Pages (R114, R115, R547) -/

/-- ENABLE is fixed at 1 (R115, R556). -/
def pageFixed (p : Nat) : Bool := [0, 1, 2, 3, 4, 0x1A, 0x1B, 0x1C, 0x1D, 0x1E].contains p

/-- The page is enabled. -/
def State.pageOn (s : State) (p : Nat) : Bool := pageFixed p || s.on (F.PAGE_CTRL_ENABLE p)

/-- The first watchdog service of the pairs of a mask is due within 250 ms from now (R412, R428). -/
def Umpire.firstDue (u : Umpire) (mask : Nat) : Umpire :=
  { u with wdFirst := u.wdFirst ||| mask, wdAt := ([0, 1].filter (fun x => mask.testBit x)).foldl (fun t x => t.set x u.windows) u.wdAt }

/-- The gates of a cascade member stay refused until its drive is READY, and so after a failed start (R490). -/
def State.gatesOpen (s : State) : Bool := !s.cascaded || s.on F.CASC_STATE_READY

/-- The control die runs. -/
def State.running (s : State) : Bool := s.sup.die == .running

/-- A command of the control die: nothing happens while the die is down or held in reset (log entry 9). -/
def State.onDie (s : State) (f : State → State) : State := if s.running then f s else s

/-- The clock of a page's block runs: ENABLE, or a clear of it that awaits the block's idle point (R114, R115; log entry
91). -/
def State.clocked (s : State) (p : Nat) : Bool := s.pageOn p || s.on (F.PAGE_STATUS_CLR_PEND p)

/-- An event of a page's block: nothing happens while its clock is stopped (R114). -/
def State.onBlock (s : State) (p : Nat) (f : State → State) : State := s.onDie (fun s => if s.clocked p then f s else s)

/-- A command of the umpire: nothing happens before the umpire runs (log entry 9). -/
def State.onUmp (s : State) (f : State → State) : State := if s.sup.umpire then f s else s

end Sys2Proof.Machine
end

