-- ==== Sys2Proof/Machine/Events.lean ====
section
/-! DEFINITION. Frames of the host conversation as bytes, the events that COX1 raises on the host interfaces
(18_host_interfaces.md R450, R455, R464, R467), and how a mailbox request ends (16_supervisor_cores.md R432 to R437). -/

namespace Sys2Proof.Machine

/-! ### Bytes -/

/-- The `n` bytes of a number, little-endian (R9). -/
def le (n v : Nat) : List Byte := (List.range n).map (fun i => BitVec.ofNat 8 (v / 256 ^ i))

/-- The number that bytes spell, little-endian. -/
def ofLe (l : List Byte) : Nat := l.foldr (fun b a => b.toNat + 256 * a) 0

/-- The bytes of words, and the words of bytes (R9). -/
def wordBytes (ws : List Word) : List Byte := ws.flatMap (fun w => le 4 w.toNat)
def bytesWord (l : List Byte) : Word := BitVec.ofNat 32 (ofLe (l.take 4))

/-- CRC-16 of R454, one byte at a time, most significant bit first. -/
def crc16Byte (c : BitVec 16) (b : Byte) : BitVec 16 :=
  (List.range 8).foldl (fun (c : BitVec 16) _ => if c.getLsbD 15 then (c <<< 1) ^^^ 0x1021#16 else c <<< 1) (c ^^^ (b.setWidth 16 <<< 8))

def crc16 (l : List Byte) : BitVec 16 := l.foldl crc16Byte 0xFFFF#16

/-- A frame closed by its CRC (R453). -/
def closeFrame (l : List Byte) : List Byte := l ++ le 2 (crc16 l).toNat

/-- CRC-8 with polynomial 0x2F, initial value 0xFF and final exclusive-or 0xFF over a number's bits, highest first
(R389, R395, R480). -/
def crc8 (nbits v : Nat) : BitVec 8 :=
  ((List.range nbits).foldl (fun (c : BitVec 8) k =>
    if c.msb != v.testBit (nbits - 1 - k) then (c <<< 1) ^^^ 0x2F else c <<< 1) 0xFF#8) ^^^ 0xFF#8

/-! ### Interfaces (R450, R467) -/

/-- Page of host interface `i`: HSPI, CAN0, CAN1. -/
def ifPage (i : Nat) : Nat := 0x15 + i

def State.hostIf (s : State) (i : Nat) : HostIf := mapGet (fun _ => HostIf.init) s.conv.ifs i
def State.setIf (s : State) (i : Nat) (x : HostIf) : State :=
  { s with conv := { s.conv with ifs := mapPut (fun _ => HostIf.init) s.conv.ifs i x } }
def State.modIf (s : State) (i : Nat) (f : HostIf → HostIf) : State := s.setIf i (f (s.hostIf i))

/-- The PLL has been LOCKED since the last control-die reset: it stays LOCKED or COAST until then (R100, R102). -/
def State.onceLocked (s : State) : Bool := decide (4 ≤ s.fld F.PLL_STATUS_STATE)

/-- The interface is open (R450). -/
def State.isOpen (s : State) (i : Nat) : Bool := s.on (F.CONV_CFG_INTF_EN (ifPage i)) && s.onceLocked

/-- Bytes of frames with payload that an output store holds. -/
def HostIf.used (x : HostIf) : Nat := ((x.out.filter (fun f => !f.bare)).map (fun f => f.bytes.length)).sum

/-- A frame of `n` bytes fits the free output store; answers without payload have their own reserve (R467). -/
def HostIf.fits (x : HostIf) (n : Nat) (bare : Bool) : Bool := bare || decide (x.used + n ≤ 65536)

/-- A frame enters the output store. -/
def HostIf.put (x : HostIf) (bytes : List Byte) (fmt : Nat) (bare event : Bool) : HostIf :=
  { x with out := x.out ++ [⟨bytes, fmt, true, 0, bare, event⟩] }

/-- CAN format of events (R470, R476). -/
def State.eventFmt (s : State) (i : Nat) : Nat := if i = 0 then 0 else s.fld (F.CAN_XL_EVT_FMT (ifPage i))

/-- The heartbeat is supervised, and is alive (R465). -/
def State.hbSupervised (s : State) : Bool := (List.range 3).any (fun i => s.on (F.HB_CFG_HB_EN (ifPage i)))
/-- An interface of a plan that has just come into force without HB_EN accepts no HEARTBEAT and so keeps none; with none supervising, the
heartbeat is no longer watched (R465). -/
def State.hbRebind (s : State) : State :=
  let t := s.each ((List.range 3).filter (fun i => !s.on (F.HB_CFG_HB_EN (ifPage i)))) (fun i t => t.modIf i (fun x => { x with hb := none }))
  { t with conv := { t.conv with hbLive := t.conv.hbLive && t.hbSupervised } }

def State.hbAlive (s : State) : Bool := (List.range 3).any (fun i => (s.hostIf i).hb.isSome && s.on (F.HB_CFG_HB_EN (ifPage i)))

/-! ### Events (R464) -/

/-- An event frame; DUP stands in [7] of the tag byte. -/
def eventFrame (tag session : Nat) (payload : List Byte) : List Byte :=
  closeFrame ([0xC0#8, BitVec.ofNat 8 tag] ++ le 2 12 ++ [0, 0, BitVec.ofNat 8 session, 0] ++ payload)

/-- The first event tag from `n` on that is not pending. -/
def freeTag (used : List Nat) (n : Nat) : Nat := (((List.range 128).map (fun k => (n + k) % 128)).find? (fun t => !used.contains t)).getD 0

def State.evPend (s : State) (i : Nat) : State := s.set (F.CONV_STAT_EVT_PEND (ifPage i)) (s.hostIf i).events.length

/-- An event on one interface: dropped and counted while 128 are pending; pending but unsent while the store is full. -/
def State.raiseOn (s : State) (i : Nat) (payload : List Byte) : State :=
  let x := s.hostIf i
  if 128 ≤ x.events.length then (s.modIf i (fun x => { x with dropped := x.dropped + 1 })).ev (F.CONV_EVENT_EVT_OVF (ifPage i))
  else
    let tag := freeTag (x.events.map (fun e => e.tag)) x.nextEv
    let fr := eventFrame tag s.sec.session payload
    let ok := x.fits fr.length false
    let y : HostIf := { x with events := x.events ++ [⟨tag, fr, ok⟩], nextEv := (tag + 1) % 128 }
    (s.setIf i (if ok then y.put fr (s.eventFmt i) false true else y)).evPend i

/-- An event of COX1: on every open interface that takes events, once the firmware runs. Unit 4 is none. -/
def State.hostEvent (s : State) (code unit detail : Nat) : State :=
  if s.boot.step = 6 then
    s.each ((List.range 3).filter (fun i => s.isOpen i && s.on (F.CONV_CFG_EVT_EN (ifPage i)))) (fun i t =>
      t.raiseOn i (le 2 code ++ [BitVec.ofNat 8 unit, 0] ++ le 4 (s.cat.num % 2 ^ 32) ++ le 4 detail))
  else s

/-- A PLAN_EVENT bit, with its event (R464). -/
def State.planEv (s : State) (f : Field) : State :=
  let t := s.ev f
  t.hostEvent 0x0007 4 ((t.rd R.PLAN_EVENT).toNat % 64 + 256 * t.fld F.PLAN_STATUS_FAIL)

/-! ### Ends of mailbox requests (R432, R434, R436, R437) -/

def mbPending := 1
def mbAccepted := 2
def mbQueued := 3
def mbDone := 4
def mbFailed := 5

/-- Service codes of R435. -/
def svInfo := 0x01
def svLoad := 0x10
def svActivate := 0x11
def svArm := 0x12
def svCancel := 0x13
def svCalibrate := 0x20
def svSelftest := 0x21
def svFsClear := 0x22
def svBrkClear := 0x23
def svRelease := 0x24
def svDischarge := 0x30
def svContactor := 0x31
def svAttest := 0x40
def svPairing := 0x41
def svAbort := 0xFF

def State.mbReq (s : State) (c : Nat) : MbReq := mapGet (fun _ => MbReq.init) s.mail.req c
def State.mbState (s : State) (c : Nat) : Nat := s.fld (F.MB_STATE_STATE c)

/-- Argument `k` of a channel's request. -/
def State.mbArg (s : State) (c k : Nat) : Nat := ((s.mbReq c).args.getD k 0).toNat

/-- The results shown by a channel; the others read zero. -/
def State.mbResults (s : State) (c : Nat) (res : List Nat) : State :=
  s.each (List.range 4) (fun k t => t.wr (R.MB_RES c k) (BitVec.ofNat 32 (res.getD k 0)))

/-- A request ends: DONE with CODE OK, else FAILED. -/
def State.mbEnd (s : State) (c code : Nat) (res : List Nat) : State :=
  let t := ((s.set (F.MB_STATE_STATE c) (if code = 0 then mbDone else mbFailed)).set (F.MB_STATE_CODE c) code).mbResults c res
  ((t.setFldBit F.MBOX_EVENT_DONE c)).hostEvent 0x0006 4 (c + 256 * code)

/-- A request is refused by its acting block: RES0 that block's code, RES1 its code space (R437). -/
def State.mbRefuse (s : State) (c code space : Nat) : State := s.mbEnd c 0x04 [code, space]

/-- A request waits for a window or standstill (R436). -/
def State.mbQueue (s : State) (c res : Nat) : State :=
  ((s.set (F.MB_STATE_STATE c) mbQueued).mbResults c [res]).setFldBit F.MBOX_EVENT_QUEUED c

/-- Channels in progress with a service, for which `p` holds of the request. -/
def State.mbWaiting (s : State) (sv : Nat) (p : MbReq → Bool) : List Nat :=
  (List.range 4).filter (fun c => (s.mbState c == mbAccepted || s.mbState c == mbQueued) && (s.mbReq c).service == sv && p (s.mbReq c))

/-- The requests that wait for an action end with it. -/
def State.mbFinish (s : State) (sv : Nat) (p : MbReq → Bool) (code : Nat) (res : List Nat) : State :=
  s.each (s.mbWaiting sv p) (fun c t => t.mbEnd c code res)

/-- The end of a request that takes no work of its own: a code that is not listed, and ABORT with nothing queued, which has no effect
(R435, R436; log entry 34). -/
def mbNoWork (sv : Nat) : Option Nat :=
  if sv = svAbort then some 0
  else if [svInfo, svLoad, svActivate, svArm, svCancel, svCalibrate, svSelftest, svFsClear, svBrkClear, svRelease, svDischarge,
      svContactor, svAttest, svPairing].contains sv then none
  else some 0x01

/-- COX1 takes from the front of the order every request that takes no work of its own (R434). -/
def State.mbSkipGo : List Nat → State → State
  | [], s => { s with mail := { s.mail with order := [] } }
  | c :: l, s =>
    match mbNoWork (s.mbReq c).service with
    | some code => State.mbSkipGo l (s.mbEnd c code [])
    | none => { s with mail := { s.mail with order := c :: l } }

/-- The same once the firmware runs. -/
def State.mbSkip (s : State) : State := if s.boot.step = 6 then State.mbSkipGo s.mail.order s else s

/-- The request names unit `u` in ARG0. -/
def MbReq.unit (r : MbReq) (u : Nat) : Bool := (r.args.getD 0 0).toNat == u

end Sys2Proof.Machine
end

