-- ==== Sys2Proof/Machine/RingBase.lean ====
section
/-! DEFINITION. What a cascade member sends on the Mecen ring: notices, transactions and relayed drive commands
(19_cascade.md R486, R501, R504). -/

namespace Sys2Proof.Machine

/-- A notice sent on both rings (R504, R507): kind 1 SSN, 2 REV, 3 DLY, 4 CM (R495), with its two values. -/
def State.notice (s : State) (kind a b : Nat) : State :=
  if s.cascaded then { s with ring := { s.ring with sent := s.ring.sent ++ [(kind, a, b)] } } else s

/-- SSN with a reason of R504. -/
def State.ssn (s : State) (reason : Nat) : State := s.notice 1 s.pos' reason

def ssnLocal := 1
def ssnMember := 2
def ssnAlign := 3
def ssnPlan := 4
def ssnMode := 5

/-- Catches in a time given in ns, rounded up. -/
def State.catchesIn (s : State) (ns : Nat) : Nat :=
  let t := 4 * max 1 s.period
  (ns + t - 1) / t

/-- Outstanding transactions are shown in LINK_TXN. -/
def State.showTxns (s : State) : State := s.set F.LINK_TXN_OUT s.ring.txns.length

/-- Types of frames (R484). -/
def tyExch := 0x01
def tySig := 0x02
def tyRd := 0x10
def tyWr := 0x11
def tyRsp := 0x12
def tyCtl := 0x20
def tyCtlr := 0x21

/-- A transaction opens with a tag that is free on both rings, since its repeat keeps the tag on the other one (R486); with all 128 in use
nothing is sent. -/
def State.sendTxn (s : State) (ring dst typ addr : Nat) (body : List Byte) : State :=
  let used := s.ring.txns.map (fun t => t.tag)
  if 128 ≤ used.length then s
  else
    let tag := freeTag used s.ring.nextTag
    let x : RingTxn := ⟨ring, tag, typ, dst, addr, body, 0, 0⟩
    ({ s with ring := { s.ring with txns := s.ring.txns ++ [x], nextTag := (tag + 1) % 128 } } : State).showTxns

/-- CTL codes of R488. -/
def ctEnum := 1
def ctLoop := 2
def ctNonce := 3
def ctGetNonce := 4
def ctVerify := 5
def ctAlign := 6
def ctReadyQ := 7
def ctDrive := 8
def ctPrepare := 9
def ctGo := 10
def ctAbort := 11
def ctRestart := 12

/-- A CTL message of the stroke (R488). -/
def State.sendCtl (s : State) (ring dst code : Nat) (body : List Byte) : State :=
  s.sendTxn ring dst tyCtl 0 ([BitVec.ofNat 8 code, 0, 0, 0] ++ body)

/-- DST of every member. -/
def allMembers := 15

/-- A drive command relayed to every member, this one included, with the catch from which it applies (R501). -/
def State.relay (s : State) (unit action : Nat) (d0 d1 d2 : Word) : State :=
  let n := s.cat.num + s.catchesIn 200000
  let t := s.sendCtl 0 allMembers ctDrive
    ([BitVec.ofNat 8 unit, BitVec.ofNat 8 action, 0, 0] ++ le 6 n ++ [0, 0] ++ wordBytes [d0, d1, d2])
  { t with ring := { t.ring with drive := t.ring.drive ++ [⟨unit, action, n, [d0, d1, d2]⟩] } }

/-- The device relays drive commands: the stroke of a drive that is READY. -/
def State.relays (s : State) : Bool := s.cascaded && s.role == roleStroke && s.on F.CASC_STATE_READY

/-- COX0 of a cascade member may take a START: the drive is READY and no crew member is known not to be ALIGNED; the
stroke, whose catches the others are aligned to, is not one of them (R490, R496). -/
def State.cascadeOk (s : State) : Bool :=
  !s.cascaded ||
    (s.on F.CASC_STATE_READY && (s.role == roleStroke || s.on F.CASC_STATE_ALIGNED) &&
      (List.range 8).all (fun p => p == 0 || match s.ring.sigs.find? (fun e => e.1 == p) with
        | some e => bit e.2.2.2 2
        | none => true))

end Sys2Proof.Machine
end

