-- ==== Sys2Proof/Machine/Safe.lean ====
section
/-! DEFINITION. The operations that both dies' protection shares: the umpire's override and its latched faults
(chapter 15), the entry of a unit to its safe state (chapter 14), gate permission, and the two resets (chapter 3). -/

namespace Sys2Proof.Machine

/-! ### Fault numbers -/

/-- PROT_FAULT bits of R370. -/
def fLeg := 0
def fP2p := 1
def fOc := 2
def fLinkOv := 3
def fLinkUv := 4
def fSenseLost := 5
def fRedund := 6
def fSum := 7
def fLateEsc := 8
def fFsLatch := 9
def fBootUv := 10
def fBrake := 11
def fDrvFault := 12
def fDrvLost := 13
def fSeat := 14
def fReq := 15

/-- UMP_FAULT bits of R417. -/
def uLinkOc := 0
def uLinkOv := 1
def uModHot := 2
def uBrkHot := 3
def uXchk := 4
def uStoDisc := 5
def uCheck := 6
def uCheckMissing := 7
def uTqDev := 8
def uTqStall := 9
def uLateEsc := 10
def uCtr := 11
def uBenchHv := 12
def uCtlFail := 13
def uWdog := 14
def uLockstep := 15

/-- Location classes of R370. -/
def locNone := 0
def locOc := 1
def locLegH := 2
def locLegL := 3

/-- Patterns of PROT_STATE and UMP_STATE: none, all-off, low-side and high-side hold water. -/
def patNone := 0
def patOff := 1
def patLow := 2
def patHigh := 3
def isHoldWater (p : Nat) : Bool := p == patLow || p == patHigh

/-- The drive states of R269. -/
def dOff := 0
def dSpin := 1
def dStart := 2
def dRun := 3
def dReacq := 4
def dEasy := 5
def dZero := 6
def dBrake := 7
def dZtw := 8
def dSafe := 9

/-! ### Gate enables -/

/-- The step from which a leg has been off, where the command that turns it off brings no instant: the edges planned for the period in
force count as emitted (log entry 117). -/
def Leg.offNow (x : Leg) : Option Int := some (x.offAt.getD (2 ^ 30))

/-- The outputs of a leg go off now: it no longer switches and any grant it waited on lapses. -/
def State.legOff (s : State) (l : Nat) : State :=
  ((s.set (F.LEG_STAT_EN l) 0).modLeg l (fun x => { x with granted := false, acted := true, offAt := x.offNow }))

/-- The easy-all of an aux channel is over (R307). -/
def State.auxSettle (s : State) (u : Nat) : State :=
  { s with inj := { s.inj with auxEasy := s.inj.auxEasy.set u 0, auxSpin := clearBit s.inj.auxSpin u, auxGo := clearBit s.inj.auxGo u } }

/-- The enable bits of a unit clear (R340, R342). -/
def State.clearEnables (s : State) (u : Nat) : State :=
  s.each (s.legsOf u) (fun l t => t.clearFldBit (F.PWM_GATE_EN_EN (legPage l)) (legBit l))

/-- A unit released to off at once, its enable bits cleared (R342). -/
def State.releaseUnit (s : State) (u : Nat) : State :=
  ((s.clearEnables u).each (s.legsOf u) (fun l t => t.legOff l)).auxSettle u

/-! ### The drive instances' part -/

/-- Brake switch `b` is armed (R377): by COX0, by a unit of its mask that holds a safe state of either die, or by the
discharge that uses it. -/
def State.chopArmed (s : State) (b : Nat) : Bool :=
  s.on (F.PROT_BRKCTL_ARM b) || bit s.prot.disArm b ||
  (match s.live.brakeMask b with
   | some m => (List.range 4).any (fun u => bit m u && (s.fld (F.PROT_STATE_PATTERN u) != 0 || bit (s.fld F.UMP_STATE_HELD) u))
   | none => false)

/-- A grant ends with the unit's gate outputs, and with it any request and every start that waits on it (R340, R341, R415). -/
def State.endGrant (s : State) (u : Nat) : State :=
  let t := (s.clearFldBit F.UMP_STATE_GRANT u).each (s.legsOf u) (fun l t => t.modLeg l (fun x => { x with granted := false }))
  { t with ump := { t.ump with requests := clearBit t.ump.requests u } }

/-- The grant of a unit none of whose gate outputs is enabled any more ends. -/
def State.settleGrant (s : State) (u : Nat) : State := if s.unitOn u then s else (s.endGrant u).auxSettle u

/-- A control-die chopper turns off: its switch is then on only where a discharge holds it on (R377, R387). -/
def State.chopOff (s : State) (b : Nat) : State :=
  let t := s.set (F.PROT_BRKCTL_ON b) (if bit s.prot.disArm b then 1 else 0)
  { t with prot := { t.prot with chopSelf := clearBit t.prot.chopSelf b } }

/-- A brake switch that is no longer armed is off (R377). -/
def State.dropChoppers (s : State) : State :=
  s.each (List.range 4) (fun b t => t.when (!t.chopArmed b) (fun t => t.chopOff b))

/-- COX0 arms the switches that serve an instance in START, RUN, BRAKE, EASY or ZERO (R377). -/
def State.armBrakes (s : State) : State :=
  let busy := fun (d : Nat) => [dStart, dRun, dBrake, dEasy, dZero].contains (s.fld (F.DRV_STATE_STATE d))
  (s.each (List.range 4) (fun b t => match t.live.brakeMask b with
    | some m => t.set (F.PROT_BRKCTL_ARM b) (if (bit m 0 && busy 0) || (bit m 1 && busy 1) then 1 else 0)
    | none => t)).dropChoppers

/-- A running capture channel that freezes on a unit's entry to a safe state has POST entries to go (R317). -/
def State.capFreeze (s : State) (u : Nat) : State :=
  s.each (List.range 8) (fun c t =>
    if t.fld (F.CAP_STAT_STATE c) = 2 ∧ t.on (F.CAP_CFG_FREEZE_EN c) = true ∧ t.fld (F.CAP_CFG_FREEZE_UNIT c) = u ∧
        t.inj.post.all (fun e => e.1 != c) = true then
      if t.fld (F.CAP_CFG_POST c) = 0 then (t.set (F.CAP_STAT_STATE c) 4).ev F.INJ_EVENT_CAP_FROZEN
      else { t with inj := { t.inj with post := (c, t.fld (F.CAP_CFG_POST c)) :: t.inj.post } }
    else t)

/-- A running kind 2 test of a unit stops: its request ends FAILED with ABORTED, and no outcome is applied (R541). -/
def State.stopTest (s : State) (u : Nat) : State :=
  let hit := fun (r : SelfReq) => r.kind == 2 && r.unit == u && r.phase == 4
  let t := s.each (s.self.reqs.filter hit) (fun r t => (t.mbEnd r.chan 0x07 []).ev F.BIST_EVENT_REQ_DONE)
  { t with self := { t.self with reqs := t.self.reqs.filter (fun r => !hit r) } }

/-- The state of an instance. -/
def State.driveState (s : State) (d : Nat) : Nat := s.fld (F.DRV_STATE_STATE d)

/-! ### Calibrations that an entry ends (R160 to R162) -/

/-- Units of a UNIT field: its own, or every unit for 4 (R151, R160). -/
def unitMask (u : Nat) : Nat := if u < 4 then 2 ^ u else 15

/-- The units an input belongs to. -/
def State.sdUnits (s : State) (n : Nat) : Nat := unitMask (s.fld (F.SD_MCFG_UNIT n))

/-- The input is bound and not off (R142). -/
def State.sdUsed (s : State) (n : Nat) : Bool := s.fld (F.SD_CFG_MODE n) != 0

/-- Record `i` of the LIVE schedule as one 128-bit value (R243). -/
def State.liveRecord (s : State) (i : Nat) : Nat :=
  let a := s.liveHdr 0x10 + 16 * i
  (s.liveWord a).toNat + 2 ^ 32 * (s.liveWord (a + 4)).toNat + 2 ^ 64 * (s.liveWord (a + 8)).toNat +
    2 ^ 96 * (s.liveWord (a + 12)).toNat

/-- Units of the LOAD_SMP records that read SAR entry `e`; every unit when one of unit none does, or none reads it. -/
def State.sarUnits (s : State) (e : Nat) : Nat :=
  let mine := fun (b : Nat) => match s.live.bind[b]? with | some (.sar f _ _ _) => f == e | _ => false
  let recs := (List.range (s.liveHdr 0x14 / 16)).map s.liveRecord
  let us := recs.filterMap (fun r =>
    let f1 := r / 2 ^ 56 % 2 ^ 14
    if r % 256 = 0x01 ∧ 0x3800 ≤ f1 ∧ mine (f1 - 0x3800) = true then some (r / 2 ^ 10 % 8) else none)
  if us.isEmpty then 15 else us.foldl (fun a u => a ||| unitMask u) 0

/-- A unit's calibration: phase, CAL_LOG2, last failure code. -/
def State.calOf (s : State) (u : Nat) : CalPhase × Nat × Nat :=
  ((s.sense.cal.find? (fun e => e.1 == u)).map (fun e => e.2)).getD (.idle, 0, 0)

def State.setCal (s : State) (u : Nat) (p : CalPhase) (log code : Nat) : State :=
  { s with sense := { s.sense with cal := (u, p, log, code) :: s.sense.cal.filter (fun e => e.1 != u) } }

/-- The inputs a calibration of a unit covers: SD inputs of kinds 1 to 3 by number, SHUNT entries at 40 + e (R161). -/
def State.calInputs (s : State) (u : Nat) : List Nat :=
  (List.range 40).filter (fun n =>
    let k := s.fld (F.SD_MCFG_KIND n)
    s.sdUsed n && 1 ≤ k && k ≤ 3 && bit (s.sdUnits n) u) ++
  ((List.range 32).filter (fun e =>
    s.live.bind.any (fun b => match b with | .sar f _ _ _ => f == e | _ => false) && s.on (F.SAR_SEQ_SHUNT e) &&
      bit (s.sarUnits e) u)).map (fun e => 40 + e)

/-- The SDM pages whose event registers a calibration sets: those of its SD inputs, SDM0 if it covers none
(log entry 15). -/
def calPages (keys : List Nat) : List Nat :=
  let l := [0, 1].filter (fun h => keys.any (fun k => k < 40 && k / 20 == h))
  if l.isEmpty then [0] else l

def State.calFail (s : State) (u code : Nat) : State :=
  ((s.setCal u .idle (s.calOf u).2.1 code).each (calPages (s.calInputs u)) (fun h t => t.ev (F.SDM_EVENT_CAL_FAIL h))).mbFinish
    svCalibrate (fun r => r.unit u) 0x04 [code, 3]

/-- A calibration settles or sums; one unit's runs at a time (R161). -/
def State.calRuns (s : State) (u : Nat) : Bool := (s.calOf u).1 == .settling || (s.calOf u).1 == .summing

/-- A gate output of the unit is enabled while its calibration runs (R162). -/
def State.calAbort (s : State) (u : Nat) : State := if s.calRuns u then s.calFail u 0x3 else s

/-- A unit enters a safe state: a kind 2 test of it stops (R541), captures freeze (R317), and a calibration of it is aborted where the
entry ends its zero-torque window or turns outputs on, as hold water does (R162). -/
def State.abortSelf (s : State) (u : Nat) (water : Bool) : State :=
  let s := (s.capFreeze u).stopTest u
  if water || (decide (u < 2) && s.driveState u == dZtw) then s.calAbort u else s

/-- COX0 changes an instance's state, mirrored for the plan, with the catch of the change. The torque reference is zero but in the
states that follow a request, and in SAFE, for which R269 gives none (R269; log entry 103); STARTED marks the entry to START or RUN
(R296). -/
def State.setDriveState (s : State) (d st : Nat) : State :=
  let t := ((s.set (F.DRV_STATE_STATE d) st).set (F.DRV_MODE_STATE d) st).set (F.DRV_STATE_CATCH d) s.stamp
  let t := if [dStart, dRun, dBrake, dSafe].contains st then t else t.wr (R.DRV_TREF d) 0
  (t.when ((st == dStart || st == dRun) && s.driveState d != st) (fun t => t.ev (F.DRV_EVENT_STARTED d))).armBrakes

/-- DRV_LAST and a refused start (R295, R296). -/
def State.drvLast (s : State) (d code : Nat) : State := (s.set (F.DRV_LAST_CODE d) code).set (F.DRV_LAST_CATCH d) s.stamp
def State.startRefused (s : State) (d code : Nat) : State :=
  ((s.drvLast d code).ev (F.DRV_EVENT_REFUSED d)).hostEvent 0x0008 d ((s.drvLast d code).rd (R.DRV_LAST d)).toNat

/-- The state that a safe-state entry has brought the instance is in force from the catch boundary on (R269, R270 row 1). -/
def State.settleSafe (s : State) (d : Nat) : State :=
  if (s.drive d).safeDue then (s.modDrive d (fun x => { x with safeDue := false })).setDriveState d dSafe else s

/-- Row 1 of R270: an instance in any state but OFF becomes SAFE at the next catch boundary, at once while no catch runs (R269; log entry
103); a latched command is discarded (R294). Its gates are left to the pattern, so COX0 clears its enable bits (R341). -/
def State.driveSafe (s : State) (d : Nat) : State :=
  let t := s.modDrive d (fun x =>
    { x with cmd := none, easyCause := 0, easyDue := 0, trqHeld := false, rampDue := false, gatesDue := false, tzero := 0,
             safeDue := x.safeDue || (s.driveState d != dOff && s.driveState d != dSafe) })
  (if s.on F.CATCH_CTRL_RUN then t else t.settleSafe d).releaseUnit d

/-! ### The umpire's override -/

/-- The unit holds an umpire override. -/
def State.umpHeld (s : State) (u : Nat) : Bool := bit (s.fld F.UMP_STATE_HELD) u

/-- The umpire's pattern for a unit, two bits per unit (R417). -/
def State.umpPattern (s : State) (u : Nat) : Nat := s.fld F.UMP_STATE_PATTERN / 4 ^ u % 4

def State.setUmpPattern (s : State) (u p : Nat) : State :=
  s.set F.UMP_STATE_PATTERN (s.fld F.UMP_STATE_PATTERN - s.umpPattern u * 4 ^ u + p * 4 ^ u)

/-- STO is active: either channel is accepted low, or its discrepancy is latched (R406). -/
def State.stoActive (s : State) : Bool := s.fld F.UMP_STO_LEVEL != 3 || s.on F.UMP_STO_DISC

/-- The latest EMF value of a drive, when no older than UMP_CLS.AGE (R398). -/
def State.emfFresh (s : State) (d : Nat) : Option Nat :=
  match (if d = 0 then s.ump.emfA else s.ump.emfB) with
  | some (v, w) => if (s.ump.windows - w) * 16 ≤ 1000 * s.fld F.UMP_CLS_AGE then some v else none
  | none => none

/-- The umpire's speed class (R398): E in volts is 2 × the XVAL value, V is UAIN0 × UMP_VSCALE / 256, K01 and K12 are
U0.8. -/
def State.umpClass (s : State) (d : Nat) : Nat :=
  match s.emfFresh d with
  | none => 2
  | some e =>
    let v := s.fld F.UMP_MEAS0_UAIN0 * s.fld F.UMP_VSCALE_V
    if 2 * e * 65536 < s.fld F.UMP_CLS_K01 * v then 0
    else if s.fld F.UMP_CLS_K12 * v ≤ 2 * e * 65536 then 2 else 1

/-- The cell of UMP_MATRIX for a drive and a class; a code-3 cell is all-off (log entry 10). -/
def State.umpCell (s : State) (d c : Nat) : Nat :=
  let m := if d = 0 then s.fld F.UMP_MATRIX_A else s.fld F.UMP_MATRIX_B
  match m / 4 ^ c % 4 with
  | 1 => patLow
  | 2 => patHigh
  | _ => patOff

/-- First holding row of R415 for a unit, 0 when none holds; `clock`: whether the CLOCK row is judged. A pattern the control die holds
counts as HELD (R385), and so does a running gate test (R541). -/
def State.grantRow (s : State) (u : Nat) (clock : Bool) : Nat :=
  if s.stoActive then 0x05
  else if s.ump.lockstepBroken && s.ump.benchHv then 0x06
  else if !s.on F.UMP_STO_TESTED then 0x07
  else if s.umpHeld u || (List.range 16).any (fun b => bit (s.fld F.UMP_FAULT_FAULT) b && bit (s.ump.faultUnits.get b) u)
      || s.on (F.PROT_STATE_HELD u) || s.self.reqs.any (fun r => r.kind == 3 && r.phase == 4) then 0x08
  else if clock && (!s.ump.lockedSince || s.ump.pll != 4) then 0x09
  else if !s.running || s.ump.failed then 0x0A
  else if s.on F.UMP_CFGSTAT_REJECT then 0x0B
  else 0

/-- The row on which the umpire refuses a request, 0 when it may grant. -/
def State.grantCode (s : State) (u : Nat) : Nat := s.grantRow u true

/-- A refusal of the umpire: the code and the unit, and UMP_EVENT.REFUSED (R402, R415). -/
def State.umpRefuse (s : State) (code u : Nat) : State :=
  ((s.set F.UMP_REFUSE_CODE code).set F.UMP_REFUSE_UNIT u).ev F.UMP_EVENT_REFUSED

/-- The unit has its grant. -/
def State.granted (s : State) (u : Nat) : Bool := bit (s.fld F.UMP_STATE_GRANT) u

/-- A refused enable (R339). -/
def State.enRefused (s : State) (page leg code : Nat) : State :=
  let t := s.ev (F.PWM_STATUS_EN_REFUSED page)
  ((t.set (F.PWM_ENLAST_LEG page) (legBit leg)).set (F.PWM_ENLAST_CODE page) code).set (F.PWM_ENLAST_CATCH page) s.stamp

/-- NOT_PERMITTED in every page that the unit spans, with the unit's first leg there (R340, R415). -/
def State.notPermitted (s : State) (u : Nat) : State :=
  s.each [0x0B, 0x0C, 0x0D] (fun p t => match (t.legsOf u).find? (fun l => legPage l == p) with
    | some l => t.enRefused p l 0x01
    | none => t)

/-- A grant withdrawn: the control die stops the unit's legs and records NOT_PERMITTED (R340, R415; log entry 11). -/
def State.withdraw (s : State) (u code : Nat) : State := (((s.endGrant u).umpRefuse code u).notPermitted u).releaseUnit u

/-- The row on which the umpire withdraws a grant: a coast does not withdraw one (R102, R415). -/
def State.withdrawCode (s : State) (u : Nat) : Nat := s.grantRow u false

/-- Every grant is judged again (R415). -/
def State.recheck (s : State) : State :=
  s.each (List.range 4) (fun u t => if t.granted u && t.withdrawCode u != 0 then t.withdraw u (t.withdrawCode u) else t)

/-- The override of one unit (R398 to R400): its pattern is fixed at entry, all-off under STO; a held hold-water pattern changes only
to all-off, and only when `allOff`. -/
def State.override1 (s : State) (allOff : Bool) (u : Nat) : State :=
  let allOff := allOff || s.stoActive
  if s.umpHeld u then
    if allOff && isHoldWater (s.umpPattern u) then s.setUmpPattern u patOff else s
  else
    let c := if u < 2 then s.umpClass u else 0
    let p := if u < 2 && !allOff then s.umpCell u c else patOff
    let t := (s.setFldBit F.UMP_STATE_HELD u).setUmpPattern u p
    let t := if u < 2 then t.set F.UMP_STATE_CLS (t.fld F.UMP_STATE_CLS - t.fld F.UMP_STATE_CLS / 4 ^ u % 4 * 4 ^ u + c * 4 ^ u) else t
    let t := t.hostEvent 0x0003 u (t.rd R.UMP_REFUSE).toNat
    let t := t.abortSelf u (isHoldWater p)
    if u < 2 then (t.ssn ssnLocal).driveSafe u else t.releaseUnit u

/-- An override on a unit; one on a drive instance also stops both aux channels (R399). -/
def State.override (s : State) (allOff : Bool) (u : Nat) : State :=
  let t := s.override1 allOff u
  if u < 2 then (t.override1 true 2).override1 true 3 else t

/-- Overrides on every unit of a mask. -/
def State.overrides (s : State) (allOff : Bool) (mask : Nat) : State :=
  s.each ((List.range 4).filter (fun u => bit mask u)) (fun u t => t.override allOff u)

/-- An umpire fault latches for the units of a mask (R400, R417). -/
def State.umpLatch (s : State) (b mask : Nat) : State :=
  let t := (s.setFldBit F.UMP_FAULT_FAULT b).setFldBit F.UMP_EVENT_FAULT_SET b
  { t with ump := { t.ump with faultUnits := t.ump.faultUnits.set b (t.ump.faultUnits.get b ||| mask) } }

/-- A cause that latches and imposes the umpire's safe state on its units. -/
def State.umpFault (s : State) (b mask : Nat) (allOff : Bool := false) : State :=
  ((s.umpLatch b mask).overrides allOff mask).recheck

/-! ### Entry to a safe state of the control die (chapter 14) -/

/-- The speed class in force (R379). -/
def State.spdClass (s : State) (u : Nat) : Nat := if s.on (F.PROT_SPD_VALID u) then s.fld (F.PROT_SPD_CLS u) else 2

/-- The pattern a unit holds. -/
def State.protPattern (s : State) (u : Nat) : Nat := s.fld (F.PROT_STATE_PATTERN u)

/-- The unit's gate outputs are all off: none is enabled, and neither die holds water in it. -/
def State.unitOff (s : State) (u : Nat) : Bool :=
  !s.unitOn u && !isHoldWater (s.protPattern u) && !isHoldWater (s.umpPattern u)

/-- Every unit has all its gate outputs off: no leg is on and no unit holds water (R190). -/
def State.outputsOff (s : State) : Bool :=
  !s.anyOn && (List.range 4).all (fun u => !isHoldWater (s.protPattern u) && !isHoldWater (s.umpPattern u))

/-- A chopper drives BRK ball `b`: the umpire's hard-wired one, or the control die's while it runs, has not been declared failed and PWMC
is enabled; a hot UAIN3 forces all of them off (R29, R84, R342, R403, R404). -/
def State.brkDriven (s : State) (b : Nat) : Bool :=
  !bit s.ump.hot 2 && ((s.ump.chopper && bit (s.fld F.UMP_LINKCFG_BRK) b) ||
    (s.sup.die == .running && !s.ump.failed && s.pageOn 0x0D && s.on (F.PROT_BRKCTL_ON b)))

/-- Every gate output of the device is off, the brake outputs among them (R428, R538). -/
def State.deviceOff (s : State) : Bool := s.outputsOff && !(List.range 4).any s.brkDriven

/-- The unit's chopper is available (R378). -/
def State.chopperAvail (s : State) (u : Nat) : Bool :=
  s.pageOn 0x0D && (List.range 4).any (fun b =>
    (match s.live.brakeMask b with | some m => bit m u | none => false) && !s.on (F.PROT_BRKCTL_LATCH b))

/-- The pattern chosen for a drive instance (R380): the matrix cell, then row 4. -/
def State.choose (s : State) (u fault loc cls : Nat) : Nat :=
  if fault = fP2p then patOff
  else
    let cell := s.fld (F.PROT_MATRIX_CELLS u) / 2 ^ (6 * loc + 2 * cls) % 4
    let p := match cell with | 1 => patLow | 2 => patHigh | _ => patOff
    if p = patOff ∧ cls ≠ 0 ∧ s.chopperAvail u = false then (if loc = locLegH then patHigh else patLow) else p

/-- What a fault brings along: its location class, the leg and side it names, the class a PROT_REQ asks for, and the tick in which it
is raised, where the command that raises it brings its instant. -/
structure FaultInfo where
  loc : Nat
  leg : Nat
  high : Bool
  reqCls : Option Nat
  tick : Option Nat
  deriving DecidableEq, Repr

def FaultInfo.plain : FaultInfo := { loc := locNone, leg := 0, high := false, reqCls := none, tick := none }

/-- Legs of a unit that hold water leaves off: the false-start counter has latched, or the driver of the named side has
reported DRV_FAULT (R382). -/
def State.heldOffLegs (s : State) (u p : Nat) : Nat :=
  let legs := s.legsOf u
  let rest := (List.range 24).filter (fun l => bit s.prot.heldOff l && !legs.contains l)
  let off := legs.filter (fun l => isHoldWater p &&
    (s.on (F.LEG_FS_LATCH l) || bit (s.leg l).drvFault (if p == patHigh then 1 else 0)))
  (rest ++ off).foldl setBit 0

/-- The pattern that a fault gives a unit, with the record of the entry (R380, R382, R393). A class of code 3, to which the spec gives
no meaning, is a free value (log entry 16). -/
def State.safeRecord (s : State) (u fault : Nat) (i : FaultInfo) : State :=
  let loc := if i.reqCls.isSome then locNone else i.loc
  let cls := match i.reqCls with | some c => c | none => s.spdClass u
  let (cls, s) := if cls = 3 then let (x, s) := s.fresh 2; (x.toNat % 3, s) else (cls, s)
  let p := if u < 2 then s.choose u fault loc cls else patOff
  let s := { s with prot := { s.prot with heldOff := s.heldOffLegs u p } }
  let t := ((((s.set (F.PROT_STATE_PATTERN u) p).set (F.PROT_STATE_LOC u) loc).set (F.PROT_STATE_CLS u) cls).set
    (F.PROT_STATE_HELD u) 1).set (F.PROT_STATE_CATCH u) s.stamp
  let t := { t with prot := { t.prot with entered := t.prot.entered.set u (match i.tick with | some k => k + 1 | none => 0) } }
  (((t.set (F.PROT_FIRST_BIT u) fault).set (F.PROT_FIRST_LEG u) (legBit i.leg)).set
    (F.PROT_FIRST_SIDE u) (if i.high then 1 else 0)).set (F.PROT_FIRST_CATCH u) s.stamp

/-- Entry of one unit to its safe state, the first time a fault asks for it (R380, R382). -/
def State.enterSafe (s : State) (u fault : Nat) (i : FaultInfo) : State :=
  let t := s.safeRecord u fault i
  let t := (t.setFldBit F.PROT_EVENT_SAFE_ENTER u).hostEvent 0x0003 u (t.rd (R.PROT_FIRST u)).toNat
  let t := t.abortSelf u (isHoldWater (t.protPattern u))
  (if u < 2 then (t.ssn ssnLocal).driveSafe u else t.releaseUnit u).endGrant u

/-- Faults that an aux unit takes (R371). -/
def auxFault (b : Nat) : Bool := b == fLeg || b == fOc || b == fFsLatch || b == fBootUv || b == fReq

/-- The unit entered its safe state in the tick of this fault, which goes before the fault of the entry: P2P before any other, and else
the lower bit (R384). -/
def State.goesBefore (s : State) (u fault : Nat) (i : FaultInfo) : Bool :=
  let first := s.fld (F.PROT_FIRST_BIT u)
  (match i.tick with | some k => s.prot.entered.get u == k + 1 | none => false) &&
    first != fP2p && (fault == fP2p || decide (fault < first))

/-- A fault of one unit is recorded, and acts (R370, R384): of two faults of one tick the one that goes before gives the pattern; a
unit that already holds a pattern changes only from hold water to all-off and only for P2P. -/
def State.fault1 (s : State) (u fault : Nat) (i : FaultInfo) : State :=
  if !s.live.bound u || (u ≥ 2 && !auxFault fault) then s
  else
    let t := s.setFldBit (F.PROT_FAULT_FAULT u) fault
    if fault = fBrake then t
    else if t.protPattern u = patNone then t.enterSafe u fault i
    else if t.goesBefore u fault i then t.safeRecord u fault i
    else if fault = fP2p ∧ isHoldWater (t.protPattern u) then t.set (F.PROT_STATE_PATTERN u) patOff
    else t

/-- A fault of one unit; a safe state of a drive instance stops both aux channels with fault REQ (R47, R382). -/
def State.fault (s : State) (u fault : Nat) (i : FaultInfo) : State :=
  let t := s.fault1 u fault i
  if u < 2 ∧ s.protPattern u = patNone ∧ t.protPattern u ≠ patNone then
    (t.fault1 2 fReq FaultInfo.plain).fault1 3 fReq FaultInfo.plain
  else t

/-- A fault whose source names no unit is recorded in every unit (R370). -/
def State.faultUnits (s : State) (mask fault : Nat) (i : FaultInfo) : State :=
  s.each ((List.range 4).filter (fun u => bit mask u)) (fun u t => t.fault u fault i)

/-! ### Resets (R77 to R81, R557) -/

/-- Scope of a cause: 2 a device reset, 1 a control-die reset, 0 reset-hold (R77). -/
def causeScope (code : Nat) : Nat :=
  if code = 1 ∨ code = 2 ∨ code = 3 ∨ code = 4 then 2 else if code < 0x18 then 1 else 0

/-- Causes for which UFLT_N is asserted (R77). -/
def causeUflt (code : Nat) : Bool :=
  [0x03, 0x04, 0x07, 0x08, 0x09, 0x0A, 0x0B, 0x11, 0x12, 0x13, 0x14, 0x15, 0x18, 0x19, 0x1A].contains code

/-- Registers that a control-die reset leaves: what the umpire holds itself or restores before the release (R557). -/
def umpireKeeps (a : Nat) : Bool :=
  let p := pageOf a
  let o := a % 0x1000
  if o < 0x40 then false
  else p == 0x01 || p == 0x1E || a == R.BIST_GRB || a == R.BIST_LBIST 5 || a == R.FAB_SEATS || a == R.DBG_COUNT || a == R.LSTP_STATUS ||
    a == R.LSTP_LAST

/-- A cause enters the log kept on the safety die (R79, R81, R82): the previous code moves into the history. -/
def Supply.log (p : Supply) (code detail also : Nat) : Supply :=
  { p with hist := (p.hist <<< 8) ||| BitVec.ofNat 32 (p.code % 256), code := code, detail := detail,
           also := BitVec.ofNat 32 also }

/-- Everything of the control die as a reset leaves it; SRAM and the store keep their bytes (log entry 12). The umpire
keeps what R557 names, of LSTP_STATUS the BROKEN bits, and every grant ends (R415); a device in scan stays in it (R525). -/
def State.clearDie (s : State) : State :=
  let t : State := { State.reset with
    regs := s.regs.filter (fun e => umpireKeeps e.1)
    sram := s.sram, half0 := s.half0, half1 := s.half1, locals := s.locals, caches := s.caches
    sup := s.sup
    ump := { s.ump with lockedSince := false, pll := 0, coast := false, liveValid := false, lateEsc := 0, wdFirst := 3,
                        wdDue := 3, wdHold := 0, tqWait := 0, requests := 0, ans := false,
                        aliveAt := 0, ckAt := [], grantAt := [], lsWindow := none, lsSeen := [],
                        down := Channel.init, up := Channel.init, cfgPassed := [] }
    fuses := s.fuses, sec := s.sec, boot := { Boot.init with step := if s.boot.step = 9 then 9 else 0 }
    freeCtr := s.freeCtr, pending := s.pending }
  let t := (t.set F.UMP_STATE_GRANT 0).wr R.LSTP_STATUS (t.rd R.LSTP_STATUS &&& 0x70)
  if s.boot.step = 9 then t.set F.DBG_STAT_SCAN 1 else t

/-- A control-die reset (R77): the umpire first imposes the safe state it selects itself on every unit, all-off where
`allOff`, and then holds the control die. -/
def State.dieReset (s : State) (code detail also : Nat) (hold : Die := .held) (allOff : Bool := false) : State :=
  if s.running then
    let t := ((s.overrides allOff 15).recheck).clearDie
    { t with sup := { (t.sup.log code detail also) with die := hold } }
  else s

/-- The control die is declared failed: a fault latches for every unit (R28, R400). -/
def State.failLatch (s : State) (b : Nat) : State :=
  let t := s.umpLatch b 15
  { t with ump := { t.ump with failed := true } }

/-- A device reset (R77): the safety die and with it the whole device; the retention latch records BO_V5, BO_VCSD and
BO_UREF (R81). It ends reset-hold and empties the list of automatic restarts, for a cause that leaves VSUP valid too (R80; log
entry 118). -/
def State.deviceReset (s : State) (retain : Option Nat) : State :=
  { State.reset with
    sup := { Supply.init with retained := retain, vsup := s.sup.vsup, bad := s.sup.bad, above82 := s.sup.above82 }
    fuses := { s.fuses with lc := s.fuses.stage }
    freeCtr := s.freeCtr, pending := s.pending }

/-! ### Causes of one umpire cycle (R72, R77, R79, R81) -/

/-- Cause code of a brown-out or an over-voltage (R77). -/
def causeCode : RailCause → Nat
  | .brownOut .vsup => 0x05 | .brownOut .v5 => 0x02 | .brownOut .vcsd => 0x03 | .brownOut .uref => 0x04
  | .brownOut .vio => 0x07 | .brownOut .v18 => 0x08 | .brownOut .vcore => 0x09 | .brownOut .vdda => 0x0A
  | .overVoltage .vsup => 0x06
  | .overVoltage _ => 0x0B

/-- The rail a cause names. -/
def causeRail : RailCause → Rail
  | .brownOut r => r
  | .overVoltage r => r

/-- Number of a rail in DETAIL of RAIL_OV: its row in R72 (log entry 13). -/
def railNumber : Rail → Nat
  | .vsup => 0 | .v5 => 1 | .vcsd => 2 | .uref => 3 | .vio => 4 | .v18 => 5 | .vcore => 6 | .vdda => 7

/-- DETAIL of a rail's cause (R82). -/
def causeDetail (c : RailCause) : Nat := if causeCode c = 0x0B then railNumber (causeRail c) else 0

/-- Scope of a rail's cause; RAIL_OV has that of the rail's brown-out (R72, R77). -/
def railScope (c : RailCause) : Nat :=
  if causeCode c = 0x0B then causeScope (causeCode (.brownOut (causeRail c))) else causeScope (causeCode c)

/-- Code, DETAIL and scope of any cause that may coincide with others (R77, R82). -/
def resetCode : ResetCause → Nat
  | .rail c => causeCode c
  | .umpire _ => 0x11
  | .lockstep x _ => 0x12 + x
  | .wdog x => 0x14 + x
  | .extRst => 0x10
  | .soft => 0x16
  | .clkStart => 0x18
  | .lbist _ => 0x19
  | .restartLimit => 0x1A

def resetDetail : ResetCause → Nat
  | .rail c => causeDetail c
  | .umpire d => d
  | _ => 0

def resetScope : ResetCause → Nat
  | .rail c => railScope c
  | .clkStart | .lbist _ | .restartLimit => 0
  | _ => 1

/-- `a` goes before `b` in RST_CAUSE: wider scope, then lower code (R79). -/
def causeBefore (a b : ResetCause) : Bool :=
  resetScope b < resetScope a || (resetScope a == resetScope b && resetCode a ≤ resetCode b)

/-- The cause that RST_CAUSE takes of several in one umpire cycle. -/
def causeFirst (c : ResetCause) (l : List ResetCause) : ResetCause :=
  l.foldl (fun b x => if causeBefore b x then b else x) c

/-- RST_ALSO: the codes of the other causes (R79). -/
def causeAlso (w c : ResetCause) (l : List ResetCause) : Nat :=
  ((c :: l).filter (fun x => resetCode x != resetCode w)).foldl (fun a x => setBit a (resetCode x)) 0

/-- A rail leaves, or rejoins, the good rails. -/
def Supply.drop (p : Supply) (r : Rail) : Supply := { p with good := p.good.filter (fun x => x != r) }
def Supply.join (p : Supply) (r : Rail) : Supply := { p with good := r :: p.good.filter (fun x => x != r) }

/-- A rail's cause is asserted; a brown-out ends the rail's being good. -/
def Supply.assert (p : Supply) (c : RailCause) : Supply :=
  let q := match c with | .brownOut r => p.drop r | .overVoltage _ => p
  { q with bad := c :: q.bad.filter (fun x => x != c) }

/-- LSTP_LAST takes a pair and a group and counts a lockstep reset. -/
def State.lockstepLast (s : State) (x group : Nat) : State :=
  ((s.set F.LSTP_LAST_PAIR x).set F.LSTP_LAST_GROUP group).bump F.LSTP_LAST_RESETS

/-- The mismatch that LSTP_LAST records: COX0's when both pairs mismatch (R423, R430). -/
def lockstepOf (l : List ResetCause) : Option (Fin 2 × Fin 16) :=
  let m := l.filterMap (fun c => match c with | .lockstep x g => some (x, g) | _ => none)
  (m.find? (fun e => e.1 == 0)).or m.head?

/-- What a cause leaves besides the reset: the rail's own record, and the fault that the umpire latches for a control die that
still runs (R28, R400, R412, R423). -/
def State.causeLatch (s : State) : ResetCause → State
  | .rail c => { s with sup := s.sup.assert c }
  | .umpire _ => if s.running then s.failLatch uCtlFail else s
  | .lbist k => { s with sec := { s.sec with island := some k } }
  | .lockstep _ _ => if s.running then s.failLatch uLockstep else s
  | .wdog _ => if s.running then s.umpLatch uWdog 15 else s
  | _ => s

/-- The causes of one umpire cycle act: each leaves its own record, and the one that goes before the others resets the device
or the control die, which a cause of reset-hold then keeps there. BO_VIO gives all-off, whichever cause is recorded, and on a die
already held too, since the gate output stage needs VIO to hold any pattern; RAIL_OV on VIO gives the class pattern (R77; log entry
118). -/
def State.causes (s : State) (c : ResetCause) (same : List ResetCause) : State :=
  let w := causeFirst c same
  let also := causeAlso w c same
  let off := (c :: same).any (fun x => resetCode x == 0x07)
  let hold := (c :: same).any (fun x => resetScope x == 0)
  let s := (c :: same).foldl State.causeLatch s
  let s := match lockstepOf (c :: same) with | some (x, g) => if s.running then s.lockstepLast x g else s | none => s
  if resetScope w = 2 then
    let t := s.deviceReset (if resetCode w = 0x0B then s.sup.retained else some (resetCode w))
    { t with sup := { t.sup.log (resetCode w) (resetDetail w) also with hist := 0 } }
  else if s.running then s.dieReset (resetCode w) (resetDetail w) also (if hold then .resetHold else .held) off
  else if hold then { s with sup := { (s.sup.log (resetCode w) (resetDetail w) also) with die := .resetHold } }
  else if off && s.sup.die != .down then s.overrides true 15
  else s

/-- The umpire declares the control die failed on a condition of R111 or R418 (R28, R43): the fault latches and the control die is
reset, with the causes of the same umpire cycle (R79). -/
def State.declareFailed (s : State) (detail : Fin 256) (same : List ResetCause) : State :=
  if s.running then s.causes (.umpire detail) same else s

/-- Causes that assert beside an event which is no reset of its own. -/
def State.beside (s : State) : List ResetCause → State
  | [] => s
  | c :: l => s.causes c l

end Sys2Proof.Machine
end

