-- ==== Sys2Proof/Machine/Page.lean ====
section
/-! DEFINITION. How an access to a register page is judged and how a refusal is logged (22_register_pages.md R544,
R548, R549, R551). -/

namespace Sys2Proof.Machine

/-- Master IDs of R544. -/
def masterId : Master → Nat
  | .root => 0 | .cox0 => 1 | .cox1 => 2 | .hspi => 3 | .can0 => 4 | .can1 => 5 | .ring => 6 | .seat => 7
  | .ump => 8 | .debug => 9

/-- The masters a page lock binds (R551). -/
def external : Master → Bool
  | .hspi | .can0 | .can1 | .ring | .debug => true
  | _ => false

/-- Error codes of R548. -/
def eGated := 1
def eSealed := 2
def eAlign := 3
def eUnmapped := 4
def eBusy := 5
def eAuth := 6

/-- The page in whose header an access to address `a` is logged (R549). -/
def logPage (a : Nat) : Nat :=
  if 0x40000000 ≤ a ∧ a < 0x40020000 then pageOf a else if 0x30000000 ≤ a ∧ a < 0x30040000 then 0x0A else 0x00

/-- A logged access (R549). -/
def State.refuse (s : State) (m : Master) (a code : Nat) (write : Bool) : State :=
  let p := logPage a
  let t := s.wr (R.PAGE_ERR_ADDR p) (BitVec.ofNat 32 a)
  let t := (((t.set (F.PAGE_ERR_INFO_CODE p) code).set (F.PAGE_ERR_INFO_MASTER p) (masterId m)).set
    (F.PAGE_ERR_INFO_WRITE p) (if write then 1 else 0)).set (F.PAGE_ERR_INFO_CATCH p) s.stamp
  let t := t.bump (F.PAGE_ERR_COUNT_COUNT p)
  if (0x40000000 ≤ a ∧ a < 0x40020000) ∨ (0x30000000 ≤ a ∧ a < 0x30040000) then t
  else t.ev F.SYS_EVENT_ERR_OUTSIDE

/-- The page's lock stops a write by this master (R551). -/
def State.lockStops (s : State) (m : Master) (p : Nat) : Bool :=
  external m && s.on (F.PAGE_LOCK_LOCK p) && s.fld (F.PAGE_LOCK_OWNER p) != masterId m

/-- Orders 3 and 4 of R548 for a write to a block register: `none` when it may go on to its own effect, else the code
and whether the device answers in silence. -/
def State.blockStops (s : State) (m : Master) (a : Nat) (auth : Bool) : Option (Nat × Bool) :=
  let p := pageOf a
  if m != .root && !s.pageOn p then some (eGated, s.on (F.PAGE_CTRL_GATE_POLICY p))
  else if !auth || s.lockStops m p then some (eAuth, false)
  else none

/-- A write to the block register at `a`, allowed to its writers by `auth`: refused and logged, or its effect. -/
def State.blockWrite (s : State) (m : Master) (a : Nat) (auth : Bool) (act : State → State) : State :=
  match s.blockStops m a auth with
  | some (c, _) => s.refuse m a c true
  | none => act s

/-- A register that COX0 alone may write. -/
def isCox0 (m : Master) : Bool := m == .cox0

end Sys2Proof.Machine
end

