-- ==== Sys2Proof/Machine/Supply.lean ====
section
/-! DEFINITION. Supply and reset commands (03_supply_reset_pin_states.md R69 to R88). Each instant of the power-up
sequence is a command of its own; one that its order forbids changes nothing (log entry 9). -/

namespace Sys2Proof.Machine

/-- POWER_UP (R73, R77, R81): VSUP is valid; POR is logged unless the retention latch holds a cause. -/
def powerUp (s : State) : State :=
  if s.sup.vsup then s
  else { s with sup := { s.sup with vsup := true, code := s.sup.retained.getD 0x01 } }

/-- RAIL_GOOD (R73): no rail is enabled before the rail above it is good, and none of the control die's before the umpire has passed the
test of its own island (R528). -/
def railGood (r : Rail) (s : State) : State :=
  let g := s.sup.good
  let ok := match r with
    | .vsup => false
    | .v5 => s.sup.vsup
    | .vcsd | .uref => g.contains .v5
    | .vio | .v18 => s.sup.umpire && s.sup.umpTest
    | .vcore | .vdda => s.sup.umpire && s.sup.umpTest && g.contains .vio && g.contains .v18
  if ok then { s with sup := s.sup.join r } else s

/-- The RC trim mirrored in the CLK page (R109, R113). -/
def State.mirrorTrim (s : State) : State :=
  let d := if Config.trimRises then s.ump.trim else -s.ump.trim
  let t := s.set F.CLK_RC_TRIM (((F.CLK_RC_TRIM.get (resetWord R.CLK_RC) : Int) + d) % 4096).toNat
  (t.set F.CLK_RC_TRIM_OK (if s.ump.trimOk then 1 else 0)).set F.CLK_RC_TRIM_RANGE (if s.ump.trimRange then 1 else 0)

/-- Each release counts a session (R455), and the SEC page shows the fuses as commands have left them, the lifecycle of the
last device reset, and a wipe (R521, R525). -/
def State.applyFuses (s : State) : State :=
  let s := { s with sec := { s.sec with session := (s.sec.session + 1) % 256 } }
  let s := s.each s.fuses.words (fun e t => t.wr e.1 e.2)
  (s.set F.SEC_LC_STATE s.fuses.lc).set F.SEC_LC_WIPED (if s.sec.wiped then 1 else 0)

/-- Step 6 of R73, and the release after a reset: the umpire restores the RST values (R82) and what R557 names; the
comparator of a pair that no debugger has attached to is active (R427). A cascade member begins its drive start, whose first steps its
power-up has been (R489). -/
def State.releaseDie (s : State) : State :=
  let p := s.sup
  let s := { s with sup := { p with die := .running }, ump := { s.ump with failed := false }.firstDue 3 }
  let s := s.applyFuses
  let s := ((s.set F.RST_CAUSE_CODE p.code).set F.RST_CAUSE_DETAIL p.detail).set F.RST_CAUSE_RESTARTS p.restarts
  let s := (s.wr R.RST_ALSO p.also).wr R.RST_HIST p.hist
  let s := s.when s.cascaded (fun s => s.set F.CASC_STATE_STEP 1)
  let s := ((s.set F.CLK_ISLANDS_RUN 0x3F).set F.CLK_RC_QUAL s.ump.rcQual).mirrorTrim
  (s.set F.LSTP_STATUS_CMP_EN0 (1 - s.fld F.LSTP_STATUS_BROKEN0)).set F.LSTP_STATUS_CMP_EN1 (1 - s.fld F.LSTP_STATUS_BROKEN1)

/-- The automatic restarts of the 60 s before `nowMs`, in ms (R80). -/
def Supply.recent (p : Supply) (nowMs : Nat) : List Nat := p.restartTimes.filter (fun t => nowMs < t + 60000)

/-- RESTARTS counts the automatic restarts of the current 60 s window (R82). -/
def Supply.count (p : Supply) (nowMs : Nat) : Supply :=
  { p with restartTimes := p.recent nowMs, restarts := (p.recent nowMs).length }

/-- CONTROL_DIE_RELEASE (R73, R75): at power-up, and after EXT_RST or SOFT, with every rail good, RST_N high
and the umpire's own tests behind it (R528). -/
def controlDieRelease (rstHigh : Bool) (nowMs : Nat) (s : State) : State :=
  let p := s.sup
  let due := p.die == .down || (p.die == .held && (p.code == 0x10 || p.code == 0x16))
  if rstHigh && due && p.umpire && p.umpTest && p.gateTest && !p.rcFailed && p.bad.isEmpty && [Rail.v5, .vcsd, .uref, .vio, .v18, .vcore, .vdda].all p.good.contains
  then ({ s with sup := p.count nowMs } : State).releaseDie else s

/-- VSUP_OV_WARN (R71): VSUP crosses 82 V, or falls back by the hysteresis. -/
def vsupOvWarn (rising : Bool) (s : State) : State :=
  s.onUmp (fun s =>
    let s := s.set F.UMP_STATE_VSUP_OV_WARN (if rising then 1 else 0)
    let p := { s.sup with above82 := rising }
    { s with sup := if rising then p else { p with bad := p.bad.filter (fun c => c != .overVoltage .vsup) } })

/-- VSUP_OV (R71): 450 ms above 82 V. `same` holds the causes of the same umpire cycle, here and below (R79). -/
def vsupOv (same : List ResetCause) (s : State) : State :=
  s.onUmp (fun s => if s.sup.above82 then s.causes (.rail (.overVoltage .vsup)) same else s.beside same)

/-- BROWN_OUT and RAIL_OV (R72, R79). -/
def brownOut (r : Rail) (same : List ResetCause) (s : State) : State :=
  if s.sup.vsup then s.causes (.rail (.brownOut r)) same else s

def railOv (r : Rail) (same : List ResetCause) (s : State) : State :=
  if s.sup.vsup && r != .vsup then s.causes (.rail (.overVoltage r)) same else s

/-- POWER_DOWN (R76, R81): BO_V5 is asserted and recorded, the control die is held and every rail goes. -/
def powerDown (s : State) : State :=
  let t := s.deviceReset (some 0x02)
  { t with sup := { t.sup with vsup := false, bad := [], above82 := false } }

/-- The way out of reset-hold by a RST_N pulse (R80); the times of the automatic restarts stand. After three failed
attempts of the RC oscillator the safety die starts them anew. -/
def State.leaveHold (s : State) : State :=
  if s.sup.die == .resetHold then
    { s with sup := { (s.sup.log 0x10 0 0) with
      die := if s.sup.rcTries = 3 then .down else .held, rcTries := 0, rcStopped := false } }
  else s

/-- A RST_N pulse that is taken: a control-die reset, or the way out of reset-hold (R78, R80). -/
def State.rstPulse (s : State) (same : List ResetCause) : State :=
  if s.running then s.causes .extRst same else s.leaveHold.beside same

/-- EXT_RST (R78): pulses below 200 ns are ignored; from 200 ns to 1 µs the device may or may not take one. -/
def extRst (widthNs : Nat) (same : List ResetCause) (s : State) : State :=
  if widthNs < 200 then s.beside same
  else if widthNs < 1000 then
    let (c, t) := s.freshBool
    if c then t.rstPulse same else t.beside same
  else s.rstPulse same

/-- RST_SWREQ (R83). -/
def rstSwreq (m : Master) (key : Word) (same : List ResetCause) (s : State) : State :=
  s.onDie (fun s => s.blockWrite m R.RST_SWREQ (key.toNat % 65536 == 0xA5C3) (fun s =>
    if s.anyOn then (s.refuse m R.RST_SWREQ eBusy true).beside same else s.causes .soft same))

/-- AUTOMATIC_RESTART (R75, R80): not while RST_N is low; the fourth within 60 s is not made. In reset-hold the umpire keeps its
override and LIVE (log entry 86). -/
def automaticRestart (rstHigh : Bool) (nowMs : Nat) (same : List ResetCause) (s : State) : State :=
  let p := s.sup
  if rstHigh && p.umpire && p.umpTest && p.gateTest && p.die == .held && p.code != 0x10 && p.code != 0x16 && p.bad.isEmpty && !p.rcFailed then
    if 3 ≤ (p.recent nowMs).length then
      ({ s with sup := p.count nowMs } : State).causes .restartLimit same
    else
      (({ s with sup := ({ p with restartTimes := nowMs :: p.restartTimes } : Supply).count nowMs } : State).releaseDie).beside same
  else s.beside same

/-- CAUSE_CLEAR (R72, R80): a rail has returned past its threshold by the hysteresis. -/
def causeClear (c : RailCause) (s : State) : State :=
  if s.sup.bad.contains c then
    let p := { s.sup with bad := s.sup.bad.filter (fun x => x != c) }
    { s with sup := match c with
      | .brownOut .vsup => p
      | .brownOut r => if p.umpire then p.join r else p
      | .overVoltage _ => p }
  else s

/-- RETENTION_LOSS (R81): VSUP has fallen below 6 V. -/
def retentionLoss (s : State) : State :=
  if s.sup.vsup then s else { s with sup := { s.sup with retained := none } }

def execPowerUp (s : State) : Host.Outcome State Fault Refusal := .next (powerUp s)
def execRailGood (r : Rail) (s : State) : Host.Outcome State Fault Refusal := .next (railGood r s)
def execControlDieRelease (rstHigh : Bool) (nowMs : Nat) (s : State) : Host.Outcome State Fault Refusal :=
  .next (controlDieRelease rstHigh nowMs s)
def execVsupOvWarn (rising : Bool) (s : State) : Host.Outcome State Fault Refusal := .next (vsupOvWarn rising s)
def execVsupOv (same : List ResetCause) (s : State) : Host.Outcome State Fault Refusal := .next (vsupOv same s)
def execBrownOut (r : Rail) (same : List ResetCause) (s : State) : Host.Outcome State Fault Refusal :=
  .next (brownOut r same s)
def execRailOv (r : Rail) (same : List ResetCause) (s : State) : Host.Outcome State Fault Refusal :=
  .next (railOv r same s)
def execPowerDown (s : State) : Host.Outcome State Fault Refusal := .next (powerDown s)
def execExtRst (widthNs : Nat) (same : List ResetCause) (s : State) : Host.Outcome State Fault Refusal :=
  .next (extRst widthNs same s)
def execRstSwreq (m : Master) (key : Word) (same : List ResetCause) (s : State) : Host.Outcome State Fault Refusal :=
  .next (rstSwreq m key same s)
def execAutomaticRestart (rstHigh : Bool) (nowMs : Nat) (same : List ResetCause) (s : State) : Host.Outcome State Fault Refusal :=
  .next (automaticRestart rstHigh nowMs same s)
def execCauseClear (c : RailCause) (s : State) : Host.Outcome State Fault Refusal := .next (causeClear c s)
def execRetentionLoss (s : State) : Host.Outcome State Fault Refusal := .next (retentionLoss s)

end Sys2Proof.Machine
end

