-- ==== Sys2Proof/Machine/F32.lean ====
section
/-! DEFINITION. Binary32 arithmetic as 08_operation_set.md R200 to R202 lay it down: exact results, one rounding to
nearest with ties to even, subnormals read and written as zero, no infinities and no NaNs. -/

namespace Sys2Proof.Machine

/-- An exact dyadic number (-1)^neg · mant · 2^exp; a zero keeps its sign. -/
structure Fl where
  neg : Bool
  mant : Nat
  exp : Int
  deriving DecidableEq, Repr

/-- A binary32 word with the flags its computation has raised (R209). -/
structure FV where
  w : Word
  fl : Nat
  deriving DecidableEq, Repr

/-- Flag bits of R209. -/
def flagLate : Nat := 1
def flagNv : Nat := 2
def flagSat : Nat := 4
def flagNan : Nat := 8
def flagDom : Nat := 16
def flagRange : Nat := 32
def flagLos : Nat := 64
def flagTclamp : Nat := 128

/-- The word is a NaN or an infinity. -/
def f32Bad (w : Word) : Bool := (w.toNat >>> 23) % 256 == 255

/-- The exact value of a finite word; a subnormal reads as zero of the same sign (R200). -/
def flOf (w : Word) : Fl :=
  let e := (w.toNat >>> 23) % 256
  let s := w.toNat >>> 31 == 1
  if e = 0 then ⟨s, 0, 0⟩ else ⟨s, w.toNat % 2 ^ 23 + 2 ^ 23, (e : Int) - 150⟩

/-- An operand as an operation uses it: a NaN or an infinity becomes +0 and raises NAN (R200). -/
def fin (w : Word) : FV :=
  if f32Bad w then ⟨0, flagNan⟩
  else if (w.toNat >>> 23) % 256 = 0 then ⟨BitVec.ofNat 32 ((w.toNat >>> 31) * 2 ^ 31), 0⟩ else ⟨w, 0⟩

/-- A constant. -/
def fconst (w : Word) : FV := ⟨w, 0⟩

/-- `m` with `k` low bits rounded away, to nearest with ties to even. -/
def rneShift (m k : Nat) : Nat :=
  let q := m >>> k
  let r := m % 2 ^ k
  if 2 ^ k < 2 * r ∨ (2 * r = 2 ^ k ∧ k ≠ 0 ∧ q % 2 = 1) then q + 1 else q

/-- An exact number rounded to binary32 (R200), and whether it saturated. -/
def roundFl (x : Fl) : Word × Bool :=
  let sgn := if x.neg then 2 ^ 31 else 0
  if x.mant = 0 then (BitVec.ofNat 32 sgn, false) else
  let len := Nat.log2 x.mant + 1
  let q0 := if len ≤ 24 then x.mant <<< (24 - len) else rneShift x.mant (len - 24)
  let e0 := x.exp + (len : Int) - 24
  let q := if q0 = 2 ^ 24 then 2 ^ 23 else q0
  let e := (if q0 = 2 ^ 24 then e0 + 1 else e0) + 150
  if e < 1 then (BitVec.ofNat 32 sgn, false)
  else if 254 < e then (BitVec.ofNat 32 (sgn + 0x7F7FFFFF), true)
  else (BitVec.ofNat 32 (sgn + e.toNat * 2 ^ 23 + (q - 2 ^ 23)), false)

/-- The exact product and the exact sum. -/
def flMul (a b : Fl) : Fl := ⟨a.neg != b.neg, a.mant * b.mant, a.exp + b.exp⟩

/-- The signed mantissa of `x` at exponent `e`, for `e ≤ x.exp`. -/
def Fl.at (x : Fl) (e : Int) : Int :=
  let m : Int := ((x.mant <<< (x.exp - e).toNat : Nat) : Int)
  if x.neg then -m else m

def flAdd (a b : Fl) : Fl :=
  if a.mant = 0 ∧ b.mant = 0 then ⟨a.neg && b.neg, 0, 0⟩
  else if a.mant = 0 then b else if b.mant = 0 then a else
  let e := min a.exp b.exp
  let s := a.at e + b.at e
  ⟨decide (s < 0), s.natAbs, e⟩

def flNeg (a : Fl) : Fl := { a with neg := !a.neg }

/-- Exact comparison, -0 equal to +0 (R201). -/
def flLt (a b : Fl) : Bool := let d := flAdd a (flNeg b); d.mant != 0 && d.neg
def flEq (a b : Fl) : Bool := (flAdd a (flNeg b)).mant == 0

/-- One rounding with its SAT flag. -/
def fround (x : Fl) (fl : Nat) : FV :=
  let r := roundFl x
  ⟨r.1, fl ||| (if r.2 then flagSat else 0)⟩

def FV.v (a : FV) : Fl := flOf a.w

/-- The binary32 operations of R200 and R201. -/
def fadd (a b : FV) : FV := fround (flAdd a.v b.v) (a.fl ||| b.fl)
def fneg (a : FV) : FV := ⟨a.w ^^^ 0x80000000#32, a.fl⟩
def fsub (a b : FV) : FV := fadd a (fneg b)
def fmul (a b : FV) : FV := fround (flMul a.v b.v) (a.fl ||| b.fl)
def ffma (a b c : FV) : FV := fround (flAdd (flMul a.v b.v) c.v) (a.fl ||| b.fl ||| c.fl)
def flt (a b : FV) : Bool := flLt a.v b.v
def fle (a b : FV) : Bool := !flLt b.v a.v
def feq (a b : FV) : Bool := flEq a.v b.v
def fabs (a : FV) : FV := ⟨a.w &&& 0x7FFFFFFF#32, a.fl⟩

/-- min, max and clamp are exact (R201). -/
def fmax (a b : FV) : FV := if flt a b then ⟨b.w, a.fl ||| b.fl⟩ else ⟨a.w, a.fl ||| b.fl⟩
def fmin (a b : FV) : FV := if flt b a then ⟨b.w, a.fl ||| b.fl⟩ else ⟨a.w, a.fl ||| b.fl⟩
def fclamp (x lo hi : FV) : FV :=
  ⟨if flt x lo then lo.w else if flt hi x then hi.w else x.w, x.fl ||| lo.fl ||| hi.fl⟩

/-- `x` lies outside [lo, hi]. -/
def fclamped (x lo hi : FV) : Bool := flt x lo || flt hi x

def FV.raise (a : FV) (f : Nat) : FV := { a with fl := a.fl ||| f }
def FV.raiseIf (a : FV) (c : Bool) (f : Nat) : FV := if c then a.raise f else a

def fzero : FV := ⟨0, 0⟩
def fone : FV := ⟨0x3F800000#32, 0⟩
def fhalf : FV := ⟨0x3F000000#32, 0⟩

/-- An integer as an exact number. -/
def flInt (n : Int) : Fl := ⟨decide (n < 0), n.natAbs, 0⟩

/-- float(n): the integer rounded to binary32. -/
def fofInt (n : Int) : FV := fround (flInt n) 0

/-- rne of an exact number times 2^k (R202). -/
def rneFl (x : Fl) (k : Int) : Int :=
  let e := x.exp + k
  let m := if 0 ≤ e then x.mant <<< e.toNat else rneShift x.mant (-e).toNat
  if x.neg then -(m : Int) else (m : Int)

/-- floor of a non-negative exact number. -/
def floorFl (x : Fl) : Nat := if 0 ≤ x.exp then x.mant <<< x.exp.toNat else x.mant >>> (-x.exp).toNat

/-- Integer square root by bits, from bit `k` down. -/
def isqrtFrom (n : Nat) : Nat → Nat → Nat
  | 0, r => if (r + 1) * (r + 1) ≤ n then r + 1 else r
  | k + 1, r =>
    let t := r + 2 ^ (k + 1)
    isqrtFrom n k (if t * t ≤ n then t else r)

def isqrt (n : Nat) : Nat := isqrtFrom n (Nat.log2 n / 2 + 1) 0

/-- SQRT of R233: correctly rounded; below zero +0 with DOM; SQRT(-0) = +0. -/
def fsqrt (a : FV) : FV :=
  let x := a.v
  if x.mant = 0 then ⟨0, a.fl⟩
  else if x.neg then ⟨0, a.fl ||| flagDom⟩
  else
    let odd := x.exp % 2 = 1
    let m := (if odd then 2 * x.mant else x.mant) <<< 60
    let e := (if odd then x.exp - 1 else x.exp) - 60
    let r := isqrt m
    fround ⟨false, 2 * r + (if r * r = m then 0 else 1), e / 2 - 1⟩ a.fl

/-- RECIP of R233: correctly rounded; 1/0 gives +0 with DOM. -/
def frecip (a : FV) : FV :=
  let x := a.v
  if x.mant = 0 then ⟨0, a.fl ||| flagDom⟩
  else
    let n := 2 ^ 80
    let q := n / x.mant
    fround ⟨x.neg, 2 * q + (if q * x.mant = n then 0 else 1), -80 - 1 - x.exp⟩ a.fl

/-- π × 2^192, rounded down. -/
def pi192 : Nat := 0x3243f6a8885a308d313198a2e03707344a4093822299f31d0

/-- Euler's series of the arctangent of a/b, for a ≤ b, in units of 2^-192: `k` further terms. -/
def atanTerms (num den : Nat) : Nat → Nat → Nat → Nat
  | 0, _, term => term
  | k + 1, n, term => term + atanTerms num den k (n + 1) (term * (2 * n) * num / ((2 * n + 1) * den))

/-- atan(a/b) in units of 2^-192 radian, for a ≤ b, b > 0. -/
def atan192 (a b : Nat) : Nat :=
  let den := a * a + b * b
  atanTerms (a * a) den 200 1 (2 ^ 192 * (a * b) / den)

/-- The angle of (x, y) as a fraction of a turn × 2^32, rounded to nearest (R235; log entry 7). -/
def atan2Turn (y x : Fl) : Nat :=
  let e := min y.exp x.exp
  let a := (y.at e).natAbs
  let b := (x.at e).natAbs
  -- first octant angle in units of 2^-64 of 2^-32 turn
  let oct := fun (p q : Nat) => atan192 p q * 2 ^ 96 / (2 * pi192)
  let quarter := 2 ^ 30 * 2 ^ 64
  let first := if a = 0 then 0 else if b = 0 then quarter else if a = b then quarter / 2
    else if a < b then oct a b else quarter - oct b a
  let full := if x.neg then (if y.neg then 2 * quarter + first else 2 * quarter - first)
    else (if y.neg then 4 * quarter - first else first)
  rneShift full 64 % 2 ^ 32

end Sys2Proof.Machine
end

