-- ==== Sys2Proof/Machine/Ntc.lean ====
section
/-! DEFINITION. Module temperatures and the temperature band (17_thermal.md R445 to R448). -/

namespace Sys2Proof.Machine

/-- A sum divided by 2^k, rounded to nearest with ties to even. -/
def rneDivPow (x : Int) (k : Nat) : Int := if x < 0 then -((rneShift x.natAbs k : Nat) : Int) else ((rneShift x.natAbs k : Nat) : Int)

/-- Conversion of a SAR value by a curve, in S11.4 (R445). -/
def State.ntcTemp (s : State) (c : Nat) (v : Int) : Int :=
  let code := (clampI v 0 4095).toNat
  let a := s.ifld (F.THRM_CURVE_T c (code / 256))
  let b := s.ifld (F.THRM_CURVE_T c (code / 256 + 1))
  a + rneDivPow ((b - a) * ((code % 256 : Nat) : Int)) 8

/-- A fault of an NTC (R445). -/
def State.ntcFault (s : State) (n : Nat) : State :=
  let t := (s.set (F.THRM_NTCT_FAULT n) 1).ev F.THRM_EVENT_NTC_FAULT
  { (t.clearFldBit F.THRM_MOD_GOOD n) with therm := { t.therm with ntcRun := t.therm.ntcRun.set n 0 } }

/-- A result of an NTC's entry: a fault, or one more good result; FAULT clears after 16 of them. -/
def State.ntcResult (s : State) (n : Nat) (valid : Bool) (v : Int) : State :=
  let code := (clampI v 0 4095).toNat
  let s := s.iset (F.THRM_NTCT_T n) (s.ntcTemp (s.fld (F.THRM_NTC_CURVE n)) v)
  if !valid || code < s.fld (F.THRM_NTC_CODE_LO n) || s.fld (F.THRM_NTC_CODE_HI n) < code then s.ntcFault n
  else
    let run := s.therm.ntcRun.get n + 1
    let s : State := { s with therm := { s.therm with ntcRun := s.therm.ntcRun.set n (min run 16) } }
    let s := if 16 ≤ run then s.set (F.THRM_NTCT_FAULT n) 0 else s
    if s.on (F.THRM_NTCT_FAULT n) then s
    else (s.set (F.THRM_NTCT_VALID n) 1).setFldBit F.THRM_MOD_GOOD n

/-- The enabled NTCs of a SAR entry take its result. -/
def State.ntcResults (s : State) (e : Nat) (valid : Bool) (v : Int) : State :=
  s.each (List.range 6) (fun n t =>
    if t.clocked 0x14 && t.on (F.THRM_NTC_EN n) && t.fld (F.THRM_NTC_ENTRY n) == e then t.ntcResult n valid v else t)

/-- NTC_AGE_TIMEOUT. -/
def ntcAgeTimeout (n : Fin 6) (s : State) : State :=
  s.onBlock 0x14 (fun s => if s.on (F.THRM_NTC_EN n) then s.ntcFault n else s)

/-- Rising edges at or below `tm`. -/
def State.edgesBelow (s : State) (tm : Int) : Nat := ((List.range 7).filter (fun k => s.ifld (F.THRM_EDGE_E k) ≤ tm)).length

/-- The band of a catch (R446): TM, the validity, and the band with its hysteresis; 7 while it is not valid or an NTC
that counts has a fault. -/
def State.bandCatch (s : State) : State :=
  let ns := (List.range 6).filter (fun n => s.on (F.THRM_NTC_EN n) && s.on (F.THRM_NTC_BAND n))
  let good := ns.filter (fun n => s.on (F.THRM_NTCT_VALID n) && !s.on (F.THRM_NTCT_FAULT n))
  let tm := match good.map (fun n => s.ifld (F.THRM_NTCT_T n)) with | t :: l => l.foldl max t | [] => 0
  let valid := !ns.isEmpty && ns.all (fun n => s.on (F.THRM_NTCT_VALID n))
  let fault := ns.any (fun n => s.on (F.THRM_NTCT_FAULT n))
  let b := s.fld F.THRM_STATUS_BAND
  let up := s.edgesBelow tm
  let dn := s.edgesBelow (tm + 48)
  let nb := if !valid || fault then 7 else if b < up then up else if dn < b then dn else b
  let t := (s.iset F.THRM_MOD_TM tm).set F.THRM_STATUS_BAND_VALID (if valid then 1 else 0)
  if nb = b then t else (t.set F.THRM_STATUS_BAND nb).ev F.THRM_EVENT_BAND_CHANGE

def execNtcAgeTimeout (n : Fin 6) (s : State) : Host.Outcome State Fault Refusal := .next (ntcAgeTimeout n s)

end Sys2Proof.Machine
end

