-- ==== Sys2Proof/Machine/Pwm.lean ====
section
/-! DEFINITION. The PWM blocks: commits, update points, minimum pulse and carry, the interlock, the false-start counter
and the aux channels' bootstrap (12_pwm_and_gate_outputs.md). -/

namespace Sys2Proof.Machine

/-- Leg period and compare in force, dead times and minimum pulse in force. -/
def State.per (s : State) (l : Nat) : Nat := s.fld (F.LEG_PER_PER l)
def State.dth (s : State) (l : Nat) : Nat := s.fld (F.LEG_DT_DTH l)
def State.dtl (s : State) (l : Nat) : Nat := s.fld (F.LEG_DT_DTL l)
def State.minp (s : State) (l : Nat) : Nat := s.fld (F.LEG_MINP_MINP l)

/-- The aux channel of a leg, and its sampling window (R336). -/
def auxOf (l : Nat) : Nat := if l < 21 then 0 else 1
def State.win (s : State) (l : Nat) : Nat := if l < 18 then 0 else s.fld (F.AUX_CFG_WIN (auxOf l))

/-- The reference-carrier leg and INIT_PER of the LIVE plan (R254). -/
def PlanInfo.catchEntry (p : PlanInfo) : Option (Nat × Nat × Nat × Nat) :=
  p.bind.findSome? (fun b => match b with | .catchE m l r i => some (m, l, r, i) | _ => none)
def State.refLeg (s : State) : Option Nat := s.live.catchEntry.map (fun c => c.2.2.1)

/-! ### Commits (R325 to R328) -/

/-- A period that a commit naming these legs may not set (R328). -/
def State.periodDropped (s : State) (legs : List Nat) (p : Nat) : Bool :=
  let t := catchPeriod (s.fld F.CATCH_CTRL_MODE) p
  p < 1250 || 250000 < p || legs.any (fun l => p ≤ s.fld (F.LEG_CFG_PHASE l)) ||
    (match s.refLeg with
     | some r => legs.contains r && (t < s.fld F.CATCH_MINPER_MINPER || t < s.fld F.CATCH_LEAD_LEAD + 16)
     | none => false)

/-- The pages of some legs, each once. -/
def legPages (legs : List Nat) : List Nat := [0x0B, 0x0C, 0x0D].filter (fun p => legs.any (fun l => legPage l == p))

/-- A commit waits for the leg. -/
def State.pend (s : State) (l : Nat) : Bool := bit (s.fld (F.PWM_PENDING_PEND (legPage l))) (legBit l)

/-- A PWM_COMMIT of a page latches for the legs of its group that stand there, the group being all the legs that the commit names
(R326 to R328): a late commit is counted, a dropped period leaves its compares stale, and two commits that name a leg merge. -/
def State.commit (s : State) (page : Nat) (group : List Nat) (period : Option Nat) (atNs : Nat) : State :=
  let late := s.cat.upAt < atNs + 32
  let drop := match period with | some p => s.periodDropped group p | none => false
  let s := (s.when late (fun t => (t.ev (F.PWM_STATUS_LATE_COMMIT page)).bump (F.PWM_LATE_COUNT_COUNT page))).when drop
    (fun t => t.ev (F.PWM_STATUS_PER_REFUSED page))
  s.each (group.filter (fun l => legPage l == page)) (fun l t =>
    (t.setFldBit (F.PWM_PENDING_PEND page) (legBit l)).modLeg l (fun x =>
      { x with latchAt := atNs, shStale := drop, group := (if t.pend l then x.group else []) ++ group,
               pendPer := if drop then x.pendPer else match period with | some p => some p | none => x.pendPer }))

/-- The commit that waits for a leg applies its shadows at an update point (R326, R329, R330): a period only at a boundary, its
compares with it. A period that the limits now in force forbid is dropped (R120, R324, R328). -/
def State.applyCommit (s : State) (l : Nat) (boundary : Bool) (atNs : Nat) : State :=
  let x := s.leg l
  if s.pend l && x.latchAt + 32 ≤ atNs && (boundary || x.pendPer.isNone) then
    let p := s.fld (F.LEG_PER_SH_PER l)
    let drop := x.pendPer.isSome && s.periodDropped x.group p
    let t := if drop then s.ev (F.PWM_STATUS_PER_REFUSED (legPage l)) else if x.pendPer.isSome then s.set (F.LEG_PER_PER l) p else s
    let t := t.set (F.LEG_CMP_STALE l) (if x.shStale || drop then 1 else 0)
    let t := t.clearFldBit (F.PWM_PENDING_PEND (legPage l)) (legBit l)
    t.modLeg l (fun x => { x with pendPer := none, group := [], cmp := s.fld (F.LEG_CMP_SH_CMP l),
                                  hasPer := x.hasPer || (x.pendPer.isSome && !drop), hasCmp := true })
  else s

/-- LEG_CMP shows the compare as applied: a stale one above 32P - MINP is applied as 32P - MINP, at every update point (R329). -/
def State.clampStale (s : State) (l : Nat) : State :=
  let top := 32 * s.per l - s.minp l
  let c := (s.leg l).cmp
  if s.on (F.LEG_CMP_STALE l) && top < c then (s.set (F.LEG_CMP_CMP l) top).ev (F.PWM_STATUS_CLAMP (legPage l))
  else s.set (F.LEG_CMP_CMP l) c

/-! ### Band values (R331, R332) -/

/-- One band value of a leg: field `k` of its BAND_SET table in the row of band `b`, held within its range. -/
def State.bandValue (s : State) (l k b lo hi : Nat) : Nat :=
  match s.live.bind.findSome? (fun e => match e with | .bandSet i t f => if i = l then some (t, f) else none | _ => none) with
  | some (t, f) => min (max (s.tableRaw t (b * s.tableNx t + f + k)).toNat lo) hi
  | none => 0

/-- The band values of row `b` come into force on a leg. -/
def State.loadBand (s : State) (l b : Nat) : State :=
  let t := (s.set (F.LEG_DT_DTH l) (s.bandValue l 0 b 16 65535)).set (F.LEG_DT_DTL l) (s.bandValue l 1 b 16 65535)
  ((t.set (F.LEG_MINP_MINP l) (s.bandValue l 2 b 16 16383)).set (F.LEG_MINP_GSTR l) (s.bandValue l 3 b 0 15)).set
    (F.LEG_MINP_BAND l) b

/-! ### Edges (R323, R334, R335) -/

/-- The sampling-window limit of R323. -/
def State.lim (s : State) (l : Nat) : Nat :=
  if s.win l = 0 then 32 * s.per l else 32 * s.per l - 32 * s.win l - 2 * s.dtl l

/-- `clamp(c - k, 0, lim)` (R323). -/
def onTime (c : Nat) (k : Int) (lim : Nat) : Nat := (clampI ((c : Int) - k) 0 lim).toNat

/-- The command edges of a period: rise and fall for an on-time `t` (R323). -/
def edges (mode p t : Nat) : Nat × Nat := if mode = 1 then (0, t) else (16 * p - (t + 1) / 2, 16 * p - (t + 1) / 2 + t)

/-- What the minimum-pulse rule makes of a high pulse judged at its first edge (R334): dropped, or its second edge. -/
def judgeHigh (minp dth rise fall : Nat) : Bool × Nat :=
  let w : Int := (fall : Int) - rise - dth
  if 2 * w < minp then (true, fall) else if w < minp then (false, rise + dth + minp) else (false, fall)

/-- How a period's high pulse stands at its end: the low side has taken over, its low pulse was dropped so that the high side stays on,
or it falls at the boundary itself, where the low pulse is judged with the values that come into force there. -/
inductive Tail where
  | low | kept | due
  deriving DecidableEq, Repr

/-- High-side command on-time of the period that ends (R335), and how its high pulse stands; the low pulse that follows is judged at
its first edge against the rise `nextRise` planned from the values in force, the next period being taken to use them too (R334).
`floor` keeps the low pulse of an aux leg with a sampling window. -/
def closePeriod (x : Leg) (p minp dtl nextRise : Nat) (floor : Bool) : Nat × Tail :=
  let all := 32 * p
  if x.dropped ∨ (x.rise = x.fall ∧ x.fromHigh = false) then (0, .low)
  else
    let start := if x.fromHigh then 0 else x.rise
    let w : Int := (all : Int) - x.fall + nextRise - dtl
    if all ≤ x.fall then (all - start, .due)
    else if 2 * w < minp ∧ floor = false then (all - start, .kept)
    else (x.fall - start, .low)

/-- The carry at the end of a period (R335). -/
def nextCarry (k : Int) (h i minp : Nat) : Int := clampI (k + h - i) (-(minp : Int)) minp

/-- On-time and command edges that the compare and carry in force plan (R323). -/
def State.planned (s : State) (l : Nat) : Nat × Nat × Nat :=
  let t := onTime (s.fld (F.LEG_CMP_CMP l)) (s.ifld (F.LEG_CARRY_K l)) (s.lim l)
  (t, edges (s.fld (F.LEG_CFG_MODE l)) (s.per l) t)

/-- The edges of the period that starts at a boundary (R323, R334, R337). -/
def State.placeEdges (s : State) (l : Nat) : State :=
  let x := s.leg l
  let p := s.per l
  let lim := s.lim l
  let c := s.fld (F.LEG_CMP_CMP l)
  let minp := s.minp l
  let (t, e) := s.planned l
  let wl : Int := (e.1 : Int) - s.dtl l
  -- the high side stays on: its low pulse was dropped, is dropped here, or does not exist
  let goes := x.fromHigh && !x.refresh && (!x.due || e.1 == 0 || (decide (2 * wl < minp) && s.win l == 0))
  let lowDrop := goes && x.due && e.1 != 0
  -- a low pulse already started lasts MINP (R334)
  let lowOn : Int := if x.fromHigh && !goes then s.dtl l else x.lowOn
  let held := (lowOn + minp).toNat
  let none' := t == 0 && !goes
  let rise := if x.refresh then s.dtl l + 32 * s.fld (F.AUX_CFG_REFRESH (auxOf l))
    else if goes || none' then e.1 else max e.1 (min held (32 * p))
  let j := if none' then (false, rise)
    else if goes then (false, max e.2 (x.highOn + minp).toNat)
    else if 32 * p ≤ e.2 then (false, e.2)
    else judgeHigh minp (s.dth l) rise e.2
  let fall := min j.2 (32 * p)
  let s := s.when (lim < c) (fun s => s.ev (F.PWM_STATUS_DEPTH (legPage l)))
  let s := if lowDrop then s.set (F.LEG_STAT_DROP l) 1 else if goes || none' then s else s.set (F.LEG_STAT_DROP l) (if j.1 then 1 else 0)
  let s := s.set (F.LEG_STAT_STRETCH l) (if (!x.refresh && !goes && e.1 < rise) || (!none' && !j.1 && e.2 < fall) then 1 else 0)
  let s := s.modLeg l (fun y =>
    { y with rise := rise, fall := fall, dropped := j.1, limA := min c lim, limB := none, acted := x.refresh, lowOn := lowOn,
             fromHigh := goes, due := false, refresh := false })
  s.when x.refresh (fun s => s.modLeg l (fun y => { y with refreshEnd := some (8 * y.boundary + rise), refreshTag := none }))

/-- A compare that applies at a centre update point (R323, R334): rise is unchanged. A high pulse that has started lasts MINP, one that
was dropped stays dropped, and one that has yet to start is judged with the new values. -/
def State.placeCentre (s : State) (l : Nat) : State :=
  let x := s.leg l
  let lim := s.lim l
  let cb := s.fld (F.LEG_CMP_CMP l)
  let tb := onTime cb (s.ifld (F.LEG_CARRY_K l)) lim
  let fall := 16 * s.per l + tb / 2
  let started := x.fromHigh || decide (x.rise < 32 * (s.per l / 2))
  let least := if x.fromHigh then (x.highOn + s.minp l).toNat else x.rise + s.dth l + s.minp l
  let j := if started then (x.dropped, if x.dropped then x.fall else max fall least)
    else if fall ≤ x.rise then (false, x.rise)
    else judgeHigh (s.minp l) (s.dth l) x.rise fall
  let s := s.when (lim < cb) (fun s => s.ev (F.PWM_STATUS_DEPTH (legPage l)))
  let s := s.when (!started && x.rise < fall) (fun s => s.set (F.LEG_STAT_DROP l) (if j.1 then 1 else 0))
  let s := s.when (!j.1 && x.rise < fall && fall < j.2) (fun s => s.set (F.LEG_STAT_STRETCH l) 1)
  s.modLeg l (fun y => { y with fall := min j.2 (32 * s.per l), dropped := j.1, limB := some (min cb lim) })

/-- A new period of the reference carrier moves the next catch to LEAD before its first update point (R120). -/
def State.refCarrier (s : State) (l atNs : Nat) : State :=
  if s.refLeg = some l ∧ s.on F.CATCH_CTRL_RUN = true ∧ s.per l ≠ s.fld F.CATCH_PERIOD_CARRIER then
    let t := (s.set F.CATCH_PERIOD_CARRIER (s.per l)).ev F.CATCH_EVENT_PERIOD_CHANGE
    { t with cat := { t.cat with next := atNs / 4 + catchPeriod (t.fld F.CATCH_CTRL_MODE) (t.per l) - t.fld F.CATCH_LEAD_LEAD } }
  else s

/-- The leg emits a high pulse in the period in force. -/
def Leg.pulse (x : Leg) : Bool := !x.dropped && (x.fromHigh || decide (x.rise < x.fall))

/-- How the high pulse of the period in force is to end, by the edges now planned (R334). -/
def State.tailOf (s : State) (l : Nat) : Tail :=
  (closePeriod (s.leg l) (s.per l) (s.minp l) (s.dtl l) (s.planned l).2.1 (0 < s.win l)).2

/-- Post-dead-time turn-on edges of a leg in order of time, true for the high side, in steps from its boundary: those that the PWM
block emits, none at or after the step from which the leg is off (R373, R374). -/
def State.turnOns (s : State) (l : Nat) : List (Int × Bool) :=
  let x := s.leg l
  let past := if x.lowOn < x.highOn then [(x.lowOn, false), (x.highOn, true)] else [(x.highOn, true), (x.lowOn, false)]
  let now := (if x.pulse && !x.fromHigh then [((x.rise : Int) + s.dth l, true)] else []) ++
    (if x.pulse && decide (x.fall < 32 * s.per l) && s.tailOf l == .low then [((x.fall : Int) + s.dtl l, false)] else [])
  past ++ now.filter (fun e => match x.offAt with | some k => decide (e.1 < k) | none => true)

/-- When a side last turned on by the end of the period, in steps from the next boundary. -/
def State.lastOn (s : State) (l : Nat) (high : Bool) : Int :=
  ((s.turnOns l).filter (fun e => e.2 == high)).foldl (fun a e => max a e.1) (-(2 ^ 30)) - 32 * s.per l

/-- The low side is on in the period that ends (R337): before its high pulse or after it, until the leg goes off. -/
def State.lowWasOn (s : State) (l : Nat) (h : Nat) (tail : Tail) : Bool :=
  let x := s.leg l
  let all : Int := 32 * s.per l
  let off := x.offAt.getD all
  let first : Int := if x.fromHigh then 0 else if h = 0 then all else x.rise
  (!x.cold && decide (max 0 x.lowOn < min first off)) || (h != 0 && tail == .low && decide ((x.fall : Int) + s.dtl l < min all off))

/-- The end of a leg's carrier period: its on-time, the pulse that goes on into the next one, and the carry. -/
def State.endPeriod (s : State) (l : Nat) : State :=
  let x := s.leg l
  let low := s.lastOn l false
  let high := s.lastOn l true
  if s.on (F.LEG_STAT_EN l) then
    let (h, tail) := closePeriod x (s.per l) (s.minp l) (s.dtl l) (s.planned l).2.1 (0 < s.win l)
    let i := match x.limB with | some b => (x.limA + 1) / 2 + b / 2 | none => x.limA
    let t := s.modLeg l (fun x =>
      { x with fromHigh := tail != .low, due := tail == .due, noLow := if s.lowWasOn l h tail then 0 else x.noLow + 1, cold := false,
               lowOn := low, highOn := high })
    let t := t.when (h != 0 && tail != .due) (fun t => t.set (F.LEG_STAT_DROP l) (if tail == .kept then 1 else 0))
    if x.acted then t else t.iset (F.LEG_CARRY_K l) (nextCarry (s.ifld (F.LEG_CARRY_K l)) h i (s.minp l))
  else s.modLeg l (fun x => { x with lowOn := low, highOn := high })

/-- A boundary update point of a leg (R326, R330, R332, R341, R346, R373): the period ends, commits and band values apply,
the leg stops if its enable bit is clear, and otherwise its edges are placed. -/
def State.boundary (s : State) (l atNs : Nat) : State :=
  let s := s.endPeriod l
  let fresh := (s.leg l).cfgNew.isSome
  let s := match (s.leg l).cfgNew with
    | some w => (s.wr (R.LEG_CFG l) w).modLeg l (fun x => { x with cfgNew := none })
    | none => s
  let s := ((s.applyCommit l true atNs).refCarrier l atNs).when (fresh || s.band != s.fld (F.LEG_MINP_BAND l)) (fun t => t.loadBand l s.band)
  let s := s.clampStale l
  let s := s.modLeg l (fun x => { x with boundary := atNs, offUntil := x.flt && x.offUntil, lockUntil := false, acted := false, offAt := some 0 })
  if s.on (F.LEG_STAT_EN l) then
    if s.gateEn l then (s.placeEdges l).modLeg l (fun x =>
      { x with acted := x.acted || x.offUntil, offAt := if x.offUntil then some 0 else none })
    else
      let t := s.legOff l
      match t.unitOf l with | some u => t.settleGrant u | none => t
  else s

/-- UPDATE_POINT (R326). A centre update point exists only with UPD = 1 in up-down counting (R322). -/
def updatePoint (l : LegIx) (centre : Bool) (atNs : Nat) (s : State) : State :=
  s.onDie (fun s =>
    if (s.unitOf l).isNone then s
    else if centre then
      if s.on (F.LEG_CFG_UPD l) && !s.on (F.LEG_CFG_MODE l) then
        let applies := s.pend l && (s.leg l).latchAt + 32 ≤ atNs && (s.leg l).pendPer.isNone
        let t := (s.applyCommit l false atNs).clampStale l
        if applies && t.on (F.LEG_STAT_EN l) then t.placeCentre l else t
      else s
    else s.boundary l atNs)

/-! ### Trips and the false-start counter (R344, R345) -/

/-- LIMIT of a page; 0 reads as 1 (R347). -/
def State.fsLimit (s : State) (p : Nat) : Nat := max 1 (s.fld (F.PWM_FSCFG_LIMIT p))

/-- A trip of a leg counts, and the count that reaches LIMIT latches the leg off (R344); whether it latched. `step` is the step of the
period at which it acts, where the command brings its instant (log entry 117). -/
def State.countTrip (s : State) (l : Nat) (high : Bool) (step : Option Int) : Bool × State :=
  let s := (s.bump (F.LEG_FS_COUNT l)).modLeg l (fun x =>
    { x with offUntil := true, acted := true, side := high, offAt := if x.offAt.isSome then x.offAt else some (step.getD (2 ^ 30)) })
  if s.fsLimit (legPage l) ≤ s.fld (F.LEG_FS_COUNT l) && !s.on (F.LEG_FS_LATCH l) then
    (true, ((s.set (F.LEG_FS_LATCH l) 1).ev (F.PWM_STATUS_FS_LATCH (legPage l))).legOff l)
  else (false, s)

/-- Location class of a switch (R370). -/
def sideLoc (high : Bool) : Nat := if high then locLegH else locLegL

/-- The fault FS_LATCH of a latched leg. -/
def State.fsFault (s : State) (l : Nat) (high latched : Bool) : State :=
  match s.unitOf l with
  | some u => if latched then s.fault u fFsLatch ⟨sideLoc high, l, high, none, none⟩ else s
  | none => s

/-- A trip that no fault input raised. -/
def State.trip (s : State) (l : Nat) (high : Bool) : State :=
  let (latched, t) := s.countTrip l high none
  t.fsFault l high latched

/-- INTERLOCK (R30, R333): both gate-edge lines of the leg are held off until its next boundary, under a pattern too, and a trip is
counted. -/
def State.interlock (s : State) (l : Nat) : State :=
  if (s.unitOf l).isNone then s
  else ((s.ev (F.PWM_STATUS_INTERLOCK (legPage l))).modLeg l (fun x => { x with lockUntil := true })).trip l (s.leg l).side

def interlock (l : LegIx) (s : State) : State := s.onDie (fun s => s.interlock l)

/-- UMPIRE_INTERLOCK_REPORT (R30): handled as an event of R333. -/
def umpireInterlockReport (l : LegIx) (s : State) : State := s.onDie (fun s => s.interlock l)

/-- FS_LEAK (R344): a LEAK interval without a trip has passed. -/
def fsLeak (l : LegIx) (s : State) : State :=
  s.onDie (fun s => s.set (F.LEG_FS_COUNT l) (s.fld (F.LEG_FS_COUNT l) - 1))

/-- A clear of LEG_FS.LATCH resets the count (R345); its refusal code, 0 when accepted. Hold water of either die is an output on. -/
def State.fsClear (s : State) (l : Nat) : Nat × State :=
  let on := match s.unitOf l with | some u => !s.unitOff u | none => s.legOn l
  if on then (eBusy, s) else (0, (s.set (F.LEG_FS_LATCH l) 0).set (F.LEG_FS_COUNT l) 0)

/-- LEG_FS_CLEAR (R345). -/
def legFsClear (m : Master) (l : LegIx) (s : State) : State :=
  s.onDie (fun s => s.blockWrite m (R.LEG_FS l) (isCox0 m) (fun s =>
    let (c, t) := s.fsClear l
    if c = 0 then t else s.refuse m (R.LEG_FS l) c true))

/-! ### Bootstrap of the aux channels (R337, R338) -/

/-- BOOT_REFRESH (R337), at the boundary that ends the MAXON-th period without low-side on-time: the refresh runs in the period that
starts there. -/
def bootRefresh (l : LegIx) (s : State) : State :=
  s.onDie (fun s =>
    if (l : Nat) < 18 || !s.on (F.LEG_STAT_EN l) || ((s.endPeriod l).leg l).noLow < s.fld (F.AUX_CFG_MAXON (auxOf l)) then s
    else (s.ev (F.PWM_STATUS_BOOT_REFRESH 0x0D)).modLeg l (fun x => { x with refresh := true }))

/-- A catch at or after the end of a leg's refresh is the first whose bootstrap result counts (R338). -/
def State.bootCatch (s : State) : State :=
  s.each (List.range 24) (fun l t =>
    match (t.leg l).refreshEnd, (t.leg l).refreshTag with
    | some e, none => t.when (e ≤ 32 * t.cat.tick) (fun t => t.modLeg l (fun x => { x with refreshTag := some (t.cat.num % 256) }))
    | _, _ => t)

/-- The leg's bootstrap SAR entry (R349). -/
def State.bootEntry (s : State) (l : Nat) : Nat :=
  let x := auxOf l
  match (l - 18) % 3 with
  | 0 => s.fld (F.AUX_BSAR_U x)
  | 1 => s.fld (F.AUX_BSAR_V x)
  | _ => s.fld (F.AUX_BSAR_W x)

/-- The BOOT_UV latch (R338). -/
def State.bootUv (s : State) (l : Nat) : State :=
  let s := ((s.set (F.LEG_STAT_BOOT_UV l) 1).ev (F.PWM_STATUS_BOOT_UV 0x0D)).legOff l
  let s := s.modLeg l (fun x => { x with refreshEnd := none, refreshTag := none, barUv := true })
  match s.unitOf l with
  | some u => s.fault u fBootUv ⟨locNone, l, false, none, none⟩
  | none => s

/-- BOOT_UV_CHECK (R338): the first result of a catch at or after the refresh, or its absence by the period's end. -/
def bootUvCheck (l : LegIx) (periodEnd : Bool) (s : State) : State :=
  s.onDie (fun s =>
    let e := s.bootEntry l
    let here := match (s.leg l).refreshTag with
      | some n => s.on (F.SAR_RES_VALID e) && (s.fld (F.SAR_RES_TAG e) + 256 - n) % 256 < 128
      | none => false
    if (s.leg l).refreshEnd.isNone then s
    else if here then
      if s.ifld (F.SAR_RES_VALUE e) < s.fld (F.AUX_BOOT_UVTH (auxOf l)) then s.bootUv l
      else s.modLeg l (fun x => { x with refreshEnd := none, refreshTag := none })
    else if periodEnd then s.bootUv l else s)

def execUpdatePoint (l : LegIx) (centre : Bool) (atNs : Nat) (s : State) : Host.Outcome State Fault Refusal :=
  .next (updatePoint l centre atNs s)
def execInterlock (l : LegIx) (s : State) : Host.Outcome State Fault Refusal := .next (interlock l s)
def execUmpireInterlockReport (l : LegIx) (s : State) : Host.Outcome State Fault Refusal :=
  .next (umpireInterlockReport l s)
def execFsLeak (l : LegIx) (s : State) : Host.Outcome State Fault Refusal := .next (fsLeak l s)
def execLegFsClear (m : Master) (l : LegIx) (s : State) : Host.Outcome State Fault Refusal := .next (legFsClear m l s)
def execBootRefresh (l : LegIx) (s : State) : Host.Outcome State Fault Refusal := .next (bootRefresh l s)
def execBootUvCheck (l : LegIx) (periodEnd : Bool) (s : State) : Host.Outcome State Fault Refusal :=
  .next (bootUvCheck l periodEnd s)

end Sys2Proof.Machine
end

