-- ==== Sys2Proof/Machine/Sense.lean ====
section
/-! DEFINITION. Sigma-delta and SAR sensing: control filter, comparators, redundancy checks, offsets and their
calibration, SAR sequence and resolver excitation (06_sensing_front_end.md). -/

namespace Sys2Proof.Machine

def State.sd (s : State) (n : Nat) : SdIn := mapGet (fun _ => SdIn.init) s.sdIn n
def State.setSd (s : State) (n : Nat) (x : SdIn) : State := { s with sdIn := mapPut (fun _ => SdIn.init) s.sdIn n x }

/-! ### Control filter (R148, R150) -/

/-- The boxcar of length `n` over `c`. -/
def boxcar (n : Nat) (c : List Int) : List Int :=
  (List.range (c.length + n - 1)).map (fun i =>
    ((List.range n).map (fun j => if j ≤ i then c.getD (i - j) 0 else 0)).sum)

/-- Stage lengths of the control filter. -/
def stages (r : Nat) : Nat × Nat × Nat := ((r + 2) / 3, (r + 2) / 3, r + 2 - 2 * ((r + 2) / 3))

/-- The impulse response w_0 … w_(R-1) of the cascade. -/
def sincWeights (r : Nat) : List Int :=
  let (a, b, c) := stages r
  boxcar c (boxcar b (List.replicate a 1))

/-- G, the total of the weights. -/
def sincGain (r : Nat) : Nat := let (a, b, c) := stages r; a * b * c

/-- Σ w_k × b_k over the latest bits; a cascade of boxcars is symmetric, so the order is immaterial. -/
def weighBits (ws : List Int) (bits : Nat) : Int :=
  (ws.zipIdx.map (fun (w, k) => if bits.testBit k then w else -w)).sum

/-- S over the window of the latest R bits. -/
def sincSum (r bits : Nat) : Int := weighBits (sincWeights r) bits

/-- VALUE = 16 × S - OFS, saturated to ±16 × G. -/
def sdValue (r bits : Nat) (ofs : Int) : Int := clampI (16 * sincSum r bits - ofs) (-(16 * sincGain r)) (16 * sincGain r)

/-- STUCK: 64 consecutive equal bits (R147). -/
def SdIn.stuck (x : SdIn) : Bool := x.run == 64

/-- The input's stream is in error: stuck, its Manchester decoder is unlocked (R147), or it has failed its
loopback (R536). -/
def State.sdErr (s : State) (n : Nat) : Bool :=
  (s.sd n).stuck || bit s.sense.sdFailed n || (s.fld (F.SD_CFG_MODE n) == 2 && !s.on (F.SD_STAT_LOCK n))

/-- The page of an input (R556). -/
def sdPage (n : Nat) : Nat := 0x05 + n / 20

/-- The result of an input whose window ends on this catch (R148, R150). Too few bits give zero whatever the stream's error says,
and the error is shown beside it (log entry 92). -/
def State.sdResult (s : State) (n : Nat) : State :=
  if s.sdUsed n && s.clocked (sdPage n) then
    let r := s.fld (F.SD_CFG_R n)
    let x := s.sd n
    let ok := r ≤ x.count
    let err := s.sdErr n
    let v := if ok then sdValue r x.bits (s.ifld (F.SD_OFS_OFS n)) else 0
    let t := ((s.iset (F.SD_RES_VALUE n) v).set (F.SD_RES_VALID n) (if ok && !err then 1 else 0)).set (F.SD_RES_ERR n)
      (if err then 1 else 0)
    let t := t.set (F.SD_STAT_TAG n) (s.cat.num % 256)
    t.when err (fun t => (t.bump (F.SD_STAT_ERRCNT n)).ev (F.SDM_EVENT_ERR (n / 20)))
  else s

/-- VALUE of an input, as delivered. -/
def State.sdVal (s : State) (n : Nat) : Int := s.ifld (F.SD_RES_VALUE n)
def State.sdGood (s : State) (n : Nat) : Bool := s.on (F.SD_RES_VALID n) && !s.on (F.SD_RES_ERR n)

/-- Every current or voltage input bound to the unit delivers a good result (R151). Currents are kinds 1 to 3, voltages
kind 4 (log entry 14). -/
def State.inputsOk (s : State) (u : Nat) : Bool :=
  (List.range 40).all (fun n =>
    let k := s.fld (F.SD_MCFG_KIND n)
    !(s.sdUsed n && 1 ≤ k && k ≤ 4 && bit (s.sdUnits n) u) || s.sdGood n)

/-! ### Protection filter and comparators (R152, R153, R370) -/

/-- The fault that a comparator of a channel means (R153, R370). -/
def State.compFault (s : State) (n : Nat) (hi : Bool) : State :=
  let k := s.fld (F.SD_MCFG_KIND n)
  let units := s.sdUnits n
  if 1 ≤ k ∧ k ≤ 3 then s.faultUnits units fOc ⟨locOc, 0, false, none, none⟩
  else if k = 4 then
    if hi then s.faultUnits units fLinkOv FaultInfo.plain
    else s.each ((List.range 4).filter (fun u => bit units u && s.unitOn u)) (fun u t => t.fault u fLinkUv FaultInfo.plain)
  else s

/-- Gate outputs of a unit are enabled while LO of a link-voltage channel of it is asserted: LINK_UV (R370). -/
def State.linkUv (s : State) (u : Nat) : State :=
  if (List.range 40).any (fun n => s.sdUsed n && s.fld (F.SD_MCFG_KIND n) == 4 && bit (s.sdUnits n) u && s.on (F.SD_PROT_LO n)) then
    s.fault u fLinkUv FaultInfo.plain
  else s

/-- Weights of a cascade of `ord` boxcars of length `m` (R152). -/
def protWeights (ord m : Nat) : List Int := (List.range (ord - 1)).foldl (fun w _ => boxcar m w) (List.replicate m 1)

/-- P for the latest bit (R152). With fewer bits than the impulse is long, what stands in for the missing ones is open: P is a free
value within its range (log entry 1). -/
def State.protOut (s : State) (n : Nat) : Int × State :=
  let ord := s.fld (F.SD_CFG_PORD n)
  let m := s.fld (F.SD_CFG_M n)
  if ord * (m - 1) + 1 ≤ (s.sd n).count then (weighBits (protWeights ord m) (s.sd n).bits, s)
  else
    let (v, t) := s.fresh 18
    (clampI v.toInt (-(m ^ ord : Nat)) (m ^ ord : Nat), t)

/-- The output stands at or beyond the threshold. -/
def State.pastThr (s : State) (n : Nat) (hi : Bool) (p : Int) : Bool :=
  if hi then s.ifld (F.SD_THR_HI_HI n) ≤ p else p ≤ s.ifld (F.SD_THR_LO_LO n)

/-- The output has returned past its hysteresis. -/
def State.pastHyst (s : State) (n : Nat) (hi : Bool) (p : Int) : Bool :=
  if hi then p ≤ s.ifld (F.SD_THR_HI_HI n) - s.fld (F.SD_THR_HI_HYST n)
  else s.ifld (F.SD_THR_LO_LO n) + s.fld (F.SD_THR_LO_HYST n) ≤ p

/-- State bit and event of a comparator. -/
def compFld (n : Nat) (hi : Bool) : Field := if hi then F.SD_PROT_HI n else F.SD_PROT_LO n
def compEvent (n : Nat) (hi : Bool) : Field := if hi then F.SDM_EVENT_HI_TRIP (n / 20) else F.SDM_EVENT_LO_TRIP (n / 20)

/-- One comparator judges an output: it asserts after DEB consecutive ones, and deasserts past its hysteresis (R153). -/
def State.compStep (s : State) (n : Nat) (hi : Bool) (p : Int) : State :=
  let x := s.sd n
  let run := if s.pastThr n hi p then min 4 ((if hi then x.hiRun else x.loRun) + 1) else 0
  let t := s.setSd n (if hi then { x with hiRun := run } else { x with loRun := run })
  if t.on (compFld n hi) then t.when (t.pastHyst n hi p) (fun t => t.set (compFld n hi) 0)
  else t.when (t.fld (F.SD_CFG_DEB n) < run) (fun t => ((t.set (compFld n hi) 1).ev (compEvent n hi)).compFault n hi)

/-- The protection filter's output for a new bit. The comparators of an unlocked Manchester channel keep their state. -/
def State.protStep (s : State) (n : Nat) : State :=
  if s.fld (F.SD_CFG_PORD n) = 0 then s
  else
    let (p, t) := s.protOut n
    let t := t.iset (F.SD_PROT_P n) p
    if t.fld (F.SD_CFG_MODE n) = 2 ∧ t.on (F.SD_STAT_LOCK n) = false then t
    else (t.compStep n true p).compStep n false p

/-! ### Bits (R143 to R147) -/

/-- Ones of a 32-bit number. -/
def ones32 (x : Nat) : Nat := ((List.range 32).filter (fun k => x.testBit k)).length

/-- The Manchester decoder after a bit (R145): 32 good bits lock it, 4 violations within any 32 bits unlock it; a channel with a
protection filter then raises SENSE_LOST (R153). -/
def State.decoderStep (s : State) (n : Nat) (bad : Bool) : State :=
  let x := s.sd n
  let t := s.when bad (fun t => t.bump (F.SD_STAT_VIOL n))
  if s.on (F.SD_STAT_LOCK n) then
    let m := (2 * x.viols + (if bad then 1 else 0)) % 2 ^ 32
    if ones32 m < 4 then t.setSd n { x with viols := m }
    else
      let t := ((t.setSd n { x with viols := 0, good := 0 }).set (F.SD_STAT_LOCK n) 0).ev (F.SDM_EVENT_LOCK_LOSS (n / 20))
      t.when (t.fld (F.SD_CFG_PORD n) != 0) (fun t => t.faultUnits (t.sdUnits n) fSenseLost FaultInfo.plain)
  else
    let g := if bad then 0 else x.good + 1
    if g < 32 then t.setSd n { x with good := g }
    else (t.setSd n { x with viols := 0, good := 0 }).set (F.SD_STAT_LOCK n) 1

/-- A bit of an input (R144 to R147, R152); `none` is a Manchester bit without a transition, which takes the value of the bit before.
-/
def State.bitIn (s : State) (n : Nat) (v : Option Bool) : State :=
  if s.sdUsed n then
    let x := s.sd n
    let b := v.getD (x.bits.testBit 0)
    let run := if b == x.bits.testBit 0 then min 64 (x.run + 1) else 1
    let t := s.setSd n { x with bits := (2 * x.bits + (if b then 1 else 0)) % 2 ^ 256, count := min 256 (x.count + 1),
                                run := run, got := x.got + 1 }
    let t := t.when (run == 64 && !x.stuck) (fun t => t.ev (F.SDM_EVENT_STUCK (n / 20)))
    (t.when (t.fld (F.SD_CFG_MODE n) == 2) (fun t => t.decoderStep n v.isNone)).protStep n
  else s

/-- Bits that an input receives, oldest first. -/
def State.stream (s : State) (n : Nat) (l : List (Option Bool)) : State :=
  s.when (s.clocked (sdPage n)) (fun s => s.each l (fun b t => t.bitIn n b))

/-- Bits that the clock of a clocked input gives in a catch period of `t` ticks (R143): the period that begins at the catch lasts
DIV + r ticks with r = t mod DIV, and every other one DIV. -/
def State.clockPeriods (s : State) (n t : Nat) : List Nat :=
  let div := s.fld (F.SDC_CFG_DIV (s.fld (F.SD_CFG_CLK n)))
  if t < div then [] else (div + t % div) :: List.replicate (t / div - 1) div

/-- The bits that an input receives from the latest command that brought it some to the catch: of a clocked input, as many as its
clock has periods left, a bit that the command does not give reading low; of a Manchester input, those that it decodes. Before the
first catch the clock has no catch to lock to, and every bit given is taken. -/
def State.catchBits (s : State) (first : Bool) (t n : Nat) (l : List (Option Bool)) : List (Option Bool) :=
  if first || s.fld (F.SD_CFG_MODE n) == 2 then l
  else (List.range ((s.clockPeriods n t).length - (s.sd n).got)).map (fun i => l.getD i (some false))

/-- The occasions on which bits are looked at between two catches: each brings the bits received since the one before, and what
follows from them is `State.bitIn`'s. SD_STUCK (R147). -/
def sdStuck (n : SdIx) (bits : List (Option Bool)) (s : State) : State := s.onDie (fun s => s.stream n bits)

/-- SD_STUCK_CLEAR (R147). -/
def sdStuckClear (n : SdIx) (bits : List (Option Bool)) (s : State) : State := s.onDie (fun s => s.stream n bits)

/-- MANCHESTER_LOCK (R145). -/
def manchesterLock (n : SdIx) (bits : List (Option Bool)) (s : State) : State := s.onDie (fun s => s.stream n bits)

/-- MANCHESTER_LOCK_LOSS (R145). -/
def manchesterLockLoss (n : SdIx) (bits : List (Option Bool)) (s : State) : State := s.onDie (fun s => s.stream n bits)

/-- MANCHESTER_VIOLATION (R145): a bit without a transition follows the others. -/
def manchesterViolation (n : SdIx) (bits : List (Option Bool)) (s : State) : State :=
  s.onDie (fun s => if s.fld (F.SD_CFG_MODE n) = 2 then s.stream n (bits ++ [none]) else s)

/-- COMPARATOR_ASSERT (R153). -/
def comparatorAssert (n : SdIx) (bits : List (Option Bool)) (s : State) : State := s.onDie (fun s => s.stream n bits)

/-- COMPARATOR_DEASSERT (R153). -/
def comparatorDeassert (n : SdIx) (bits : List (Option Bool)) (s : State) : State := s.onDie (fun s => s.stream n bits)

/-- The band's thresholds come into force on every input at a catch boundary (R154), the registers' reserved bits reading zero (R159); an asserted comparator whose
output has passed the new deassertion level deasserts. -/
def State.loadThresholds (s : State) (b : Nat) : State :=
  s.each s.live.bind (fun e t => match e with
    | .sd n _ _ _ _ thr =>
      let (hi, lo) := thr.getD b (0, 0)
      let t := (t.wr (R.SD_THR_HI n) (BitVec.ofNat 32 (hi % 2 ^ 26))).wr (R.SD_THR_LO n) (BitVec.ofNat 32 (lo % 2 ^ 26))
      let p := t.ifld (F.SD_PROT_P n)
      (t.when (t.pastHyst n true p) (fun t => t.set (F.SD_PROT_HI n) 0)).when (t.pastHyst n false p)
        (fun t => t.set (F.SD_PROT_LO n) 0)
    | _ => t)

/-! ### Redundancy and sum checks (R156, R157) -/

/-- The SD input at a binding index. -/
def PlanInfo.sdAt (p : PlanInfo) (b : Nat) : Option Nat :=
  match p.bind[b]? with
  | some (.sd n _ _ _ _ _) => some n
  | _ => none

/-- A member word's input, and s × K × VALUE (R254). -/
def State.member (s : State) (w : Nat) : Option (Nat × Int) :=
  (s.live.sdAt (w / 2 ^ 16 % 2 ^ 11)).map (fun n =>
    (n, (if w.testBit 31 then -1 else 1) * ((w % 2 ^ 16 : Nat) : Int) * s.sdVal n))

/-- One check: number in `chk`, limit, count, members. -/
def State.check1 (s : State) (key lim cnt : Nat) (ms : List Nat) : State :=
  let l := ms.filterMap s.member
  if l.length ≠ ms.length ∨ l.any (fun e => !s.sdGood e.1) then s
  else
    let d := (l.map (fun e => e.2)).sum
    let put := fun (s : State) (v : Nat) => ({ s with sense := { s.sense with chk := s.sense.chk.set key v } } : State)
    if (lim : Int) * 2 ^ 15 < d.natAbs then
      let c := s.sense.chk.get key + 1
      let t := put s (min c 15)
      if c = cnt ∨ (cnt ≤ c ∧ s.sense.chk.get key < cnt) then
        let first := !s.on (F.SDM_EVENT_CHK_FAIL 1)
        let t := if key < 16 then t.setFldBit F.CHK_PAIR_PAIR key else t.setFldBit F.CHK_SUM_SUM (key - 16)
        let t := if first then
            ((t.set F.CHK_FIRST_INDEX (if key < 16 then key else key - 16)).set F.CHK_FIRST_KIND
              (if key < 16 then 0 else 1)).set F.CHK_FIRST_CATCH s.stamp
          else t
        let t := t.ev (F.SDM_EVENT_CHK_FAIL 1)
        let units := match l with | (n, _) :: _ => s.sdUnits n | [] => 0
        t.faultUnits units (if key < 16 then fRedund else fSum) { FaultInfo.plain with tick := some s.cat.tick }
      else t
    else put s 0

/-- Every check, in every catch (R157), in the order of their entries: so CHK_FIRST names the first of several that reach CNT in one
catch (log entry 94). -/
def State.allChecks (s : State) : State :=
  s.each (if s.clocked 0x06 then s.live.bind else []) (fun e t => match e with
    | .pair j lim cnt a b => t.check1 j lim cnt [a, b]
    | .sum j lim cnt ms => t.check1 (16 + j) lim cnt ms
    | _ => t)

/-! ### Offsets (R160) -/

/-- A write of an offset register: refused while a gate output of the channel's units is enabled (R160). A conversion of the catch in
which a SAR offset is written still takes the old one. -/
def State.ofsWrite (s : State) (sar : Bool) (i : Nat) (v : Word) : Nat × State :=
  let units := if sar then s.sarUnits i else s.sdUnits i
  if (List.range 4).any (fun u => bit units u && s.unitOn u) then (eBusy, s)
  else if sar then
    let old := if s.sense.sarOld.get i = 0 then s.fld (F.SAR_OFS_OFS i) + 1 else s.sense.sarOld.get i
    (0, { s.set (F.SAR_OFS_OFS i) v.toNat with sense := { s.sense with sarOld := s.sense.sarOld.set i old } })
  else (0, s.set (F.SD_OFS_OFS i) v.toNat)

/-- SD_OFS_WRITE (R160). -/
def sdOfsWrite (m : Master) (sar : Bool) (i : Fin 40) (v : Word) (s : State) : State :=
  s.onDie (fun s =>
    let a := if sar then R.SAR_OFS i else R.SD_OFS i
    if sar && 32 ≤ (i : Nat) then s
    else s.blockWrite m a true (fun s =>
      let (c, t) := s.ofsWrite sar i v
      if c = 0 then t else s.refuse m a c true))

/-! ### Offset calibration (R161, R162) -/

/-- Nominal offset and OFS_MAX of a covered input. -/
def PlanInfo.nominal (p : PlanInfo) (key : Nat) : Int × Nat :=
  (p.bind.findSome? (fun b => match b with
    | .sd n _ _ nom mx _ => if n = key then some (signed 25 (nom % 2 ^ 25), mx) else none
    | .sar e _ nom mx => if 40 + e = key then some (((nom % 2 ^ 12 : Nat) : Int), mx) else none
    | _ => none)).getD (0, 0)

/-- What a calibration makes of one covered input: its new offset, or a failure code of R162; a range failure is named before a
single result's (log entry 93). -/
def calOne (log : Nat) (nom : Int) (mx : Nat) (x : CalSum) : Sum Nat Int :=
  let ofs := rneDivPow x.sum log
  if mx < (ofs - nom).natAbs then .inl 0x1 else if x.far then .inl 0x2 else .inr ofs

/-- CALIBRATION_START: at the next catch, or in the window or standstill it was queued for, with the gates off. An aux
unit has no standstill of its own: its gates off are enough. -/
def calibrationStart (u : UnitIx) (s : State) : State :=
  s.onDie (fun s =>
    let (p, log, c) := s.calOf u
    let win := decide ((u : Nat) < 2) && s.driveState u == dZtw
    let still := decide (2 ≤ (u : Nat)) || s.on (F.DRV_STATE_STANDSTILL u)
    let due := p == .due || (p == .queuedWindow && (win || still)) || (p == .queuedStandstill && still)
    if due && s.unitOff u && !(List.range 4).any s.calRuns then
      (s.setCal u .settling log c).each (s.mbWaiting svCalibrate (fun r => r.unit u)) (fun c t =>
        (t.set (F.MB_STATE_STATE c) mbAccepted).mbResults c [])
    else s)

/-- CALIBRATION_SETTLED (R162): the sums start empty. -/
def calibrationSettled (u : UnitIx) (s : State) : State :=
  s.onDie (fun s =>
    let (p, log, c) := s.calOf u
    if p == .settling then
      let t := s.setCal u .summing log c
      { t with sense := { t.sense with calSum := [] } }
    else s)

def State.calSum (s : State) (key : Nat) : CalSum := mapGet (fun _ => CalSum.init) s.sense.calSum key

/-- A result of a covered input enters its sum; one in error ends the calibration (R162). `v` is 16 × S, or CODE of a SAR entry (log
entry 15). -/
def State.calTake (s : State) (u key : Nat) (v : Option Int) : State :=
  let (p, log, _) := s.calOf u
  if p == .summing && (s.calSum key).n < 2 ^ log then
    match v with
    | none => s.calFail u 0x3
    | some w =>
      let (nom, mx) := s.live.nominal key
      let x := s.calSum key
      let y : CalSum := { n := x.n + 1, sum := x.sum + w, far := x.far || decide (2 * mx < (w - nom).natAbs) }
      { s with sense := { s.sense with calSum := mapPut (fun _ => CalSum.init) s.sense.calSum key y } }
  else s

/-- The results of a catch, for the calibration that sums. -/
def State.calCatch (s : State) : State :=
  s.each (List.range 4) (fun u t =>
    if (t.calOf u).1 == .summing then
      t.each ((t.calInputs u).filter (fun k => k < 40)) (fun n t =>
        t.calTake u n (if t.sdGood n then some (16 * sincSum (t.fld (F.SD_CFG_R n)) (t.sd n).bits) else none))
    else t)

/-- The entry of an association list under a key, or a default. -/
def lookupD {α : Type} (l : List (Nat × α)) (k : Nat) (d : α) : α :=
  ((l.find? (fun e => e.1 == k)).map (fun e => e.2)).getD d

/-- CALIBRATION_END: N results of each covered input have been summed; every new offset is written, or none. With several failures,
the lowest code is reported (log entry 93). -/
def calibrationEnd (u : UnitIx) (s : State) : State :=
  s.onDie (fun s =>
    let (p, log, _) := s.calOf u
    let keys := s.calInputs u
    if p == .summing && keys.all (fun k => (s.calSum k).n == 2 ^ log) then
      let outs := keys.map (fun k =>
        let (nom, mx) := s.live.nominal k
        (k, calOne log nom mx (s.calSum k)))
      let codes := outs.filterMap (fun o => match o.2 with | .inl c => some c | .inr _ => none)
      match codes with
      | c :: cs => s.calFail u (cs.foldl min c)
      | [] =>
        let t := s.each outs (fun o t => match o.2 with
          | .inr v => if o.1 < 40 then t.iset (F.SD_OFS_OFS o.1) v else t.iset (F.SAR_OFS_OFS (o.1 - 40)) v
          | .inl _ => t)
        ((t.setCal u .idle log 0).each (calPages keys) (fun h t => t.ev (F.SDM_EVENT_CAL_DONE h))).mbFinish
          svCalibrate (fun r => r.unit u) 0 []
    else s)

/-! ### SAR converters (R163, R164) -/

/-- The entry is one of its sequence's LEN entries. -/
def State.sarUsed (s : State) (e : Nat) : Bool :=
  if e < 16 then e < s.fld F.SAR_CTRL_LEN0 else e - 16 < s.fld F.SAR_CTRL_LEN1

/-- The entry's rate lets it run in catch `n` (R126). -/
def State.sarDue (s : State) (e n : Nat) : Bool := n % 2 ^ s.fld (F.SAR_SEQ_K e) == s.fld (F.SAR_SEQ_PHASE e)

/-- The U leg of an aux channel. -/
def uLeg (x : Nat) : Nat := 18 + 3 * x

/-- The tick of an aux channel's sampling point in the current catch (R336): floor(WIN / 2) ticks before a boundary of its U leg; none
with WIN = 0, or where no such point falls in the catch. -/
def State.auxPoint (s : State) (x : Nat) : Option Int :=
  let l := uLeg x
  let at' : Int := (((s.leg l).boundary / 4 : Nat) : Int) - (s.win l / 2 : Nat)
  if s.win l = 0 ∨ (s.unitOf l).isNone = true then none
  else [at', at' + s.per l].find? (fun t => decide ((s.cat.tick : Int) ≤ t) && decide (t < s.cat.next))

/-- The tick of an entry's trigger in the current catch; none where the entry does not run in it (R126, R163, R164). -/
def State.sarTrigger (s : State) (e : Nat) : Option Int :=
  if s.sarUsed e && s.sarDue e s.cat.num then
    match s.fld (F.SAR_SEQ_TRIG e) with
    | 0 => some s.cat.tick
    | 1 => s.auxPoint 0
    | 2 => s.auxPoint 1
    | _ => none
  else none

/-- Converter of an entry (R165). -/
def sarConv (e : Nat) : Nat := e / 16

/-- The converter is free, and every earlier entry of the table that runs in this catch has started (R163). -/
def State.sarTurn (s : State) (e : Nat) : Bool :=
  (List.range 32).all (fun f => sarConv f != sarConv e ||
    (!bit s.sense.sarBusy f && (e ≤ f || (s.sarTrigger f).isNone || s.sense.sarAt.get f == s.cat.num)))

/-- SAR_ENTRY_START at tick `at'` (R164): not before the trigger plus DELAY, nor out of turn, and once in a catch. The offset of this
catch is the one that its conversion takes. -/
def sarEntryStart (e : Fin 32) (at' : Nat) (s : State) : State :=
  s.onBlock 0x07 (fun s =>
    match s.sarTrigger e with
    | none => s
    | some t0 =>
      if t0 + s.fld (F.SAR_SEQ_DELAY e) ≤ at' ∧ s.sarTurn e = true ∧ s.sense.sarAt.get e ≠ s.cat.num then
        let ofs := if s.sense.sarOld.get e = 0 then s.fld (F.SAR_OFS_OFS e) else s.sense.sarOld.get e - 1
        { s with sense := { s.sense with sarAt := s.sense.sarAt.set e s.cat.num, sarOfs := s.sense.sarOfs.set e ofs,
                                         sarBusy := setBit s.sense.sarBusy e } }
      else s)

/-- A code of a check entry that breaks the limits: 2048 ± 16 for VREF/2, at most 8 for VSS. -/
def sarRefBad (input code : Nat) : Bool := (input == 8 && (code < 2032 || 2064 < code)) || (input == 9 && 8 < code)

/-- A converter's reference conversions all keep the limits (R534). -/
def refsOk (r : SarRefs) : Bool :=
  r.vref.all (fun c => !sarRefBad 8 c.toNat) && r.vss.all (fun c => !sarRefBad 9 c.toNat)

/-- A loopback passes: S within `tol`/1024 of ±G/2 and, of a protection filter that runs, P within 1 of ±M^PORD/2 (R534, R538). -/
def loopOk (l : Loopback) (g p tol : Nat) : Bool :=
  decide ((2 * l.hiS - g).natAbs * 512 ≤ tol) && decide ((2 * l.loS + g).natAbs * 512 ≤ tol) &&
    (p == 0 || (decide ((2 * l.hiP - p).natAbs ≤ 2) && decide ((2 * l.loP + p).natAbs ≤ 2)))

/-- A check entry's result: two consecutive bad ones fail the converter (R164, R536). -/
def State.sarCheck (s : State) (c : Nat) (bad : Bool) : State :=
  if bad then
    let n := s.sense.refchk.get c + 1
    let t := (s.ev F.SAR_EVENT_REFCHK).bump F.BIST_SAR_REFCHK
    let t : State := { t with sense := { t.sense with refchk := t.sense.refchk.set c n } }
    if 2 ≤ n then
      let t : State := { t with sense := { t.sense with sarFailed := setBit t.sense.sarFailed c } }
      (t.set F.BIST_SAR_FAIL t.sense.sarFailed).ev F.BIST_EVENT_SAR_FAIL
    else t
  else { s with sense := { s.sense with refchk := s.sense.refchk.set c 0 } }

/-- COX0 refuses a START of the unit: it is bound to an entry of a failed converter (R536). -/
def State.sarFailedFor (s : State) (u : Nat) : Bool :=
  s.live.bind.any (fun b => match b with | .sar e _ _ _ => bit s.sense.sarFailed (sarConv e) && bit (s.sarUnits e) u | _ => false)

/-- SAR_CONVERSION_DONE: CODE is the mean of the entry's 1, 2, 4 or 8 conversions, truncated; VALUE = CODE - OFS (R164). A failed
converter delivers no further results. -/
def sarConversionDone (e : Fin 32) (codes : List (BitVec 12)) (s : State) : State :=
  s.onBlock 0x07 (fun s =>
    let n := 2 ^ s.fld (F.SAR_SEQ_AVG e)
    if bit s.sense.sarBusy e && !bit s.sense.sarFailed (sarConv e) && codes.length == n then
      let code := (codes.map (fun c => c.toNat)).sum / n
      let v : Int := (code : Int) - s.sense.sarOfs.get e
      let t := ((s.iset (F.SAR_RES_VALUE e) v).set (F.SAR_RES_VALID e) 1).set (F.SAR_RES_TAG e) (s.sense.sarAt.get e % 256)
      let i := s.fld (F.SAR_SEQ_INPUT e)
      let t := if i == 8 || i == 9 then t.sarCheck (sarConv e) (sarRefBad i code) else t
      let t := t.ntcResults e true v
      let t := t.each ((List.range 4).filter (fun u => (t.calInputs u).contains (40 + (e : Nat)))) (fun u t => t.calTake u (40 + e) (some code))
      { t with sense := { t.sense with sarBusy := clearBit t.sense.sarBusy e } }
    else s)

/-- A kind 2 test of the unit waits for a zero-torque window (R539). -/
def State.selfQueue (s : State) (u : Nat) : Bool := s.self.reqs.any (fun r => r.kind == 2 && r.unit == u && r.phase == 1)

/-- A kind 2 test of the unit runs. -/
def State.selfRuns (s : State) (u : Nat) : Bool := s.self.reqs.any (fun r => r.kind == 2 && r.unit == u && r.phase == 4)

/-- What a calibration and a kind 2 test of a unit come to when its zero-torque window closes or it enters a safe state
(R162, R541). -/
def State.windowEnds (s : State) (u : Nat) : State :=
  let t := s.stopTest u
  t.calAbort u

/-- Entries that ran in the catch that ends and have not started are skipped, judged once by the plan that was LIVE in that catch (R164);
what a write left of an old offset is over. -/
def State.sarSkips (s : State) : State :=
  let skipped := (List.range 32).any (fun e => (s.sarTrigger e).isSome && s.sense.sarAt.get e != s.cat.num)
  let due := skipped && !s.cat.first && s.sense.sarJudged != some s.cat.num && s.clocked 0x07
  let t := s.when due (fun s => s.ev F.SAR_EVENT_SKIP)
  { t with sense := { t.sense with sarOld := [], sarJudged := some s.cat.num } }

/-! ### Resolver excitation (R168, R169) -/

/-- The excitation phase at tick `t` after the start, which may be negative. -/
def rsxPhaseAt (t : Int) (period phase : Nat) : Word :=
  BitVec.ofNat 32 (((t % (period : Int)).toNat * 2 ^ 32) / period + phase * 2 ^ 16)

/-- The phases published with a catch at tick `tick` (R169, R369). -/
def State.rsxPublish (s : State) (tick : Nat) : State :=
  s.each [0, 1] (fun n t =>
    if t.clocked 0x08 && t.on (F.RSX_CFG_EN n) && t.fld (F.RSX_CFG_PERIOD n) != 0 then
      match t.sense.rsxAt.find? (fun e => e.1 == n) with
      | some e => t.wr (R.RSLV_EPH n) (rsxPhaseAt ((tick : Int) - e.2) (t.fld (F.RSX_CFG_PERIOD n)) (t.fld (F.RSX_PHASE_PHASE n)))
      | none => t
    else t)

def execSdStuck (n : SdIx) (bits : List (Option Bool)) (s : State) : Host.Outcome State Fault Refusal :=
  .next (sdStuck n bits s)
def execSdStuckClear (n : SdIx) (bits : List (Option Bool)) (s : State) : Host.Outcome State Fault Refusal :=
  .next (sdStuckClear n bits s)
def execManchesterLock (n : SdIx) (bits : List (Option Bool)) (s : State) : Host.Outcome State Fault Refusal :=
  .next (manchesterLock n bits s)
def execManchesterLockLoss (n : SdIx) (bits : List (Option Bool)) (s : State) : Host.Outcome State Fault Refusal :=
  .next (manchesterLockLoss n bits s)
def execManchesterViolation (n : SdIx) (bits : List (Option Bool)) (s : State) : Host.Outcome State Fault Refusal :=
  .next (manchesterViolation n bits s)
def execComparatorAssert (n : SdIx) (bits : List (Option Bool)) (s : State) : Host.Outcome State Fault Refusal :=
  .next (comparatorAssert n bits s)
def execComparatorDeassert (n : SdIx) (bits : List (Option Bool)) (s : State) : Host.Outcome State Fault Refusal :=
  .next (comparatorDeassert n bits s)
def execSdOfsWrite (m : Master) (sar : Bool) (i : Fin 40) (v : Word) (s : State) : Host.Outcome State Fault Refusal :=
  .next (sdOfsWrite m sar i v s)
def execCalibrationStart (u : UnitIx) (s : State) : Host.Outcome State Fault Refusal := .next (calibrationStart u s)
def execCalibrationSettled (u : UnitIx) (s : State) : Host.Outcome State Fault Refusal := .next (calibrationSettled u s)
def execCalibrationEnd (u : UnitIx) (s : State) : Host.Outcome State Fault Refusal := .next (calibrationEnd u s)
def execSarEntryStart (e : Fin 32) (at' : Nat) (s : State) : Host.Outcome State Fault Refusal := .next (sarEntryStart e at' s)
def execSarConversionDone (e : Fin 32) (codes : List (BitVec 12)) (s : State) : Host.Outcome State Fault Refusal :=
  .next (sarConversionDone e codes s)

end Sys2Proof.Machine
end

