-- ==== Sys2Proof/Machine/Gate.lean ====
section
/-! DEFINITION. Enabling and disabling of the gate outputs: the checks of R339, the umpire's grant (R415) and the start
and stop of a leg (R340, R341). -/

namespace Sys2Proof.Machine

/-! ### What the control die itself holds against a unit (R186, R385, R390) -/

/-- The driver-chain position `p` is mapped to a leg or a brake switch of the unit. -/
def State.posOfUnit (s : State) (u p : Nat) : Bool :=
  let w := s.fld (F.DRVC_MAP_SWITCH p)
  decide (p < s.fld F.DRVC_CFG_NDRV) &&
    (if w < 18 then s.unitOf w == some u
     else match s.live.brakeMask (w - 18) with | some m => bit m u | none => false)

/-- State of a driver-chain position: 0 UNCONF, 1 CONFIG, 2 OK, 3 LOST (R394). -/
def State.chainPos (s : State) (p : Nat) : Nat := s.fld (F.DRVC_POS_STATE (p / 16)) / 4 ^ (p % 16) % 4

/-- Every position of the unit is OK. -/
def State.chainOk (s : State) (u : Nat) : Bool :=
  (List.range 40).all (fun p => !s.posOfUnit u p || s.chainPos p == 2)

/-- A comparator of a channel bound to the unit is asserted (R385). -/
def State.compOn (s : State) (u : Nat) : Bool :=
  (List.range 40).any (fun n => s.sdUsed n && bit (s.sdUnits n) u && (s.on (F.SD_PROT_HI n) || s.on (F.SD_PROT_LO n)))

/-- A leg fault input of the unit is accepted high. -/
def State.fltOn (s : State) (u : Nat) : Bool := (s.legsOf u).any (fun l => (s.leg l).flt)

/-- PROT_STATE.READY: no condition of R385 holds (R393). -/
def State.ready (s : State) (u : Nat) : Bool :=
  !isHoldWater (s.protPattern u) && !s.compOn u && !s.fltOn u && s.chainOk u

/-- The unit may not be enabled for a reason of the control die: the fabric's (R186), or a position that is not OK. -/
def State.ownBlock (s : State) (u : Nat) : Bool := s.fab.short || (s.fab.noSub && !s.unitOn u) || !s.chainOk u

/-! ### Enabling (R339) -/

/-- A leg whose bootstrap latch bars a later enable: the latest result is below UVTH + UVHYS (R338). -/
def State.bootBars (s : State) (l : Nat) : Bool :=
  decide (18 ≤ l) && (s.leg l).barUv &&
    decide (s.ifld (F.SAR_RES_VALUE (s.bootEntry l)) <
      (s.fld (F.AUX_BOOT_UVTH (auxOf l)) + s.fld (F.AUX_BOOT_UVHYS (auxOf l)) : Nat))

/-- The first failing row of R339 for the legs of a unit, and the leg it names. The gates of a drive that has not started are not permitted
(R490). -/
def State.enableRefusal (s : State) (u : Nat) : Option (Nat × Nat) :=
  let legs := s.legsOf u
  let row := fun (code : Nat) (bad : Nat → Bool) => (legs.find? bad).map (fun l => (code, l))
  (row 0x01 (fun _ => s.ownBlock u || !s.gatesOpen)).orElse (fun _ =>
    (row 0x02 (fun _ => !s.inputsOk u)).orElse (fun _ =>
      (row 0x03 (fun l => s.on (F.LEG_FS_LATCH l))).orElse (fun _ =>
        (row 0x04 (fun l => !((s.leg l).hasPer && (s.leg l).hasCmp))).orElse (fun _ =>
          row 0x05 s.bootBars))))

/-- Legs of a page whose bit is in a mask. -/
def maskLegs (page mask : Nat) : List Nat :=
  (List.range 24).filter (fun l => legPage l == page && bit mask (legBit l))

/-- COX0 sets enable bits of one page: the legs of each unit are judged together, and the unit's request goes to the
umpire once every bit of it is set (R339, R340). LINK_UV that stands asserted acts on the outputs now enabled (R370). -/
def State.gateSet (s : State) (page mask : Nat) : State :=
  let legs := maskLegs page mask
  let loose := legs.filter (fun l => (s.unitOf l).isNone || !s.liveValid)
  let s := match loose with | l :: _ => s.enRefused page l 0x06 | [] => s
  let units := (List.range 4).filter (fun u => s.liveValid && legs.any (fun l => s.unitOf l == some u))
  s.each units (fun u t =>
    match t.enableRefusal u with
    | some (code, l) => t.enRefused page l code
    | none =>
      let t := t.each (legs.filter (fun l => s.unitOf l == some u)) (fun l t =>
        t.setFldBit (F.PWM_GATE_EN_EN page) (legBit l))
      let t := t.calAbort u
      let t := if (t.legsOf u).all t.gateEn then { t with ump := { t.ump with requests := setBit t.ump.requests u } } else t
      t.linkUv u)

/-- Pages of the PWM blocks. -/
def pwmPage (k : Nat) : Nat := 0x0B + k

/-- PWM_GATE_EN_SET (R339). -/
def pwmGateEnSet (m : Master) (page : Fin 3) (mask : BitVec 9) (s : State) : State :=
  s.onDie (fun s => s.blockWrite m (R.PWM_GATE_EN (pwmPage page)) (isCox0 m) (fun s => s.gateSet (pwmPage page) mask.toNat))

/-- COX0 clears enable bits (R341): the legs stop at their next boundary; a clear ends the unit's request and its
BOOT_UV latches (R338), and the grant of a unit with no output on. -/
def State.gateClear (s : State) (page mask : Nat) : State :=
  s.each (maskLegs page mask) (fun l t =>
    let t := (t.clearFldBit (F.PWM_GATE_EN_EN page) (legBit l)).when (l ≥ 18) (fun t => t.set (F.LEG_STAT_BOOT_UV l) 0)
    match t.unitOf l with
    | some u => ({ t with ump := { t.ump with requests := clearBit t.ump.requests u } } : State).settleGrant u
    | none => t)

/-- PWM_GATE_EN_CLEAR (R341). -/
def pwmGateEnClear (m : Master) (page : Fin 3) (mask : BitVec 9) (s : State) : State :=
  s.onDie (fun s => s.blockWrite m (R.PWM_GATE_EN (pwmPage page)) (isCox0 m) (fun s => s.gateClear (pwmPage page) mask.toNat))

/-! ### Grant and start (R340, R415) -/

/-- A gate output may be on (R32): a leg switches or its unit is granted, a unit holds water from either die, a brake switch is armed in
an enabled page, or the hard-wired chopper serves one. A unit under an override has its outputs from the override alone. -/
def State.gateMayBeOn (s : State) : Bool :=
  s.fld F.UMP_LINKCFG_BRK != 0 || (List.range 4).any (fun u => s.umpHeld u && isHoldWater (s.umpPattern u)) ||
  (s.sup.die == .running && !s.ump.failed &&
    ((List.range 24).any (fun l => s.on (F.LEG_STAT_EN l)) ||
      (List.range 4).any (fun u => (s.granted u && !s.umpHeld u) || isHoldWater (s.protPattern u)) ||
      (s.pageOn 0x0D && (List.range 4).any s.chopArmed)))

/-- LIVE toggles for a gate output of some unit, so that only the grant is waited for (R340): a leg switches, or a unit holds water. -/
def State.liveToggles (s : State) : Bool :=
  (List.range 24).any (fun l => s.on (F.LEG_STAT_EN l)) ||
  (List.range 4).any (fun u => isHoldWater (s.protPattern u) || isHoldWater (s.umpPattern u))

/-- The earliest first edge of a unit granted at `atNs`: at once where LIVE toggles for an output, and else 8 µs after LIVE's first
edge, which comes with this grant or came with that of a unit granted before and not yet switching (R85, R340). -/
def State.startFrom (s : State) (atNs : Nat) : Nat × State :=
  if s.liveToggles then (atNs, s)
  else if (List.range 4).any s.granted then (max atNs (s.ump.liveAt + 8000), s)
  else (atNs + 8000, { s with ump := { s.ump with liveAt := atNs } })

/-- A request that is refused: the unit's bits clear, and a start that waited for it ends in OFF with NOT_READY (R295, R340; log entry
105). -/
def State.requestRefused (s : State) (u : Nat) : State :=
  let t := (s.notPermitted u).clearEnables u
  if u < 2 ∧ (t.driveState u = dStart ∨ t.driveState u = dBrake) then
    ((t.modDrive u (fun x => { x with rampDue := false, gatesDue := false })).startRefused u 0x02).setDriveState u dOff
  else t

/-- GATE_GRANT: the umpire's answer to the request in URG, which the control die takes for refused while a driver-chain position of
the unit is not OK (R390) or its drive has not started (R490); a grant lets each leg start at a boundary at least 8 µs after the first LIVE edge. -/
def gateGrant (u : UnitIx) (atNs : Nat) (s : State) : State :=
  s.onUmp (fun s =>
    if bit s.ump.requests u then
      let s := { s with ump := { s.ump with requests := clearBit s.ump.requests u } }
      let code := s.grantCode u
      if code ≠ 0 then (s.umpRefuse code u).requestRefused u
      else if !s.chainOk u || !s.gatesOpen then s.requestRefused u
      else
        let (start, s) := s.startFrom atNs
        let s : State := { s with ump := { s.ump with grantAt := s.ump.grantAt.set u s.ump.windows } }
        (s.setFldBit F.UMP_STATE_GRANT u).each (s.legsOf u) (fun l t =>
          t.modLeg l (fun x => { x with granted := true, startAt := start }))
    else if s.granted u then s.recheck
    else s)

/-- A leg may start at `atNs`: granted, the LIVE lead time over, every enable bit of its unit set, and neither latch of its own set
(R338 to R340, R344). -/
def State.mayStart (s : State) (l atNs : Nat) : Bool :=
  let x := s.leg l
  x.granted && decide (x.startAt ≤ atNs) && (match s.unitOf l with | some u => (s.legsOf u).all s.gateEn | none => false) &&
    !s.on (F.LEG_STAT_EN l) && !s.on (F.LEG_FS_LATCH l) && !s.on (F.LEG_STAT_BOOT_UV l)

/-- LEG_START (R340): the leg's first boundary after its grant and the LIVE lead time; the low side turns on DTL steps
after it, unless that low pulse is dropped (R334) as in a full-on period. -/
def legStart (l : LegIx) (atNs : Nat) (s : State) : State :=
  s.onDie (fun s =>
    if s.mayStart l atNs then
      let t := (s.boundary l atNs).set (F.LEG_STAT_EN l) 1
      let w : Int := ((t.planned l).2.1 : Int) - t.dtl l
      let cold := decide (2 * w < t.minp l)
      let on : Int := if cold then -(2 ^ 30) else t.dtl l
      (t.modLeg l (fun y =>
        { y with granted := false, fromHigh := false, due := false, dropped := false, lowOn := on, highOn := -(2 ^ 30), noLow := 0,
                 offUntil := y.flt, barUv := false, cold := cold, offAt := if y.flt then some 0 else none })).placeEdges l
    else s)

def execPwmGateEnSet (m : Master) (page : Fin 3) (mask : BitVec 9) (s : State) : Host.Outcome State Fault Refusal :=
  .next (pwmGateEnSet m page mask s)
def execPwmGateEnClear (m : Master) (page : Fin 3) (mask : BitVec 9) (s : State) : Host.Outcome State Fault Refusal :=
  .next (pwmGateEnClear m page mask s)
def execGateGrant (u : UnitIx) (atNs : Nat) (s : State) : Host.Outcome State Fault Refusal := .next (gateGrant u atNs s)
def execLegStart (l : LegIx) (atNs : Nat) (s : State) : Host.Outcome State Fault Refusal := .next (legStart l atNs s)

end Sys2Proof.Machine
end

