-- ==== Sys2Proof/Machine/Prot.lean ====
section
/-! DEFINITION. Leg fault inputs, choppers and brake switches, safe-state request and release, active discharge
(14_power_stage_protection.md R370 to R387). -/

namespace Sys2Proof.Machine

/-! ### Leg fault inputs (R372 to R375) -/

/-- Legs of a fault input: FLT00 to FLT17, then FLTAUXA and FLTAUXB. -/
def fltLegs (i : Nat) : List Nat := if i < 18 then [i] else if i = 18 then [18, 19, 20] else [21, 22, 23]

/-- Steps of 125 ps from a leg's boundary to an instant. -/
def State.stepAt (s : State) (l atNs : Nat) : Int := 8 * ((atNs : Int) - (s.leg l).boundary)

/-- The blanking window open at a step: the switch whose turn-on opened it (R374). It lasts its ticks whether or not the leg has gone
off since. -/
def State.blanked (s : State) (u l : Nat) (at' : Int) : Option Bool :=
  let w : Int := 32 * s.fld (F.PROT_UCFG_BLANK u)
  let r := ((s.turnOns l).filter (fun e => e.1 ≤ at')).foldl
    (fun (o : Option (Int × Bool)) e => match o with
      | some (e', h) => if e.1 < e' then some (e.1 + w, h) else some (e.1 + w, e.2)
      | none => some (e.1 + w, e.2)) none
  match r with
  | some (e', h) => if at' < e' then some h else none
  | none => none

/-- The switch whose gate line is on at a step, or that turned on last, of the edges that were emitted (R373). -/
def State.lastSide (s : State) (u l : Nat) (at' : Int) : Bool :=
  if isHoldWater (s.protPattern u) then s.protPattern u == patHigh
  else ((s.turnOns l).filter (fun e => e.1 ≤ at')).foldl (fun _ e => e.2) false

/-- PROT_PEND bit of a leg: its place in the binding order of its unit (R393). -/
def State.pendBit (s : State) (u l : Nat) : Nat := (s.legsOf u).idxOf l

/-- Two trips in different phases of one instance within 500 ns (R375). -/
def State.p2p (s : State) (u l atNs : Nat) : Bool :=
  decide (u < 2) && (s.legsOf u).any (fun k =>
    s.live.phaseOf u k != s.live.phaseOf u l &&
      (match (s.leg k).tripAt with | some t => decide (atNs ≤ t + 500) | none => false))

/-- A trip of a leg's fault input (R373, R375, R383, R384). A unit that another trip has brought into hold water in the same tick takes
this one beside that one. -/
def State.legTrip (s : State) (u l : Nat) (high : Bool) (atNs : Nat) : State :=
  let held := isHoldWater (s.protPattern u) && s.prot.entered.get u != atNs / 4 + 1
  let i : FaultInfo := { loc := sideLoc high, leg := l, high := high, reqCls := none, tick := some (atNs / 4) }
  let (latched, s) := s.countTrip l high (some (s.stepAt l atNs))
  let s := s.modLeg l (fun x => { x with tripAt := some atNs })
  let s := if held then s.setFldBit (F.PROT_FAULT_FAULT u) fLeg
    else
      let s := if s.p2p u l atNs then (s.ev F.PROT_EVENT_P2P).fault u fP2p { i with loc := locNone } else s
      if s.on (F.PROT_UCFG_FLTMODE u) then s.fault u fLeg i else s
  s.fsFault l high latched

/-- An accepted level of a leg's fault input (R372, R374). -/
def State.legLevel (s : State) (l : Nat) (high : Bool) (atNs : Nat) : State :=
  match s.unitOf l with
  | none => s.modLeg l (fun x => { x with flt := high })
  | some u =>
    let pend := bit (s.fld (F.PROT_PEND_PEND u)) (s.pendBit u l)
    let was := (s.leg l).flt
    let s := s.modLeg l (fun x => { x with flt := high })
    if high && !was then
      match s.blanked u l (s.stepAt l atNs) with
      | some h => (s.setFldBit (F.PROT_PEND_PEND u) (s.pendBit u l)).modLeg l (fun x => { x with pendSide := h })
      | none => s.legTrip u l (s.lastSide u l (s.stepAt l atNs)) atNs
    else if !high && pend then (s.clearFldBit (F.PROT_PEND_PEND u) (s.pendBit u l)).bump (F.PROT_PDROP_COUNT u)
    else s

/-- Consecutive equal samples that a fault input's level takes to be accepted (R372). -/
def State.fltNeed (s : State) : Nat := min 4 (s.fld F.PROT_FLTCFG_FILT) + 1

/-- Samples of a fault input, one each 2 ns, against its accepted level and its run of samples that differ from it
(R372): the level and run after them, and the changes accepted, each with the samples that followed it. -/
def acceptRun (need : Nat) : Bool → Nat → List Bool → Bool × Nat × List (Bool × Nat)
  | a, run, [] => (a, run, [])
  | a, run, x :: r =>
    if x = a then acceptRun need a 0 r
    else if run + 1 < need then acceptRun need a (run + 1) r
    else
      let (b, n, ch) := acceptRun need x 0 r
      (b, n, (x, r.length) :: ch)

/-- The run of a fault input: keys 0 to 19 of FltIx, 20 + b of FLTBb. -/
def State.setFltRun (s : State) (k n : Nat) : State := { s with prot := { s.prot with fltRun := s.prot.fltRun.set k n } }

/-- LEG_FAULT_INPUT: consecutive samples of a fault input, the last at `atNs`. -/
def legFaultInput (i : FltIx) (samples : List Bool) (atNs : Nat) (s : State) : State :=
  s.onBlock 0x0E (fun s =>
    let (_, n, ch) := acceptRun s.fltNeed (s.leg ((fltLegs i).headD 0)).flt (s.prot.fltRun.get i) samples
    (s.setFltRun i n).each ch (fun c s => s.each (fltLegs i) (fun l t => t.legLevel l c.1 (atNs - 2 * c.2))))

def blankingEnd (l : LegIx) (atNs : Nat) (s : State) : State :=
  s.onBlock 0x0E (fun s =>
    match s.unitOf l with
    | none => s
    | some u =>
      if bit (s.fld (F.PROT_PEND_PEND u)) (s.pendBit u l) && (s.blanked u l (s.stepAt l atNs)).isNone then
        let t := s.clearFldBit (F.PROT_PEND_PEND u) (s.pendBit u l)
        if (s.leg l).flt then t.legTrip u l (s.leg l).pendSide atNs else t
      else s)

/-! ### Choppers and brake switches (R377, R378) -/

/-- The control-die chopper of a switch may be on: bound, not latched, armed, in an enabled PWMC page. -/
def State.chopAble (s : State) (b : Nat) : Bool :=
  (s.live.brakeMask b).isSome && !s.on (F.PROT_BRKCTL_LATCH b) && s.chopArmed b && s.pageOn 0x0D

/-- P of the link-voltage channel that a chopper watches (R377). -/
def State.chopP (s : State) (b : Nat) : Int := s.ifld (F.SD_PROT_P (s.fld (F.PROT_CHON_SD b)))

def chopperOn (b : BrkIx) (tick : Nat) (s : State) : State :=
  s.onBlock 0x0E (fun s =>
    if s.chopAble b && !bit s.prot.chopSelf b && s.ifld (F.PROT_CHON_ON b) ≤ s.chopP b then
      let t := s.set (F.PROT_BRKCTL_ON b) 1
      { t with prot := { t.prot with chopOn := t.prot.chopOn.set b tick, chopSelf := setBit t.prot.chopSelf b } }
    else s)

def chopperOff (b : BrkIx) (tick : Nat) (s : State) : State :=
  s.onBlock 0x0E (fun s =>
    if bit s.prot.chopSelf b && s.chopP b ≤ s.ifld (F.PROT_CHOFF_OFF b) &&
        s.prot.chopOn.get b + s.fld (F.PROT_CHOFF_MINON b) ≤ tick
    then s.chopOff b else s)

def brkArmWrite (m : Master) (b : BrkIx) (arm : Bool) (s : State) : State :=
  s.onDie (fun s => s.blockWrite m (R.PROT_BRKCTL b) (isCox0 m) (fun s =>
    (s.set (F.PROT_BRKCTL_ARM b) (if arm then 1 else 0)).dropChoppers))

/-- A brake switch latched off, with fault BRAKE in its units (R378). -/
def State.latchBrake (s : State) (b : Nat) : State :=
  match s.live.brakeMask b with
  | none => s
  | some m =>
    let t := { s with prot := { s.prot with disArm := clearBit s.prot.disArm b } }
    let t := ((t.chopOff b).set (F.PROT_BRKCTL_LATCH b) 1).ev F.PROT_EVENT_BRK_LATCH
    t.faultUnits m fBrake FaultInfo.plain

/-- An accepted level of FLTBb (R378). -/
def State.brkLevel (s : State) (b : Nat) (high : Bool) : State :=
  let t := { s with prot := { s.prot with brkFlt := if high then setBit s.prot.brkFlt b else clearBit s.prot.brkFlt b } }
  if high then t.latchBrake b else t

/-- BRAKE_FAULT_INPUT: consecutive samples of FLTBb (R372, R378). -/
def brakeFaultInput (b : BrkIx) (samples : List Bool) (s : State) : State :=
  s.onBlock 0x0E (fun s =>
    let (_, n, ch) := acceptRun s.fltNeed (bit s.prot.brkFlt b) (s.prot.fltRun.get (20 + b)) samples
    (s.setFltRun (20 + b) n).each ch (fun c s => s.brkLevel b c.1))

/-- A clear of a brake-switch latch: BUSY_RUNNING while its input is high, else 0 (R378). -/
def State.brkClear (s : State) (b : Nat) : Nat × State :=
  if bit s.prot.brkFlt b then (eBusy, s) else (0, s.set (F.PROT_BRKCTL_LATCH b) 0)

def brkLatchClear (m : Master) (b : BrkIx) (s : State) : State :=
  s.onDie (fun s => s.blockWrite m (R.PROT_BRKCTL b) (isCox0 m) (fun s =>
    let (c, t) := s.brkClear b
    if c = 0 then t else s.refuse m (R.PROT_BRKCTL b) c true))

/-! ### Request, release, exit from hold water (R380, R383, R385) -/

/-- PROT_REQ (R380, R392). -/
def State.protReq (s : State) (u : Nat) (cls : Option Nat) : State :=
  s.fault u fReq ⟨locNone, 0, false, cls, none⟩

def protReq (m : Master) (u : UnitIx) (cls : Fin 4) (useCls go : Bool) (s : State) : State :=
  s.onDie (fun s => s.blockWrite m R.PROT_REQ (isCox0 m) (fun s =>
    if go then s.protReq u (if useCls then some cls else none) else s))

/-- Row 2 of R270: with no safe state of either die left, the instance passes from SAFE to OFF. -/
def State.safeToOff (s : State) (d : Nat) : State :=
  let s := s.settleSafe d
  if d < 2 ∧ s.driveState d = dSafe ∧ s.protPattern d = patNone ∧ s.umpHeld d = false then s.setDriveState d dOff else s

/-- A release of a unit's safe state; BUSY_RUNNING while a condition of R385 holds, else 0. -/
def State.protRelease (s : State) (u : Nat) : Nat × State :=
  if !s.ready u then (eBusy, s)
  else (0, (((s.set (F.PROT_STATE_PATTERN u) patNone).set (F.PROT_STATE_HELD u) 0).safeToOff u).dropChoppers)

def protRelease (m : Master) (u : UnitIx) (s : State) : State :=
  s.onDie (fun s => s.blockWrite m (R.PROT_CLR u) (isCox0 m) (fun s =>
    let (c, t) := s.protRelease u
    if c = 0 then t else s.refuse m (R.PROT_CLR u) c true))

def hwExit (d : DriveIx) (s : State) : State :=
  s.onDie (fun s =>
    if isHoldWater (s.protPattern d) && s.spdClass d == 0 then
      (s.set (F.PROT_STATE_PATTERN d) patOff).ev F.PROT_EVENT_HW_EXIT
    else s)

/-! ### Active discharge (R386, R387) -/

/-- CFB_MP or CFB_MN shows a closed contact that is in use. -/
def State.mainsClosed (s : State) : Bool := s.fld F.UMP_CTRSTAT_SENSED &&& s.fld F.UMP_CTRCFG_USE &&& 6 != 0

/-- The unlatched, bound brake switches of PROT_DISCFG. -/
def State.dischargePath (s : State) : Nat :=
  ((List.range 4).filter (fun b => bit (s.fld F.PROT_DISCFG_BRK) b && (s.live.brakeMask b).isSome &&
    !s.on (F.PROT_BRKCTL_LATCH b))).foldl setBit 0

/-- The first holding row of R386, 0 if none. -/
def State.dischargeRefusal (s : State) : Nat :=
  if (List.range 4).any (fun u => bit (s.fld F.UMP_LINKCFG_UNITS) u && s.unitOn u) then 0x01
  else if s.mainsClosed then 0x02
  else if !s.on F.PROT_DISCFG_PATH && s.dischargePath == 0 then 0x03
  else if !s.sdGood (s.fld F.PROT_DISCFG_SD) then 0x07
  else 0

/-- The outputs of a discharge are released: DISCH goes low, and each switch is on from then on only where its own chopper holds it on
(R377, R387). -/
def State.dischargeOff (s : State) : State :=
  let arm := s.prot.disArm
  let t : State := { s with prot := { s.prot with disArm := 0, disch := false, disBelow := 0 } }
  (t.each ((List.range 4).filter (bit arm)) (fun b t => t.set (F.PROT_BRKCTL_ON b) (if bit t.prot.chopSelf b then 1 else 0))).dropChoppers

/-- A discharge starts, or is refused with its code; a START refused while one runs ends it, its outputs released (log entry 122). -/
def State.dischargeStart (s : State) : State :=
  match s.dischargeRefusal with
  | 0 =>
    let s := s.dischargeOff
    let t := ((s.set F.PROT_DISSTAT_STATE 1).set F.PROT_DISSTAT_CODE 0).set F.PROT_DISSTAT_ELAPSED 0
    let path := s.on F.PROT_DISCFG_PATH
    let arm := if path then 0 else s.dischargePath
    let t := { t with prot := { t.prot with disPrev := s.sdVal (s.fld F.PROT_DISCFG_SD), disBelow := 0, disArm := arm, disch := path, disChk := 0, disTicks := 0 } }
    t.each ((List.range 4).filter (bit arm)) (fun b t => t.set (F.PROT_BRKCTL_ON b) 1)
  | c => (s.dischargeOff.set F.PROT_DISSTAT_STATE 4).set F.PROT_DISSTAT_CODE c

/-- The discharge runs. -/
def State.discharging (s : State) : Bool := s.fld F.PROT_DISSTAT_STATE == 1

/-- A discharge ends: its outputs are released and the switches return to R377. -/
def State.dischargeEnd (s : State) (st : Nat) (code : Option Nat) : State :=
  let t := s.set F.PROT_DISSTAT_STATE st
  let t := match code with | some c => t.set F.PROT_DISSTAT_CODE c | none => t
  let t := if st = 2 then t.ev F.PROT_EVENT_DISCH_DONE else t.ev F.PROT_EVENT_DISCH_FAIL
  let t := t.dischargeOff
  if st = 2 then t.mbFinish svDischarge (fun r => r.unit 1) 0 []
  else t.mbFinish svDischarge (fun r => r.unit 1) 0x04 [t.fld F.PROT_DISSTAT_CODE, 5]

/-- A STOP, or another end as ABORTED. -/
def State.dischargeAbort (s : State) : State := if s.discharging then s.dischargeEnd 3 (some 0x06) else s

def dischargeStart (m : Master) (s : State) : State :=
  s.onDie (fun s => s.blockWrite m R.PROT_DISCMD (isCox0 m) State.dischargeStart)

def dischargeStop (m : Master) (s : State) : State :=
  s.onDie (fun s => s.blockWrite m R.PROT_DISCMD (isCox0 m) State.dischargeAbort)

/-- At least `ms` have passed since START (R393). -/
def State.disElapsed (s : State) (ms : Nat) : State :=
  s.set F.PROT_DISSTAT_ELAPSED (min 0xFFFF (max (s.fld F.PROT_DISSTAT_ELAPSED) ms))

/-- DISCHARGE_CHECKPOINT: every STEP × 10 ms; a missed one sets STALL and the discharge goes on. -/
def dischargeCheckpoint (s : State) : State :=
  s.onBlock 0x0E (fun s =>
    if s.discharging then
      let v := s.sdVal (s.fld F.PROT_DISCFG_SD)
      let step := max 1 (s.fld F.PROT_DISCHK_STEP)
      let ok := v ≤ s.ifld F.PROT_DISTGT_TARGET || 256 * v ≤ s.prot.disPrev * s.fld F.PROT_DISCHK_RATIO
      let t := s.disElapsed (10 * step * (s.prot.disChk + 1))
      let t := t.when (!ok) (fun t => t.set F.PROT_DISSTAT_CODE 0x04)
      { t with prot := { t.prot with disPrev := v, disChk := t.prot.disChk + 1 } }
    else s)

/-- At each catch: the time of the catches since START, VALUE against TARGET, and ERR on the channel (R387). A tick is
16 periods of the DCO (R117). -/
def State.dischargeCatch (s : State) : State :=
  if s.discharging && s.clocked 0x0E then
    let ticks := s.prot.disTicks + (s.cat.next - s.cat.tick)
    let s := s.disElapsed (16000 * s.prot.disTicks / (s.pll.n * s.pll.refHz))
    let s : State := { s with prot := { s.prot with disTicks := ticks } }
    let n := s.fld F.PROT_DISCFG_SD
    if s.on (F.SD_RES_ERR n) || s.mainsClosed then s.dischargeAbort
    else
      let below := if s.sdVal n ≤ s.ifld F.PROT_DISTGT_TARGET then s.prot.disBelow + 1 else 0
      { s with prot := { s.prot with disBelow := below } }
  else s

def dischargeDone (s : State) : State :=
  s.onBlock 0x0E (fun s => if s.discharging && 10 ≤ s.prot.disBelow then s.dischargeEnd 2 none else s)

def dischargeTimeout (s : State) : State :=
  s.onBlock 0x0E (fun s =>
    if s.discharging then (s.disElapsed (s.fld F.PROT_DISCFG_TMAX)).dischargeEnd 3 (some 0x05) else s)

def execLegFaultInput (i : FltIx) (samples : List Bool) (atNs : Nat) (s : State) : Host.Outcome State Fault Refusal :=
  .next (legFaultInput i samples atNs s)
def execBlankingEnd (l : LegIx) (atNs : Nat) (s : State) : Host.Outcome State Fault Refusal := .next (blankingEnd l atNs s)
def execChopperOn (b : BrkIx) (tick : Nat) (s : State) : Host.Outcome State Fault Refusal := .next (chopperOn b tick s)
def execChopperOff (b : BrkIx) (tick : Nat) (s : State) : Host.Outcome State Fault Refusal := .next (chopperOff b tick s)
def execBrkArmWrite (m : Master) (b : BrkIx) (arm : Bool) (s : State) : Host.Outcome State Fault Refusal :=
  .next (brkArmWrite m b arm s)
def execBrakeFaultInput (b : BrkIx) (samples : List Bool) (s : State) : Host.Outcome State Fault Refusal :=
  .next (brakeFaultInput b samples s)
def execBrkLatchClear (m : Master) (b : BrkIx) (s : State) : Host.Outcome State Fault Refusal := .next (brkLatchClear m b s)
def execProtReq (m : Master) (u : UnitIx) (cls : Fin 4) (useCls go : Bool) (s : State) :
    Host.Outcome State Fault Refusal := .next (protReq m u cls useCls go s)
def execProtRelease (m : Master) (u : UnitIx) (s : State) : Host.Outcome State Fault Refusal := .next (protRelease m u s)
def execHwExit (d : DriveIx) (s : State) : Host.Outcome State Fault Refusal := .next (hwExit d s)
def execDischargeStart (m : Master) (s : State) : Host.Outcome State Fault Refusal := .next (dischargeStart m s)
def execDischargeStop (m : Master) (s : State) : Host.Outcome State Fault Refusal := .next (dischargeStop m s)
def execDischargeCheckpoint (s : State) : Host.Outcome State Fault Refusal := .next (dischargeCheckpoint s)
def execDischargeDone (s : State) : Host.Outcome State Fault Refusal := .next (dischargeDone s)
def execDischargeTimeout (s : State) : Host.Outcome State Fault Refusal := .next (dischargeTimeout s)

end Sys2Proof.Machine
end

