-- ==== Sys2Proof/Machine/Driver.lean ====
section
/-! DEFINITION. The driver chain (14_power_stage_protection.md R388 to R391). -/

namespace Sys2Proof.Machine

def State.chainAt (s : State) (p : Nat) : Chain := mapGet (fun _ => Chain.init) s.chain p
def State.setChain (s : State) (p : Nat) (c : Chain) : State := { s with chain := mapPut (fun _ => Chain.init) s.chain p c }

/-- States of a position (R394). -/
def pUnconf := 0
def pConfig := 1
def pOk := 2
def pLost := 3

def State.setChainPos (s : State) (p st : Nat) : State :=
  let f := F.DRVC_POS_STATE (p / 16)
  s.set f (s.fld f - s.chainPos p * 4 ^ (p % 16) + st * 4 ^ (p % 16))

/-- RETRY; 0 reads as 1. -/
def State.chainRetry (s : State) : Nat := max 1 (s.fld F.DRVC_CFG_RETRY)

/-- GSTR due to a position: the band's value of its leg. -/
def State.gstrOf (s : State) (p : Nat) : Nat :=
  let w := s.fld (F.DRVC_MAP_SWITCH p)
  if w < 18 then s.fld (F.LEG_MINP_GSTR w) else (Config.brakeGstr (w - 18)).toNat

/-- The units of a position. -/
def State.posUnits (s : State) (p : Nat) : List Nat := (List.range 4).filter (fun u => s.posOfUnit u p)

/-- DRVC_LAST. -/
def State.chainLast (s : State) (p code : Nat) : State :=
  ((s.set F.DRVC_LAST_POS p).set F.DRVC_LAST_CODE code).set F.DRVC_LAST_CATCH s.stamp

/-- DRVC_LAST for what no position brings: its POS stays (R394). -/
def State.chainLastBus (s : State) (code : Nat) : State := (s.set F.DRVC_LAST_CODE code).set F.DRVC_LAST_CATCH s.stamp

/-- DRV_FAULT of a position: raised while its unit has a gate output enabled, recorded otherwise; a brake switch is
latched as under R378. -/
def State.driverFault (s : State) (p : Nat) : State :=
  let w := s.fld (F.DRVC_MAP_SWITCH p)
  let high := s.on (F.DRVC_MAP_SIDE p)
  let s := if w < 18 then s.modLeg w (fun x => { x with drvFault := setBit x.drvFault (if high then 1 else 0) })
    else s.latchBrake (w - 18)
  s.each (s.posUnits p) (fun u t =>
    if t.unitOn u then t.fault u fDrvFault (if w < 18 then ⟨sideLoc high, w, high, none, none⟩ else FaultInfo.plain)
    else t.setFldBit (F.PROT_FAULT_FAULT u) fDrvFault)

/-- A position enters CONFIG. -/
def State.chainConfig (s : State) (p : Nat) : State :=
  (s.setChainPos p pConfig).setChain p { s.chainAt p with cfg := 0, good := 0, rewrites := [], queue := [], retry := none }

/-- A position is LOST. -/
def State.chainLost (s : State) (p code : Nat) : State :=
  let t := ((s.setChainPos p pLost).chainLast p code).ev F.DRVC_EVENT_POS_LOST
  let t := t.setChain p { t.chainAt p with queue := [], retry := none, rewrites := [] }
  t.each (t.posUnits p) (fun u t => t.fault u fDrvLost FaultInfo.plain)

/-- The command frame on DSO (R389). -/
def chainFrame (c : ChainCmd) (seq : Nat) : BitVec 40 :=
  let (op, reg, data) := match c with
    | .nop => (0, 0, 0)
    | .read r => (1, r, 0)
    | .write r d => (2, r, d)
    | .diag r => (3, r, 0)
  let v := ((op * 16 + seq % 16) * 4 * 256 + reg % 256) * 65536 + data % 65536
  BitVec.ofNat 40 (256 * v + (crc8 32 v).toNat)

/-- What is wrong with a response: code of R394, or 0. -/
def frameBad (f : BitVec 40) (c : ChainCmd) (seq : Nat) : Nat :=
  let v := f.toNat
  if v % 256 ≠ (crc8 32 (v / 256)).toNat then 0x01
  else if v / 2 ^ 38 = 1 then 0x04
  else if v / 2 ^ 34 % 16 ≠ seq then 0x02
  else match c with
    | .read r => if v / 2 ^ 24 % 256 = r then 0 else 0x03
    | .write r _ => if v / 2 ^ 24 % 256 = r then 0 else 0x03
    | .diag r => if v / 2 ^ 24 % 256 = r then 0 else 0x03
    | .nop => if v / 2 ^ 24 % 256 = 0 then 0 else 0x03

/-- A failed response: the command is retried; RETRY consecutive failures lose the position. -/
def State.chainFail (s : State) (p code : Nat) (cmd : ChainCmd × Nat) : State :=
  let t := ((s.bump F.DRVC_RETRIES_COUNT).bump (F.DRVC_DSTAT_FAILS p)).chainLast p code
  if t.chainPos p = pLost then t
  else if s.chainRetry ≤ t.fld (F.DRVC_DSTAT_FAILS p) then t.chainLost p 0x07
  else t.setChain p { t.chainAt p with retry := some cmd }

/-- A readback of a register against what it should hold; bit `k` of the CONFIG readbacks. The rewrite and its readback wait behind
those of other registers. -/
def State.readback (s : State) (p k reg want got : Nat) : State :=
  let c := s.chainAt p
  if got = want then s.setChain p { c with good := setBit c.good k, rewrites := c.rewrites.set k 0 }
  else
    let t := s.ev F.DRVC_EVENT_CFG_MISMATCH
    if s.chainRetry ≤ c.rewrites.get k then t.chainLost p 0x06
    else (t.chainLast p 0x06).setChain p
      { c with rewrites := c.rewrites.set k (c.rewrites.get k + 1), queue := c.queue ++ [.write reg want, .read reg] }

/-- Every step of CONFIG has been sent: a STATUS read answered now came after the write of STATUS. -/
def State.configSent (s : State) (p : Nat) : Bool := decide (2 * s.fld F.DRVC_CFG_NIMG + 4 ≤ (s.chainAt p).cfg)

/-- A STATUS word read (R390). -/
def State.statusRead (s : State) (p d : Nat) : State :=
  let t := s.set (F.DRVC_DSTAT_STATUS p) d
  let t := if d / 2 % 32 ≠ 0 then ((t.ev F.DRVC_EVENT_DRV_FAULT).chainLast p 0x09).driverFault p else t
  if bit d 0 then
    let t := (t.ev F.DRVC_EVENT_DRV_RESET).chainLast p 0x08
    let t := if (t.posUnits p).any t.unitOn then (t.ev F.DRVC_EVENT_DRV_FAULT).driverFault p else t
    t.chainConfig p
  else if bit d 6 then t.chainConfig p
  else if t.chainPos p == pConfig && !t.configSent p then t
  else t.setChain p { t.chainAt p with good := setBit (t.chainAt p).good 9 }

/-- Readbacks that CONFIG needs: NIMG images, GSTR and STATUS. -/
def State.configAll (s : State) : Nat := 2 ^ s.fld F.DRVC_CFG_NIMG - 1 + 0x300

/-- The data of a register that a READ brings. -/
def State.chainRead (s : State) (p r d : Nat) : State :=
  if r = 0x01 then s.statusRead p d
  else if r = 0x02 then s.readback p 8 0x02 (s.chainAt p).gstr (d % 16)
  else if r = 0x03 then
    if d = 0x005A then s else ((s.ev F.DRVC_EVENT_DRV_FAULT).chainLast p 0x09).driverFault p
  else
    match (List.range (s.fld F.DRVC_CFG_NIMG)).find? (fun j => s.fld (F.DRVC_IMG_REG j) == r) with
    | some j => s.readback p j r (s.fld (F.DRVC_IMG_DATA j)) d
    | none => s

/-- CONFIG ends once every readback matches. -/
def State.chainDone (s : State) (p : Nat) : State :=
  if s.chainPos p == pConfig && (s.configAll &&& (s.chainAt p).good) == s.configAll then s.setChainPos p pOk else s

/-- A good response; the first of a LOST position returns it to CONFIG. -/
def State.chainGood (s : State) (p : Nat) (f : BitVec 40) (cmd : ChainCmd) : State :=
  let t := s.set (F.DRVC_DSTAT_FAILS p) 0
  if f.extractLsb' 38 2 = 2#2 then t.chainLost p 0x05
  else
    let t := if s.chainPos p == pLost then t.chainConfig p else t
    match cmd with
    | .read r => (t.chainRead p r (f.extractLsb' 8 16).toNat).chainDone p
    | _ => t.chainDone p

/-- The response of one position. -/
def State.chainJudge (s : State) (p : Nat) (f : Option (BitVec 40)) : Bool × State :=
  match (s.chainAt p).sent with
  | none => (false, s)
  | some (c, q) =>
    match f with
    | none => (true, s.chainFail p 0x01 (c, q))
    | some f =>
      let bad := frameBad f c q
      if bad = 0 then (false, s.chainGood p f c) else (true, s.chainFail p bad (c, q))

/-- The step of CONFIG that follows `k` steps: NIMG images, GSTR and STATUS written, then read back. -/
def State.configStep (s : State) (p k : Nat) : Option ChainCmd :=
  let n := s.fld F.DRVC_CFG_NIMG
  let j := if k < n + 2 then k else k - (n + 2)
  if 2 * n + 4 ≤ k then none
  else if k < n + 2 then
    some (if j < n then .write (s.fld (F.DRVC_IMG_REG j)) (s.fld (F.DRVC_IMG_DATA j))
      else if j = n then .write 0x02 (s.gstrOf p) else .write 0x01 1)
  else some (if j < n then .read (s.fld (F.DRVC_IMG_REG j)) else if j = n then .read 0x02 else .read 0x01)

/-- The new command of a position that has none to repeat, and the position after it; `diag`: a DIAG is due, with the REG of its frame,
to which no rule gives a value (log entry 123). -/
def State.chainNext (s : State) (p : Nat) (alert : Bool) (diag : Option Nat) : ChainCmd × Chain :=
  let c := s.chainAt p
  let st := s.chainPos p
  let g := s.gstrOf p
  if alert || st == pLost then (.read 0x01, c)
  else match c.queue with
    | q :: rest => (q, { c with queue := rest })
    | [] =>
      match (if st = pConfig then s.configStep p c.cfg else none) with
      | some q => (q, { c with cfg := c.cfg + 1, gstr := match q with | .write 0x02 v => v | _ => c.gstr })
      | none =>
        if st = pOk ∧ c.gstr ≠ g then (.write 0x02 g, { c with gstr := g, queue := [.read 0x02] })
        else if st = pOk ∧ diag.isSome = true then (.diag (diag.getD 0), { c with queue := [.read 0x03] })
        else if st = pOk ∧ s.fld F.DRVC_TXN_COUNT % 2 = 1 ∧ 0 < s.fld F.DRVC_CFG_NIMG then
          (.read (s.fld (F.DRVC_IMG_REG (c.image % s.fld F.DRVC_CFG_NIMG))), { c with image := (c.image + 1) % s.fld F.DRVC_CFG_NIMG })
        else (.read 0x01, c)

/-- The command that the transaction about to start sends to a position: a retry repeats its SEQ, a new command takes the next. -/
def State.chainSend (s : State) (p : Nat) (alert : Bool) (diag : Option Nat) : State :=
  let c := s.chainAt p
  match (if alert then none else c.retry) with
  | some q => (s.set (F.DRVC_DSTAT_SEQ p) q.2).setChain p { c with sent := c.out, out := some q, retry := none }
  | none =>
    let (cmd, c) := s.chainNext p alert diag
    let seq := (c.seq + 1) % 16
    (s.set (F.DRVC_DSTAT_SEQ p) seq).setChain p { c with sent := c.out, out := some (cmd, seq), seq := seq }

/-- The frame that the transaction in progress sends to a position. -/
def State.chainOut (s : State) (p : Nat) : BitVec 40 :=
  match (s.chainAt p).out with | some (c, q) => chainFrame c q | none => chainFrame .nop 0

/-- Every position's next command, and the frames on DSO, that of the last position first (R389). -/
def State.chainSendAll (s : State) : State :=
  let n := s.fld F.DRVC_CFG_NDRV
  let per := s.fld F.DRVC_CFG_DIAG_PER
  let diag := per != 0 && s.fld F.DRVC_TXN_COUNT != 0 && s.fld F.DRVC_TXN_COUNT % per == 0
  let alert := s.chainBus.alert
  let at' := s.chainBus.diagAt
  let (x, s) := if diag then s.fresh 8 else (0, s)
  let t := s.each (List.range n) (fun p t => t.chainSend p alert (if diag && p == at' then some x.toNat else none))
  let t := { t with chainBus := { t.chainBus with
    alert := false, diagAt := if diag then (at' + 1) % max n 1 else at', dso := ((List.range n).reverse).map t.chainOut } }
  t.set F.DRVC_STAT_STATE (if n = 0 then 0 else if (List.range n).any (fun p => t.chainPos p == pConfig) then 1 else 2)

/-- Chain start at an activation (R390): every position enters CONFIG, and the first transaction's commands are ready. -/
def State.chainStart (s : State) : State :=
  let n := s.fld F.DRVC_CFG_NDRV
  let t := (s.set F.DRVC_TXN_COUNT 0).each (List.range 40) (fun p t =>
    (t.setChain p Chain.init).setChainPos p (if p < n then pConfig else pUnconf))
  t.chainSendAll

/-- DRIVER_TRANSACTION: the response frame of each position, position 0 first. -/
def driverTransaction (frames : List (BitVec 40)) (s : State) : State :=
  s.onBlock 0x0F (fun s =>
    let n := s.fld F.DRVC_CFG_NDRV
    if n = 0 || !s.liveValid then s
    else
      let s := s.bump F.DRVC_TXN_COUNT
      let (bad, s) := (List.range n).foldl (fun (r : Nat × State) p =>
        let (b, t) := r.2.chainJudge p frames[p]?
        (if b then r.1 + 1 else r.1, t)) (0, s)
      let t := s.chainSendAll
      if bad = n then ((t.ev F.DRVC_EVENT_CHAIN_BROKEN).set F.DRVC_STAT_STATE 3).chainLastBus 0x0B else t)

/-- DRIVER_ALERT: DALRT_N is accepted low after 100 ns. -/
def driverAlert (s : State) : State :=
  s.onBlock 0x0F (fun s =>
    if s.chainBus.ignore then s
    else { (s.ev F.DRVC_EVENT_ALERT) with chainBus := { s.chainBus with alert := true, low := true } })

/-- ALERT_STUCK: DALRT_N has stayed low for 10 ms, and no STATUS read shows a fault. -/
def alertStuck (s : State) : State :=
  s.onBlock 0x0F (fun s =>
    let fault := (List.range (s.fld F.DRVC_CFG_NDRV)).any (fun p => s.fld (F.DRVC_DSTAT_STATUS p) / 2 % 64 != 0)
    if s.chainBus.low && !fault then
      let t := (s.ev F.DRVC_EVENT_ALERT_STUCK).chainLastBus 0x0A
      { t with chainBus := { t.chainBus with ignore := true, alert := false } }
    else s)

def driverAlertRelease (s : State) : State :=
  s.onBlock 0x0F (fun s => { s with chainBus := { s.chainBus with low := false, ignore := false } })

def execDriverTransaction (frames : List (BitVec 40)) (s : State) : Host.Outcome State Fault Refusal :=
  .next (driverTransaction frames s)
def execDriverAlert (s : State) : Host.Outcome State Fault Refusal := .next (driverAlert s)
def execAlertStuck (s : State) : Host.Outcome State Fault Refusal := .next (alertStuck s)
def execDriverAlertRelease (s : State) : Host.Outcome State Fault Refusal := .next (driverAlertRelease s)

end Sys2Proof.Machine
end

