-- ==== Sys2Proof/Machine/Umpire.lean ====
section
/-! DEFINITION. The umpire: its channel, link and temperature paths, STO, window watchdog, checks, torque monitor,
release and gate permission (15_umpire_safety.md). The UMP page holds the umpire's own values (log entry 18). -/

namespace Sys2Proof.Machine

/-! ### Bench voltage and watchdog hold (R415, R428) -/

/-- With LOCKSTEP_BROKEN and the link above 60 V, every grant is withdrawn and all-off imposed; a held hold-water pattern changes to
all-off. The fault latches for the units that hold a grant or an override (R400, R415, R429). -/
def State.benchCheck (s : State) : State :=
  if s.ump.lockstepBroken && s.ump.benchHv then
    let units := (List.range 4).filter (fun u => s.granted u || s.umpHeld u)
    if units.isEmpty then s else s.umpFault uBenchHv (units.foldl setBit 0) true
  else s

/-- A watchdog hold ends: the first service is due within 250 ms (R428). -/
def State.holdEnd (s : State) : State :=
  if s.ump.wdHold = 0 then s
  else
    let t : State := { s with ump := { s.ump.firstDue s.ump.wdHold with wdHold := 0 } }
    (t.set F.LSTP_DBG_WD_HOLD 0).ev F.LSTP_EVENT_HOLD_END

/-- BENCH_HV: UAIN0 has risen through 60 V or fallen through 58 V. -/
def benchHv (rising : Bool) (s : State) : State :=
  s.onUmp (fun s =>
    let t : State := { s with ump := { s.ump with benchHv := rising } }
    if rising then t.benchCheck.holdEnd else t)

/-! ### The umpire channel (R395 to R397) -/

/-- CRC-8 of R395 over bits [31:8] of a frame, most significant bit first. -/
def frameCrc (w : Word) : BitVec 8 :=
  ((List.range 24).foldl (fun (c : BitVec 8) i =>
    if c.getLsbD 7 != w.getLsbD (31 - i) then (c <<< 1) ^^^ 0x2F#8 else c <<< 1) 0xFF#8) ^^^ 0xFF#8

/-- A frame of the umpire channel (R395). -/
def umpFrame (seq urg typ : BitVec 4) (data : BitVec 12) : Word :=
  let w : Word := seq ++ urg ++ typ ++ data ++ 0#8
  w ||| (frameCrc w).setWidth 32

/-- The next frame of a direction whose slot is one of `slots`; the slots between carry NOPs, and every frame takes a SEQ. -/
def Channel.send (c : Channel) (slots : List Nat) (urg typ : BitVec 4) (data : BitVec 12) : Channel :=
  let n := (((List.range 8).find? (fun i => slots.contains ((c.slot + 1 + i) % 8))).getD 7) + 1
  let q := (c.seq + n) % 16
  { seq := q, slot := (c.slot + n) % 8, frame := umpFrame (BitVec.ofNat 4 q) urg typ data }

/-- A frame to the umpire: its content `k` of Config.slotType, 0 to 7 (R395, R396; the order of the units in URG is log entry 116). -/
def State.sendDown (s : State) (slots : List Nat) (k : Nat) (data : BitVec 12) : State :=
  { s with ump := { s.ump with down := s.ump.down.send slots (BitVec.ofNat 4 s.ump.requests) (Config.slotType k) data } }

/-- A slot with no content pending carries a NOP (R396). -/
def State.nopDown (s : State) (slots : List Nat) : State :=
  { s with ump := { s.ump with down := s.ump.down.send slots (BitVec.ofNat 4 s.ump.requests) 0 0 } }

/-- A frame to the control die: its content `k`, 8 to 15. -/
def State.sendUp (s : State) (slots : List Nat) (k : Nat) (data : BitVec 12) : State :=
  { s with ump := { s.ump with up := s.ump.up.send slots (BitVec.ofNat 4 (s.fld F.UMP_STATE_GRANT)) (Config.slotType k) data } }

/-- A frame to the control die whose DATA no rule lays out: a free value (log entry 116). -/
def State.sendUpFree (s : State) (slots : List Nat) (k : Nat) : State := let (x, t) := s.fresh 12; t.sendUp slots k (x.setWidth 12)

/-- Units whose count of late catches is at or above LATE_LIMIT (R134). -/
def State.lateUnits (s : State) : Nat :=
  let f := fun (u : Nat) => match u with
    | 0 => s.fld F.CATCH_LATE_CONSEC_A | 1 => s.fld F.CATCH_LATE_CONSEC_B
    | 2 => s.fld F.CATCH_LATE_CONSEC_AUXA | _ => s.fld F.CATCH_LATE_CONSEC_AUXB
  ((List.range 4).filter (fun u => decide (max 1 (s.fld F.CATCH_CTRL_LATE_LIMIT) ≤ f u))).foldl setBit 0

/-- STATUS slot, control to safety: PLL state, LATE_ESC, COAST and LIVE_VALID are mirrored, and a LATE_ESC imposes the
umpire's safe state on its units (R134, R396). -/
def umpStatusFrame (s : State) : State :=
  s.onDie (fun s =>
    let pll := s.fld F.PLL_STATUS_STATE
    let esc := s.cat.lateEsc
    let s := s.sendDown [0] 0 (BitVec.ofNat 12 (pll + 8 * (esc ||| s.lateUnits) + (if pll = 5 then 128 else 0) + (if s.liveValid then 256 else 0)))
    let t : State := { s with
      ump := { s.ump with pll := pll, coast := pll == 5, liveValid := s.liveValid, lateEsc := esc ||| s.lateUnits,
                          lockedSince := s.ump.lockedSince || pll == 4 }
      cat := { s.cat with lateEsc := 0 } }
    if esc = 0 then t.recheck else t.umpFault uLateEsc esc)

/-- STATUS slot, safety to control: COX0 sees the overrides that the umpire holds, and an instance under one is in SAFE
(row 1 of R270). -/
def umpSafetyStatus (s : State) : State :=
  s.onDie (fun s => (s.sendUpFree [0] 8).each ((List.range 2).filter (fun d => s.umpHeld d && s.driveState d != dSafe)) (fun d t => t.driveSafe d))

/-- WDCH slot: the pair sees its challenge; one due after an accepted service or a release is a fresh word of the
umpire's LFSR, whose polynomial the spec does not give (log entry 1). -/
def umpWdChallenge (x : Fin 2) (s : State) : State :=
  s.onDie (fun s =>
    let (c, s) := if bit s.ump.wdDue x then
        let (c, t) := s.fresh 12
        (c.toNat, ({ t with ump := { t.ump with wdDue := clearBit t.ump.wdDue x, wdCh := t.ump.wdCh.set x c.toNat } } : State))
      else (s.ump.wdCh.get x, s)
    (s.sendUp [1 + 4 * x] 9 (BitVec.ofNat 12 c)).set (F.UMP_WDCH_CH x) c)

/-- Units of a check: its own, or every unit (R413). -/
def State.checkUnits (s : State) (k : Nat) : Nat := unitMask (s.fld (F.UMP_CKCFG_UNIT k))

/-- The check whose report the next CHECK slot carries: in rising order, the first after the last one reported that has run since its
own last report (R397). -/
def State.checkDue (s : State) : Option Nat :=
  ((List.range 32).map (fun i => (s.checks.last + 1 + i) % 32)).find? (fun k => s.checks.runs.get k != 0)

/-- CHECK slot: the due check's runs and fails since its last report, or a NOP where none is due; the count that reaches LIM latches
CHECK (R396, R397, R413). Another check than the due one is reported by no slot (log entry 9). -/
def umpCheckReport (k : Fin 32) (s : State) : State :=
  s.onDie (fun s =>
    let runs := min 15 (s.checks.runs.get k)
    let fails := min 7 (s.checks.fails.get k)
    if s.checkDue = none then s.nopDown [2, 3]
    else if s.checkDue ≠ some k then s
    else
      let s := s.sendDown [2, 3] 2 (BitVec.ofNat 12 (128 * k + 16 * fails + runs))
      let s : State := { s with checks := { s.checks with runs := s.checks.runs.set k 0, fails := s.checks.fails.set k 0, last := k }
                                ump := { s.ump with ckAt := s.ump.ckAt.set k s.ump.windows } }
      let lim := s.fld (F.UMP_CKCFG_LIM k)
      if lim = 0 then s
      else
        let n := if fails = 0 then s.fld (F.UMP_CKCNT_COUNT k) - 1 else satAdd 8 (s.fld (F.UMP_CKCNT_COUNT k)) fails
        let t := s.set (F.UMP_CKCNT_COUNT k) n
        if fails ≠ 0 ∧ lim ≤ n then t.umpFault uCheck (t.checkUnits k) else t)

/-- A voltage in 2 V units, saturating at 10 bits; the direction of the rounding is a free choice (log entry 1). -/
def State.volts2 (s : State) (x : Word) : Nat × State :=
  let y : Fl := { flOf x with exp := (flOf x).exp - 1 }
  let v := if f32Bad x || y.neg then 0 else min 1023 (floorFl y)
  if f32Bad x || y.neg || 0 ≤ y.exp || y.mant % 2 ^ (-y.exp).toNat == 0 then (v, s) else
    let (up, t) := s.freshBool
    (if up then min 1023 (v + 1) else v, t)

/-- XVAL slot: the x of the latest run of check 0, 1 or 2, or a NOP where none of its kind is pending (R396 to R398). -/
def umpXval (kind : Fin 3) (s : State) : State :=
  s.onDie (fun s =>
    if !bit s.checks.xval kind then s.nopDown [4]
    else
    let (v, t) := s.volts2 (BitVec.ofNat 32 (s.checks.x.get kind))
    let t := t.sendDown [4] 4 (BitVec.ofNat 12 (1024 * kind + v))
    let t : State := { t with checks := { t.checks with xval := clearBit t.checks.xval kind } }
    let e := some (v, t.ump.windows)
    { t with ump := match (kind : Nat) with
      | 0 => { t.ump with emfA := e }
      | 1 => { t.ump with emfB := e }
      | _ => { t.ump with linkV := e } })

/-- MEAS slot: the code of UAIN0 to UAIN3, or the sinc3 value over 64 bits of USD0 or USD1 (R166, R396, R417). The stage lengths
are those of R148 for R = 64, and S itself is what the 16-bit field holds (log entry 87). The six values go out in rotation; another
than the one whose turn it is goes out in no slot (log entry 9). -/
def umpMeas (ch : Fin 6) (code : BitVec 10) (usd : BitVec 64) (s : State) : State :=
  s.onUmp (fun s =>
    if s.ump.meas ≠ ch then s
    else
    let s := s.sendUpFree [2, 3, 4] 10
    let s : State := { s with ump := { s.ump with meas := (s.ump.meas + 1) % 6 } }
    match (ch : Nat) with
    | 0 => s.set F.UMP_MEAS0_UAIN0 code.toNat
    | 1 => s.set F.UMP_MEAS0_UAIN1 code.toNat
    | 2 => s.set F.UMP_MEAS1_UAIN2 code.toNat
    | 3 => s.set F.UMP_MEAS1_UAIN3 code.toNat
    | 4 => s.iset F.UMP_USD_USD0 (sincSum 64 usd.toNat)
    | _ => s.iset F.UMP_USD_USD1 (sincSum 64 usd.toNat))

/-! ### Torque monitor (R414) -/

/-- Verdict 2 latches TQ_DEV; the control die's pattern is awaited for 10 µs. -/
def State.tqVerdict (s : State) (d v : Nat) : State :=
  let was := s.ump.verdict.get d
  let t : State := { s with ump := { s.ump with verdict := s.ump.verdict.set d v } }
  if v = 2 ∧ was ≠ 2 then
    let t := t.umpLatch uTqDev (2 ^ d)
    let t : State := if t.protPattern d = patNone then { t with ump := { t.ump with tqWait := setBit t.ump.tqWait d } } else t
    t.recheck
  else t

/-- An instance runs, as its torque verdict sees it: it is in neither OFF nor SAFE (log entry 120). -/
def State.judged (s : State) (d : Nat) : Bool := s.driveState d != dOff && s.driveState d != dSafe

/-- The verdict that the TQ slot carries: a deviation until it has been sent, else 0 while the instance does not run (R396, R414). -/
def State.tqSlot (s : State) (d : Nat) : Nat := if (s.drive d).verdict = 2 ∨ s.judged d = true then (s.drive d).verdict else 0

/-- A deviation that has been sent is over for an instance that no longer runs. -/
def State.tqSent (s : State) (d : Nat) : State := s.when (!s.judged d) (fun t => t.modDrive d (fun x => { x with verdict := 0 }))

def umpTqFrame (s : State) : State :=
  s.onDie (fun s =>
    let (a, b) := (s.tqSlot 0, s.tqSlot 1)
    let s := s.sendDown [7] 7 (BitVec.ofNat 12 (a + 4 * b + 16 * s.checks.alive))
    let t := (((s.tqVerdict 0 a).tqVerdict 1 b).tqSent 0).tqSent 1
    { t with ump := { t.ump with
        alive := s.checks.alive
        aliveAt := if s.checks.alive = t.ump.alive then t.ump.aliveAt else t.ump.windows } })

/-- `ms` have passed since a window of the umpire, to within one window of 16 µs (log entry 8). -/
def State.elapsed (s : State) (since ms : Nat) : Bool := decide (1000 * ms ≤ 16 * (s.ump.windows - since + 1))

/-- TQ_STALL: the alive count has not changed for ALIVE ms while the instance holds its grant. -/
def tqStall (d : DriveIx) (s : State) : State :=
  s.onUmp (fun s =>
    if s.granted d && s.elapsed (max s.ump.aliveAt (s.ump.grantAt.get d)) (s.fld F.UMP_TQ_ALIVE) then s.umpFault uTqStall (2 ^ (d : Nat))
    else s)

def tqPatternTimeout (d : DriveIx) (s : State) : State :=
  s.onUmp (fun s =>
    if bit s.ump.tqWait d then
      let t : State := { s with ump := { s.ump with tqWait := clearBit s.ump.tqWait d } }
      if t.protPattern d = patNone then (t.overrides false (2 ^ (d : Nat))).recheck else t
    else s)

/-- CHECK_MISSING (R413): a unit of the check has held its grant, without a report of the check, for TMO ms. -/
def checkMissing (k : Fin 32) (s : State) : State :=
  s.onUmp (fun s =>
    let m := s.checkUnits k
    let tmo := s.fld (F.UMP_CKCFG_TMO k)
    if tmo ≠ 0 ∧ s.fld (F.UMP_CKCFG_LIM k) ≠ 0 ∧ (List.range 4).any (fun u => bit m u && s.granted u &&
        s.elapsed (max (s.ump.ckAt.get k) (s.ump.grantAt.get u)) tmo) = true
    then s.umpFault uCheckMissing m else s)

/-! ### Loss of the control die (R28, R418) -/

/-- GATE_VALID_STOP (R28), with the causes of the same umpire cycle (R79). -/
def gateValidStop (same : List ResetCause) (s : State) : State := s.onUmp (fun s => if s.running then s.causes (.umpire 1) same else s.beside same)

/-- A received frame passes its CRC and carries the SEQ due. -/
def frameGood (seq : BitVec 4) (w : Word) : Bool := w.extractLsb' 0 8 == frameCrc w && w.extractLsb' 28 4 == seq

/-- FRAMES_MISSING (R28): what came in the three frame times after the last good frame, which came `nops` good NOPs after the last
frame that a command sent; a frame that is not in the list is missing. The control die is declared failed when none of the three is
good. -/
def framesMissing (nops : Nat) (frames : List (Option Word)) (same : List ResetCause) (s : State) : State :=
  s.onUmp (fun s =>
    let good := fun (i : Nat) => match frames.getD i none with
      | some w => frameGood (BitVec.ofNat 4 (s.ump.down.seq + nops + i + 1)) w
      | none => false
    if (List.range 3).any good then
      let n := nops + ((List.range 3).filter good).getLastD 0 + 1
      ({ s with ump := { s.ump with down := { s.ump.down with seq := (s.ump.down.seq + n) % 16, slot := (s.ump.down.slot + n) % 8 } } } : State).beside same
    else s.declareFailed 0x02 same)

/-- A gate-off path test or a readback that fails (R536). -/
def State.gatePathFail (s : State) (ball : Nat) : State :=
  let t := if s.ump.grbLatched then s else (s.set F.BIST_GRB_BALL ball).set F.BIST_GRB_LATCH 1
  let t : State := { t with ump := { t.ump with grbLatched := true } }
  ((t.overrides true 15).recheck).when t.running (fun t => t.ev F.BIST_EVENT_GATE_FAIL)

/-! ### Link and temperature paths (R166, R403 to R405) -/

/-- P of the sinc2 protection filter of ratio 4 over seven bits from bit `k`, bit 0 the latest (R166). -/
def sinc2 (bits k : Nat) : Int := (boxcar 4 (List.replicate 4 1)).zipIdx.foldl (fun a e => if bits.testBit (k + e.2) then a + e.1 else a - e.1) 0

/-- The latest `n` outputs of the filter. -/
def outputs (bits n : Nat) : List Int := (List.range n).map (sinc2 bits)

def linkOc (usd1 : BitVec 7) (s : State) : State :=
  s.onUmp (fun s =>
    let p := sinc2 usd1.toNat 0
    if s.ifld F.UMP_LINK_OC_HI ≤ p ∨ p ≤ s.ifld F.UMP_LINK_OC_LO then
      ({ s with ump := { s.ump with linkOc := true } } : State).umpFault uLinkOc (s.fld F.UMP_LINKCFG_UNITS)
    else s)

def linkOv (usd0 : BitVec 9) (s : State) : State :=
  s.onUmp (fun s =>
    if (outputs usd0.toNat 3).all (fun p => s.ifld F.UMP_LINK_OV ≤ p) then
      ({ s with ump := { s.ump with linkOv := true } } : State).umpFault uLinkOv (s.fld F.UMP_LINKCFG_UNITS)
    else s)

def linkPathDeassert (ov : Bool) (usd : BitVec 7) (s : State) : State :=
  s.onUmp (fun s =>
    let p := sinc2 usd.toNat 0
    if ov then
      if p ≤ s.ifld F.UMP_LINK_OV - 2 then { s with ump := { s.ump with linkOv := false } } else s
    else if p ≤ s.ifld F.UMP_LINK_OC_HI - 2 ∧ s.ifld F.UMP_LINK_OC_LO + 2 ≤ p then
      { s with ump := { s.ump with linkOc := false } }
    else s)

def hwChopperOn (usd0 : BitVec 8) (s : State) : State :=
  s.onUmp (fun s =>
    if (outputs usd0.toNat 2).all (fun p => s.ifld F.UMP_LINK_CH_ON ≤ p) then { s with ump := { s.ump with chopper := true } } else s)

/-- The hard-wired chopper turns off no earlier than 2 µs after it turned on, `onNs` before. -/
def hwChopperOff (usd0 : BitVec 7) (onNs : Nat) (s : State) : State :=
  s.onUmp (fun s =>
    if sinc2 usd0.toNat 0 ≤ s.ifld F.UMP_LINK_CH_OFF ∧ 2000 ≤ onNs then { s with ump := { s.ump with chopper := false } } else s)

/-- The code is past TH in the hot direction, and has returned past TH by HYST. -/
def State.tempHot (s : State) (k code : Nat) : Bool :=
  if s.on (F.UMP_TEMP_POL k) then s.fld (F.UMP_TEMP_TH k) < code else code < s.fld (F.UMP_TEMP_TH k)
def State.tempBack (s : State) (k code : Nat) : Bool :=
  if s.on (F.UMP_TEMP_POL k) then code + s.fld (F.UMP_TEMP_HYST k) ≤ s.fld (F.UMP_TEMP_TH k)
  else s.fld (F.UMP_TEMP_TH k) + s.fld (F.UMP_TEMP_HYST k) ≤ code

/-- A temperature path asserts after four consecutive conversions past TH, the latest four of the list. -/
def tempPath (k : Fin 3) (codes : List (BitVec 10)) (s : State) : State :=
  s.onUmp (fun s =>
    if 4 ≤ codes.length && (codes.drop (codes.length - 4)).all (fun c => s.tempHot k c.toNat) then
      let t : State := { s with ump := { s.ump with hot := setBit s.ump.hot k } }
      if (k : Nat) = 2 then t.umpLatch uBrkHot 0 else t.umpFault uModHot (s.fld (F.UMP_TEMP_UNITS k))
    else s)

def tempPathDeassert (k : Fin 3) (code : BitVec 10) (s : State) : State :=
  s.onUmp (fun s => if s.tempBack k code.toNat then { s with ump := { s.ump with hot := clearBit s.ump.hot k } } else s)

/-- The link voltage by UAIN0 in volts, exact (R398, R417). -/
def State.uainV (s : State) : Fl := ⟨false, s.fld F.UMP_MEAS0_UAIN0 * s.fld F.UMP_VSCALE_V, -8⟩

/-- The tolerance of R405, in volts. -/
def State.xchkTol (s : State) : Fl :=
  let a : Fl := ⟨false, 2 * s.fld F.UMP_XCHK_ABS, 0⟩
  let r := flMul ⟨false, s.fld F.UMP_XCHK_REL, -8⟩ s.uainV
  if flLt a r then r else a

/-- A reference differs from UAIN0 by more than the tolerance. -/
def State.xchkOff (s : State) (v : Fl) : Bool :=
  flLt s.xchkTol { flAdd v (flNeg s.uainV) with neg := false }

/-- XCHK (R405): a difference has exceeded the tolerance for T ms. Without a check-2 value younger than AGE its comparison is
suspended. -/
def xchk (s : State) : State :=
  s.onUmp (fun s =>
    let own := s.xchkOff (flMul (flInt (s.ifld F.UMP_USD_USD0)) (flOf (s.rd R.UMP_USCALE)))
    let ctl := match s.ump.linkV with
      | some (v, w) => decide ((s.ump.windows - w) * 16 ≤ 1000 * s.fld F.UMP_CLS_AGE) && s.xchkOff ⟨false, 2 * v, 0⟩
      | none => false
    if own || ctl then s.umpFault uXchk (s.fld F.UMP_LINKCFG_UNITS) else s)

/-! ### Safe torque off (R406, R407) -/

/-- All-off of the main units, and of the aux units under AUX_SCOPE; every grant is withdrawn (R406). Without AUX_SCOPE the override on
the drive instances stops the aux channels all the same (R47, R399), with no override of the umpire on them (log entry 121). -/
def State.stoImpose (s : State) : State :=
  let t := s.each [0, 1] (fun u t => t.override1 true u)
  let t := if s.on F.UMP_STO_AUX_SCOPE then t.each [2, 3] (fun u t => t.override1 true u)
    else t.each [2, 3] (fun u t => (t.abortSelf u false).releaseUnit u)
  t.recheck

/-- An accepted level of a channel: low is seen before high for TESTED. -/
def StoCh.accept (c : StoCh) (high : Bool) : StoCh :=
  if high then { c with sawHigh := c.sawHigh || c.sawLow } else { c with sawLow := true }

/-- STO_DISC clears, in UMP_STO and as the umpire fault of that name (R406, R417). -/
def State.discClear (s : State) : State :=
  let t := (s.set F.UMP_STO_DISC 0).clearFldBit F.UMP_FAULT_FAULT uStoDisc
  { t with ump := { t.ump with faultUnits := t.ump.faultUnits.set uStoDisc 0 } }

def stoInput (b high : Bool) (s : State) : State :=
  s.onUmp (fun s =>
    let i := if b then 1 else 0
    let s := if high then s.setFldBit F.UMP_STO_LEVEL i else s.clearFldBit F.UMP_STO_LEVEL i
    let s : State := { s with ump := if b then { s.ump with stoB := s.ump.stoB.accept high } else { s.ump with stoA := s.ump.stoA.accept high } }
    let s := if s.fld F.UMP_STO_LEVEL = 0 then s.discClear else s
    let s := if s.ump.stoA.sawHigh && s.ump.stoB.sawHigh && !s.on F.UMP_STO_DISC then s.set F.UMP_STO_TESTED 1 else s
    if s.stoActive then s.stoImpose else s)

/-- STO_DISC: the channels have been accepted at different levels for DISC_T ms. The test of R407 starts again. -/
def stoDisc (s : State) : State :=
  s.onUmp (fun s =>
    if s.fld F.UMP_STO_LEVEL = 1 ∨ s.fld F.UMP_STO_LEVEL = 2 then
      let t := (s.set F.UMP_STO_DISC 1).umpLatch uStoDisc (if s.on F.UMP_STO_AUX_SCOPE then 15 else 3)
      let t : State := { t with ump := { t.ump with stoA := ⟨false, false⟩, stoB := ⟨false, false⟩ } }
      t.stoImpose
    else s)

/-! ### Window watchdog (R412) -/

/-- The response to a challenge. -/
def wdResponse (ch : BitVec 12) : BitVec 12 := ch.rotateLeft 5 ^^^ 0x96C

/-- A watchdog failure: the umpire's safe state on every unit, then a reset with WDOG0 or WDOG1. -/
def State.wdFail (s : State) (x : Fin 2) (same : List ResetCause := []) : State := s.causes (.wdog x) same

/-- A pair's own master, and the root in a boot halt, where the cox pairs do not run (R412, R519). -/
def State.wdWriter (s : State) (m : Master) (x : Nat) : Bool :=
  m == (if x = 0 then .cox0 else .cox1) || (m == .root && s.boot.step == 7)

/-- A service `cycles` umpire cycles after the last accepted one, or after the release, lies in the window. -/
def State.wdInTime (s : State) (x cycles : Nat) : Bool :=
  if bit s.ump.wdFirst x then decide (cycles ≤ 4000000)
  else decide (64 * s.fld F.UMP_WDCFG_WMIN ≤ cycles) && decide (cycles ≤ 64 * s.fld F.UMP_WDCFG_WMAX)

/-- The same by the umpire's own windows of 256 cycles, where a write brings no count: at least 256 (d - 1) and at most 256 (d + 1) cycles lie
between two windows `d` apart. Where both bounds are not on one side, it is open (log entry 1). -/
def State.wdInTimeBy (s : State) (x : Nat) : Bool × State :=
  let d := s.ump.windows - s.ump.wdAt.get x
  let lo := 256 * (d - 1)
  let hi := 256 * (d + 1)
  if s.wdInTime x lo && s.wdInTime x hi then (true, s)
  else if !s.wdInTime x lo && !s.wdInTime x hi && (decide (hi < 64 * s.fld F.UMP_WDCFG_WMIN) || decide (64 * s.fld F.UMP_WDCFG_WMAX < lo) ||
      bit s.ump.wdFirst x) then (false, s)
  else s.freshBool

/-- A service arrives at the umpire in a WD slot: accepted, or a watchdog failure. -/
def State.wdService (s : State) (x : Fin 2) (resp : BitVec 12) (inTime : Bool) (same : List ResetCause) : State :=
  let s := s.sendDown [1 + 4 * x] 1 resp
  if bit s.ump.wdHold x then s.beside same
  else if inTime && resp == wdResponse (BitVec.ofNat 12 (s.ump.wdCh.get x)) then
    ({ s with ump := { s.ump with wdFirst := clearBit s.ump.wdFirst x, wdDue := setBit s.ump.wdDue x,
                                  wdAt := s.ump.wdAt.set x s.ump.windows } } : State).beside same
  else s.wdFail x same

/-- UMP_WDSVC: a service, `cycles` umpire cycles after the last accepted one, or after the release. -/
def umpWdsvc (m : Master) (x : Fin 2) (resp : BitVec 12) (cycles : Nat) (same : List ResetCause) (s : State) : State :=
  s.onDie (fun s => s.blockWrite m (R.UMP_WDSVC x) (s.wdWriter m x) (fun s => s.wdService x resp (s.wdInTime x cycles) same))

/-- WATCHDOG_TIMEOUT, with the causes of the same umpire cycle (R79). -/
def watchdogTimeout (x : Fin 2) (same : List ResetCause) (s : State) : State :=
  s.onDie (fun s => if bit s.ump.wdHold x then s.beside same else s.wdFail x same)

/-! ### Release (R401, R402) -/

/-- The control die has taken over the umpire's hold-water pattern: its protection-trip line is asserted, and its gate-edge lines carry
the same pattern on every leg of the unit, none of them held off (R382, R401). -/
def State.takenOver (s : State) (u : Nat) : Bool :=
  s.protPattern u == s.umpPattern u && (s.legsOf u).all (fun l => !bit s.prot.heldOff l && !(s.leg l).lockUntil)

/-- The first failing row of R402, 0 if none. -/
def State.releaseCode (s : State) (u : Nat) : Nat :=
  let link := bit (s.fld F.UMP_LINKCFG_UNITS) u && (s.ump.linkOc || s.ump.linkOv)
  let hot := [0, 1].any (fun k => bit s.ump.hot k && bit (s.fld (F.UMP_TEMP_UNITS k)) u)
  if link || hot || s.stoActive || bit s.ump.lateEsc u || s.ump.grbLatched then 0x01
  else if !s.running || s.ump.pll != 4 then 0x02
  else if isHoldWater (s.umpPattern u) && !s.takenOver u then 0x03
  else if s.ump.verdict.get u = 2 then 0x04
  else 0

/-- A latched fault loses a unit; it clears when it names none any more, BRK_HOT only once its path has deasserted. CTR clears by
R411 alone. -/
def State.dropFault (s : State) (u b : Nat) : State :=
  let m := clearBit (s.ump.faultUnits.get b) u
  let t : State := { s with ump := { s.ump with faultUnits := s.ump.faultUnits.set b m } }
  let keep := b == uCtr || (b == uBrkHot && bit s.ump.hot 2)
  if m = 0 ∧ keep = false then t.clearFldBit F.UMP_FAULT_FAULT b else t

/-- A release of one unit, refused with the first failing code; what an accepted one clears (R402). -/
def State.umpRelease (s : State) (u : Nat) : Nat × State :=
  let c := s.releaseCode u
  if c ≠ 0 then (c, s.umpRefuse c u)
  else
    let t := (s.clearFldBit F.UMP_STATE_HELD u).setUmpPattern u patNone
    let t := t.each (List.range 32) (fun k t => if bit (t.checkUnits k) u then t.set (F.UMP_CKCNT_COUNT k) 0 else t)
    let t := t.each ((List.range 16).filter (fun b => bit (t.fld F.UMP_FAULT_FAULT) b)) (fun b t => t.dropFault u b)
    (0, (t.safeToOff u).dropChoppers)

/-- UMP_RELEASE; `same` holds the UMP_FAULT bits that latch for the unit in the cycle in which the release arrives, which refuse it with
CAUSE (R400). -/
def umpReleaseCmd (m : Master) (u : UnitIx) (same : BitVec 16) (s : State) : State :=
  s.onDie (fun s => s.blockWrite m R.UMP_RELEASE (isCox0 m) (fun s =>
    if same = 0 then (s.umpRelease u).2
    else (s.each ((List.range 16).filter same.getLsbD) (fun b t => t.umpFault b (2 ^ (u : Nat)))).umpRefuse 0x01 u))

/-! ### Configuration (R417) -/

/-- Offsets of the RWS registers of the UMP page. -/
def umpRws (off : Nat) : Bool :=
  [0x050, 0x05C, 0x060, 0x064, 0x068, 0x06C, 0x070, 0x074, 0x078, 0x080, 0x084, 0x088, 0x08C, 0x090, 0x094, 0x098].contains off ||
    (decide (0x100 ≤ off) && decide (off < 0x180) && off % 4 == 0)

/-- A written value passes the checks of R417. -/
def umpCfgOk (off v : Nat) : Bool :=
  let b := fun (lo w : Nat) => v / 2 ^ lo % 2 ^ w
  let i := fun (lo : Nat) => signed 6 (b lo 6)
  if off = 0x050 then decide (0 < b 5 8) && decide (b 5 8 ≤ 100)
  else if off = 0x05C then decide (0 < b 4 8) && decide (0 < b 12 8) && decide (0 < b 20 8)
  else if off = 0x060 then decide (0 < b 20 8)
  else if off = 0x068 then decide (i 12 ≤ Config.fusedOvMax) && decide (i 0 ≤ Config.fusedOcHiMax) &&
    decide (Config.fusedOcLoMin ≤ i 6) && decide (i 24 < i 18) && decide (i 18 ≤ i 12 - 2)
  else if off = 0x080 then decide (b 0 8 < b 8 8) && decide (0 < b 16 8)
  else if off = 0x08C then decide (0 < b 16 8)
  else if off = 0x094 then decide (8 ≤ b 0 8)
  else if off = 0x098 then decide (0 < b 16 8) && decide (0 < b 24 8)
  else true

/-- The RWS bits of a register of the UMP page (R417). -/
def umpMask (a : Nat) : Word := match regRow a with | some r => BitVec.ofNat 32 r.rws | none => 0

/-- The offsets of the RWS registers of the page. -/
def umpRwsAll : List Nat := ((List.range 128).map (fun k => 4 * k)).filter umpRws

/-- A configuration write reaches the umpire's RWS bits: a value that fails a check is replaced by its fused value, and ACCEPTED is set
once every RWS value has passed (R18, R20, R417). -/
def State.umpConfig (s : State) (off : Nat) (v : Word) : State :=
  if umpRws off then
    let a := pageBase 0x1E + off
    let put := fun (w : Word) => s.wr a ((s.rd a &&& ~~~ (umpMask a)) ||| (w &&& umpMask a))
    if umpCfgOk off v.toNat then
      let t := put v
      let t : State := { t with ump := { t.ump with cfgPassed := off :: t.ump.cfgPassed.filter (fun o => o != off) } }
      if !t.on F.UMP_CFGSTAT_REJECT && umpRwsAll.all t.ump.cfgPassed.contains then t.set F.UMP_CFGSTAT_ACCEPTED 1 else t
    else
      let t := put (resetWord a)
      let t := if t.on F.UMP_CFGSTAT_REJECT then t else t.set F.UMP_CFGSTAT_FIRST (off / 4)
      ((t.set F.UMP_CFGSTAT_REJECT 1).set F.UMP_CFGSTAT_ACCEPTED 0).recheck
  else s

def execBenchHv (rising : Bool) (s : State) : Host.Outcome State Fault Refusal := .next (benchHv rising s)
def execUmpStatusFrame (s : State) : Host.Outcome State Fault Refusal := .next (umpStatusFrame s)
def execUmpSafetyStatus (s : State) : Host.Outcome State Fault Refusal := .next (umpSafetyStatus s)
def execUmpWdChallenge (x : Fin 2) (s : State) : Host.Outcome State Fault Refusal := .next (umpWdChallenge x s)
def execUmpCheckReport (k : Fin 32) (s : State) : Host.Outcome State Fault Refusal := .next (umpCheckReport k s)
def execUmpXval (kind : Fin 3) (s : State) : Host.Outcome State Fault Refusal := .next (umpXval kind s)
def execUmpMeas (ch : Fin 6) (code : BitVec 10) (usd : BitVec 64) (s : State) : Host.Outcome State Fault Refusal :=
  .next (umpMeas ch code usd s)
def execUmpTqFrame (s : State) : Host.Outcome State Fault Refusal := .next (umpTqFrame s)
def execTqStall (d : DriveIx) (s : State) : Host.Outcome State Fault Refusal := .next (tqStall d s)
def execTqPatternTimeout (d : DriveIx) (s : State) : Host.Outcome State Fault Refusal := .next (tqPatternTimeout d s)
def execCheckMissing (k : Fin 32) (s : State) : Host.Outcome State Fault Refusal := .next (checkMissing k s)
def execGateValidStop (same : List ResetCause) (s : State) : Host.Outcome State Fault Refusal := .next (gateValidStop same s)
def execFramesMissing (nops : Nat) (frames : List (Option Word)) (same : List ResetCause) (s : State) :
    Host.Outcome State Fault Refusal := .next (framesMissing nops frames same s)
def execLinkOc (usd1 : BitVec 7) (s : State) : Host.Outcome State Fault Refusal := .next (linkOc usd1 s)
def execLinkOv (usd0 : BitVec 9) (s : State) : Host.Outcome State Fault Refusal := .next (linkOv usd0 s)
def execLinkPathDeassert (ov : Bool) (usd : BitVec 7) (s : State) : Host.Outcome State Fault Refusal :=
  .next (linkPathDeassert ov usd s)
def execHwChopperOn (usd0 : BitVec 8) (s : State) : Host.Outcome State Fault Refusal := .next (hwChopperOn usd0 s)
def execHwChopperOff (usd0 : BitVec 7) (onNs : Nat) (s : State) : Host.Outcome State Fault Refusal :=
  .next (hwChopperOff usd0 onNs s)
def execTempPath (k : Fin 3) (codes : List (BitVec 10)) (s : State) : Host.Outcome State Fault Refusal := .next (tempPath k codes s)
def execTempPathDeassert (k : Fin 3) (code : BitVec 10) (s : State) : Host.Outcome State Fault Refusal :=
  .next (tempPathDeassert k code s)
def execXchk (s : State) : Host.Outcome State Fault Refusal := .next (xchk s)
def execStoInput (b high : Bool) (s : State) : Host.Outcome State Fault Refusal := .next (stoInput b high s)
def execStoDisc (s : State) : Host.Outcome State Fault Refusal := .next (stoDisc s)
def execUmpWdsvc (m : Master) (x : Fin 2) (resp : BitVec 12) (cycles : Nat) (same : List ResetCause) (s : State) :
    Host.Outcome State Fault Refusal := .next (umpWdsvc m x resp cycles same s)
def execWatchdogTimeout (x : Fin 2) (same : List ResetCause) (s : State) : Host.Outcome State Fault Refusal :=
  .next (watchdogTimeout x same s)
def execUmpRelease (m : Master) (u : UnitIx) (same : BitVec 16) (s : State) : Host.Outcome State Fault Refusal :=
  .next (umpReleaseCmd m u same s)

end Sys2Proof.Machine
end

