-- ==== Sys2Proof/Machine/Contactor.lean ====
section
/-! DEFINITION. The contactor sequence (R408 to R411), the CMD slot that carries commands to the umpire (R396), and the
cox pairs' lockstep (16_supervisor_cores.md R421 to R430). -/

namespace Sys2Proof.Machine

/-! ### Contactors. Order of the bits: PRE, MP, MN, AUX (R417) -/

def cPre := 0
def cMp := 1
def cMn := 2
def cAux := 3

/-- States of UMP_CTRSTAT. -/
def ctOpen := 0
def ctConnecting := 1
def ctClosed := 2
def ctDisconnecting := 3
def ctFault := 4

def State.ctrUsed (s : State) (k : Nat) : Bool := bit (s.fld F.UMP_CTRCFG_USE) k
def State.ctrSensed (s : State) (k : Nat) : Bool := bit (s.fld F.UMP_CTRSTAT_SENSED) k
def State.ctrCmd (s : State) (k : Nat) : Bool := bit (s.fld F.UMP_CTRSTAT_CMDED) k
def State.ctrState (s : State) : Nat := s.fld F.UMP_CTRSTAT_STATE

/-- A contactor is commanded; one that is not in use is never turned on (R408). -/
def State.ctrDrive (s : State) (k : Nat) (on : Bool) : State :=
  if on then (if s.ctrUsed k then s.setFldBit F.UMP_CTRSTAT_CMDED k else s) else s.clearFldBit F.UMP_CTRSTAT_CMDED k

/-- A contactor reads open, or closed, or is not in use. -/
def State.ctrIsOpen (s : State) (k : Nat) : Bool := !s.ctrUsed k || !s.ctrSensed k
def State.ctrIsClosed (s : State) (k : Nat) : Bool := !s.ctrUsed k || s.ctrSensed k

/-- The link is below V_LIVE. -/
def State.linkDead (s : State) : Bool := s.fld F.UMP_MEAS0_UAIN0 < s.fld F.UMP_PRE_V_LIVE

/-- Every main contactor opens. -/
def State.ctrOpenMains (s : State) : State := ((s.ctrDrive cPre false).ctrDrive cMp false).ctrDrive cMn false

/-- Entry to FAULT: every main contactor opens and CTR latches (R410, R411). -/
def State.ctrFail (s : State) (code : Nat) : State :=
  (((s.ctrOpenMains).set F.UMP_CTRSTAT_STATE ctFault).set F.UMP_CTRSTAT_CODE code).umpLatch uCtr 0

/-- The sequence passes to OPEN; CTR clears when no CTR_AUX code is in force, whatever units a DROP latched it for: only its
override waits for a release (R402, R411). -/
def State.ctrToOpen (s : State) : State :=
  let t := s.set F.UMP_CTRSTAT_STATE ctOpen
  let t := t.set F.UMP_CTRSTAT_CODE t.ump.ctrAux
  if t.ump.ctrAux = 0 then
    { (t.clearFldBit F.UMP_FAULT_FAULT uCtr) with ump := { t.ump with faultUnits := t.ump.faultUnits.set uCtr 0 } }
  else t

/-- The start of step `k` of R409. -/
def State.ctrStart (s : State) (k : Nat) : State :=
  let t := s.set F.UMP_CTRSTAT_STEP k
  match k with
  | 1 => t.ctrDrive cMn true
  | 2 => t.ctrDrive cPre true
  | 4 => t.ctrDrive cMp true
  | 5 => t.ctrDrive cPre false
  | _ => t

/-- The step concerns a contactor that is not in use, and counts as complete (R408); precharge concerns PRE. -/
def State.ctrSkip (s : State) (k : Nat) : Bool :=
  match k with
  | 1 => !s.ctrUsed cMn
  | 2 | 3 | 5 => !s.ctrUsed cPre
  | _ => !s.ctrUsed cMp

/-- Step `k` begins, and every step after it that counts as complete; `n` bounds the steps left. -/
def State.ctrGo (s : State) : Nat → Nat → State
  | 0, _ => s.set F.UMP_CTRSTAT_STATE ctClosed
  | n + 1, k => if 5 < k then s.set F.UMP_CTRSTAT_STATE ctClosed
    else if s.ctrSkip k then s.ctrGo n (k + 1) else s.ctrStart k

/-- CONNECT: accepted only in OPEN; step 0 refuses a live link with CHARGED (R409). -/
def State.ctrConnect (s : State) : State :=
  if s.ctrState = ctOpen then
    if s.linkDead then ((s.set F.UMP_CTRSTAT_STATE ctConnecting).set F.UMP_CTRSTAT_CODE s.ump.ctrAux).ctrGo 6 1
    else (s.set F.UMP_CTRSTAT_CODE 0x01).set F.UMP_CTRSTAT_STEP 0
  else s

/-- DISCONNECT: waits for the link current in CLOSED and CONNECTING; leaves FAULT once every used feedback is open
(R410). -/
def State.ctrDisconnect (s : State) : State :=
  if s.ctrState = ctClosed ∨ s.ctrState = ctConnecting then
    ({ s with ump := { s.ump with ctrPhase := 0 } } : State).set F.UMP_CTRSTAT_STATE ctDisconnecting
  else if s.ctrState = ctFault ∧ s.ctrIsOpen cPre ∧ s.ctrIsOpen cMp ∧ s.ctrIsOpen cMn then s.ctrToOpen
  else s

/-- EMERGENCY_OPEN: every main contactor at once, then the feedback checks (R410). -/
def State.ctrEmergency (s : State) : State :=
  if s.ctrState = ctFault then s.ctrOpenMains
  else ({ s.ctrOpenMains with ump := { s.ump with ctrPhase := 1 } } : State).set F.UMP_CTRSTAT_STATE ctDisconnecting

/-- A command of UMP_CTRCMD (R409 to R411); other codes do nothing. -/
def State.ctrCommand (s : State) (c : Nat) : State :=
  match c with
  | 1 => s.ctrConnect
  | 2 => s.ctrDisconnect
  | 3 => s.ctrEmergency
  | 4 => s.ctrDrive cAux true
  | 5 => s.ctrDrive cAux false
  | _ => s

/-- A mailbox request of a contactor command ends once the sequence has reached its target state, or has failed or
passed elsewhere (R435, R437; log entry 33). -/
def State.ctrSettle (s : State) : State :=
  let st := s.ctrState
  let code := s.fld F.UMP_CTRSTAT_CODE
  s.each (s.mbWaiting svContactor (fun _ => true)) (fun c t =>
    match t.mbArg c 0 with
    | 1 => if st = ctClosed then t.mbEnd c 0 [] else if st = ctConnecting then t else t.mbRefuse c code 0x06
    | 2 | 3 => if st = ctOpen then t.mbEnd c 0 [] else if st = ctDisconnecting then t else t.mbRefuse c code 0x06
    | _ => t)

/-- The AUX requests end with the check of the AUX contactor. -/
def State.ctrAuxSettle (s : State) : State :=
  s.mbFinish svContactor (fun r => r.unit 4 || r.unit 5) (if 0x0A ≤ s.ump.ctrAux then 0x04 else 0)
    (if 0x0A ≤ s.ump.ctrAux then [s.ump.ctrAux, 0x06] else [])

/-- A write of UMP_CTRCMD, by COX0 alone. -/
def State.ctrWrite (s : State) (m : Master) (c : Nat) : State :=
  s.onDie (fun s => s.blockWrite m R.UMP_CTRCMD (isCox0 m) (fun s => (s.ctrCommand c).ctrSettle))

def connect (m : Master) (s : State) : State := s.ctrWrite m 1
def disconnect (m : Master) (s : State) : State := s.ctrWrite m 2
def emergencyOpen (m : Master) (s : State) : State := s.ctrWrite m 3
def auxOn (m : Master) (s : State) : State := s.ctrWrite m 4
def auxOff (m : Master) (s : State) : State := s.ctrWrite m 5

/-- A CTR_AUX code comes into force (R411). -/
def State.ctrAuxFail (s : State) (code : Nat) : State :=
  (({ s with ump := { s.ump with ctrAux := code } } : State).set F.UMP_CTRSTAT_CODE code).umpLatch uCtr 0

/-- A step of CONNECT passes or fails on what the umpire sees at its end (R409). -/
def State.ctrConnectEnd (s : State) : State :=
  match s.fld F.UMP_CTRSTAT_STEP with
  | 1 => if !s.linkDead then s.ctrFail 0x07 else if s.ctrIsClosed cMn then s.ctrGo 6 2 else s.ctrFail 0x02
  | 2 => if s.ctrIsClosed cPre then s.ctrGo 6 3 else s.ctrFail 0x03
  | 3 => if s.fld F.UMP_PRE_V_PRE ≤ s.fld F.UMP_MEAS0_UAIN0 then s.ctrGo 6 4 else s.ctrFail 0x04
  | 4 => if s.ctrIsClosed cMp then s.ctrGo 6 5 else s.ctrFail 0x05
  | 5 =>
    let t := s.set F.UMP_CTRSTAT_STATE ctClosed
    if s.ctrIsOpen cPre then t else t.set F.UMP_CTRSTAT_CODE 0x06
  | _ => s

/-- A step of the opening sequence ends (R410). -/
def State.ctrOpenEnd (s : State) : State :=
  match s.ump.ctrPhase with
  | 1 =>
    if !s.ctrIsOpen cPre then s.ctrFail 0x06
    else if !s.ctrIsOpen cMp then s.ctrFail 0x07
    else { (s.ctrDrive cMn false) with ump := { s.ump with ctrPhase := 2 } }
  | 2 => if s.ctrIsOpen cMn then s.ctrToOpen else s.ctrFail 0x08
  | _ => s

/-- AUX_ON or AUX_OFF ends: without failure a CTR_AUX code clears (R411). -/
def State.ctrAuxEnd (s : State) : State :=
  if !s.ctrUsed cAux then s
  else if s.ctrCmd cAux && !s.ctrSensed cAux then s.ctrAuxFail 0x0A
  else if !s.ctrCmd cAux && s.ctrSensed cAux then s.ctrAuxFail 0x0B
  else
    let t : State := { s with ump := { s.ump with ctrAux := 0 } }
    if 0x09 ≤ s.fld F.UMP_CTRSTAT_CODE ∧ s.ctrState ≠ ctFault then t.set F.UMP_CTRSTAT_CODE 0 else t

def contactorStepEnd (aux : Bool) (s : State) : State :=
  s.onUmp (fun s =>
    if aux then s.ctrAuxEnd.ctrAuxSettle
    else if s.ctrState = ctConnecting then s.ctrConnectEnd.ctrSettle
    else if s.ctrState = ctDisconnecting then s.ctrOpenEnd.ctrSettle
    else s)

/-- BREAK_CURRENT_WAIT: the USD1 magnitude has stayed below I_BREAK for 10 ms (R410). -/
def breakCurrentWait (s : State) : State :=
  s.onUmp (fun s =>
    if s.ctrState = ctDisconnecting ∧ s.ump.ctrPhase = 0 ∧ (s.ifld F.UMP_USD_USD1).natAbs < s.fld F.UMP_IBREAK_I_BREAK then
      { ((s.ctrDrive cPre false).ctrDrive cMp false) with ump := { s.ump with ctrPhase := 1 } }
    else s)

/-- CONTACTOR_DROP (R411). -/
def contactorDrop (k : Fin 4) (s : State) : State :=
  s.onUmp (fun s =>
    if s.ctrUsed k && s.ctrCmd k && !s.ctrSensed k then
      if (k : Nat) = cAux then s.ctrAuxFail 0x09
      else ((s.ctrFail 0x09).umpFault uCtr (s.fld F.UMP_LINKCFG_UNITS)).ctrSettle
    else s)

/-- CONTACTOR_WELD (R411): grants are not affected. -/
def contactorWeld (k : Fin 4) (s : State) : State :=
  s.onUmp (fun s =>
    if s.ctrUsed k && !s.ctrCmd k && s.ctrSensed k then
      if (k : Nat) = cAux then s.ctrAuxFail 0x0B else (s.ctrFail (0x06 + k)).ctrSettle
    else s)

/-- UMP_CTR_STATE: slot 7 brings the feedbacks; CFB_MP or CFB_MN seen closing ends a discharge (R387, R396). -/
def umpCtrState (closed : BitVec 4) (s : State) : State :=
  s.onUmp (fun s =>
    let t := (s.sendUpFree [7] 15).set F.UMP_CTRSTAT_SENSED closed.toNat
    if !s.mainsClosed && t.mainsClosed then t.dischargeAbort else t)

/-! ### CMD and ANS slots (R396) -/

/-- UMP_CMD: a command or a configuration write, named by its offset in the UMP page, reaches the umpire. Once the page is sealed no
configuration write stands (R550); DATA of the slot is a free value (log entry 116). -/
def umpCmd (off : Fin 4096) (v : Word) (s : State) : State :=
  s.onDie (fun s =>
    let (x, s) := s.fresh 12
    let s := s.sendDown [6] 6 (x.setWidth 12)
    let t := if (off : Nat) = 0x054 then s.ctrCommand (v.toNat % 8)
      else if (off : Nat) = 0x0B0 then (s.umpRelease (v.toNat % 4)).2
      else if s.on (F.PAGE_CTRL_SEAL 0x1E) then s
      else s.umpConfig off v
    { t with ump := { t.ump with ans := true } })

/-- UMP_ANS: the answer to the last CMD has been returned. -/
def umpAns (s : State) : State :=
  s.onUmp (fun s => if s.ump.ans then let t := s.sendUpFree [6] 14; { t with ump := { t.ump with ans := false } } else s)

/-! ### Lockstep (R423 to R430) -/

/-- The control die declared failed with cause LOCKSTEPx (R28, R423, R426). -/
def State.lockstepFail (s : State) (x : Fin 2) (group : Fin 16) (same : List ResetCause) : State :=
  if s.running then s.causes (.lockstep x group) same else s

/-- The lowest group in which the main core's outputs, two cycles later, differ from the checker's (R422, R423). -/
def lockstepGroup (main checker : List Nat) : Option (Fin 8) := (List.finRange 8).find? (fun k => main[k.val]? != checker[k.val]?)

/-- LOCKSTEP_MISMATCH: the eight groups of one comparison, with the causes of the same umpire cycle (R79). A pair without
comparator asserts nothing, and in a test window assertions are counted instead (R425, R427). -/
def lockstepMismatch (x : Fin 2) (main checker : List Nat) (same : List ResetCause) (s : State) : State :=
  s.onDie (fun s =>
    let en := if (x : Nat) = 0 then s.on F.LSTP_STATUS_CMP_EN0 else s.on F.LSTP_STATUS_CMP_EN1
    match lockstepGroup main checker with
    | none => s.beside same
    | some g =>
      if !en then s.beside same
      else if s.ump.lsWindow == some (x : Nat) then
        ({ s with ump := { s.ump with lsSeen := s.ump.lsSeen ++ [g] } } : State).beside same
      else s.causes (.lockstep x (g.castLE (by omega))) same)

/-- The groups in which the 16 injections of a test are to be seen, in order (R425). -/
def lsInjected : List (Fin 8) := [0, 0, 1, 1, 2, 2, 3, 3, 4, 4, 5, 5, 6, 6, 7, 7]

/-- Group recorded for the first assertion that is missing, extra or detected in the wrong group: of too few, the group whose assertion
did not come; else the group detected (R426). -/
def lsBad (seen : List (Fin 8)) : Option (Fin 8) :=
  ((List.range (max 16 seen.length)).find? (fun j => seen[j]? != lsInjected[j]?)).map
    (fun j => if seen.length < 16 then (lsInjected[j]?).getD 0 else seen.getD j 0)

/-- The pair has passed its comparator test, or a debugger has attached to it (R426). -/
def State.lsOver (s : State) (x : Nat) : Bool :=
  if x = 0 then s.on F.LSTP_STATUS_CTEST_OK0 || s.on F.LSTP_STATUS_BROKEN0
  else s.on F.LSTP_STATUS_CTEST_OK1 || s.on F.LSTP_STATUS_BROKEN1

/-- LS_TEST of a pair, in step 6 of R518, COX0 first: the window opens, and `ended` is the sequencer's report of its end, on which the
test passes or fails. A pair a debugger attached to is skipped (R425, R426). -/
def lsTest (x : Fin 2) (ended : Bool) (same : List ResetCause) (s : State) : State :=
  s.onDie (fun s =>
    if s.boot.step ≠ 5 ∨ s.lsOver x = true ∨ ((x : Nat) = 1 ∧ s.lsOver 0 = false) then s.beside same
    else if ended then
      if s.ump.lsWindow == some (x : Nat) then
        match lsBad s.ump.lsSeen with
        | none => (({ s with ump := { s.ump with lsWindow := none } } : State).set
            (if (x : Nat) = 0 then F.LSTP_STATUS_CTEST_OK0 else F.LSTP_STATUS_CTEST_OK1) 1).beside same
        | some g => s.lockstepFail x (g.castLE (by omega)) same
      else s.beside same
    else ({ s with ump := { s.ump with lsWindow := some x, lsSeen := [] } } : State).beside same)

def lsTestWindowExpiry (x : Fin 2) (same : List ResetCause) (s : State) : State :=
  s.onDie (fun s => if s.ump.lsWindow == some (x : Nat) then s.lockstepFail x 0xF same else s.beside same)

/-- An allowed debug attach to a core of pair `x` (R427). -/
def State.attach (s : State) (x : Nat) : State :=
  let t := if x = 0 then (s.set F.LSTP_STATUS_CMP_EN0 0).set F.LSTP_STATUS_BROKEN0 1
    else (s.set F.LSTP_STATUS_CMP_EN1 0).set F.LSTP_STATUS_BROKEN1 1
  let t := (t.set F.LSTP_STATUS_LOCKSTEP_BROKEN 1).when t.running (fun t => t.ev F.LSTP_EVENT_ATTACH)
  let t : State := { t with ump := { t.ump with lockstepBroken := true, lsWindow := if t.ump.lsWindow = some x then none else t.ump.lsWindow } }
  t.benchCheck

/-- A write of LSTP_DBG: a refused request sets HOLD_REFUSED and leaves WD_HOLD as it is, set only while an accepted hold runs (R428). -/
def State.wdHold (s : State) (hold : Bool) (pair : Nat) : State :=
  let t := s.set F.LSTP_DBG_PAIR pair
  let broken := if pair = 0 then t.on F.LSTP_STATUS_BROKEN0 else t.on F.LSTP_STATUS_BROKEN1
  if hold then
    if broken && t.deviceOff && !t.ump.benchHv then
      ({ t with ump := { t.ump with wdHold := setBit t.ump.wdHold pair } } : State).set F.LSTP_DBG_WD_HOLD 1
    else t.ev F.LSTP_DBG_HOLD_REFUSED
  else if t.on F.LSTP_DBG_WD_HOLD then t.holdEnd else t

def wdHoldWrite (m : Master) (hold : Bool) (pair : Fin 2) (s : State) : State :=
  s.onDie (fun s => s.blockWrite m R.LSTP_DBG true (fun s => s.wdHold hold pair))

def execConnect (m : Master) (s : State) : Host.Outcome State Fault Refusal := .next (connect m s)
def execDisconnect (m : Master) (s : State) : Host.Outcome State Fault Refusal := .next (disconnect m s)
def execEmergencyOpen (m : Master) (s : State) : Host.Outcome State Fault Refusal := .next (emergencyOpen m s)
def execAuxOn (m : Master) (s : State) : Host.Outcome State Fault Refusal := .next (auxOn m s)
def execAuxOff (m : Master) (s : State) : Host.Outcome State Fault Refusal := .next (auxOff m s)
def execContactorStepEnd (aux : Bool) (s : State) : Host.Outcome State Fault Refusal := .next (contactorStepEnd aux s)
def execBreakCurrentWait (s : State) : Host.Outcome State Fault Refusal := .next (breakCurrentWait s)
def execContactorDrop (k : Fin 4) (s : State) : Host.Outcome State Fault Refusal := .next (contactorDrop k s)
def execContactorWeld (k : Fin 4) (s : State) : Host.Outcome State Fault Refusal := .next (contactorWeld k s)
def execUmpCtrState (closed : BitVec 4) (s : State) : Host.Outcome State Fault Refusal := .next (umpCtrState closed s)
def execUmpCmd (off : Fin 4096) (v : Word) (s : State) : Host.Outcome State Fault Refusal := .next (umpCmd off v s)
def execUmpAns (s : State) : Host.Outcome State Fault Refusal := .next (umpAns s)
def execLockstepMismatch (x : Fin 2) (main checker : List Nat) (same : List ResetCause) (s : State) :
    Host.Outcome State Fault Refusal := .next (lockstepMismatch x main checker same s)
def execLsTestWindowExpiry (x : Fin 2) (same : List ResetCause) (s : State) : Host.Outcome State Fault Refusal := .next (lsTestWindowExpiry x same s)
def execWdHoldWrite (m : Master) (hold : Bool) (pair : Fin 2) (s : State) : Host.Outcome State Fault Refusal :=
  .next (wdHoldWrite m hold pair s)

end Sys2Proof.Machine
end

