-- ==== Sys2Proof/Machine/Drive.lean ====
section
/-! DEFINITION. COX0's part in a drive instance: start, stop, catch-spin, reacquisition, easy-all, zero-torque window and
torque monitoring (10_field_control.md R266 to R295, R414). -/

namespace Sys2Proof.Machine

/-- A binary32 word as an operand; NaN and infinity read as zero. -/
def fval (w : Word) : Fl := (fin w).v

/-- `a / b ≤ x / y` of exact magnitudes, as a · y ≤ x · b. -/
def flLe (a b : Fl) : Bool := !flLt b a
def flAbs (a : Fl) : Fl := { a with neg := false }
def flScale (k : Nat) (a : Fl) : Fl := flMul (flInt k) a

/-- The digest in PLAN_LIVE_DIG, which names the plan that runs (R197). -/
def State.liveDigest (s : State) : List Word := (List.range 16).map (fun k => s.rd (R.PLAN_LIVE_DIG k))

/-! ### Torque target (R285, R294, R443) -/

/-- DRV_TMAX after thermal derating (R443). -/
def State.torqueLimit (s : State) (d : Nat) : FV :=
  fmul (fin (s.rd (R.DRV_TMAX d))) (fmul (fofInt (s.fld F.THRM_DERATE_KTH)) ⟨0x3B800000#32, 0⟩)

/-- The torque request within its limit; a NaN or an infinity reads as zero (R294). -/
def State.torqueRequest (s : State) (d : Nat) : FV :=
  let l := s.torqueLimit d
  fclamp (fin (s.rd (R.DRV_TRQ d))) (fneg l) l

/-- The torque reference is the speed loop's limit: SP_CTRL.LOOP selects speed mode (R297). -/
def State.speedMode (s : State) (d : Nat) : Bool := s.on (F.SP_CTRL_LOOP d)

/-- What stands for the request: DRV_TRQ within its limit, or in speed mode DRV_TMAX after derating (R297), which in BRAKE acts in
the direction DIR (R299; log entry 106). -/
def State.torqueWanted (s : State) (d : Nat) : FV :=
  if s.speedMode d then
    if s.driveState d = dBrake ∧ s.on (F.DRV_STATE_DIR d) = true then fneg (s.torqueLimit d) else s.torqueLimit d
  else s.torqueRequest d

/-- The effective target of the state in force: in BRAKE only torque in the direction DIR (R285). -/
def State.torqueTarget (s : State) (d : Nat) : Word :=
  let t := s.torqueWanted d
  if s.driveState d = dBrake then
    if s.on (F.DRV_STATE_DIR d) then (fmin t fzero).w else (fmax t fzero).w
  else t.w

/-- TREF follows the request in START, RUN and BRAKE once the ramp runs (R269, R283). -/
def State.applyTorque (s : State) (d : Nat) : State :=
  let st := s.driveState d
  if (st = dStart ∨ st = dRun ∨ st = dBrake) ∧ (s.drive d).rampDue = false then s.wr (R.DRV_TREF d) (s.torqueTarget d) else s

/-- DRV_TRATE = rate × Te (R289). -/
def State.setRate (s : State) (d : Nat) (rate : Word) : State :=
  s.wr (R.DRV_TRATE d) (fmul (fin rate) (fin (s.drive d).te)).w

/-- The ramp starts in the catch after the first leg reports LEG_STAT.EN (R283). -/
def State.rampCatch (s : State) (d : Nat) : State :=
  if (s.drive d).rampDue && (s.legsOf d).any (fun l => s.on (F.LEG_STAT_EN l)) then
    (((s.modDrive d (fun x => { x with rampDue := false })).setRate d (s.rd (R.DRV_RAMP d)))).applyTorque d
  else s

/-- A torque request (R291, R294): stored; checked; applied in the states that follow it, held in a zero-torque window. -/
def State.trqWrite (s : State) (d : Nat) (v : Word) : State :=
  let t := s.wr (R.DRV_TRQ d) v
  let t := if f32Bad v then t.ev (F.DRV_EVENT_BAD_REQ d) else t
  let t := if s.driveState d = dZtw ∧ (fval v).mant ≠ 0 then t.modDrive d (fun x => { x with trqHeld := true }) else t
  t.applyTorque d

/-! ### Gates of an instance -/

/-- Mask of an instance's legs in a page. -/
def State.pageMask (s : State) (d p : Nat) : Nat :=
  ((s.legsOf d).filter (fun l => legPage l == p)).foldl (fun a l => setBit a (legBit l)) 0

/-- COX0 writes the enable bits of every leg of a unit, or clears them (R283, R307, R341). -/
def State.gatesOn (s : State) (d : Nat) : State :=
  s.each [0x0B, 0x0C, 0x0D] (fun p t => if t.pageMask d p = 0 then t else t.gateSet p (t.pageMask d p))
def State.gatesOff (s : State) (d : Nat) : State := 
  s.each [0x0B, 0x0C, 0x0D] (fun p t => t.gateClear p (t.pageMask d p))

/-! ### Easy-all (R289, R290, R294) -/

/-- The link voltage that COX0 can read, in volts times 256: the umpire's UAIN0 (R417; log entry 107). -/
def State.linkVolts (s : State) : Nat := s.fld F.UMP_MEAS0_UAIN0 * s.fld F.UMP_VSCALE_V

/-- Speed class that COX0 asks for when the matrix takes a speed: zero speed is S0, and an EMF at or above the link is S2; the spec
gives no bound between, where the class is a free value (R379; log entry 1). -/
def State.classFor (s : State) (d : Nat) (f : Word) : Nat × State :=
  if (fval f).mant = 0 then (0, s)
  else if flLe (flInt s.linkVolts) (flScale 256 (flMul (fval (s.rd (R.DRV_KE d))) (flAbs (fval f)))) then (2, s)
  else let (x, t) := s.fresh 2; (x.toNat % 3, t)

/-- The rate of a cause of R289. -/
def State.easyRate (s : State) (d cause : Nat) : Word := s.rd (if cause = 5 then R.DRV_EASYCLK d else R.DRV_EASY d)

/-- Easy-all for a cause of R289, at its rate: 1 STOP, 2 BRAKE_TIMEOUT, 3 heartbeat, 4 thermal shutdown, 5 COAST. -/
def State.easyAt (s : State) (d cause : Nat) (rate : Word) : State :=
  let st := s.driveState d
  if st = dStart ∨ st = dRun ∨ st = dBrake ∨ st = dZero then
    ((s.modDrive d (fun x => { x with easyState := st, easyCause := cause, tzero := 0, rampDue := false })).setDriveState d dEasy).setRate d rate
  else if st = dEasy ∨ (st = dReacq ∧ (s.drive d).heldState = dEasy) then
    if (s.drive d).easyCause < cause then (s.modDrive d (fun x => { x with easyCause := cause })).setRate d rate else s
  else if st = dReacq ∧ 3 ≤ cause then
    (s.modDrive d (fun x => { x with heldState := dEasy, easyState := x.heldState, easyCause := cause, tzero := 0 })).setRate d rate
  else if 3 ≤ cause ∧ (st = dSpin ∨ st = dOff ∨ st = dZtw) ∧ s.live.bound d = true then
    let (c, t) := if s.on (F.DRV_SPIN_VALID d) then s.classFor d (s.rd (R.DRV_SPIN_F d)) else (0, s)
    t.protReq d (some c)
  else s
def State.easy (s : State) (d cause : Nat) : State := s.easyAt d cause (s.easyRate d cause)

/-- STOP of an instance as DRV_CMD gives it: in SPIN the start is abandoned (R294); else easy-all. -/
def State.stopDrive (s : State) (d : Nat) : State := if s.driveState d = dSpin then s.setDriveState d dOff else s.easy d 1

/-- Row 7 of R270: the observer is lost. In EASY reacquisition runs under easy-all (R294). -/
def State.loseObserver (s : State) (d : Nat) (states : List Nat) : State :=
  let st := s.driveState d
  if s.on (F.DRV_PSTAT_OBS_LOSS d) && states.contains st then
    (s.modDrive d (fun x => { x with heldState := st, lastSpeed := s.rd (R.DRV_SPEED d) })).setDriveState d dReacq
  else s

/-- Rows 1 and 7 of R270, before a higher row at the same catch boundary. -/
def State.rowsFirst (s : State) (d : Nat) : State := (s.settleSafe d).loseObserver d [dStart, dRun, dBrake, dZero]

/-- What has been due for the instance takes effect at a catch boundary, the lowest row of R270 first: a safe state, and an easy-all
(R269). -/
def State.settleDrive (s : State) (d : Nat) : State :=
  let c := (s.drive d).easyDue
  let t := s.settleSafe d
  if c = 0 then t
  else
    let t := (t.modDrive d (fun x => { x with easyDue := 0 })).rowsFirst d
    if c = 1 then t.stopDrive d else t.easy d c

/-- An easy-all, or a STOP that COX0 makes itself, takes effect at the next catch boundary; at once while no catch runs (R269; log entry
103). -/
def State.easyDue (s : State) (d cause : Nat) : State :=
  let t := s.modDrive d (fun x => { x with easyDue := max x.easyDue cause })
  if s.on F.CATCH_CTRL_RUN then t else t.settleDrive d

/-! ### Starting (R278 to R286) -/

/-- COX0 may start the instance at all: a plan with a REG_OUT binding to DRV_PSTAT, and DRV_NCATCH at least 38 Hz
(R268, R282). -/
def State.planDrives (s : State) (d : Nat) : Bool :=
  s.liveValid && s.live.bind.any (fun b => b == .regOut (pageOf (R.DRV_PSTAT d)) (R.DRV_PSTAT d % 0x1000)) &&
    flLe (flInt 38) (fval (s.rd (R.DRV_NCATCH d)))

/-- A unit's primary position source (R350). -/
def PlanInfo.primary (p : PlanInfo) (u : Nat) : Option Nat :=
  p.bind.findSome? (fun b => match b with
    | .pos i body => if body.getD 0 0 / 8 % 8 = u ∧ bit (body.getD 0 0) 6 = true then some i else none
    | _ => none)

/-- Status, speed and angle of position source `i` in its latest capture (R350, R365, R368, R369). -/
def State.posStatus (s : State) (i : Nat) : Nat :=
  match i / 2 with
  | 0 => (mapGet (fun _ => Enc.init) s.pos.enc (i % 2)).stat
  | 1 => (mapGet (fun _ => Hall.init) s.pos.hall (i % 2)).stat
  | 2 => s.fld (F.SER_STAT_STAT (i % 2))
  | _ => s.fld (F.RSLV_STAT_STAT (i % 2))
def State.posSpeed (s : State) (i : Nat) : Word :=
  match i / 2 with
  | 0 => s.rd (R.ENC_SPD (i % 2))
  | 1 => s.rd (R.HALL_SPD (i % 2))
  | 2 => s.rd (R.SER_SPD (i % 2))
  | _ => s.rd (R.RSLV_SPD (i % 2))
def State.posAngle (s : State) (i : Nat) : Word :=
  match i / 2 with
  | 0 => s.rd (R.ENC_ANG (i % 2))
  | 1 => s.rd (R.HALL_ANG (i % 2))
  | 2 => s.rd (R.SER_ANG (i % 2))
  | _ => s.rd (R.RSLV_ANG (i % 2))

/-- The instance's sensor: QUAL is set in the latest status of its primary source (R365). -/
def State.sensorOk (s : State) (d : Nat) : Bool :=
  match s.live.primary d with
  | some i => bit (s.posStatus i) 0
  | none => false

/-- The sensor's speed and angle (R284, R365). -/
def State.sensorSpeed (s : State) (d : Nat) : Word := match s.live.primary d with | some i => s.posSpeed i | none => 0
def State.sensorAngle (s : State) (d : Nat) : Word := match s.live.primary d with | some i => s.posAngle i | none => 0

/-- The instance enters START or BRAKE with its direction; `seed` gives angle and speed of the seed catch, in which its gates are enabled
(R283). -/
def State.enterStart (s : State) (d st dir : Nat) (seed : Option (Word × Word)) : State :=
  let t := ((s.setDriveState d st).set (F.DRV_STATE_DIR d) dir).set (F.DRV_MODE_DIR d) dir
  let t := t.wr (R.DRV_TREF d) 0
  let t := match seed with
    | some (a, w) => ((t.wr (R.DRV_SEED_ANG d) a).wr (R.DRV_SEED_W d) w).set (F.DRV_MODE_SEED d) 1
    | none => t
  t.modDrive d (fun x => { x with rampDue := true, gatesDue := true, trqHeld := false })

/-- In the seed catch COX0 enables the gates, and DRV_MODE.SEED stays for no catch more (R283). -/
def State.seedCatch (s : State) (d : Nat) : State :=
  let t := if (s.drive d).gatesDue then (s.modDrive d (fun x => { x with gatesDue := false })).gatesOn d else s
  t.set (F.DRV_MODE_SEED d) 0

/-- A crew member, whose starts the stroke decides. -/
def State.isCrew (s : State) : Bool := s.cascaded && s.role == roleCrew

/-- The speed is against the direction wanted. -/
def against (f : Fl) (dir : Nat) : Bool := f.mant != 0 && (f.neg != (dir == 1))

/-- Row 1 of R282: refused with OVER_LINK, state SAFE, and hold water requested as for a rotating machine (log entry 82). -/
def State.overLink (s : State) (d : Nat) : State := (((s.startRefused d 0x05).setDriveState d dSafe).protReq d (some 2))

/-- A refused start that leaves the instance in OFF (R282 rows 2, 3 and 8). -/
def State.startOff (s : State) (d code : Nat) : State :=
  if s.driveState d = dOff then s.startRefused d code else (s.startRefused d code).setDriveState d dOff

/-- What a row of R282 brings: rows 4 to 6 START, row 7 BRAKE, the others a refusal. -/
def State.takeRow (s : State) (d row dir : Nat) (seed : Option (Word × Word)) : State :=
  match row with
  | 1 => s.overLink d
  | 2 => s.startOff d 0x06
  | 3 => s.startOff d 0x07
  | 8 => s.startOff d 0x04
  | 7 => s.enterStart d dBrake dir seed
  | _ => s.enterStart d dStart dir seed

/-- COX0 decides for a row of R282. The stroke relays the decision and the seed, and applies it with the other members (R501). -/
def State.decideRow (s : State) (d row dir : Nat) (seed : Option (Word × Word)) : State :=
  if s.relays then
    let w := seed.getD (0, 0)
    s.relay d 5 w.1 w.2 (BitVec.ofNat 32 row)
  else s.takeRow d row dir seed

/-- The row of R282 from row 5 on, for a speed `f`. -/
def spinRow (f nrev : Fl) (dir : Nat) (brk : Bool) : Nat :=
  if !against f dir then 5 else if flLt (flAbs f) nrev then 6 else if brk then 7 else 8

/-- `v` is at or above 0.95 × Vdc (R282 row 1). -/
def overLinkV (vdc v : Fl) : Bool := flLe (flScale 19 vdc) (flScale 20 v)

/-- Two winding sets differ in direction, or the speed of the first is above the other's by more than 2 % of its own + 1 Hz (R282 row 2; log
entry 124). -/
def setsDiffer (a b : Fl) : Bool :=
  (a.mant != 0 && b.mant != 0 && a.neg != b.neg) ||
    flLt (flAdd (flAdd (flScale 50 (flAbs b)) (flAbs a)) (flInt 50)) (flScale 50 (flAbs a))

/-- Row 2 of R282. -/
def spinFails (sets : List SpinSet) : Bool :=
  sets.any (fun a => !a.inSeq || sets.any (fun b => setsDiffer (fval a.f) (fval b.f)))

/-- Row 3 of R282: the sensor's speed is off the measured one by more than 10 % of it + 2 Hz. -/
def sensorOff (f g : Fl) : Bool := flLt (flAdd (flAbs f) (flInt 20)) (flScale 10 (flAbs (flAdd g (flNeg f))))

/-- COX0 may start the instance at all: the row of R295 that refuses it, 0 for none (R268, R282, R415, R444, R466). -/
def State.startBar (s : State) (d : Nat) : Nat :=
  if !s.planDrives d then 0x01
  else if s.on F.THRM_STATUS_SHUTDOWN then 0x08
  else if s.grantCode d ≠ 0 ∨ s.ownBlock d = true ∨ s.sarFailedFor d = true ∨ s.cascadeOk = false ∨
      (s.hbSupervised && !s.hbAlive) = true then 0x02
  else 0

/-- A START from OFF (R270 rows 3 and 4, R279, R284). -/
def State.startFromOff (s : State) (d : Nat) (want : BitVec 6) (vdc : Word) : State :=
  let dir := want.toNat / 16 % 2
  let s := s.modDrive d (fun x => { x with want := want, trqHeld := false })
  let c := s.startBar d
  if c ≠ 0 then s.startRefused d c
  else if (s.drive d).spun = false ∨ s.sensorOk d = false then
    (s.modDrive d (fun x => { x with spun := true })).setDriveState d dSpin
  else if s.isCrew then s
  else
    let f := fval (s.sensorSpeed d)
    let row := if overLinkV (fval vdc) (flMul (fval (s.rd (R.DRV_KE d))) (flAbs f)) then 1
      else spinRow f (fval (s.rd (R.DRV_NREV d))) dir (want.toNat / 32 = 1)
    s.decideRow d row dir (some (s.sensorAngle d, (fmul (fin (s.sensorSpeed d)) (fin (s.drive d).te)).w))

/-- A START while easy-all runs: it resumes the state held before, and only when the cause is STOP; while SHUTDOWN is asserted it is
refused with SAFE (R289, R444). With the observer lost (R294) the state that reacquisition resumes is that one. -/
def State.startInEasy (s : State) (d : Nat) : State :=
  let x := s.drive d
  if s.on F.THRM_STATUS_SHUTDOWN then s.startRefused d 0x08
  else if x.easyCause ≠ 1 then s.startRefused d 0x03
  else
    let t := s.modDrive d (fun x => { x with easyCause := 0, tzero := 0 })
    if s.driveState d = dReacq then t.modDrive d (fun x => { x with heldState := x.easyState })
    else ((t.setDriveState d x.easyState).setRate d (s.rd (R.DRV_RAMP d))).applyTorque d

/-- DRV_START: the latched START is taken (R278, R286, R289, R291). Without a plan that drives the instance none is (R268). -/
def State.takeStart (s : State) (d : Nat) (c : BitVec 6) (vdc : Word) : State :=
  let dir := c.toNat / 16 % 2
  let st := s.driveState d
  let same := s.fld (F.DRV_STATE_DIR d) == dir
  if st = dSafe then s.startRefused d 0x08
  else if st = dOff then s.startFromOff d c vdc
  else if !s.planDrives d then s.startRefused d 0x01
  else if st = dZtw then s.modDrive d (fun x => { x with trqHeld := true, want := c })
  else if st = dSpin then
    if (s.drive d).want.toNat / 16 % 2 = dir then s else s.modDrive d (fun x => { x with want := c })
  else if st = dEasy ∨ (st = dReacq ∧ (s.drive d).heldState = dEasy) then s.startInEasy d
  else if (st = dStart ∨ st = dRun ∨ st = dZero) ∧ same = false then
    if flLe (fval (s.rd (R.DRV_NREV d))) (flAbs (fval (s.rd (R.DRV_SPEED d)))) then s.startRefused d 0x04
    else
      let t := (s.set (F.DRV_STATE_DIR d) dir).set (F.DRV_MODE_DIR d) dir
      (t.setRate d (s.rd (R.DRV_RAMP d))).applyTorque d
  else s

/-- The latched command, taken when it is of the kind `k`. -/
def State.takeCmd (s : State) (d k : Nat) (act : BitVec 6 → State → State) : State :=
  match (s.drive d).cmd with
  | some c => if c.toNat % 16 = k then act c (s.modDrive d (fun x => { x with cmd := none })) else s
  | none => s

def State.setTe (s : State) (d : Nat) (te : Word) : State := s.modDrive d (fun x => { x with te := te })

def drvStart (d : DriveIx) (vdc te : Word) (s : State) : State :=
  s.onDie (fun s =>
    if s.selfRuns d ∧ s.driveState d ≠ dZtw then s
    else s.takeCmd d 1 (fun c s => ((s.settleDrive d).setTe d te).takeStart d c vdc))

/-- A write of DRV_CMD: a one-deep latch (R278); values other than START and STOP are ignored. -/
def State.drvCmd (s : State) (d : Nat) (v : Word) : State :=
  let k := v.toNat % 16
  if k = 1 ∨ k = 2 then
    let t := if (s.drive d).cmd.isSome then s.ev (F.DRV_EVENT_CMD_LOST d) else s
    t.modDrive d (fun x => { x with cmd := some (v.extractLsb' 0 6) })
  else s

/-- A write of DRV_CMD or DRV_TRQ on the stroke of a READY drive is relayed, and applies here with the others (R501). -/
def State.drvCmdWrite (s : State) (d : Nat) (v : Word) : State :=
  let k := v.toNat % 16
  if s.relays ∧ (k = 1 ∨ k = 2) then s.relay d k (if k = 1 then BitVec.ofNat 32 (v.toNat / 16 % 4) else 0) 0 0 else s.drvCmd d v

def State.trqWriteAll (s : State) (d : Nat) (v : Word) : State :=
  if s.relays then (s.wr (R.DRV_TRQ d) v).relay d 3 v 0 0 else s.trqWrite d v

/-- CATCH_SPIN_END of an instance: the decision table of R282 over the winding sets `sets`, in a cascade those of every member (R501). -/
def State.spinEnd (s : State) (d : Nat) (vdc tc te : Word) (sets : List SpinSet) : State :=
  let s := s.setTe d te
  let f := fval (s.rd (R.DRV_SPIN_F d))
  let v := fval (s.rd (R.DRV_SPIN_V d))
  let want := (s.drive d).want.toNat
  let dir := want / 16 % 2
  if overLinkV (fval vdc) v || sets.any (fun x => overLinkV (fval vdc) (fval x.v)) then s.decideRow d 1 dir none
  else if spinFails sets then s.decideRow d 2 dir none
  else if s.sensorOk d && sensorOff f (fval (s.sensorSpeed d)) then s.decideRow d 3 dir none
  else if !(s.on (F.DRV_SPIN_VALID d) || sets.any SpinSet.valid) || flLt (flAbs f) (fval (s.rd (R.DRV_NCATCH d))) then
    let still := s.fld (F.DRV_SPIN_COUNT d) == 0 && flLt v (fval (s.rd (R.DRV_KE d)))
    (if still then s.set (F.DRV_STATE_STANDSTILL d) 1 else s).decideRow d 4 dir none
  else
    let ang := s.rd (R.DRV_SPIN_A d) + BitVec.ofInt 32 (rneFl (flMul f (fval tc)) 32)
    s.decideRow d (spinRow f (fval (s.rd (R.DRV_NREV d))) dir (want / 32 = 1)) dir
      (some (ang, (fmul (fin (s.rd (R.DRV_SPIN_F d))) (fin te)).w))

/-- An aux channel at the end of its start decision (R282, R307): rows 4 to 6 enable its gates in the next catch, row 1 requests hold water,
and the others leave it off; a channel has no brake-through permission (log entry 109). -/
def State.auxRow (s : State) (u row : Nat) : State :=
  let t : State := { s with inj := { s.inj with auxSpin := clearBit s.inj.auxSpin u } }
  if row = 1 then t.protReq u (some 2)
  else if 4 ≤ row ∧ row ≤ 6 then { t with inj := { t.inj with auxGo := setBit t.inj.auxGo u } }
  else t

/-- The rows of R282 for an aux channel's single winding set. Its thresholds are constants of the plan (log entry 109). -/
def State.auxSpinEnd (s : State) (u : Nat) (vdc : Word) (sets : List SpinSet) : State :=
  match sets with
  | [] => s.auxRow u 4
  | x :: _ =>
    let f := fval x.f
    s.auxRow u (if overLinkV (fval vdc) (fval x.v) then 1 else if spinFails sets then 2
      else if s.sensorOk u && sensorOff f (fval (s.sensorSpeed u)) then 3
      else if !x.valid || flLt (flAbs f) (fval (Config.auxNcatch u s.liveDigest)) then 4
      else spinRow f (fval (Config.auxNrev u s.liveDigest)) 0 false)

def catchSpinEnd (u : UnitIx) (vdc tc te : Word) (sets : List SpinSet) (s : State) : State :=
  s.onDie (fun s =>
    if (u : Nat) < 2 then
      let s := s.settleDrive u
      if s.driveState u = dSpin ∧ s.isCrew = false then s.spinEnd u vdc tc te sets else s
    else if bit s.inj.auxSpin u then s.auxSpinEnd u vdc sets
    else s)

def startToRun (d : DriveIx) (s : State) : State :=
  s.onDie (fun s => let s := s.settleDrive d; if s.driveState d = dStart then s.setDriveState d dRun else s)

/-! ### Causes on the whole drive, and the aux channels (R307, R501) -/

/-- Easy-all of an aux channel that runs; a lower row of R289 replaces the cause (R102, R307, R444, R466). A start in its catch-spin is
abandoned. -/
def State.easyAux (s : State) (u cause : Nat) : State :=
  if s.unitOn u then { s with inj := { s.inj with auxEasy := s.inj.auxEasy.set u (max cause (s.inj.auxEasy.get u)) } }
  else { s with inj := { s.inj with auxSpin := clearBit s.inj.auxSpin u, auxGo := clearBit s.inj.auxGo u } }

/-- A cause on every instance and aux channel; the stroke relays it for the instances, with the rate and the catch from which every
member applies it (R501). -/
def State.easyAll (s : State) (cause : Nat) : State :=
  let s := (s.easyAux 2 cause).easyAux 3 cause
  if s.relays then
    s.each [0, 1] (fun d t =>
      t.relay d 4 (BitVec.ofNat 32 cause) (t.easyRate d cause) 0)
  else (s.easyDue 0 cause).easyDue 1 cause

/-- COX0 starts an aux channel (R307): by catch-spin where R279 asks for one, else by the sensor's speed with rows 1, 5 and 8 of R282 (R284),
row 1 on the channel's EMF at that speed against `linkVolts`. A channel in easy-all resumes only while the cause is STOP (R289; log entry
109). -/
def State.auxStart (s : State) (u : Nat) : State :=
  if s.live.bound u = false ∨ s.on F.THRM_STATUS_SHUTDOWN = true ∨ (s.hbSupervised && !s.hbAlive) = true ∨
      s.cascadeOk = false ∨ s.inj.auxEasy.get u > 1 then s
  else
    let t := s.auxSettle u
    if s.unitOn u then t
    else if !bit s.inj.auxSpun u || !s.sensorOk u then
      { t with inj := { t.inj with auxSpun := setBit t.inj.auxSpun u, auxSpin := setBit t.inj.auxSpin u } }
    else
      let f := fval (s.sensorSpeed u)
      let e := flMul (fval (Config.auxKe u s.liveDigest)) (flAbs f)
      t.auxRow u (if flLe (flInt (19 * s.linkVolts)) (flScale 5120 e) then 1
        else spinRow f (fval (Config.auxNrev u s.liveDigest)) 0 false)

/-- The gates of an aux channel that starts are enabled in the catch that follows (R283, R307). -/
def State.auxCatch (s : State) (u : Nat) : State :=
  if bit s.inj.auxGo u then ({ s with inj := { s.inj with auxGo := clearBit s.inj.auxGo u } } : State).gatesOn u else s

/-- DRV_STOP: the latched STOP is taken. -/
def drvStop (d : DriveIx) (te : Word) (s : State) : State :=
  s.onDie (fun s => s.takeCmd d 2 (fun _ s =>
    (((s.settleDrive d).rowsFirst d).setTe d te).stopDrive d))

/-- EASY_ALL_COMPLETE: TZERO for four executions; on to ZERO, or to the safe state for the last three causes. An aux channel, which has
no TZERO register, is at rest when the command says so, and off (log entry 109). -/
def easyAllComplete (u : UnitIx) (s : State) : State :=
  s.onDie (fun s =>
    if (u : Nat) < 2 then
      let s := s.settleDrive u
      let x := s.drive u
      if s.driveState u = dEasy ∧ 4 ≤ x.tzero then
        let t := s.ev (F.DRV_EVENT_EASY_DONE u)
        if x.easyCause ≤ 2 then (t.modDrive u (fun x => { x with easyCause := 0 })).setDriveState u dZero
        else t.protReq u none
      else s
    else match s.inj.auxEasy.get u with
      | 0 => s
      | c => let t := s.auxSettle u; if c ≤ 2 then t.gatesOff u else t.protReq u none)

def easyTimeout (d : DriveIx) (s : State) : State :=
  s.onDie (fun s =>
    let s := s.settleDrive d
    if s.driveState d = dEasy ∨ (s.driveState d = dReacq ∧ (s.drive d).heldState = dEasy) then
      ((s.ev (F.DRV_EVENT_EASY_TIMEOUT d)).drvLast d 0x0B).protReq d none
    else s)

def zeroToOff (d : DriveIx) (s : State) : State :=
  s.onDie (fun s =>
    let s := (s.settleDrive d).rowsFirst d
    if s.driveState d = dZero then (s.setDriveState d dOff).gatesOff d else s)

/-! ### Loss of the observer (R287, R288) -/

def reacqEntry (d : DriveIx) (s : State) : State :=
  s.onDie (fun s => (s.settleDrive d).loseObserver d [dStart, dRun, dBrake, dZero, dEasy])

def reacqOk (d : DriveIx) (s : State) : State :=
  s.onDie (fun s =>
    let s := s.settleDrive d
    if s.driveState d = dReacq ∧ s.on (F.DRV_PSTAT_REACQ_OK d) = true then
      let h := (s.drive d).heldState
      let t := (s.setDriveState d h).ev (F.DRV_EVENT_OBS_REGAINED d)
      if h = dEasy then t else (t.setRate d (s.rd (R.DRV_RAMP d))).applyTorque d
    else s)

/-- REACQ_TIMEOUT: 20 ms without REACQ_OK; with it reported at the same boundary row 8 of R270 stands before row 9 (R288). -/
def reacqTimeout (d : DriveIx) (s : State) : State :=
  s.onDie (fun s =>
    let s := s.settleDrive d
    if s.driveState d = dReacq ∧ s.on (F.DRV_PSTAT_REACQ_OK d) = false then
      let t := (s.ev (F.DRV_EVENT_OBS_LOST d)).drvLast d 0x0A
      let (c, t) := t.classFor d (s.drive d).lastSpeed
      t.protReq d (some c)
    else s)

/-- A relayed drive message takes effect (R501); any other row of R282, or an ACTION of none, is nothing. -/
def State.driveApply (s : State) (m : DriveMsg) : State :=
  let d := m.unit
  let w := fun (k : Nat) => m.data.getD k 0
  match m.action with
  | 1 => s.drvCmd d (BitVec.ofNat 32 (1 + 16 * ((w 0).toNat % 4)))
  | 2 => s.drvCmd d 2
  | 3 => s.trqWrite d (w 0)
  | 4 => ((s.settleDrive d).rowsFirst d).easyAt d (w 0).toNat (w 1)
  | 5 =>
    let row := (w 2).toNat
    let s := s.settleDrive d
    if (s.driveState d = dOff ∨ s.driveState d = dSpin) ∧ 1 ≤ row ∧ row ≤ 8 then
      s.takeRow d row ((s.drive d).want.toNat / 16 % 2) (if row = 4 then none else some (w 0, w 1))
    else s
  | _ => s

/-- The relayed messages that apply from the catch that begins, and what has been due for each instance (R269, R501). -/
def State.drivesDue (s : State) : State :=
  let due := s.ring.drive.filter (fun m => decide (m.num ≤ s.cat.num))
  let t : State := { s with ring := { s.ring with drive := s.ring.drive.filter (fun m => !decide (m.num ≤ s.cat.num)) } }
  ((t.each due (fun m t => t.driveApply m)).settleDrive 0).settleDrive 1

/-! ### Zero-torque window, brake-through, status (R273, R285, R291) -/

/-- Work waits for a window of the instance: a queued calibration or a queued test (R161, R539). -/
def State.windowWork (s : State) (d : Nat) : Bool := (s.calOf d).1 == .queuedWindow || s.selfQueue d

/-- ZTW_OPEN: RUN or ZERO, DRV_TRQ zero, and an EMF below 0.90 × Vdc (R291). -/
def ztwOpen (d : DriveIx) (vdc : Word) (s : State) : State :=
  s.onDie (fun s =>
    let s := (s.settleDrive d).rowsFirst d
    let st := s.driveState d
    let emf := flMul (fval (s.rd (R.DRV_KE d))) (flAbs (fval (s.rd (R.DRV_SPEED d))))
    if (st = dRun ∨ st = dZero) ∧ (fval (s.rd (R.DRV_TRQ d))).mant = 0 ∧ flLt (flScale 10 emf) (flScale 9 (fval vdc)) = true ∧
        s.windowWork d = true then
      ((s.setDriveState d dZtw).ev (F.DRV_EVENT_ZTW d)).gatesOff d
    else s)

/-- ZTW_CLOSE: OFF, and a START or a torque request that was held proceeds from there. -/
def ztwClose (d : DriveIx) (vdc : Word) (s : State) : State :=
  s.onDie (fun s =>
    let s := s.settleDrive d
    if s.driveState d = dZtw then
      let t := (s.windowEnds d).setDriveState d dOff
      if (s.drive d).trqHeld then t.startFromOff d (s.drive d).want vdc else t
    else s)

def brakeTimeout (d : DriveIx) (s : State) : State :=
  s.onDie (fun s =>
    let s := (s.settleDrive d).rowsFirst d
    if s.driveState d = dBrake then (s.drvLast d 0x09).easy d 2 else s)

def brakeToStart (d : DriveIx) (s : State) : State :=
  s.onDie (fun s =>
    let s := s.settleDrive d
    if s.driveState d = dBrake then (s.setDriveState d dStart).applyTorque d else s)

def shareLim (d : DriveIx) (s : State) : State :=
  s.onDie (fun s => if s.on (F.DRV_PSTAT_SHARE_LIM d) then s.ev (F.DRV_EVENT_SHARE_LIM d) else s)

/-- STANDSTILL: a speed below 0.5 Hz from a qualified source has persisted for 50 ms. A calibration queued for
standstill becomes due (R161). -/
def standstill (d : DriveIx) (s : State) : State :=
  s.onDie (fun s =>
    let f := flAbs (fval (s.rd (R.DRV_SPEED d)))
    if s.fld (F.DRV_PSTAT_SRC d) ≠ 3 ∧ flLt (flScale 2 f) (flInt 1) = true then s.set (F.DRV_STATE_STANDSTILL d) 1 else s)

/-! ### Torque monitoring (R293, R414) -/

/-- Delivered torque of one winding set: 1.5 × p × (ψf × iq + (Ld - Lq) × id × iq). -/
def setTorque (x : Word × Word × Word × Word × Word × Word) : FV :=
  let (id, iq, p, psi, ld, lq) := x
  let diff := fsub (fin ld) (fin lq)
  let t := fadd (fmul (fin psi) (fin iq)) (fmul (fmul diff (fin id)) (fin iq))
  fmul (fmul ⟨0x3FC00000#32, 0⟩ (fin p)) t

/-- |DRV_TQ - DRV_TREF| > ABS × DRV_TMAX / 200 + REL × |DRV_TREF| (R414). -/
def State.torqueDeviates (s : State) (d : Nat) : Bool :=
  let tq := fval (s.rd (R.DRV_TQ d))
  let tref := fval (s.rd (R.DRV_TREF d))
  let diff := flAbs (flAdd tq (flNeg tref))
  -- both sides times 200 × 256
  let rhs := flAdd (flScale (256 * s.fld F.UMP_TQ_ABS) (fval (s.rd (R.DRV_TMAX d)))) (flScale (200 * s.fld F.UMP_TQ_REL) (flAbs tref))
  flLt rhs (flScale 51200 diff)

/-- The snapshots of the LIVE plan's SNAPSHOT entries that TRQ_EST has sent, each with its entry's body. -/
def State.snapshots (s : State) : List (List Nat × List Word) :=
  s.fab.snap.filterMap (fun (b, _, ws) => match (s.live.bind[b]? : Option Bind) with | some (.snapshot body) => some (body, ws) | _ => none)

/-- TORQUE_SNAPSHOT: COX0 processes the latest snapshot. It writes DRV_TQ and DRV_SPEED, and its verdict and alive count go out in the
TQ slot. -/
def torqueSnapshot (d : DriveIx) (s : State) : State :=
  s.onDie (fun s =>
    if s.snapshots.isEmpty then s
    else
      let speed := Config.snapshotSpeed d s.snapshots
      let tq := (Config.snapshotSets d s.snapshots).foldl (fun a x => fadd a (setTorque x)) fzero
      let t := (s.wr (R.DRV_TQ d) tq.w).wr (R.DRV_SPEED d) speed
      let t := if flLe (flInt 1) (flAbs (fval speed)) then t.set (F.DRV_STATE_STANDSTILL d) 0 else t
      let t := t.when (t.judged d) (fun t =>
        t.modDrive d (fun x => { x with verdict := if x.verdict = 2 ∧ t.torqueDeviates d = true then 2 else 1 }))
      { t with checks := { t.checks with alive := (t.checks.alive + 1) % 256 } })

/-- TQ_DEV: a deviation has persisted for T ms. -/
def tqDev (d : DriveIx) (s : State) : State :=
  s.onDie (fun s =>
    if s.torqueDeviates d then
      ((s.protReq d none).drvLast d 0x0C).modDrive d (fun x => { x with verdict := 2 })
    else s)

def execDrvStart (d : DriveIx) (vdc te : Word) (s : State) : Host.Outcome State Fault Refusal :=
  .next (drvStart d vdc te s)
def execDrvStop (d : DriveIx) (te : Word) (s : State) : Host.Outcome State Fault Refusal := .next (drvStop d te s)
def execCatchSpinEnd (u : UnitIx) (vdc tc te : Word) (sets : List SpinSet) (s : State) :
    Host.Outcome State Fault Refusal := .next (catchSpinEnd u vdc tc te sets s)
def execStartToRun (d : DriveIx) (s : State) : Host.Outcome State Fault Refusal := .next (startToRun d s)
def execReacqEntry (d : DriveIx) (s : State) : Host.Outcome State Fault Refusal := .next (reacqEntry d s)
def execReacqOk (d : DriveIx) (s : State) : Host.Outcome State Fault Refusal := .next (reacqOk d s)
def execReacqTimeout (d : DriveIx) (s : State) : Host.Outcome State Fault Refusal := .next (reacqTimeout d s)
def execEasyAllComplete (u : UnitIx) (s : State) : Host.Outcome State Fault Refusal := .next (easyAllComplete u s)
def execEasyTimeout (d : DriveIx) (s : State) : Host.Outcome State Fault Refusal := .next (easyTimeout d s)
def execZeroToOff (d : DriveIx) (s : State) : Host.Outcome State Fault Refusal := .next (zeroToOff d s)
def execZtwOpen (d : DriveIx) (vdc : Word) (s : State) : Host.Outcome State Fault Refusal := .next (ztwOpen d vdc s)
def execZtwClose (d : DriveIx) (vdc : Word) (s : State) : Host.Outcome State Fault Refusal :=
  .next (ztwClose d vdc s)
def execBrakeTimeout (d : DriveIx) (s : State) : Host.Outcome State Fault Refusal := .next (brakeTimeout d s)
def execBrakeToStart (d : DriveIx) (s : State) : Host.Outcome State Fault Refusal := .next (brakeToStart d s)
def execShareLim (d : DriveIx) (s : State) : Host.Outcome State Fault Refusal := .next (shareLim d s)
def execStandstill (d : DriveIx) (s : State) : Host.Outcome State Fault Refusal := .next (standstill d s)
def execTorqueSnapshot (d : DriveIx) (s : State) : Host.Outcome State Fault Refusal := .next (torqueSnapshot d s)
def execTqDev (d : DriveIx) (s : State) : Host.Outcome State Fault Refusal := .next (tqDev d s)

end Sys2Proof.Machine
end

