-- ==== Sys2Proof/Machine/Thermal.lean ====
section
/-! DEFINITION. Die sensors, thermal flags, derating and thermal shutdown (17_thermal.md R440 to R444). -/

namespace Sys2Proof.Machine

/-- Sensors of a die: 0 to 11 on the control die, 12 to 15 on the safety die (R449). -/
def dieSensors (safety : Bool) : List Nat := if safety then [12, 13, 14, 15] else List.range 12

/-- An integer in its place of a rising list. -/
def insertInt (x : Int) : List Int → List Int
  | [] => [x]
  | y :: l => if x ≤ y then x :: y :: l else y :: insertInt x l

/-- Twice the median; the mean of the middle two for an even count. -/
def median2 (l : List Int) : Option Int :=
  let s := l.foldl (fun a x => insertInt x a) []
  let n := s.length
  if n = 0 then none
  else if n % 2 = 1 then some (2 * s.getD (n / 2) 0) else some (s.getD (n / 2 - 1) 0 + s.getD (n / 2) 0)

def State.sensor (s : State) (i : Nat) : Int := s.ifld (F.THRM_RO_T i)
def State.excluded (s : State) (i : Nat) : Bool := s.on (F.THRM_RO_EXCL i)

/-- One sensor against the median of its die (R441). -/
def State.screen (s : State) (med : Option Int) (i : Nat) : State :=
  match med with
  | none => s
  | some m =>
    let d := (2 * s.sensor i - m).natAbs
    if s.excluded i then
      let n := if d ≤ 160 then s.therm.near.get i + 1 else 0
      let t : State := { s with therm := { s.therm with near := s.therm.near.set i (if 64 ≤ n then 0 else n), far := s.therm.far.set i 0 } }
      if 64 ≤ n then t.set (F.THRM_RO_EXCL i) 0 else t
    else
      let n := if 320 < d then s.therm.far.get i + 1 else 0
      let t : State := { s with therm := { s.therm with far := s.therm.far.set i (if 16 ≤ n then 0 else n), near := s.therm.near.set i 0 } }
      if 16 ≤ n then (t.set (F.THRM_RO_EXCL i) 1).ev F.THRM_EVENT_SENS_FAULT else t

/-- Every sensor of a die. -/
def State.screenDie (s : State) (safety : Bool) : State :=
  let l := dieSensors safety
  let med := median2 ((l.filter (fun i => !s.excluded i)).map s.sensor)
  s.each l (fun i t => t.screen med i)

/-- Hottest sensor of the control die that is not excluded, or hottest value that the safety die reports (R441). -/
def State.hottest (s : State) (safety : Bool) : Option Int :=
  match ((dieSensors safety).filter (fun i => safety || !s.excluded i)).map s.sensor with
  | t :: l => some (l.foldl max t)
  | [] => none

/-- A flag with its persistence of four samples (R442): the new flag and the state. -/
def State.thermFlag (s : State) (k : Nat) (was rise fall : Bool) : Bool × State :=
  let n := if (if was then fall else rise) then s.therm.count.get k + 1 else 0
  let t : State := { s with therm := { s.therm with count := s.therm.count.set k (if 4 ≤ n then 0 else n) } }
  (if 4 ≤ n then !was else was, t)

/-- The safe state of every unit of a list that holds none yet. -/
def State.reqUnits (s : State) (l : List Nat) : State :=
  s.each l (fun u t => if t.live.bound u && t.protPattern u == patNone then t.protReq u none else t)

/-- SHUTDOWN asserts (R444): easy-all on every instance; the grace starts, and runs from this assertion whether or not SHUTDOWN stays. -/
def State.shutdown (s : State) (code : Nat) : State :=
  let t := ((s.ev F.THRM_EVENT_SHUTDOWN).set F.THRM_LAST_CODE code).set F.THRM_LAST_CATCH s.stamp
  ({ t with therm := { t.therm with grace := true } } : State).easyAll 4

/-- The safe state of every running unit at once (R444). -/
def State.sdHard (s : State) : State :=
  (s.ev F.THRM_EVENT_SD_HARD).reqUnits ((List.range 4).filter s.unitOn)

/-- The derating factor (R443): kth = clamp(256 - rne((tdie - 2400) × dslope / 16), kmin, 256) under THROTTLE, else 256. -/
def State.derate (s : State) : State :=
  let tdie := max (s.ifld F.THRM_DIE_TCD) (s.ifld F.THRM_DIE_TSD)
  let k := if s.on F.THRM_STATUS_THROTTLE then
      clampI (256 - rneDivPow ((tdie - 2400) * s.fld F.THRM_CFG_DSLOPE) 4) (s.fld F.THRM_CFG_KMIN) 256
    else 256
  ((s.set F.THRM_DERATE_KTH k.toNat).applyTorque 0).applyTorque 1

/-- The four flags of a sample at `tdie`; `lost` is DIE_SENSE. -/
def State.thermFlags (s : State) (tdie : Int) (lost : Bool) : State :=
  let step := fun (s : State) (k : Nat) (was : Bool) (up dn : Int) =>
    s.thermFlag k was (decide (up ≤ tdie)) (decide (tdie ≤ dn) && !(lost && decide (2 ≤ k)))
  let w0 := s.on F.THRM_STATUS_WARN
  let (w, s) := step s 0 w0 2240 2160
  let s := (s.set F.THRM_STATUS_WARN (if w then 1 else 0)).when (w && !w0) (fun s =>
    (s.ev F.THRM_EVENT_WARN).hostEvent 0x0005 4 (s.rd R.THRM_DIE).toNat)
  let t0 := s.on F.THRM_STATUS_THROTTLE
  let (t, s) := step s 1 t0 2400 2320
  let s := (s.set F.THRM_STATUS_THROTTLE (if t then 1 else 0)).when (t && !t0) (fun s => s.ev F.THRM_EVENT_THROTTLE)
  let s := s.when (!t && t0) State.derate
  let d0 := s.on F.THRM_STATUS_SHUTDOWN
  let (d, s) := step s 2 d0 2528 2448
  let d := d || lost
  let s := (s.set F.THRM_STATUS_SHUTDOWN (if d then 1 else 0)).when (d && !d0) (fun s => s.shutdown (if lost then 0x02 else 0x01))
  let h0 := s.therm.hard
  let (h, s) := step s 3 h0 2560 2480
  let h := h || lost
  let s : State := { s with therm := { s.therm with hard := h } }
  let s := s.when (h && !h0) State.sdHard
  s.when h (fun s => s.reqUnits (List.range 4))

/-- DIE_SENSOR_SAMPLE, each 100 µs: the twelve readings of the control die, and the four of the safety die if they have arrived
since the last sample (R440, R441). -/
def dieSensorSample (control : List (BitVec 16)) (safety : Option (List (BitVec 16))) (s : State) : State :=
  s.onDie (fun s =>
    let put := fun (s : State) (first : Nat) (l : List (BitVec 16)) =>
      s.each ((List.range (if first = 0 then 12 else 4)).zip l) (fun e t => t.set (F.THRM_RO_T (first + e.1)) e.2.toNat)
    let s := (put s 0 control).screenDie false
    let s := match safety with
      | some l =>
        let t := (put s 12 l).screenDie true
        let t := match t.hottest true with | some x => t.iset F.THRM_DIE_TSD x | none => t
        { t with therm := { t.therm with age := 0 } }
      | none => { s with therm := { s.therm with age := min 10 (s.therm.age + 1) } }
    let s := match s.hottest false with | some t => s.iset F.THRM_DIE_TCD t | none => s
    let lost := s.therm.age == 10 || decide (((dieSensors false).filter (fun i => !s.excluded i)).length < 4)
    let s := s.set F.THRM_STATUS_DIE_SENSE (if lost then 1 else 0)
    s.thermFlags (max (s.ifld F.THRM_DIE_TCD) (s.ifld F.THRM_DIE_TSD)) lost)

/-- SD_GRACE_EXPIRY (R444). -/
def sdGraceExpiry (s : State) : State :=
  s.onDie (fun s =>
    if s.therm.grace then ({ s with therm := { s.therm with grace := false } } : State).sdHard else s)

/-- DERATE_UPDATE. -/
def derateUpdate (s : State) : State := s.onDie State.derate

def execDieSensorSample (control : List (BitVec 16)) (safety : Option (List (BitVec 16))) (s : State) :
    Host.Outcome State Fault Refusal := .next (dieSensorSample control safety s)
def execSdGraceExpiry (s : State) : Host.Outcome State Fault Refusal := .next (sdGraceExpiry s)
def execDerateUpdate (s : State) : Host.Outcome State Fault Refusal := .next (derateUpdate s)

end Sys2Proof.Machine
end

