-- ==== Sys2Proof/Machine/Clock.lean ====
section
/-! DEFINITION. The RC oscillator, the digital PLL and the clock monitor (04_clocks.md R89 to R113). -/

namespace Sys2Proof.Machine

/-! ### RC oscillator (R106 to R109) -/

/-- Eight counts pass qualification: each within 256 ± 10, successive ones no more than 2 apart. -/
def rcQualOk (counts : List Nat) : Bool :=
  counts.length == 8 && counts.all (fun c => 246 ≤ c && c ≤ 266) &&
    (counts.zip counts.tail).all (fun p => p.1 ≤ p.2 + 2 && p.2 ≤ p.1 + 2)

/-- An attempt of start-up qualification is under way: VCSD and UREF are good and the oscillator is neither qualified nor
stopped. -/
def State.rcTrying (s : State) : Bool :=
  !s.sup.umpire && !s.sup.rcStopped && decide (s.sup.rcTries < 3) && [Rail.v5, .vcsd, .uref].all s.sup.good.contains

/-- An attempt fails; the third ends in reset-hold with CLK_START_FAIL, beside the causes of the same cycle (R79, R106, R107). -/
def State.rcTryFail (s : State) (same : List ResetCause) : State :=
  let p := s.sup
  if p.rcTries = 2 then ({ s with sup := { p with rcTries := 3, rcStopped := true } } : State).causes .clkStart same
  else ({ s with sup := { p with rcTries := p.rcTries + 1, rcStopped := true } } : State).beside same

/-- RC_QUALIFICATION: the umpire starts, or the attempt has failed (R106, R107). -/
def rcQualification (counts : List Nat) (same : List ResetCause) (s : State) : State :=
  if s.rcTrying then
    if rcQualOk counts then
      ({ s with sup := { s.sup with umpire := true, umpTest := false, gateTest := false, rcFailed := false, rcTries := 0 }
                ump := { s.ump with rcQual := s.sup.rcTries + 1 } } : State).beside same
    else s.rcTryFail same
  else s.beside same

/-- RC_RETRY: the 1.0 ms stop has passed. -/
def rcRetry (s : State) : State :=
  if s.sup.rcStopped && s.sup.rcTries < 3 then { s with sup := { s.sup with rcStopped := false } } else s

/-- An RC failure (R108): all gates off, contactors open and their sequence in OPEN (R411), the control die held with
UMPIRE 0x47, and the umpire again at step 3 of R73. A device in reset-hold stays there. Of the causes of the same cycle the
one that goes before the others is recorded (R79). -/
def State.rcFail (s : State) (same : List ResetCause) : State :=
  let c := ResetCause.umpire 0x47
  let w := causeFirst c same
  let t := s.overrides true 15
  let t := if resetScope w = 2 then t.causes w (c :: same)
    else
      let t := same.foldl State.causeLatch t
      if s.running then t.dieReset (resetCode w) (resetDetail w) (causeAlso w c same)
      else { t with sup := { (t.sup.log (resetCode w) (resetDetail w) (causeAlso w c same)) with die := s.sup.die } }
  let t := (t.set F.UMP_CTRSTAT_CMDED 0).ctrToOpen
  { t with sup := { t.sup with umpire := false, rcTries := 0, rcStopped := false, rcFailed := true } }

/-- RC_LADDER_CHECK: a 16 µs window ends, which is also the umpire's time (log entry 8). A window out of its limits while an
attempt of qualification runs fails the attempt (R107). -/
def rcLadderCheck (count : Nat) (same : List ResetCause) (s : State) : State :=
  if s.sup.umpire then
    if 240 ≤ count ∧ count ≤ 272 then ({ s with ump := { s.ump with windows := s.ump.windows + 1 } } : State).beside same
    else s.rcFail same
  else if s.rcTrying && !(246 ≤ count && count ≤ 266) then s.rcTryFail same
  else s.beside same

/-- RC_EDGE_LOSS: an RC failure, or a failed attempt (R107, R108). -/
def rcEdgeLoss (same : List ResetCause) (s : State) : State :=
  if s.sup.umpire then s.rcFail same else if s.rcTrying then s.rcTryFail same else s.beside same

/-- RC_TRIM_STEP: only while LOCKED, one step of 0.05 % towards 16 MHz, never beyond ±1.5 % of the fused point. Whether
an error below one step still moves the trim is a free choice (log entry 1); TRIM_RANGE clears at the next step that does not ask
to leave the range (log entry 88). -/
def rcTrimStep (errPpm : Int) (s : State) : State :=
  s.onDie (fun s =>
    if s.fld F.PLL_STATUS_STATE ≠ 4 then s
    else
      let (go, s) := if errPpm = 0 then (false, s) else if 500 ≤ errPpm.natAbs then (true, s) else s.freshBool
      let want := if errPpm < 0 then s.ump.trim + 1 else s.ump.trim - 1
      let past := go && decide (30 < want.natAbs)
      let run := if errPpm.natAbs ≤ 2500 then s.ump.trimRun + 1 else 0
      let ok := if errPpm.natAbs ≤ 2500 ∧ 16 ≤ run then true else if 5000 < errPpm.natAbs then false else s.ump.trimOk
      let t : State := { s with ump := { s.ump with trim := if go && !past then want else s.ump.trim, trimRun := min run 16,
                                                    trimOk := ok, trimRange := past } }
      let t := if past && !s.ump.trimRange then t.ev F.CLK_EVENT_TRIM_RANGE else t
      t.mirrorTrim)

/-! ### Lock attempts (R91 to R99) -/

def pFree := 0
def pSearch := 1
def pAcquire := 2
def pTrack := 3
def pLocked := 4
def pCoast := 5

def State.pllState (s : State) : Nat := s.fld F.PLL_STATUS_STATE
def State.setPll (s : State) (st : Nat) : State := s.set F.PLL_STATUS_STATE st

/-- An attempt is under way. -/
def State.attempting (s : State) : Bool := 1 ≤ s.pllState && s.pllState ≤ 3

/-- Accessors of PLL_LOCK and PLL_COAST (R105). -/
def State.lockWin (s : State) : Nat := max 1 (s.fld F.PLL_LOCK_WIN)
def State.lockCycles (s : State) : Nat := min 4096 (max 16 (s.fld F.PLL_LOCK_CYCLES))
def State.coastMax (s : State) : Nat := min 10000 (max 1 (s.fld F.PLL_COAST_MAX))

/-- The source a new attempt takes, coded as REF_SEL; `none` without a reference (R91, R92). -/
def State.refSource (s : State) (refp : Bool) : Option Nat :=
  match s.fld F.PLL_CTRL_REF_SEL with
  | 0 => if refp then some 1 else s.pll.lanes.head?.map (fun r => 2 + r)
  | 1 => if refp then some 1 else none
  | k => if s.pll.lanes.contains (k - 2) then some k else none

/-- The band in use is again the fused one. -/
def State.freeBand (s : State) : State := s.wr R.PLL_BAND (resetWord R.PLL_BAND)

/-- LOCK_ATTEMPT (R95): the settings in force are those of its start (R103). -/
def lockAttempt (refp : Bool) (refHz : Nat) (s : State) : State :=
  s.onDie (fun s =>
    if s.pllState ≠ pFree then s
    else match s.refSource refp with
      | none => s
      | some src =>
        let t := ((s.setPll pSearch).set F.PLL_STATUS_SRC src).bump F.PLL_STATUS_ATTEMPTS
        let t := t.set F.PLL_BAND_BAND 32
        { t with pll := { t.pll with n := if src = 1 then t.fld F.PLL_DIV_N else 160, win := t.lockWin,
                                     cycles := t.lockCycles, standby := t.on F.PLL_CTRL_STANDBY_EN, refHz := refHz, step := 1,
                                     kept := none, shift := 0, integ := 0 } })

/-- A failed attempt returns to FREE (R98). -/
def State.attemptFail (s : State) (code : Nat) : State :=
  (((s.setPll pFree).set F.PLL_STATUS_FAIL code).ev F.CLK_EVENT_ATTEMPT_FAIL).freeBand

/-- The selected source no longer has its reference: a ring lane no longer holds character lock (R92). -/
def State.dropLane (s : State) : State :=
  let src := s.fld F.PLL_STATUS_SRC
  if 2 ≤ src then { s with pll := { s.pll with lanes := s.pll.lanes.filter (fun r => r != src - 2) } } else s

/-- An event of an attempt in state `st`: with the reference lost in the same cycle the attempt fails with NO_REF, whatever else
holds (R98, R103). -/
def State.inAttempt (s : State) (st : Nat) (lost : Bool) (f : State → State) : State :=
  if s.pllState ≠ st then s
  else if lost then ((s.dropLane).ev F.CLK_EVENT_REF_LOSS).attemptFail 0x01
  else f s

/-- K × N (R97). -/
def State.targetCount (s : State) : Nat := 2 * s.pll.refHz / 1000000 * s.pll.n

/-- BAND_SEARCH_STEP (R97): the trial bit is kept if the count is below the target; after step 6 the count at the band
found, or at band 63 if every bit was dropped, is judged (R98). -/
def bandSearchStep (count count63 : Nat) (lost : Bool) (s : State) : State :=
  s.onDie (fun s => s.inAttempt pSearch lost (fun s =>
    let i := s.pll.step
    let trial := s.fld F.PLL_BAND_BAND
    let keep := decide (count < s.targetCount)
    let band := if keep then trial else trial - 2 ^ (6 - i)
    let kept := if keep then some count else s.pll.kept
    if i < 6 then
      { (s.set F.PLL_BAND_BAND (band + 2 ^ (5 - i))) with pll := { s.pll with step := i + 1, kept := kept } }
    else
      let c := kept.getD count63
      let d := max c s.targetCount - min c s.targetCount
      if s.targetCount < 100 * d then s.attemptFail 0x02
      else
        let t := ((s.set F.PLL_BAND_BAND band).set F.PLL_BAND_FINE 8192).setPll pAcquire
        { t with pll := { t.pll with kept := kept, integ := 0 } }))

/-- A phase error as the loop sees it, with the offset of a switched source subtracted (R104). -/
def State.shifted (s : State) (err : BitVec 16) : Int := clampI (err.toInt - s.pll.shift) (-32768) 32767

/-- Shifts of the gear that a state runs in (R93, R94). -/
def State.kpShift (s : State) : Nat := s.fld (if s.pllState = pAcquire then F.PLL_LF_ACQ_KP_SH else F.PLL_LF_TRK_KP_SH)
def State.kiShift (s : State) : Nat := s.fld (if s.pllState = pAcquire then F.PLL_LF_ACQ_KI_SH else F.PLL_LF_TRK_KI_SH)

/-- One reference cycle of the closed loop (R93): the phase error enters the proportional-integral filter, whose integral is kept
in units of 2^-15, and the fine word follows about its mid value, within its 14 bits. The sense of the control and the rounding
of the word are open (log entry 24). -/
def State.loopCycle (s : State) (err : BitVec 16) : State :=
  let e := s.shifted err
  let integ := s.pll.integ + e * 2 ^ (15 - s.kiShift)
  let y := integ + e * 2 ^ (15 - s.kpShift)
  let y := if Config.loopRaises then y else -y
  let (up, s) := if y % 2 ^ 15 = 0 then (false, s) else s.freshBool
  let word := clampI (8192 + y / 2 ^ 15 + (if up then 1 else 0)) 0 16383
  let t := ({ s with pll := { s.pll with integ := integ } } : State).set F.PLL_BAND_FINE word.toNat
  let t := t.iset F.PLL_PHERR_ERR e
  if t.fld F.PLL_PHERR_PEAK < e.natAbs then t.set F.PLL_PHERR_PEAK e.natAbs else t

/-- The phase errors of consecutive reference cycles, the oldest first. -/
def State.loopCycles (s : State) (errs : List (BitVec 16)) : State := errs.foldl State.loopCycle s

/-- How many of the errors pass before `n` consecutive ones have stayed within `win`, `run` of them so far; none if they never do. -/
def firstRun (win n : Nat) : Nat → List Int → Option Nat
  | _, [] => none
  | run, e :: l => if e.natAbs ≤ win then (if n ≤ run + 1 then some 1 else (firstRun win n (run + 1) l).map (fun k => k + 1))
    else (firstRun win n 0 l).map (fun k => k + 1)

/-- The errors since the state was entered bring their first run of `n` within WIN exactly now. -/
def State.runEnds (s : State) (n : Nat) (errs : List (BitVec 16)) : Bool :=
  firstRun s.pll.win n 0 (errs.map s.shifted) == some errs.length

/-- No run of `n` within WIN stands in the errors. -/
def State.noRun (s : State) (n : Nat) (errs : List (BitVec 16)) : Bool := (firstRun s.pll.win n 0 (errs.map s.shifted)).isNone

/-- ACQUIRE_DONE (R98): `errs` are the phase errors since ACQUIRE began. -/
def acquireDone (errs : List (BitVec 16)) (lost : Bool) (s : State) : State :=
  s.onDie (fun s => s.inAttempt pAcquire lost (fun s => if s.runEnds 16 errs then (s.loopCycles errs).setPll pTrack else s))

/-- ACQ_TIMEOUT (R98), 100 µs after the end of SEARCH. -/
def acqTimeout (errs : List (BitVec 16)) (lost : Bool) (s : State) : State :=
  s.onDie (fun s => s.inAttempt pAcquire lost (fun s => if s.noRun 16 errs then (s.loopCycles errs).attemptFail 0x03 else s))

/-- LOCK_TIMEOUT (R98): 4 × CYCLES reference cycles since TRACK was entered. -/
def lockTimeout (errs : List (BitVec 16)) (lost : Bool) (s : State) : State :=
  s.onDie (fun s => s.inAttempt pTrack lost (fun s =>
    if errs.length = 4 * s.pll.cycles ∧ s.noRun s.pll.cycles errs = true then (s.loopCycles errs).attemptFail 0x04 else s))

/-- The other ring's receive lane holds character lock beside the ring lane that the PLL follows (R104). -/
def State.otherLane (s : State) : Bool :=
  decide (2 ≤ s.fld F.PLL_STATUS_SRC) && s.pll.lanes.contains (3 - s.fld F.PLL_STATUS_SRC)

/-- The standby lane's phase offset is being recorded (R104). -/
def State.standbyOn (s : State) (offset : Int) : State :=
  ({ s with pll := { s.pll with offset := offset } } : State).set F.PLL_STATUS_STANDBY_OK 1

/-- LOCKED (R99): the phase error has stayed within WIN for CYCLES consecutive cycles of TRACK; `offset` is the standby lane's
phase offset, where that lane holds character lock (R104). The umpire takes over the coast limit and has yet to latch C (R102,
R110); catch generation may start (R121), a crew member's with its first marker (R495). -/
def locked (errs : List (BitVec 16)) (lost : Bool) (tick : Nat) (offset : Int) (s : State) : State :=
  s.onDie (fun s => s.inAttempt pTrack lost (fun s =>
    if s.runEnds s.pll.cycles errs then
      let t := ((s.loopCycles errs).set F.PLL_PHERR_PEAK 0).setPll pLocked
      let t := (t.ev F.CLK_EVENT_LOCKED).set F.CLK_MON_C 0
      let t : State := { t with pll := { t.pll with lolWin := t.lockWin, coastMax := t.coastMax } }
      let t := if t.pll.standby && t.otherLane then t.standbyOn offset else t
      if t.cat.waitLock then
        { t.when (!(t.cascaded && t.fld F.PLL_STATUS_SRC != 1)) (fun t => t.set F.CATCH_CTRL_RUN 1) with
            cat := { t.cat with waitLock := false, next := tick } }
      else t
    else s))

/-- DIVIDER_CHANGE (R96). -/
def dividerChange (s : State) : State := s.onDie (fun s => s.set F.CLK_ISLANDS_HALF (if s.attempting then 1 else 0))

/-! ### Loss of the reference, of lock, and coasting (R101 to R104) -/

/-- The rounded mean of fine words; which way half a step rounds is open (log entry 1). -/
def State.meanFine (s : State) (fines : List (BitVec 14)) : Nat × State :=
  let n := max 1 fines.length
  let sum := (fines.map (fun f => f.toNat)).sum
  let r := 2 * (sum % n)
  if r = n then let (up, t) := s.freshBool; (sum / n + (if up then 1 else 0), t)
  else (sum / n + (if n < r then 1 else 0), s)

/-- Entry to COAST: the fine word is frozen at the rounded mean of the words of 64 reference cycles, and COX0 starts easy-all for
clock faults (R101, R102). STANDBY_OK stays as it was (log entry 119). -/
def State.coast (s : State) (fines : List (BitVec 14)) : State :=
  let (fine, s) := s.meanFine fines
  let t := ((s.setPll pCoast).ev F.CLK_EVENT_COAST).set F.PLL_BAND_FINE fine
  (t.hostEvent 0x0001 4 (t.rd R.PLL_STATUS).toNat).easyAll 5

/-- The selected reference is lost. A recorded standby lane takes over without a lock attempt: its offset, in place of any shift of an
earlier switch, is subtracted from every later phase error (log entry 119), and the lane given up is the standby lane from then on
where it still holds character lock, as after a loss of SRCOK (R482); the offset recorded of it is a free value (R104). -/
def State.refLost (s : State) (fines : List (BitVec 14)) : State :=
  if s.attempting then (s.ev F.CLK_EVENT_REF_LOSS).attemptFail 0x01
  else if s.pllState = pLocked then
    let t := s.ev F.CLK_EVENT_REF_LOSS
    if 2 ≤ s.fld F.PLL_STATUS_SRC ∧ s.on F.PLL_STATUS_STANDBY_OK = true then
      let t := ((t.set F.PLL_STATUS_SRC (5 - s.fld F.PLL_STATUS_SRC)).ev F.CLK_EVENT_REF_SWITCH).set F.PLL_STATUS_STANDBY_OK 0
      let t : State := { t with pll := { t.pll with shift := s.pll.offset } }
      if t.pll.standby && t.otherLane then let (x, t) := t.fresh 16; t.standbyOn (x.setWidth 16).toInt else t
    else t.coast fines
  else s

/-- REF_LOSS (R92). A lost ring lane no longer holds character lock. -/
def refLoss (fines : List (BitVec 14)) (s : State) : State :=
  s.onDie (fun s => (if s.attempting || s.pllState == pLocked then s.dropLane else s).refLost fines)

/-- LOL (R101): four consecutive phase errors beyond 2 × WIN. -/
def lol (errs : List (BitVec 16)) (fines : List (BitVec 14)) (s : State) : State :=
  s.onDie (fun s =>
    if s.pllState = pLocked ∧ errs.length = 4 ∧ errs.all (fun e => 2 * s.pll.lolWin < (s.shifted e).natAbs) = true then
      ((s.loopCycles errs).ev F.CLK_EVENT_LOL).coast fines
    else s)

/-- A lane holds, or no longer holds, character lock (R91, R92, R104). With `same` the other ring's lane has reached it in the same
reference cycle, and ring 0 goes first. -/
def State.laneLock (s : State) (r : Nat) (offset : Int) (same : Bool) : State :=
  let rest := s.pll.lanes.filter (fun x => x != r)
  let lanes := if s.pll.lanes.contains r then s.pll.lanes else if same && r == 0 then r :: rest else rest ++ [r]
  let t : State := { s with pll := { s.pll with lanes := lanes } }
  if t.pll.standby && t.pllState == pLocked && t.otherLane && t.fld F.PLL_STATUS_SRC != 2 + r then t.standbyOn offset else t

def State.laneUnlock (s : State) (r : Nat) (fines : List (BitVec 14)) : State :=
  let t : State := { s with pll := { s.pll with lanes := s.pll.lanes.filter (fun x => x != r) } }
  if t.fld F.PLL_STATUS_SRC = 2 + r then t.refLost fines else t.set F.PLL_STATUS_STANDBY_OK 0

/-! ### Clock monitor (R110, R111) -/

/-- A clock-monitor condition: the control die is declared failed, DETAIL 0x40 plus its number. -/
def State.monitorFail (s : State) (n : Fin 8) (same : List ResetCause) : State :=
  s.declareFailed (Fin.ofNat 256 (0x40 + n)) same

def coastExpired (same : List ResetCause) (s : State) : State :=
  s.onDie (fun s => if s.pllState = pCoast then s.monitorFail 5 same else s.beside same)
def tapStop (same : List ResetCause) (s : State) : State := s.onUmp (fun s => s.monitorFail 1 same)

def fastHigh (count : Nat) (same : List ResetCause) (s : State) : State :=
  s.onDie (fun s => if (if s.attempting then 41 else 36) < count then s.monitorFail 2 same else s.beside same)

/-- MONITOR_WINDOW: `full` when the whole window lies after the LOCKED declaration. In LOCKED no limit judges a window before C is
latched (log entry 89). -/
def monitorWindow (count : BitVec 9) (full : Bool) (same : List ResetCause) (s : State) : State :=
  s.onDie (fun s =>
    let n := count.toNat
    let s := s.set F.CLK_MON_COUNT n
    let c := s.fld F.CLK_MON_C
    let st := s.pllState
    let limits := fun (hi lo : Nat) => if hi < n then s.monitorFail 3 same else if n < lo then s.monitorFail 4 same else s.beside same
    if st = pFree then limits 243 207
    else if s.attempting then limits 288 207
    else if c = 0 then
      if st = pCoast then limits 288 207
      else if full then (if 221 ≤ n ∧ n ≤ 254 then (s.set F.CLK_MON_C n).beside same else s.monitorFail 6 same)
      else s.beside same
    else if 103 * c < 100 * n then s.monitorFail 3 same
    else if 100 * n < 97 * c then s.monitorFail 4 same
    else s.beside same)

def execRcQualification (counts : List Nat) (same : List ResetCause) (s : State) : Host.Outcome State Fault Refusal :=
  .next (rcQualification counts same s)
def execRcRetry (s : State) : Host.Outcome State Fault Refusal := .next (rcRetry s)
def execRcLadderCheck (count : Nat) (same : List ResetCause) (s : State) : Host.Outcome State Fault Refusal :=
  .next (rcLadderCheck count same s)
def execRcEdgeLoss (same : List ResetCause) (s : State) : Host.Outcome State Fault Refusal := .next (rcEdgeLoss same s)
def execRcTrimStep (errPpm : Int) (s : State) : Host.Outcome State Fault Refusal := .next (rcTrimStep errPpm s)
def execLockAttempt (refp : Bool) (refHz : Nat) (s : State) : Host.Outcome State Fault Refusal := .next (lockAttempt refp refHz s)
def execBandSearchStep (count count63 : Nat) (lost : Bool) (s : State) : Host.Outcome State Fault Refusal :=
  .next (bandSearchStep count count63 lost s)
def execAcquireDone (errs : List (BitVec 16)) (lost : Bool) (s : State) : Host.Outcome State Fault Refusal :=
  .next (acquireDone errs lost s)
def execAcqTimeout (errs : List (BitVec 16)) (lost : Bool) (s : State) : Host.Outcome State Fault Refusal :=
  .next (acqTimeout errs lost s)
def execLockTimeout (errs : List (BitVec 16)) (lost : Bool) (s : State) : Host.Outcome State Fault Refusal :=
  .next (lockTimeout errs lost s)
def execDividerChange (s : State) : Host.Outcome State Fault Refusal := .next (dividerChange s)
def execRefLoss (fines : List (BitVec 14)) (s : State) : Host.Outcome State Fault Refusal := .next (refLoss fines s)
def execLol (errs : List (BitVec 16)) (fines : List (BitVec 14)) (s : State) : Host.Outcome State Fault Refusal :=
  .next (lol errs fines s)
def execCoastExpired (same : List ResetCause) (s : State) : Host.Outcome State Fault Refusal := .next (coastExpired same s)
def execTapStop (same : List ResetCause) (s : State) : Host.Outcome State Fault Refusal := .next (tapStop same s)
def execFastHigh (count : Nat) (same : List ResetCause) (s : State) : Host.Outcome State Fault Refusal :=
  .next (fastHigh count same s)
def execMonitorWindow (count : BitVec 9) (full : Bool) (same : List ResetCause) (s : State) : Host.Outcome State Fault Refusal :=
  .next (monitorWindow count full same s)

end Sys2Proof.Machine
end

