-- ==== Sys2Proof/Machine/Pos.lean ====
section
/-! DEFINITION. Position and speed feedback: incremental encoders, Hall sets and serial sensors
(13_position_feedback.md). A tick is 4 ns, the PWM-island tick at 4.0 GHz (R117). -/

namespace Sys2Proof.Machine

def State.enc (s : State) (x : Nat) : Enc := mapGet (fun _ => Enc.init) s.pos.enc x
def State.setEnc (s : State) (x : Nat) (e : Enc) : State :=
  { s with pos := { s.pos with enc := mapPut (fun _ => Enc.init) s.pos.enc x e } }
def State.hall (s : State) (x : Nat) : Hall := mapGet (fun _ => Hall.init) s.pos.hall x
def State.setHall (s : State) (x : Nat) (h : Hall) : State :=
  { s with pos := { s.pos with hall := mapPut (fun _ => Hall.init) s.pos.hall x h } }
def State.ser (s : State) (x : Nat) : Ser := mapGet (fun _ => Ser.init) s.pos.ser x
def State.setSer (s : State) (x : Nat) (e : Ser) : State :=
  { s with pos := { s.pos with ser := mapPut (fun _ => Ser.init) s.pos.ser x e } }

/-- The plan binds position source `i` (R350): 0, 1 encoders, 2, 3 Hall sets, 4, 5 serial sensors, 6, 7 resolvers. -/
def PlanInfo.hasPos (p : PlanInfo) (i : Nat) : Bool := p.bind.any (fun b => match b with | .pos j _ => j == i | _ => false)

/-- An exact quotient rounded once to binary32; +0 for a zero numerator. -/
def fquot (num : Int) (den : Nat) : Word :=
  if num = 0 ∨ den = 0 then 0
  else
    let n := num.natAbs <<< 128
    let q := n / den
    (roundFl ⟨decide (num < 0), 2 * q + (if q * den = n then 0 else 1), -129⟩).1

/-- A non-negative quotient rounded to nearest with ties to even. -/
def rneDiv (a b : Nat) : Nat :=
  let q := a / b
  let r := a % b
  if b < 2 * r ∨ (2 * r = b ∧ q % 2 = 1) then q + 1 else q

/-- The low byte of the status word (R352). -/
def posStat (qual abs coarse dir slow : Bool) (err : Nat) : Nat :=
  qual.toNat + 2 * abs.toNat + 4 * coarse.toNat + 8 * dir.toNat + 16 * slow.toNat + 32 * err

/-! ### Accepted levels (R305, R353, R357) -/

/-- The changes of an input that are accepted: each whose level lasts `need` ticks and differs from the accepted one, at its tick plus
`delay`. The input has kept the last level of the list since. -/
def acceptedEdges (need delay : Nat) : Bool → List (Nat × Bool) → List (Nat × Bool)
  | _, [] => []
  | level, (t, v) :: l =>
    let lasts := match l with | (t1, _) :: _ => decide (t + need ≤ t1) | [] => true
    if lasts && v != level then (t + delay, v) :: acceptedEdges need delay v l else acceptedEdges need delay level l

/-- An accepted change of input `k` put among those of the other inputs, by tick. -/
def insertEdge (x : Nat × Nat × Bool) : List (Nat × Nat × Bool) → List (Nat × Nat × Bool)
  | [] => [x]
  | y :: l => if x.1 < y.1 then x :: y :: l else y :: insertEdge x l

/-- Accepted changes of some inputs, each with the number of its input, in the order of their ticks. -/
def mergeEdges (ins : List (List (Nat × Bool))) : List (Nat × Nat × Bool) :=
  ins.zipIdx.foldl (fun acc e => e.1.foldl (fun acc c => insertEdge (c.1, e.2, c.2) acc) acc) []

/-! ### Incremental encoders (R353 to R356) -/

/-- The encoder's angle is absolute. -/
def Enc.abs (e : Enc) : Bool := e.src != 0

/-- The encoder is qualified (R365). -/
def State.encQual (s : State) (x : Nat) : Bool :=
  let e := s.enc x
  e.abs && !e.illegal && !(s.fld (F.ENC_CFG_ZMODE x) == 2 && e.zerr)

/-- ENC_STAT.STAT as the encoder stands. -/
def State.encStat (s : State) (x : Nat) : State :=
  let e := s.enc x
  s.set (F.ENC_STAT_STAT x) (posStat (s.encQual x) e.abs e.coarse e.rev e.slow 0)

/-- OFS in force: that of the alignment, ENC_ZOFS for an index (R355, R366). -/
def State.encOfs (s : State) (x : Nat) : Nat :=
  match (s.enc x).src with
  | 0 => 0
  | 1 => s.fld (F.ENC_ZOFS_OFS x)
  | _ => (s.enc x).ofs

/-- The angle of a count (R355); a CPT of 0, outside its range, leaves it free. -/
def State.encAngle (s : State) (x : Nat) : Word × State :=
  let e := s.enc x
  let cpt := s.fld (F.ENC_CPT_CPT x)
  if cpt = 0 then s.fresh 32
  else
    let cref := if e.abs then s.fld (F.ENC_CREF_CREF x) else 0
    let d := signed 32 ((e.c + 2 ^ 32 - cref) % 2 ^ 32)
    let n := (d % (cpt : Int)).toNat * s.fld (F.ENC_CFG_PP x) * 2 ^ 32
    (BitVec.ofNat 32 (rneDiv n cpt + s.encOfs x), s)

/-- An alignment: CREF, its source and OFS (R355). -/
def State.encAligned (s : State) (x cref src ofs : Nat) (coarse : Bool) : State :=
  let e := s.enc x
  let t := (s.setEnc x { e with src := src, ofs := ofs, coarse := coarse, illegal := false }).set (F.ENC_CREF_CREF x) cref
  (t.when (!e.abs) (fun t => t.ev (F.POS_EVENT_ENC_ALIGNED x))).encStat x

/-- An accepted step (R354); `up` is the direction that counts up with INV = 0. A step of the same tick as an index comes before it, so
that CREF takes C after the step (R367). -/
def State.encMove (s : State) (x : Nat) (up : Bool) (tick : Nat) : State :=
  let e := s.enc x
  let back := up == s.on (F.ENC_CFG_INV x)
  if back == e.rev then
    let c := if back then (e.c + 2 ^ 32 - 1) % 2 ^ 32 else (e.c + 1) % 2 ^ 32
    let t := s.setEnc x { e with c := c, step := some (c, tick) }
    t.when (e.src == 1 && e.indexCap && tick == e.indexAt) (fun t => t.set (F.ENC_CREF_CREF x) c)
  else (s.setEnc x { e with rev := back }).encStat x

/-- A sample in which A and B both change (R353). -/
def State.encIllegal (s : State) (x : Nat) : State :=
  let t := s.setEnc x { s.enc x with src := 0, illegal := true, illegalCap := true }
  ((t.bump (F.ENC_STAT_ILLEGAL x)).ev (F.POS_EVENT_ENC_ILLEGAL x)).encStat x

/-- Accepted changes of A, input 0, and B, input 1, in order. With INV = 0, A before B counts up (log entry 112). -/
def State.encEdges (s : State) (x : Nat) : List (Nat × Nat × Bool) → State
  | [] => s
  | (t, k, v) :: l =>
    let e := s.enc x
    let n := if k = 0 then { e with a := v } else { e with b := v }
    match l with
    | (t1, k1, v1) :: l1 =>
      if t1 = t then
        ((s.setEnc x (if k1 = 0 then { n with a := v1 } else { n with b := v1 })).encIllegal x).encEdges x l1
      else ((s.setEnc x n).encMove x (if k = 0 then v != e.b else v == e.a) t).encEdges x ((t1, k1, v1) :: l1)
    | [] => (s.setEnc x n).encMove x (if k = 0 then v != e.b else v == e.a) t

/-- ENC_STEP: level changes of ENCxA and ENCxB, each at its tick (R353, R354). -/
def encStep (x : Fin 2) (a b : List (Nat × Bool)) (s : State) : State :=
  s.onBlock (0x10 + x) (fun s =>
    if s.live.hasPos x then
      let f := s.fld (F.ENC_CFG_FILT x)
      s.encEdges x (mergeEdges [acceptedEdges (f + 1) f (s.enc x).a a, acceptedEdges (f + 1) f (s.enc x).b b])
    else s)

/-- A rising ENCxZ that is accepted (R355): with ZMODE 2 every index realigns; one that moves CREF by more than 2 counts is a ZERR. -/
def State.encRise (s : State) (x tick : Nat) : State :=
  let e := s.enc x
  let z := s.fld (F.ENC_CFG_ZMODE x)
  if z == 2 || (z == 1 && !e.indexSeen) then
    let cpt := max 1 (s.fld (F.ENC_CPT_CPT x))
    let d := (signed 32 ((e.c + 2 ^ 32 - s.fld (F.ENC_CREF_CREF x)) % 2 ^ 32) % (cpt : Int)).toNat
    let bad := e.indexSeen && 2 < min d (cpt - d)
    let t := s.setEnc x { e with indexSeen := true, zerr := bad, indexCap := true, indexAt := tick }
    let t := t.encAligned x e.c 1 0 false
    if bad then ((t.bump (F.ENC_STAT_ZERR x)).ev (F.POS_EVENT_ENC_ZERR x)).encStat x else t
  else s

/-- ENC_INDEX: level changes of ENCxZ. -/
def encIndex (x : Fin 2) (z : List (Nat × Bool)) (s : State) : State :=
  s.onBlock (0x10 + x) (fun s =>
    if s.live.hasPos x then
      let f := s.fld (F.ENC_CFG_FILT x)
      s.each (acceptedEdges (f + 1) f (s.enc x).z z) (fun c t =>
        (t.setEnc x { t.enc x with z := c.2 }).when c.2 (fun t => t.encRise x c.1))
    else s)

/-- ENC_ALIGN as the plan writes it (R355): void after an ILLEGAL that followed the capture, and an index that followed it has realigned
the encoder (R367). -/
def State.encAlign (s : State) (x ofs : Nat) : State :=
  if (s.enc x).illegalCap || (s.enc x).indexCap then s else s.encAligned x (s.fld (F.ENC_COUNT_C x)) 3 ofs false

/-- The larger of two speeds of one sign is dropped: smaller magnitude, sign of `last` (R356). -/
def holdSpeed (last lim : Word) : Word :=
  if flLt (flOf lim) { flOf last with neg := false } then BitVec.ofNat 32 (lim.toNat + last.toNat / 2 ^ 31 * 2 ^ 31) else last

/-- The period speed with no change of C, `te` after the latest step (R356); a step on the catch tick itself leaves the last value. -/
def State.stillSpeed (s : State) (x te : Nat) : Word :=
  if te = 0 then (s.enc x).last
  else holdSpeed (s.enc x).last (fquot (s.fld (F.ENC_CFG_PP x) * 250000000) (s.fld (F.ENC_CPT_CPT x) * te))

/-- Time-out of the period speed, in ticks. -/
def State.encZero (s : State) (x te : Nat) : Bool := s.fld (F.ENC_CFG_ZTMO x) * 250000 < te

/-- Speed by period at a capture, and SLOW (R356). An interval that reaches back before the first step is not
stated: its speed is a free value. -/
def State.encPeriodSpeed (s : State) (x tick : Nat) (old : Option (Nat × Nat)) : (Word × Bool) × State :=
  let e := s.enc x
  let cpt := s.fld (F.ENC_CPT_CPT x)
  let pp : Int := s.fld (F.ENC_CFG_PP x)
  match e.step with
  | none => ((0, true), s)
  | some (c1, t1) =>
    let still := match old with | some (c0, t0) => c0 == c1 && t0 == t1 | none => false
    if s.encZero x (tick - t1) then ((0, true), s)
    else if still then
      ((s.stillSpeed x (tick - t1), true), s)
    else match old with
      | none => let (w, s) := s.fresh 32; ((w, false), s)
      | some (c0, t0) =>
        let d := signed 32 ((c1 + 2 ^ 32 - c0) % 2 ^ 32)
        if d = 0 then ((s.stillSpeed x (tick - t1), true), s)
        else ((fquot (d * pp * 250000000) (cpt * (t1 - t0)), false), s)

/-- A capture of an encoder (R351, R355, R356). -/
def State.encCapture (s : State) (x tick : Nat) : State :=
  let e := s.enc x
  let n := 2 ^ s.fld (F.ENC_CFG_SPW x)
  let (ang, s) := s.encAngle x
  let ((f, slow), fc, s) := match e.caps[n - 1]? with
    | none => ((((0 : Word), true)), (0 : Word), s)
    | some (c0, t0, st0) =>
      let (r, s) := s.encPeriodSpeed x tick st0
      let dc := signed 32 ((e.c + 2 ^ 32 - c0) % 2 ^ 32)
      (r, fquot (dc * (s.fld (F.ENC_CFG_PP x) : Int) * 250000000) (s.fld (F.ENC_CPT_CPT x) * (tick - t0)), s)
  let s := s.setEnc x { e with caps := (e.c, tick, e.step) :: e.caps.take (n - 1), last := f, slow := slow, illegalCap := false,
                               indexCap := false, spd := f }
  let s := ((s.set (F.ENC_COUNT_C x) e.c).wr (R.ENC_ANG x) ang).wr (R.ENC_SPD x) f
  let s := (s.wr (R.ENC_SPDC x) fc).encStat x
  s.setEnc x { s.enc x with stat := s.fld (F.ENC_STAT_STAT x) }

/-- ENC_ZERO_TIMEOUT (R356). -/
def encZeroTimeout (x : Fin 2) (s : State) : State :=
  s.onBlock (0x10 + x) (fun s =>
    if s.live.hasPos x then
      ((s.setEnc x { s.enc x with last := 0, slow := true }).wr (R.ENC_SPD x) 0).encStat x
    else s)

/-! ### Hall sets (R357 to R359) -/

/-- The forward sequence. -/
def hallSeq (order : Bool) : List Nat := if order then [5, 4, 6, 2, 3, 1] else [1, 3, 2, 6, 4, 5]

/-- One sixth of a turn. -/
def sixth : Nat := 0x2AAAAAAB

def State.hallSector (s : State) (x code : Nat) : Nat := (hallSeq (s.on (F.HALL_CFG_ORDER x))).idxOf code

/-- Angle marked by entering sector `k` (R359). -/
def State.hallEdge (s : State) (x k : Nat) (rev : Bool) : Nat :=
  (s.fld (F.HALL_OFS_OFS x) + (if rev then k + 1 else k) * sixth) % 2 ^ 32

def State.hallStat (s : State) (x : Nat) : State :=
  let h := s.hall x
  s.set (F.HALL_STATE_STAT x) (posStat h.qual h.abs true h.rev false 0)

/-- An accepted state of a Hall set (R358). A state after 0 or 7 follows no valid state: its speed starts again. -/
def State.hallState (s : State) (x code tick : Nat) : State :=
  let h := s.hall x
  let s := s.set (F.HALL_STATE_CODE x) code
  if code = 0 ∨ code = 7 then
    let t := s.setHall x { h with code := some code, qual := false }
    (((t.set (F.HALL_STATE_BAD x) 1).bump (F.HALL_STATE_BAD_CNT x)).ev (F.POS_EVENT_HALL_BAD x)).hallStat x
  else
    let k := s.hallSector x code
    match h.code with
    | none => (s.setHall x { h with code := some code, abs := true }).hallStat x
    | some p =>
      if p = 0 ∨ p = 7 then
        (s.setHall x { h with code := some code, abs := true, trans := none, speed := none }).hallStat x
      else if p = code then s
      else
        let j := s.hallSector x p
        if k = (j + 1) % 6 ∨ j = (k + 1) % 6 then
          let rev := decide (j = (k + 1) % 6)
          let speed := match h.trans with
            | some (_, t0) => if h.rev = rev then some (tick - t0) else none
            | none => none
          let t := (s.setHall x { h with code := some code, rev := rev, trans := some (k, tick), speed := speed, abs := true }).hallStat x
          if t.live.hasPos x && t.on (F.ENC_CFG_HLINK x) && !(t.enc x).abs then
            t.encAligned x (t.enc x).c 2 (t.hallEdge x k rev) true
          else t
        else
          let t := s.setHall x { h with code := some code, qual := false, speed := none, trans := none }
          ((t.bump (F.HALL_STATE_SEQ_CNT x)).ev (F.POS_EVENT_HALL_SEQ x)).hallStat x

/-- Accepted changes of U, V and W, inputs 0 to 2, in order; those of one tick make one state. -/
def State.hallEdges (s : State) (x : Nat) : List (Nat × Nat × Bool) → State
  | [] => s
  | (t, k, v) :: l =>
    let h := s.hall x
    let n := if v then setBit h.level k else clearBit h.level k
    let u := s.setHall x { h with level := n }
    match l with
    | (t1, k1, v1) :: l1 => (if t1 = t then u else u.hallState x n t).hallEdges x ((t1, k1, v1) :: l1)
    | [] => u.hallState x n t

/-- The levels that a restarted set stands at are its first state once they have been stable for the filter time (R357): an open set reads
7, which is BAD. -/
def State.hallFirst (s : State) (x tick : Nat) : State :=
  let h := s.hall x
  let at' := h.since + 64 * s.fld (F.HALL_CFG_HFILT x)
  if h.code.isNone && decide (at' ≤ tick) then s.hallState x h.level at' else s

/-- HALL_CHANGE: level changes of HALLx_U, V and W, each at its tick (R357, R358). -/
def hallChange (x : Fin 2) (u v w : List (Nat × Bool)) (s : State) : State :=
  s.onBlock (0x10 + x) (fun s =>
    if s.live.hasPos (2 + x) then
      let f := 64 * s.fld (F.HALL_CFG_HFILT x)
      let n := (s.hall x).level
      let s := match (u ++ v ++ w).map (fun e => e.1) with | t :: l => s.hallFirst x (l.foldl min t) | [] => s
      s.hallEdges x (mergeEdges [acceptedEdges f f (bit n 0) u, acceptedEdges f f (bit n 1) v, acceptedEdges f f (bit n 2) w])
    else s)

/-- HALL_QUAL (R358). -/
def hallQual (x : Fin 2) (s : State) : State :=
  s.onBlock (0x10 + x) (fun s =>
    let h := s.hall x
    match h.code with
    | some c => if c = 0 ∨ c = 7 then s
      else ((s.setHall x { h with qual := true }).set (F.HALL_STATE_BAD x) 0).hallStat x
    | none => s)

/-- HALL_TIMEOUT (R359). -/
def hallTimeout (x : Fin 2) (s : State) : State :=
  s.onBlock (0x10 + x) (fun s => if s.live.hasPos (2 + x) then s.setHall x { s.hall x with speed := none } else s)

/-- Angle and speed of a capture of a Hall set (R359). The rounding of the centre, and of an advanced angle that is no exact value, is not
stated: it is free between the two neighbouring values. -/
def State.hallAngle (s : State) (x tick : Nat) : State :=
  let h := s.hall x
  match h.code with
  | none => s
  | some c =>
    if c = 0 ∨ c = 7 then s
    else
      let k := s.hallSector x c
      let rem := match h.trans, h.speed with | some (_, t0), some dt => decide (2 ^ 32 * (tick - t0) % (6 * dt) ≠ 0) | _, _ => true
      let (up, s) := if rem then s.freshBool else (false, s)
      let ofs := s.fld (F.HALL_OFS_OFS x)
      let (ang, f) := match h.trans, h.speed with
        | some (_, t0), some dt =>
          let adv := min (2 ^ 32 * (tick - t0) / (6 * dt) + up.toNat) sixth
          let e := s.hallEdge x k h.rev
          let num : Int := if h.rev then -250000000 else 250000000
          ((if h.rev then e + 2 ^ 32 - adv else e + adv), fquot num (6 * dt))
        | _, _ => (ofs + (2 * k + 1) * sixth / 2 + up.toNat, (0 : Word))
      ((s.wr (R.HALL_ANG x) (BitVec.ofNat 32 ang)).wr (R.HALL_SPD x) f).hallStat x

/-- A capture of a Hall set (R351). -/
def State.hallCapture (s : State) (x tick : Nat) : State :=
  let s := (s.hallFirst x tick).hallAngle x tick
  s.setHall x { s.hall x with stat := s.fld (F.HALL_STATE_STAT x) }

/-! ### Serial sensors (R360 to R363) -/

/-- Bits before the CRC, and NB. -/
def State.serErrBits (s : State) (x : Nat) : Nat := s.fld (F.SER_FMT_ERRB x)
def State.serBits (s : State) (x : Nat) : Nat :=
  s.fld (F.SER_FMT_MT x) + s.fld (F.SER_FMT_ST x) + s.serErrBits x + s.fld (F.SER_FMT_CRCLEN x)

/-- The number a bit string spells, first bit highest. -/
def bitsNat (l : List Bool) : Nat := l.foldl (fun a b => 2 * a + b.toNat) 0

/-- Gray code to binary, first bit highest. -/
def grayBits : Bool → List Bool → List Bool
  | _, [] => []
  | p, b :: l => (p != b) :: grayBits (p != b) l

/-- CRC of R361 over some bits: an MSB-first register of `n` bits. -/
def crcBits (n poly init : Nat) (l : List Bool) : Nat :=
  l.foldl (fun c b => let top := c.testBit (n - 1) != b
                      ((2 * c) % 2 ^ n) ^^^ (if top then poly % 2 ^ n else 0)) (init % 2 ^ n)

def State.serStat (s : State) (x : Nat) : State :=
  let e := s.ser x
  s.set (F.SER_STAT_STAT x) (posStat e.qual e.qual false e.rev false e.lastErr)

/-- A frame of catch `tag` ends with a code (R362, R363). -/
def State.serEnd (s : State) (x tag code : Nat) (pos : Option (Nat × Nat)) : State :=
  let e := s.ser x
  let n := 2 ^ s.fld (F.SER_CFG_SPW x)
  let codes := (code :: e.codes).take 16
  let run := if code = 0 then e.run + 1 else 0
  let lossy := decide (max 1 (s.fld (F.SER_QCFG_QLOSS x)) ≤ (codes.filter (fun c => c != 0)).length)
  let qual := if lossy then false else e.qual || decide (max 1 (s.fld (F.SER_QCFG_QN x)) ≤ run)
  let t := s.setSer x { e with tag := tag % 256, code := code, hist := pos :: e.hist.take (n - 1), codes := codes,
                               run := min run 255, qual := qual, lastErr := if code = 0 then e.lastErr else code }
  let t := t.when (code != 0) (fun t => (t.bump (F.SER_STAT_ERRCNT x)).ev (F.POS_EVENT_SER_ERR x))
  (t.when (e.qual && !qual) (fun t => t.ev (F.POS_EVENT_SER_QLOSS x))).serStat x

/-- SERIAL_FRAME_START (R360, R362): the frame of catch `n`, which fell at `tick`; `low` when SERx_DI is low. -/
def serialFrameStart (x : Fin 2) (low : Bool) (n tick : Nat) (s : State) : State :=
  s.onBlock (0x10 + x) (fun s =>
    let e := s.ser x
    if !s.live.hasPos (4 + x) || n % 2 ^ s.fld (F.SER_CFG_K x) != 0 then s
    else if e.busy || low then s.serEnd x n 1 none
    else s.setSer x { e with busy := true, frame := (n, tick) })

/-- A good frame (R362): its angle and its speed. INV turns the direction of POS_ST; an earlier frame of the window that
is missing or bad leaves the speed free. -/
def State.serGood (s : State) (x raw mt : Nat) : State :=
  let e := s.ser x
  let st := s.fld (F.SER_FMT_ST x)
  let pp := s.fld (F.SER_FMT_PP x)
  let p := if s.on (F.SER_CFG_INV x) then (2 ^ st - raw) % 2 ^ st else raw
  let ang := rneDiv (p * pp * 2 ^ 32) (2 ^ st) + s.fld (F.SER_OFS_OFS x)
  let (f, rev, s) := match e.hist[2 ^ s.fld (F.SER_CFG_SPW x) - 1]? with
    | some (some (p0, t0)) =>
      let d := signed st ((p + 2 ^ st - p0) % 2 ^ st)
      (fquot (d * (pp : Int) * 250000000) (2 ^ st * (e.frame.2 - t0)), (if d = 0 then e.rev else decide (d < 0)), s)
    | _ => let (w, s) := s.fresh 32; (w, e.rev, s)
  let s := s.setSer x { s.ser x with rev := rev }
  let s := ((s.set (F.SER_POS_ST x) raw).set (F.SER_MT_MT x) mt).wr (R.SER_ANG x) (BitVec.ofNat 32 ang)
  (s.wr (R.SER_SPD x) f).serEnd x e.frame.1 0 (some (p, e.frame.2))

/-- What the received bits of a frame come to: multi-turn and single-turn position, the active error and warning
bits, and whether the CRC holds. -/
def State.serRead (s : State) (x : Nat) (bits : List Bool) : Nat × Nat × Bool × Bool × Bool :=
  let mt := s.fld (F.SER_FMT_MT x)
  let st := s.fld (F.SER_FMT_ST x)
  let eb := s.serErrBits x
  let n := s.fld (F.SER_FMT_CRCLEN x)
  let pos := bits.take (mt + st)
  let pos := if s.on (F.SER_CFG_CODE x) && !s.on (F.SER_CFG_PROTO x) then grayBits false pos else pos
  let errs := (bits.drop (mt + st)).take eb
  let crc := bitsNat (bits.drop (mt + st + eb))
  let crc := if s.on (F.SER_FMT_CRCINV x) then 2 ^ n - 1 - crc else crc
  let ok := n == 0 || crc == crcBits n (s.fld (F.SER_CRC_POLY x)) (s.fld (F.SER_CRC_INIT x)) (bits.take (mt + st + eb))
  (bitsNat (pos.take mt), bitsNat (pos.drop mt), errs.head? == some false, errs[1]? == some false, ok)

/-- The level of SERx_DI at a tick, from its changes since the trigger; it was high there (R362). -/
def levelAt (l : List (Nat × Bool)) (t : Nat) : Bool := l.foldl (fun v e => if e.1 ≤ t then e.2 else v) true

/-- The start bit of a BiSS-C frame: the first rising edge after the acknowledge (R360). -/
def startBit : List (Nat × Bool) → Option Nat
  | (_, false) :: (t, true) :: _ => some t
  | _ :: l => startBit l
  | [] => none

/-- The ticks at which the bits of a frame that started at `t0` are sampled; none for a BiSS-C frame without a start bit in time
(R360, R362). -/
def State.serTicks (s : State) (x t0 : Nat) (di : List (Nat × Bool)) : Option (List Nat) :=
  let div := s.fld (F.SER_CFG_DIV x)
  let ks := List.range (s.serBits x)
  if s.on (F.SER_CFG_PROTO x) then
    match startBit (di.filter (fun e => t0 ≤ e.1)) with
    | some ts => if ts ≤ t0 + 2 * div * s.fld (F.SER_FMT_ACK_MAX x) then some (ks.map (fun k => ts + (2 * k + 5) * div)) else none
    | none => none
  else some (ks.map (fun k => t0 + 2 * k * div + s.fld (F.SER_CFG_DLY x)))

/-- SERIAL_FRAME_END: the level changes of SERx_DI since the trigger, each at its tick (R360 to R362). -/
def serialFrameEnd (x : Fin 2) (di : List (Nat × Bool)) (s : State) : State :=
  s.onBlock (0x10 + x) (fun s =>
    let e := s.ser x
    if !e.busy then s
    else
      let s := s.setSer x { e with busy := false }
      let t0 := e.frame.2 + s.fld (F.SER_TIME_TRIG x)
      match s.serTicks x t0 di with
      | none => s.serEnd x e.frame.1 2 none
      | some ts =>
        if ts.any (fun t => t0 + 16 * s.fld (F.SER_TIME_WTMO x) < t) then s.serEnd x e.frame.1 3 none
        else
          let (mt, raw, err, warn, ok) := s.serRead x (ts.map (levelAt di))
          if !ok then s.serEnd x e.frame.1 4 none
          else if err then s.serEnd x e.frame.1 5 none
          else (s.set (F.SER_STAT_WARN x) warn.toNat).serGood x raw mt)

/-- SERIAL_TIMEOUT (R362). -/
def serialTimeout (x : Fin 2) (s : State) : State :=
  s.onBlock (0x10 + x) (fun s =>
    let e := s.ser x
    if e.busy then (s.setSer x { e with busy := false }).serEnd x e.frame.1 3 none else s)

/-! ### The catch and activation (R351, R366) -/

/-- The captures of a catch at tick `tick`. -/
def State.posCatch (s : State) (tick : Nat) : State :=
  s.each [0, 1] (fun x t =>
    (t.when (t.live.hasPos x && t.clocked (0x10 + x)) (fun t => t.encCapture x tick)).when (t.live.hasPos (2 + x) && t.clocked (0x10 + x)) (fun t => t.hallCapture x tick))

/-- An interface restarts: C is 0, ABS and QUAL are clear, counts are cleared and histories empty (R366); an encoder's speeds are +0 with
SLOW set until its window is full (R356). -/
def State.posRestart (s : State) (i : Nat) : State :=
  let x := i % 2
  match i / 2 with
  | 0 =>
    let t := s.setEnc x { Enc.init with a := (s.enc x).a, b := (s.enc x).b, z := (s.enc x).z, slow := true }
    (((((t.wr (R.ENC_COUNT x) 0).wr (R.ENC_STAT x) 0).wr (R.ENC_CREF x) 0).wr (R.ENC_SPD x) 0).wr (R.ENC_SPDC x) 0).encStat x
  | 1 =>
    let t := s.setHall x { Hall.init with level := (s.hall x).level, since := s.cat.tick }
    (((t.set (F.HALL_STATE_BAD x) 0).set (F.HALL_STATE_BAD_CNT x) 0).set (F.HALL_STATE_SEQ_CNT x) 0).hallStat x
  | 2 => (s.setSer x Ser.init).wr (R.SER_STAT x) 0
  | _ => s

def State.posActivate (s : State) : State :=
  s.each ((List.range 6).filter s.live.hasPos) (fun i t => t.posRestart i)

/-- Register offsets of a position source whose change restarts it at a warm switch (R366): all but OFS, ENC_ZOFS,
HALL_OFS and SER_QCFG. -/
def posStrict (i : Nat) : List Nat :=
  match i / 2 with
  | 0 => [0x80, 0x84]
  | 1 => [0xC0]
  | 2 => [0x100, 0x104, 0x108, 0x10C]
  | _ => []

def execEncStep (x : Fin 2) (a b : List (Nat × Bool)) (s : State) : Host.Outcome State Fault Refusal :=
  .next (encStep x a b s)
def execEncIndex (x : Fin 2) (z : List (Nat × Bool)) (s : State) : Host.Outcome State Fault Refusal := .next (encIndex x z s)
def execEncZeroTimeout (x : Fin 2) (s : State) : Host.Outcome State Fault Refusal := .next (encZeroTimeout x s)
def execHallChange (x : Fin 2) (u v w : List (Nat × Bool)) (s : State) : Host.Outcome State Fault Refusal :=
  .next (hallChange x u v w s)
def execHallQual (x : Fin 2) (s : State) : Host.Outcome State Fault Refusal := .next (hallQual x s)
def execHallTimeout (x : Fin 2) (s : State) : Host.Outcome State Fault Refusal := .next (hallTimeout x s)
def execSerialFrameStart (x : Fin 2) (low : Bool) (n tick : Nat) (s : State) : Host.Outcome State Fault Refusal :=
  .next (serialFrameStart x low n tick s)
def execSerialFrameEnd (x : Fin 2) (di : List (Nat × Bool)) (s : State) : Host.Outcome State Fault Refusal :=
  .next (serialFrameEnd x di s)
def execSerialTimeout (x : Fin 2) (s : State) : Host.Outcome State Fault Refusal := .next (serialTimeout x s)

end Sys2Proof.Machine
end

