-- ==== Sys2Proof/Machine/Inject.lean ====
section
/-! DEFINITION. Setpoints, pulse inputs, test-signal generators, injection points and capture channels
(11_loops_and_tuning.md). -/

namespace Sys2Proof.Machine

def State.gen (s : State) (g : Nat) : Gen := mapGet (fun _ => Gen.init) s.inj.gen g
def State.setGen (s : State) (g : Nat) (x : Gen) : State :=
  { s with inj := { s.inj with gen := mapPut (fun _ => Gen.init) s.inj.gen g x } }

/-! ### Setpoint control (R297, R300) -/

/-- SP_CTRL_WRITE (R300): refused while it would change SRC or LOOP of a unit with a gate output enabled. -/
def State.spCtrlWrite (s : State) (m : Master) (v : Word) : State :=
  s.blockWrite m R.SP_CTRL true (fun s =>
    let moves := fun (u : Nat) => (F.SP_CTRL_SRC u).get v != s.fld (F.SP_CTRL_SRC u) ||
      (u < 2 && (F.SP_CTRL_LOOP u).get v != s.fld (F.SP_CTRL_LOOP u))
    if (List.range 4).any (fun u => moves u && s.unitOn u) then s.refuse m R.SP_CTRL eBusy true
    else s.wr R.SP_CTRL (v &&& 0x0B0B0F0F))

def spCtrlWrite (m : Master) (v : Word) (s : State) : State := s.onDie (fun s => s.spCtrlWrite m v)

/-! ### Pulse inputs (R305) -/

def State.pin (s : State) (k : Nat) : Pin := mapGet (fun _ => Pin.init) s.inj.pin k
def State.setPin (s : State) (k : Nat) (x : Pin) : State := { s with inj := { s.inj with pin := mapPut (fun _ => Pin.init) s.inj.pin k x } }

/-- An accepted edge: one of the polarity's own direction ends a period and starts the next. -/
def Pin.edge (x : Pin) (falling : Bool) (t : Nat) (v : Bool) : Pin :=
  if v == falling then { x with level := v, mid := some t }
  else
    let last := match x.start, x.mid with | some a, some m => some (t - a, m - a, t) | _, _ => x.last
    { level := v, start := some t, mid := none, last := last }

/-- PIN_PERIOD: the ball's level changes since the last such command, each at its tick with the new level. -/
def pinPeriod (k : Fin 2) (changes : List (Nat × Bool)) (s : State) : State :=
  s.onBlock 0x13 (fun s =>
    let x := s.pin k
    s.setPin k ((acceptedEdges (s.fld (F.PIN_CFG_GLITCH k)) (s.fld (F.PIN_CFG_GLITCH k)) x.level changes).foldl (fun x e => x.edge (s.on (F.PIN_CFG_POL k)) e.1 e.2) x))

/-- VALID of a pulse input clears because of TMO. -/
def State.pinLost (s : State) (k : Nat) : State :=
  if s.on (F.PIN_PER_VALID k) then (s.set (F.PIN_PER_VALID k) 0).ev F.INJ_EVENT_PIN_LOST else s

/-- PIN_TIMEOUT. -/
def pinTimeout (k : Fin 2) (s : State) : State :=
  s.onBlock 0x13 (fun s => (s.pinLost k).setPin k { s.pin k with last := none })

/-- The latch of a pulse input at a catch. -/
def State.pinCatch (s : State) (k tick : Nat) : State :=
  match (s.pin k).last with
  | none => s
  | some (per, hi, stop) =>
    let t := (s.set (F.PIN_PER_PER k) (min per (2 ^ 28 - 1))).set (F.PIN_HI_HI k) (min hi (2 ^ 28 - 1))
    if 250000 * s.fld (F.PIN_CFG_TMO k) < tick - stop then t.pinLost k
    else t.set (F.PIN_PER_VALID k) (if 2500 ≤ per ∧ per ≤ 250000000 then 1 else 0)

/-! ### Sine of an angle (R217) -/

/-- sin of R217 from a table of 4096 S0.15 entries. -/
def sinWith (t : Nat → Int) (theta : Nat) : Word :=
  let i := theta % 2 ^ 32 / 2 ^ 20
  let f : Int := ((theta % 2 ^ 20 : Nat) : Int)
  let a := t i
  let v := a * 2 ^ 20 + (t ((i + 1) % 4096) - a) * f
  (roundFl ⟨decide (v < 0), v.natAbs, -35⟩).1

/-- Terms of the sine's series in units of 2^-192, alternating: `x2` the square of the angle, `k` terms more. -/
def sinTerms (x2 : Nat) : Nat → Nat → Nat → Int
  | 0, _, term => term
  | k + 1, n, term => (term : Int) - sinTerms x2 k (n + 1) (term * x2 / 2 ^ 192 / (2 * n * (2 * n + 1)))

/-- round(sin(2πk / 4096) × 32 768) for k up to 1024, at most 0x7FFF. -/
def sinQuarter (k : Nat) : Nat :=
  let x := pi192 * k / 2048
  min 32767 (((sinTerms (x * x / 2 ^ 192) 40 1 x).toNat * 2 ^ 15 + 2 ^ 191) / 2 ^ 192)

/-- The generators' internal table of the same 4096 entries (R308). -/
def sineEntry (k : Nat) : Int :=
  if k < 1024 then sinQuarter k else if k < 2048 then sinQuarter (2048 - k)
  else if k < 3072 then -((sinQuarter (k - 2048) : Nat) : Int) else -((sinQuarter (4096 - k) : Nat) : Int)

/-! ### Capture channels (R315 to R319) -/

def capIdle := 0
def capArmed := 1
def capRun := 2
def capFull := 3
def capFrozen := 4
def capStopped := 5

def State.capState (s : State) (c : Nat) : Nat := s.fld (F.CAP_STAT_STATE c)

/-- C: entries the channel holds. -/
def State.capSize (s : State) (c : Nat) : Nat := 64 * s.fld (F.CAP_GEOM_LEN c) / (4 * (s.fld (F.CAP_STAT_W c) + 1))

/-- Address of entry `i`. -/
def State.capAddr (s : State) (c i : Nat) : Nat :=
  0x202C0000 + 64 * s.fld (F.CAP_GEOM_BASE c) + (i % max 1 (s.capSize c)) * 4 * (s.fld (F.CAP_STAT_W c) + 1)

/-- Index of the channel's next entry: CAP_WIDX, counted on where it has saturated (R316). -/
def State.capNext (s : State) (c : Nat) : Nat :=
  if s.fld (F.CAP_WIDX_WIDX c) < 2 ^ 32 - 1 then s.fld (F.CAP_WIDX_WIDX c) else max (2 ^ 32 - 1) (s.inj.capN.get c)

/-- The words of an entry in SRAM. -/
def State.putWords (s : State) (a : Nat) (ws : List Word) : State :=
  s.each ws.zipIdx (fun e t => t.setSramWord (a + 4 * e.2) e.1)

/-- An entry is due in a channel (R316, R317). -/
def State.capWrite (s : State) (c : Nat) (ws : List Word) : State :=
  let st := s.capState c
  if st = capFull ∨ st = capFrozen then s.bump (F.CAP_LOST_LOST c)
  else if st ≠ capRun ∨ s.capSize c = 0 then s
  else
    let n := s.capNext c + 1
    let t := (s.putWords (s.capAddr c (s.capNext c)) (BitVec.ofNat 32 s.cat.num :: ws)).bump (F.CAP_WIDX_WIDX c)
    let t : State := { t with inj := { t.inj with capN := if n < 2 ^ 32 then t.inj.capN else t.inj.capN.set c n } }
    let t := if t.on (F.CAP_GEOM_RING c) then t.when (t.capSize c < n) (fun t => t.set (F.CAP_STAT_WRAPPED c) 1)
      else t.when (t.capSize c ≤ n) (fun t => (t.set (F.CAP_STAT_STATE c) capFull).ev F.INJ_EVENT_CAP_FULL)
    match t.inj.post.find? (fun e => e.1 == c) with
    | none => t
    | some (_, k) =>
      let rest := t.inj.post.filter (fun e => e.1 != c)
      if k ≤ 1 then
        let t : State := { t with inj := { t.inj with post := rest } }
        t.when (t.capState c = capRun) (fun t => (t.set (F.CAP_STAT_STATE c) capFrozen).ev F.INJ_EVENT_CAP_FROZEN)
      else { t with inj := { t.inj with post := (c, k - 1) :: rest } }

/-- A number of two registers, low word first. -/
def State.num48 (s : State) (lo hi : Field) : Nat := s.fld lo + 2 ^ 32 * s.fld hi

/-- A generator is ARMED, RUN or TAPER. -/
def State.genBusy (s : State) (g : Nat) : Bool :=
  let st := s.fld (F.INJ_STATUS_STATE g)
  1 ≤ st && st ≤ 3

/-- CAP_ARM (R317). -/
def State.capArm (s : State) (m : Master) (c : Nat) : State :=
  s.blockWrite m (R.CAP_CMD c) true (fun s =>
    if s.capState c = capArmed ∨ s.capState c = capRun then s.refuse m (R.CAP_CMD c) eBusy true
    else
      let at' := if s.fld (F.CAP_CFG_TRIG c) = 1 then s.num48 (F.CAP_START_LO_S_LO c) (F.CAP_START_HI_S_HI c) else s.cat.num + 1
      let t := (((s.set (F.CAP_STAT_STATE c) capArmed).set (F.CAP_WIDX_WIDX c) 0).set (F.CAP_LOST_LOST c) 0).set
        (F.CAP_STAT_WRAPPED c) 0
      { t with inj := { t.inj with capAt := t.inj.capAt.set c at', capStop := clearBit t.inj.capStop c,
                                   post := t.inj.post.filter (fun e => e.1 != c), capN := t.inj.capN.set c 0 } })

/-- CAP_STOP (R317): STOPPED from the next catch. -/
def State.capStop (s : State) (m : Master) (c : Nat) : State :=
  s.blockWrite m (R.CAP_CMD c) true (fun s =>
    if s.capState c = capArmed ∨ s.capState c = capRun then
      { s with inj := { s.inj with capStop := setBit s.inj.capStop c } }
    else s)

def capArm (m : Master) (c : Fin 8) (s : State) : State := s.onDie (fun s => s.capArm m c)
def capStop (m : Master) (c : Fin 8) (s : State) : State := s.onDie (fun s => s.capStop m c)

/-- Channels stop or start at a catch. -/
def State.capCatch (s : State) : State :=
  let t := s.each (List.range 8) (fun c t =>
    let st := t.capState c
    if bit t.inj.capStop c && (st == capArmed || st == capRun) then t.set (F.CAP_STAT_STATE c) capStopped
    else if st == capArmed then
      let g := t.fld (F.CAP_CFG_GEN c)
      let go := if t.fld (F.CAP_CFG_TRIG c) = 2 then t.genBusy g && (t.gen g).start ≤ t.cat.num
        else t.inj.capAt.get c ≤ t.cat.num
      if go then t.set (F.CAP_STAT_STATE c) capRun else t
    else t)
  { t with inj := { t.inj with capStop := 0 } }

/-! ### Generators (R308 to R312) -/

/-- DIV, SETTLE and MEAS of a step, and its length. -/
def State.stepLen (s : State) (g k : Nat) : Nat :=
  s.fld (F.INJ_STEPA_DIV g k) * (s.fld (F.INJ_STEPB_SETTLE g k) + s.fld (F.INJ_STEPB_MEAS g k))

/-- The step of catch index `i`, from step `k` of `n` more, and the index within it. -/
def State.stepAtIx (s : State) (g : Nat) : Nat → Nat → Nat → Nat × Nat
  | 0, k, i => (k, i)
  | n + 1, k, i => if i < s.stepLen g k then (k, i) else s.stepAtIx g n (k + 1) (i - s.stepLen g k)

/-- Run length of a start (R308). -/
def State.genLen (s : State) (g : Nat) : Nat :=
  if s.fld (F.INJ_CFG_WAVE g) = 0 then ((List.range (s.fld (F.INJ_CFG_NSTEP g) + 1)).map (s.stepLen g)).sum
  else s.fld (F.INJ_LEN_LEN g)

/-- Taps of a PRBS order. -/
def prbsTaps (o : Nat) : Nat × Nat :=
  match o with
  | 0 => (7, 6) | 1 => (9, 5) | 2 => (11, 9) | 3 => (15, 14) | 4 => (17, 14) | 5 => (23, 18) | _ => (31, 28)

/-- Row of R310 that refuses a START, 0 for none. The CONFIG conditions are those of the wave's own settings. -/
def State.startCode (s : State) (g st : Nat) : Nat :=
  let w := s.fld (F.INJ_CFG_WAVE g)
  let steps := List.range (s.fld (F.INJ_CFG_NSTEP g) + 1)
  let len := s.fld (F.INJ_LEN_LEN g)
  let f0 : Int := s.fld (F.INJ_F0_F0 g)
  let fl := f0 + s.ifld (F.INJ_DF_DF g) * ((len : Int) - 1)
  let outside := fun (x : Int) => x < 0 || 2 ^ 31 ≤ x
  if s.genBusy g then 0x01
  else if st ≠ 0 ∧ st < s.cat.num + 2 then 0x02
  else if w = 3 ∨
      (w = 0 ∧ steps.any (fun k => s.fld (F.INJ_STEPA_DIV g k) < 4 || s.fld (F.INJ_STEPB_MEAS g k) == 0) = true) ∨
      (w = 1 ∧ s.fld (F.INJ_CFG_HOLD g) = 0) ∨ (w ≠ 0 ∧ len = 0) ∨
      (s.on (F.INJ_CFG_LOG_EN g) = true ∧ s.on (F.CAP_GEOM_GEN (s.fld (F.INJ_CFG_LOG g))) = false) then 0x03
  else if w = 2 ∧ (outside f0 = true ∨ outside fl = true) then 0x04
  else 0

/-- INJ_START (R308, R310). -/
def State.injStart (s : State) (m : Master) (g : Nat) : State :=
  s.blockWrite m (R.INJ_CMD g) true (fun s =>
    let st := s.num48 (F.INJ_START_LO_S_LO g) (F.INJ_START_HI_S_HI g)
    let c := s.startCode g st
    let t := s.set (F.INJ_STATUS_CODE g) c
    if c ≠ 0 then t
    else
      let n := (prbsTaps (t.fld (F.INJ_CFG_ORDER g))).1
      let seed := t.fld (F.INJ_SEED_SEED g) % 2 ^ n
      ((t.set (F.INJ_STATUS_STATE g) 1).wr (R.INJ_POS g) 0).setGen g
        { start := if st = 0 then t.cat.num + 2 else st, len := t.genLen g,
          lfsr := if seed = 0 then 2 ^ n - 1 else seed, theta := 0, inc := t.fld (F.INJ_F0_F0 g), shown := 0, sample := 0,
          abort := 0 })

/-- INJ_STOP (R311). -/
def State.injStop (s : State) (m : Master) (g : Nat) : State :=
  s.blockWrite m (R.INJ_CMD g) true (fun s =>
    if s.fld (F.INJ_STATUS_STATE g) = 2 then
      let j := s.cat.num - (s.gen g).start
      let tp := s.fld (F.INJ_TAPER_TAPER g)
      (s.set (F.INJ_STATUS_STATE g) 3).setGen g { s.gen g with len := j + max 1 tp }
    else s)

/-- An abort from the next catch on; the first cause stands. -/
def State.genAbort (s : State) (g code : Nat) : State :=
  if s.genBusy g && (s.gen g).abort == 0 then s.setGen g { s.gen g with abort := code } else s

/-- INJ_ABORT (R311). -/
def State.injAbort (s : State) (m : Master) (g : Nat) : State :=
  s.blockWrite m (R.INJ_CMD g) true (fun s => s.genAbort g 0x10)

def injStart (m : Master) (g : Fin 2) (s : State) : State := s.onDie (fun s => s.injStart m g)
def injStop (m : Master) (g : Fin 2) (s : State) : State := s.onDie (fun s => s.injStop m g)
def injAbort (m : Master) (g : Fin 2) (s : State) : State := s.onDie (fun s => s.injAbort m g)

/-- Unit, kind and AMAX of an injection point (R313). -/
def PlanInfo.point (p : PlanInfo) (k : Nat) : Option (Nat × Nat × Nat) :=
  p.bind.findSome? (fun b => match b with
    | .inject i body => if i = k then some (body.getD 0 0 % 8, body.getD 0 0 / 8 % 8, body.getD 1 0) else none
    | _ => none)

/-- A point is enabled for a generator. -/
def State.pointOf (s : State) (p g : Nat) : Bool := s.on (F.INJ_PTCTL_EN p) && s.fld (F.INJ_PTCTL_GEN p) == g

/-- A unit runs easy-all. -/
def State.inEasy (s : State) (u : Nat) : Bool := if u < 2 then s.driveState u == dEasy else s.inj.auxEasy.get u != 0

/-- The unit of a point is in a state of R313. -/
def State.pointInside (s : State) (p : Nat) : Bool :=
  match s.live.point p with
  | none => false
  | some (u, k, _) =>
    if u < 2 then s.driveState u == dRun || (k != 4 && s.driveState u == dZero)
    else u < 4 && (s.legsOf u).any (fun l => s.on (F.LEG_STAT_EN l))

/-- A unit holds a safe state of either die. -/
def State.inSafe (s : State) (u : Nat) : Bool := s.on (F.PROT_STATE_HELD u) || s.umpHeld u

/-- The aborts that units bring about (R311), judged at the catch after the change. -/
def State.genUnits (s : State) : State :=
  let pts := List.range 8
  let inside := (pts.filter s.pointInside).foldl setBit 0
  let safe := ((List.range 4).filter s.inSafe).foldl setBit 0
  let easy := ((List.range 4).filter s.inEasy).foldl setBit 0
  let t := s.each [0, 1] (fun g t =>
    let mine := pts.filter (fun p => t.pointOf p g)
    let us := mine.filterMap (fun p => (t.live.point p).map (fun e => e.1))
    if us.any (fun u => bit safe u && !bit t.inj.safe u) then t.genAbort g 0x12
    else if us.any (fun u => bit easy u && !bit t.inj.easy u) then t.genAbort g 0x13
    else if mine.any (fun p => bit t.inj.inside p && !bit inside p) then t.genAbort g 0x11
    else t)
  { t with inj := { t.inj with inside := inside, safe := safe, easy := easy } }

/-- The envelope e_j (R308). -/
def envelope (j len taper : Nat) : FV :=
  if taper = 0 then fone else fmul (fofInt (min (min (j + 1) (len - j)) taper : Nat)) (frecip (fofInt taper))

/-- The sample of catch index `j`: w_j, the word that the log shows, and the generator after it. -/
def State.genWave (s : State) (g j : Nat) : Word × Nat × Gen :=
  let x := s.gen g
  match s.fld (F.INJ_CFG_WAVE g) with
  | 0 =>
    let (k, i) := s.stepAtIx g (s.fld (F.INJ_CFG_NSTEP g)) 0 j
    let div := max 1 (s.fld (F.INJ_STEPA_DIV g k))
    let th := i % div * 2 ^ 32 / div
    (sinWith sineEntry th, k, { x with shown := th })
  | 1 =>
    let (n, m) := prbsTaps (s.fld (F.INJ_CFG_ORDER g))
    let r := if j % max 1 (s.fld (F.INJ_CFG_HOLD g)) = 0 then
        (2 * x.lfsr + (if bit x.lfsr (n - 1) != bit x.lfsr (m - 1) then 1 else 0)) % 2 ^ n else x.lfsr
    ((if bit r 0 then 0x3F800000#32 else 0xBF800000#32), 0, { x with lfsr := r, shown := r })
  | _ =>
    (sinWith sineEntry x.theta, 0,
      { x with shown := x.theta, theta := (((x.theta : Int) + x.inc) % 2 ^ 32).toNat, inc := x.inc + s.ifld (F.INJ_DF_DF g) })

/-- A generator at a catch (R308, R311, R312). -/
def State.genCatch (s : State) (g : Nat) : State :=
  let x := s.gen g
  let st := s.fld (F.INJ_STATUS_STATE g)
  if !s.genBusy g then s
  else if x.abort ≠ 0 then
    (((s.set (F.INJ_STATUS_STATE g) 5).set (F.INJ_STATUS_CODE g) x.abort).ev (F.INJ_EVENT_GENg_ABORT g)).setGen g
      { x with sample := 0, abort := 0 }
  else if s.cat.num < x.start then s
  else
    let j := s.cat.num - x.start
    let s := s.wr (R.INJ_POS g) (BitVec.ofNat 32 (min j (2 ^ 32 - 1)))
    if x.len ≤ j then
      ((s.set (F.INJ_STATUS_STATE g) 4).ev (F.INJ_EVENT_GENg_DONE g)).setGen g { x with sample := 0 }
    else
      let (w, k, y) := s.genWave g j
      let v := (fmul (envelope j x.len (s.fld (F.INJ_TAPER_TAPER g))) (fconst w)).w
      let s := ((s.set (F.INJ_STATUS_STATE g) (if st = 1 then 2 else st)).set (F.INJ_STATUS_STEP g) k).setGen g { y with sample := v }
      if s.on (F.INJ_CFG_LOG_EN g) then
        s.capWrite (s.fld (F.INJ_CFG_LOG g)) [BitVec.ofNat 32 y.shown, v, BitVec.ofNat 32 k]
      else s

/-- INJ_AMP_WRITE (R310, R314). -/
def State.injAmp (s : State) (m : Master) (p : Nat) (v : Word) : State :=
  s.blockWrite m (R.INJ_AMP p) true (fun s =>
    if s.genBusy (s.fld (F.INJ_PTCTL_GEN p)) then s.refuse m (R.INJ_AMP p) eBusy true
    else match s.live.point p with
      | none => s.wr (R.INJ_AMP p) v
      | some (_, _, amax) =>
        let a := BitVec.ofNat 32 amax
        if f32Bad v || flLt (flOf a) { flOf v with neg := false } then (s.wr (R.INJ_AMP p) a).ev F.INJ_EVENT_AMP_LIM
        else s.wr (R.INJ_AMP p) v)

def injAmpWrite (m : Master) (p : Fin 8) (v : Word) (s : State) : State := s.onDie (fun s => s.injAmp m p v)

/-- The tagged sample g of a point (R314); `none` while it is off, so that INJECT passes x through. -/
def State.pointSample (s : State) (p : Nat) : Option FV :=
  let g := s.fld (F.INJ_PTCTL_GEN p)
  let st := s.fld (F.INJ_STATUS_STATE g)
  if s.on (F.INJ_PTCTL_EN p) && (st == 2 || st == 3) then some (fmul (fin (s.rd (R.INJ_AMP p))) (fconst (s.gen g).sample))
  else none

/-- The tuning block at a catch. -/
def State.injCatch (s : State) (tick : Nat) : State :=
  s.when (s.clocked 0x13) (fun s => ((((s.pinCatch 0 tick).pinCatch 1 tick).genUnits.capCatch).genCatch 0).genCatch 1)

/-- An activation aborts every run and puts every channel in IDLE (R311, R319). -/
def State.injActivate (s : State) : State :=
  let t := (s.genAbort 0 0x14).genAbort 1 0x14
  let t := t.each (List.range 8) (fun c t => t.set (F.CAP_STAT_STATE c) capIdle)
  { t with inj := { t.inj with capStop := 0, post := [] } }

/-- The entries of a channel that are in SRAM, as word lists. -/
def State.capEntries (s : State) (c : Nat) : List (List Word) :=
  let n := s.capNext c
  let sz := s.capSize c
  (List.range (min n sz)).map (fun i =>
    let a := s.capAddr c (n - min n sz + i)
    (List.range (s.fld (F.CAP_STAT_W c) + 1)).map (fun k => s.sramWord (a + 4 * k)))

def execSpCtrlWrite (m : Master) (v : Word) (s : State) : Host.Outcome State Fault Refusal := .next (spCtrlWrite m v s)
def execPinPeriod (k : Fin 2) (changes : List (Nat × Bool)) (s : State) : Host.Outcome State Fault Refusal :=
  .next (pinPeriod k changes s)
def execPinTimeout (k : Fin 2) (s : State) : Host.Outcome State Fault Refusal := .next (pinTimeout k s)
def execInjStart (m : Master) (g : Fin 2) (s : State) : Host.Outcome State Fault Refusal := .next (injStart m g s)
def execInjStop (m : Master) (g : Fin 2) (s : State) : Host.Outcome State Fault Refusal := .next (injStop m g s)
def execInjAbort (m : Master) (g : Fin 2) (s : State) : Host.Outcome State Fault Refusal := .next (injAbort m g s)
def execInjAmpWrite (m : Master) (p : Fin 8) (v : Word) (s : State) : Host.Outcome State Fault Refusal :=
  .next (injAmpWrite m p v s)
def execCapArm (m : Master) (c : Fin 8) (s : State) : Host.Outcome State Fault Refusal := .next (capArm m c s)
def execCapStop (m : Master) (c : Fin 8) (s : State) : Host.Outcome State Fault Refusal := .next (capStop m c s)
end Sys2Proof.Machine
end

