-- ==== Sys2Proof/Machine/Catch.lean ====
section
/-! DEFINITION. The catch: placement, inputs with their tags and deadlines, late counts and the write signature
(05_catch_and_determinism.md). -/

namespace Sys2Proof.Machine

/-! ### What a plan switch and a rotation come to when they are cancelled (R184, R194) -/

/-- States of STAGE (R188). -/
def sEmpty := 0
def sLoading := 1
def sVerifying := 2
def sVerified := 3
def sArmed := 4
def sCommitted := 5
def sFailed := 6

def State.stageState (s : State) : Nat := s.fld F.PLAN_STATUS_STAGE_STATE
def State.setStage (s : State) (st : Nat) : State := s.set F.PLAN_STATUS_STAGE_STATE st

/-- PLAN_LAST: the catch, and a code of R195. -/
def State.planLast (s : State) (code : Nat) : State := (s.set F.PLAN_LAST_CATCH s.stamp).set F.PLAN_LAST_CODE code

/-- MINPER of a plan (R127). -/
def PlanInfo.minPer (p : PlanInfo) : Nat := (p.w + 64 + 3) / 4

/-- A switch is ARMED or COMMITTED. -/
def State.switching (s : State) : Bool := s.stageState == sArmed || s.stageState == sCommitted

/-- A switch that does not take place: STAGE is VERIFIED again and the LIVE plan's own MINPER holds. -/
def State.dropSwitch (s : State) (code : Nat) : State :=
  let t := (((s.setStage sVerified).set F.CATCH_MINPER_MINPER s.live.minPer).planEv F.PLAN_EVENT_CANCELLED).planLast code
  let t := if t.cascaded then t else t.mbFinish svArm (fun _ => true) 0x04 [code, 1]
  { t with fab := { t.fab with armN := 0, go := false } }

/-- A cancellation that the device makes itself (R194, R577). -/
def State.abortSwitch (s : State) : State := if s.switching then s.dropSwitch 0x0B else s

/-- A rotation whose copy runs is abandoned, and the timer restarts (R184). -/
def State.rotAbandon (s : State) : State :=
  if s.fld F.FAB_ROT_STATE = 1 then
    { (s.set F.FAB_ROT_STATE 0) with fab := { s.fab with timerDue := false, copied := false } }
  else s

/-- A fault in a unit whose safe state it asks for; an aux channel, to which bits 8 and 14 do not apply (R371), takes it as REQ. -/
def State.faultAny (s : State) (u fault : Nat) : State := s.fault u (if u < 2 then fault else fReq) FaultInfo.plain

/-- A fault that sends every unit to its safe state. -/
def State.faultAll (s : State) (fault : Nat) : State := s.each (List.range 4) (fun u t => t.faultAny u fault)

/-! ### Write signature (R140) -/

/-- One byte of a reflected CRC-32. -/
def crcByte (c : BitVec 32) (b : BitVec 8) : BitVec 32 :=
  (List.range 8).foldl (fun (c : BitVec 32) _ => if c.getLsbD 0 then (c >>> 1) ^^^ 0xEDB88320#32 else c >>> 1) (c ^^^ b.setWidth 32)

/-- CRC-32 over bytes (R140, R483). -/
def crcBytes (l : List Byte) : BitVec 32 := l.foldl crcByte 0xFFFFFFFF#32 ^^^ 0xFFFFFFFF#32

/-- CRC-32 over words, little-endian. -/
def crcWords (ws : List Word) : BitVec 32 :=
  (ws.foldl (fun c w => (List.range 4).foldl (fun c k => crcByte c (w.extractLsb' (8 * k) 8)) c) 0xFFFFFFFF#32) ^^^ 0xFFFFFFFF#32

/-- Words written by the record at place `ix` of the schedule section, kept in section order. -/
def sigInsert (ix : Nat) (ws : List Word) : List (Nat × List Word) → List (Nat × List Word)
  | [] => [(ix, ws)]
  | (j, v) :: l => if ix < j then (ix, ws) :: (j, v) :: l else (j, v) :: sigInsert ix ws l

def State.sign (s : State) (ix : Nat) (ws : List Word) : State :=
  { s with cat := { s.cat with sig := sigInsert ix ws s.cat.sig } }

/-! ### Inputs (R128 to R132) -/

def State.input (s : State) (b : Nat) : Input := mapGet (fun _ => Input.init) s.cat.inputs b
def State.setInput (s : State) (b : Nat) (x : Input) : State :=
  { s with cat := { s.cat with inputs := mapPut (fun _ => Input.init) s.cat.inputs b x } }

/-- d of R129, as a signed 8-bit number. -/
def tagDist (tag num : Nat) : Int := signed 8 ((tag + 256 - num % 256) % 256)

/-- A datum for the current catch: accepted, unless the input is resolved (R131, R132). -/
def Input.accept (x : Input) (w : List Word) (v : Bool) : Input :=
  match x.res with
  | some _ => x
  | none => { x with held := some (w, v), res := some (w, v, false) }

/-- The head of a FIFO against the current catch: what the consumer makes of it, and the stale data it discards. -/
def Input.drain (num : Nat) : List (Nat × List Word × Bool) → Input → Nat → Input × Nat
  | [], x, n => ({ x with fifo := [] }, n)
  | (t, w, v) :: l, x, n =>
    if 0 < tagDist t num then ({ x with fifo := (t, w, v) :: l }, n)
    else if tagDist t num = 0 then Input.drain num l (x.accept w v) n
    else Input.drain num l x (n + 1)

/-- The consumer of input `b` looks at its FIFO (R129). -/
def State.drain (s : State) (b : Nat) : State :=
  let x := s.input b
  let (y, n) := Input.drain s.cat.num x.fifo x 0
  let t := s.setInput b y
  t.when (n != 0) (fun t => (t.bump F.CATCH_STALE_COUNT_STALE n).ev F.CATCH_EVENT_STALE)

/-- A tagged datum enters the FIFO of input `b`. The spec gives the crossing FIFOs no depth: this one is never full, so it stalls no
writer (log entry 95). -/
def State.datum (s : State) (b tag : Nat) (w : List Word) (v : Bool) : State :=
  let x := s.input b
  (s.setInput b { x with fifo := x.fifo ++ [(tag, w, v)] }).drain b

/-- Words and VALID that the source of a binding entry delivers with a tag; `none` when it delivers nothing: a result in
error (R147, R362) or none with that tag. -/
def State.delivers (s : State) (b : Bind) (tag : Nat) : Option (Word × Bool) :=
  let asWord := fun (v : Int) => BitVec.ofInt 32 v
  match b with
  | .sd n _ _ _ _ _ =>
    if s.fld (F.SD_STAT_TAG n) = tag ∧ s.on (F.SD_RES_ERR n) = false then some (asWord (s.sdVal n), s.on (F.SD_RES_VALID n)) else none
  | .sar e _ _ _ =>
    if s.fld (F.SAR_RES_TAG e) = tag then some (asWord (s.ifld (F.SAR_RES_VALUE e)), s.on (F.SAR_RES_VALID e)) else none
  | .pos i body =>
    let x := i % 2
    let q := body.getD 0 0 % 8
    if i < 4 then
      if s.cat.num % 256 ≠ tag then none
      else if i < 2 then
        some ((match q with
          | 0 => s.rd (R.ENC_ANG x) | 1 => (s.enc x).spd | 2 => BitVec.ofNat 32 (s.enc x).stat
          | _ => s.rd (R.ENC_SPDC x)), true)
      else
        some ((match q with
          | 0 => s.rd (R.HALL_ANG x) | 1 => s.rd (R.HALL_SPD x) | _ => BitVec.ofNat 32 (s.hall x).stat), true)
    else if i < 6 then
      if (s.ser x).tag ≠ tag then none
      else if q = 2 then some (BitVec.ofNat 32 (s.fld (F.SER_STAT_STAT x)), true)
      else if (s.ser x).code ≠ 0 then none
      else some (if q = 0 then s.rd (R.SER_ANG x) else s.rd (R.SER_SPD x), true)
    else none
  | .rsx n _ _ => if s.cat.num % 256 = tag then some (s.rd (R.RSLV_EPH n), true) else none
  | .bandIn => if s.cat.num % 256 = tag then some (BitVec.ofNat 32 s.band, true) else none
  | _ => none

/-- DATUM_ARRIVAL (R129): a datum of the source at binding index `b`. A datum older than the source's latest is stale
whatever it holds; EXCH data enter with their frame. -/
def datumArrival (b : Fin 2048) (tag : Fin 256) (s : State) : State :=
  s.onDie (fun s =>
    match s.live.bind[(b : Nat)]? with
    | none => s
    | some e =>
      match s.delivers e tag with
      | some (w, v) => s.datum b tag [w] v
      | none => if tagDist tag s.cat.num < 0 then s.datum b tag [] false else s)

/-! ### Late inputs (R132 to R135) -/

/-- The count of consecutive late catches of a unit. -/
def lateFld (u : Nat) : Field :=
  match u with
  | 0 => F.CATCH_LATE_CONSEC_A | 1 => F.CATCH_LATE_CONSEC_B | 2 => F.CATCH_LATE_CONSEC_AUXA | _ => F.CATCH_LATE_CONSEC_AUXB

/-- LATE_LIMIT; 0 reads as 1. -/
def State.lateLimit (s : State) : Nat := max 1 (s.fld F.CATCH_CTRL_LATE_LIMIT)

/-- A unit escalates (R134). -/
def State.escalate (s : State) (u : Nat) : State :=
  let t := s.ev F.CATCH_EVENT_LATE_ESC
  ({ t with cat := { t.cat with lateEsc := setBit t.cat.lateEsc u } } : State).faultAny u fLateEsc

/-- A unit's catch is late: its first late input counts (R133, R134). A unit with no operation in the catch keeps its
count. -/
def State.lateUnit (s : State) (u : Nat) : State :=
  if bit s.cat.late u || !bit s.cat.ran u then s
  else
    let t := ({ s with cat := { s.cat with late := setBit s.cat.late u } } : State).bump (lateFld u)
    t.when (t.lateLimit ≤ t.fld (lateFld u)) (fun t => t.escalate u)

/-- Units that a late input counts against; `u` is the unit of the record whose deadline it missed, 4 none (R133). -/
def State.inputUnits (s : State) (b : Bind) (u : Nat) : Nat :=
  match b with
  | .sd n _ _ _ _ _ => s.sdUnits n
  | .pos _ body => unitMask (body.getD 0 0 / 8 % 8)
  | .inject _ body => unitMask (body.getD 0 0 % 8)
  | _ => unitMask u

/-- Words that an input holds before any is accepted: zeros, and 7 for the band (R132, R228). -/
def Bind.unheld : Bind → List Word × Bool
  | .bandIn => ([7], true)
  | .exch _ body => (List.replicate (max 1 (body.getD 0 0 / 32 % 16)) 0, false)
  | _ => ([0], false)

/-- An input is resolved late in this catch (R132). -/
def State.resolveLate (s : State) (b : Nat) (e : Bind) (u : Nat) : State :=
  let x := s.input b
  let h := x.held.getD e.unheld
  let t := s.setInput b { x with res := some (h.1, h.2, true) }
  let t := if t.on F.CATCH_EVENT_LATE then t
    else (t.set F.CATCH_LATE_FIRST_INPUT b).set F.CATCH_LATE_FIRST_CATCH t.stamp
  let t := (t.ev F.CATCH_EVENT_LATE).bump F.CATCH_LATE_TOTAL_TOTAL
  t.each ((List.range 4).filter (fun v => bit (s.inputUnits e u) v)) (fun v t => t.lateUnit v)

/-- The binding entry is an input of the plan (R211), the sample of an injection point among them (R309). -/
def Bind.isInput : Bind → Bool
  | .sd .. | .sar .. | .pos .. | .regIn .. | .rsx .. | .bandIn | .inject .. => true
  | .exch _ body => body.getD 0 0 % 2 == 1
  | _ => false

/-- The deadline of input `b` for a record of unit `u` (R131). -/
def State.deadline (s : State) (b u : Nat) : State :=
  match s.live.bind[b]? with
  | some e => if e.isInput && (s.input b).res.isNone then s.resolveLate b e u else s
  | none => s

/-- INPUT_DEADLINE: the deadline cycle passes; an input without its datum is late. -/
def inputDeadline (b : Fin 2048) (u : Fin 5) (s : State) : State :=
  s.onDie (fun s => if s.cat.num = 0 ∨ s.on F.CATCH_CTRL_RUN = false then s else s.deadline b u)

/-! ### The catch (R117 to R127) -/

/-- Catch period of a catch of the given kind under the period in force (R118, R125). -/
def State.catchTicks (s : State) (centre : Bool) : Nat :=
  let p := s.fld F.CATCH_PERIOD_CARRIER
  if s.on F.CATCH_CTRL_MODE then (if centre then p - p / 2 else p / 2) else p

/-- The records of the LIVE plan's slots, without the sub-work list. -/
def State.liveRecords (s : State) : List Nat :=
  ((List.range (s.liveHdr 0x14 / 16)).map s.liveRecord).filter (fun r => r / 2 ^ 24 % 16 != 15)

/-- Units with a record in catch `n` (R126, R133). -/
def State.dueUnits (s : State) (n : Nat) : Nat :=
  s.liveRecords.foldl (fun m r =>
    if n % 2 ^ (r / 2 ^ 13 % 8) = r / 2 ^ 16 % 128 ∧ r / 2 ^ 10 % 8 < 4 then setBit m (r / 2 ^ 10 % 8) else m) 0

/-- The close of a catch: its signature, and the counts of the units that were not late (R133, R140). -/
def State.closeCatch (s : State) : State :=
  let t := s.wr R.CATCH_WSIG (crcWords (s.cat.sig.map (fun e => e.2)).flatten)
  t.each ((List.range 4).filter (fun u => bit t.cat.ran u && !bit t.cat.late u)) (fun u t => t.set (lateFld u) 0)

/-- OVERRUN (R127, R184, R194, R370). -/
def State.overrun (s : State) : State :=
  let t := ((s.ev F.CATCH_EVENT_OVERRUN).abortSwitch.rotAbandon).faultAll fSeat
  { t with cat := { t.cat with lapsed := true } }

/-- Margin of the catch that closes, its last seat having ended its schedule at cycle `done`; beyond the budget it is an
OVERRUN (R127, R141). -/
def State.slack (s : State) (done : Nat) : State :=
  if s.cat.budget < done then s.overrun
  else s.set F.CATCH_SLACK_MIN_SLACK (min (s.fld F.CATCH_SLACK_MIN_SLACK) (s.cat.budget - done))

/-- The context of the new catch (R119, R122 to R125). -/
def State.context (s : State) : State :=
  let n := (s.cat.num + 1) % 2 ^ 48
  let kind := s.on F.CATCH_CTRL_MODE && !s.cat.first && !s.cat.centre
  let t := s.catchTicks kind
  let at' := s.cat.next
  let s : State := { s with
    cat := { s.cat with num := n, centre := kind, budget := 4 * t - 64, tick := at', next := at' + t, first := false,
                        upAt := 4 * (at' + s.fld F.CATCH_LEAD_LEAD), late := 0, sig := [], ran := s.dueUnits n }
    fab := { s.fab with prev := s.fab.cur, cur := [], undo := [], dropSlot := none } }
  (s.wr R.CATCH_NUM_LO (BitVec.ofNat 32 n)).set F.CATCH_BUDGET_BUDGET (4 * t - 64)

/-- The excitation starts at the reference carrier's first boundary (R168). -/
def State.rsxStart (s : State) (first : Bool) : State :=
  if first then
    let b : Int := s.cat.tick + s.fld F.CATCH_LEAD_LEAD
    { s with sense := { s.sense with rsxAt := [(0, b), (1, b)] } }
  else s

/-- Every input starts the catch unresolved; data that waited for it are looked at, and registers are taken in (R129 to
R131). -/
def State.openInputs (s : State) : State :=
  s.each s.live.bind.zipIdx (fun (e, b) t =>
    if !e.isInput then t
    else
      let t := (t.setInput b { t.input b with res := none }).drain b
      match e with
      | .regIn page off => t.datum b (t.cat.num % 256) [t.rd (pageBase page + off)] true
      | _ => t)

/-- Control-filter results of the inputs whose window ends on the catch, after the bits received up to it; then the checks and a
calibration take them. `period` is that of the catch that ends. -/
def State.sdCatch (s : State) (bits : List (Nat × List (Option Bool))) (first : Bool) (period : Nat) : State :=
  let t := s.each (List.range 40) (fun n t =>
    let t := if t.sdUsed n then t.stream n (t.catchBits first period n (lookupD bits n [])) else t
    (t.sdResult n).setSd n { t.sd n with got := 0 })
  t.allChecks.calCatch

/-- The temperature band at the catch, with the thresholds it selects (R154, R446). -/
def State.bandStep (s : State) : State :=
  let b := s.band
  let t := s.when (s.clocked 0x14) State.bandCatch
  t.when (t.band != b) (fun t => t.loadThresholds t.band)

/-- COX0's part in the catch: torque ramps, and the seed and the gates of the catch that carries them (R283, R289). -/
def State.driveCatch (s : State) : State :=
  (((s.rampCatch 0).seedCatch 0).rampCatch 1).seedCatch 1 |>.auxCatch 2 |>.auxCatch 3

/-- The re-activation that follows a SEAT_FAULT is due (R186); an ACTIVATE that waits takes its place (R190). -/
def State.reactivateDue (s : State) : Bool := s.fab.reactivate && !s.fab.short && !s.fab.waiting && s.liveValid && s.outputsOff

/-- A catch is due: catches run, no activation waits for this instant (R121, R186), and no switch has yet to be committed or to
swap (R192). -/
def State.catchDue (s : State) : Bool :=
  s.on F.CATCH_CTRL_RUN && !s.fab.waiting && !s.reactivateDue && !(s.stageState == sCommitted && s.cat.num + 1 == s.fab.armN) &&
    !(s.stageState == sArmed && s.cat.num + 2 == s.fab.armN)

/-- A catch: the one before it closes, its last seat done at cycle `done`; then its context, its samples and its
inputs. -/
def State.catchGo (s : State) (bits : List (Nat × List (Option Bool))) (done : Nat) : State :=
  let first := s.cat.first
  let period := s.cat.next - s.cat.tick
  let s := if first then s else ((s.closeCatch.slack done).sarSkips)
  let s := (s.settleSeats.context.drivesDue.rsxStart first).sdCatch bits first period
  let s := ((s.bootCatch).bandStep.rsxPublish s.cat.tick).posCatch s.cat.tick
  ((s.injCatch s.cat.tick).dischargeCatch.openInputs).driveCatch

/-- CATCH_NUM_LO_READ (R141). -/
def catchNumLoRead (s : State) : State :=
  s.onDie (fun s => s.set F.CATCH_NUM_HI_NUM_HI (s.cat.num / 2 ^ 32))

def execDatumArrival (b : Fin 2048) (tag : Fin 256) (s : State) : Host.Outcome State Fault Refusal :=
  .next (datumArrival b tag s)
def execInputDeadline (b : Fin 2048) (u : Fin 5) (s : State) : Host.Outcome State Fault Refusal :=
  .next (inputDeadline b u s)
def execCatchNumLoRead (s : State) : Host.Outcome State Fault Refusal := .next (catchNumLoRead s)

end Sys2Proof.Machine
end

