-- ==== Sys2Proof/Machine/Fabric.lean ====
section
/-! DEFINITION. The control fabric: slots and seats, the sub and its rotation, seat faults, the store's scrubber, and
the activation and switching of plans (07_control_fabric.md). -/

namespace Sys2Proof.Machine

/-! ### Slots, seats and the pool (R171) -/

/-- The healthy seats, in seat order. -/
def State.healthy (s : State) : List Nat := (List.range 16).filter (fun x => bit (s.fld F.FAB_SEATS_HEALTHY) x)

/-- The pool, shown by SUB and NO_POOL (R196). -/
def State.setPool (s : State) (l : List Nat) : State :=
  let t := (s.set F.FAB_MAP1_SUB (l.headD 0xF)).set F.FAB_ROT_NO_POOL (if l.isEmpty then 1 else 0)
  { t with fab := { t.fab with pool := l } }

/-- Rotation stops (R186): no enable once a unit's outputs are off. -/
def State.stopRotation (s : State) : State :=
  let t := ((s.set F.FAB_ROT_STATE 3).ev F.FAB_EVENT_NO_SUB).hostEvent 0x0004 4 (s.rd R.FAB_FAULT).toNat
  { t with fab := { t.fab with noSub := true, timerDue := false, copied := false } }

/-- The record of a seat failure. -/
def State.seatRecord (s : State) (seat slot code : Nat) : State :=
  (((s.set F.FAB_FAULT_SEAT seat).set F.FAB_FAULT_SLOT slot).set F.FAB_FAULT_CODE code).set F.FAB_FAULT_CATCH s.stamp

/-- One write of the catch undone; a commit that has been applied since has acted, and stays. -/
def State.undoOne (s : State) (u : Undo) : State :=
  match u with
  | .word a v => s.putAt a v
  | .leg l pend pp g at' stale =>
    if s.pend l then
      let t := s.modLeg l (fun x => { x with pendPer := pp, group := g, latchAt := at', shStale := stale })
      if pend then t else t.clearFldBit (F.PWM_PENDING_PEND (legPage l)) (legBit l)
    else s
  | .check k fails x xval =>
    { s with checks := { s.checks with
        runs := s.checks.runs.set k (s.checks.runs.get k - 1), fails := s.checks.fails.set k (s.checks.fails.get k - fails)
        x := if k < 3 then s.checks.x.set k x else s.checks.x
        xval := if k < 3 ∧ xval = false then clearBit s.checks.xval k else s.checks.xval } }

/-- The writes that a slot has made in the current catch are discarded (R186): registers, local data and captured words as they were, its
transfers in flight gone, its commits and checks taken back, and none of its words in the signature. What has left the device, or has acted
beyond the words written, stays (log entry 100). -/
def State.discardSlot (s : State) (slot : Nat) : State :=
  let t := (s.fab.undo.filter (fun e => e.1 == slot)).foldl (fun t e => t.undoOne e.2) s
  let seat := if slot = 15 then workSeat else s.slotSeat slot
  { t with fab := { t.fab with undo := t.fab.undo.filter (fun e => e.1 != slot), dropSlot := some slot
                               own := t.fab.own.filter (fun e => e.1 != seat), flight := t.fab.flight.filter (fun e => e.2.2.2 != slot) }
           cat := { t.cat with sig := t.cat.sig.filter (fun e => s.liveRecord e.1 / 2 ^ 24 % 16 != slot) } }

/-- A seat holding a slot fails (R186): it is retired, the slot's writes in this catch are discarded, every unit goes to
its safe state, a switch in progress is cancelled, and the LIVE plan is activated again once the gates are off. -/
def State.seatFault (s : State) (seat slot code : Nat) : State :=
  let t := ((s.ev F.FAB_EVENT_SEAT_FAULT).clearFldBit F.FAB_SEATS_HEALTHY seat).seatRecord seat slot code
  let t := ((t.faultAll fSeat).abortSwitch).rotAbandon
  let short := t.healthy.length < t.slots
  let t := t.when short (fun t => t.ev F.FAB_EVENT_SEAT_SHORT)
  let t := t.discardSlot slot
  { t with cat := { t.cat with lapsed := true }
           fab := { t.fab with reactivate := true, short := t.fab.short || short } }

/-! ### Rotation (R181 to R186) -/

/-- ROTATION_TIMER. -/
def rotationTimer (s : State) : State :=
  s.onDie (fun s => if s.liveValid && s.fld F.FAB_ROT_STATE != 3 then { s with fab := { s.fab with timerDue := true } } else s)

/-- The target of the next takeover: the slot after the one taken last, modulo the SLOTS in force, and slot 0 after activation (R181). -/
def State.nextSlot (s : State) : Nat := match s.fab.taken with | some k => (k + 1) % max 1 s.slots | none => 0

/-- COPY_START (R183, R184): not between the commit of a switch and its catch N. -/
def copyStart (s : State) : State :=
  s.onDie (fun s =>
    if s.liveValid && s.fab.timerDue && s.fld F.FAB_ROT_STATE == 0 && !s.fab.pool.isEmpty && s.stageState != sCommitted &&
        s.cat.num != s.fab.armN && s.cat.num + 1 != s.fab.armN then
      let t := (s.set F.FAB_ROT_STATE 1).set F.FAB_ROT_TARGET s.nextSlot
      { t with fab := { t.fab with timerDue := false, copied := false } }
    else s)

/-- COPY_COMPLETE (R182); an uncorrectable word in the target's seat is a fault of that seat (R184). -/
def copyComplete (uncorr : Bool) (s : State) : State :=
  s.onDie (fun s =>
    if s.fld F.FAB_ROT_STATE = 1 then
      let k := s.fld F.FAB_ROT_TARGET
      if uncorr then s.seatFault (s.slotSeat k) k 2 else { s with fab := { s.fab with copied := true } }
    else s)

/-- The local data of seat `src` copied to seat `dst`, word for word. -/
def State.copySeat (s : State) (src dst : Nat) : State :=
  let rest := s.locals.filter (fun e => e.1 / 4096 != dst)
  let mine := s.locals.filter (fun e => e.1 / 4096 == src)
  { s with locals := mine.foldl (fun m e => mapPut (fun _ => 0#32) m (4096 * dst + e.1 % 4096) e.2) rest }

/-- The local data of a seat written as zero (R173, R192). -/
def State.clearSeat (s : State) (seat : Nat) : State := { s with locals := s.locals.filter (fun e => e.1 / 4096 != seat) }

/-- SUB_TAKEOVER (R183): the sub takes the slot, and the freed seat starts its in-service test. What the sub work holds is kept apart
from the seats (`workSeat`), so that the sub's successor goes on with it (R185; log entry 101). -/
def subTakeover (s : State) : State :=
  s.onDie (fun s =>
    match s.fab.pool with
    | [] => s
    | sub :: rest =>
      if s.fld F.FAB_ROT_STATE = 1 ∧ s.fab.copied = true then
        let k := s.fld F.FAB_ROT_TARGET
        let old := s.slotSeat k
        let t := (s.settleSeats.copySeat old sub).set (slotField k) sub
        let t := (((t.setPool rest).set F.FAB_ROT_TESTED old).set F.FAB_ROT_STATE 2).bump F.FAB_ROT_COUNT_COUNT
        { t with fab := { t.fab with testing := some old, copied := false, taken := some k } }
      else s)

/-- IST_COMPLETE (R186): the freed seat joins the pool's tail, or is retired and rotation stops. It passes if its signature is the fused
one, the March sequence finds no failing word of its local data, and the ECC corrects the injected single-bit error and detects the
double-bit one (R537). -/
def istComplete (sig : Word) (march : List Nat) (corrected detected : Bool) (s : State) : State :=
  s.onDie (fun s =>
    match s.fab.testing with
    | none => s
    | some seat =>
      let pass := sig.toNat == s.fuses.sigs.get (16 + seat) && march.isEmpty && corrected && detected
      let s : State := { s with fab := { s.fab with testing := none } }
      let t := ((s.set F.BIST_IST_SEAT seat).set F.BIST_IST_PASS (if pass then 1 else 0)).bump F.BIST_IST_COUNT
      if pass then
        let t := (t.setPool (t.fab.pool ++ [seat])).ev F.FAB_EVENT_ROT_DONE
        t.when (t.fld F.FAB_ROT_STATE == 2) (fun t => t.set F.FAB_ROT_STATE 0)
      else
        (((t.clearFldBit F.FAB_SEATS_HEALTHY seat).ev F.FAB_EVENT_IST_FAIL).seatRecord seat 0xF 1).stopRotation)

/-- XBAR_CREDIT_RETURN (R174, R176, R205): a transfer is delivered, `i` its place among those in flight to a slot, beyond them any
other; `last` says that the record of the slot it goes to has come to the cycle in which it writes its results, then or before, so that the
delivery is written after them. The lowest stalled slot takes the credit, its stalled cycles counted. -/
def xbarCreditReturn (i : Nat) (last : Bool) (cycles : Nat) (s : State) : State :=
  s.onDie (fun s =>
    let s := match s.fab.flight[i]? with
      | some (seat, _) => (s.when last (fun s => s.flushOwn seat)).deliver i
      | none => s
    (s.when (!s.fab.stalled.isEmpty) (fun s => s.bump F.FAB_XBAR_STALL_CYC cycles)).returnCredit)

/-! ### The store (R180) -/

/-- An uncorrectable error read in LIVE, by a seat or the scrubber. -/
def State.uncorrLive (s : State) : State :=
  let t := ((s.planEv F.PLAN_EVENT_UNCORR).set F.PLAN_STATUS_LIVE_VALID 0).faultAll fSeat
  let t := t.abortSwitch.rotAbandon
  { t with cat := { t.cat with lapsed := true }, fab := { t.fab with timerDue := false } }

/-- STAGE becomes FAILED with a code, and LOAD_FAIL is set (R188, R197). -/
def State.stageFail (s : State) (code : Nat) : State :=
  ((s.setStage sFailed).set F.PLAN_STATUS_FAIL code).planEv F.PLAN_EVENT_LOAD_FAIL

/-- An uncorrectable error read in STAGE: FAILED with 0xE0, and no swap takes place. -/
def State.uncorrStage (s : State) : State := s.abortSwitch.stageFail 0xE0

/-- STAGE holds a plan that the scrubber reads. -/
def State.scrubsStage (s : State) : Bool := s.stageState == sVerified || s.switching

/-- SCRUB_READ: outcome 0 is clean, 1 corrected, 2 uncorrectable. -/
def scrubRead (outcome : Fin 3) (s : State) : State :=
  s.onDie (fun s =>
    let stage := s.fab.scrubStage && s.scrubsStage
    let t := if outcome = 1 then s.bump F.PLAN_SCRUB_CORR
      else if outcome = 2 then (if stage then s.uncorrStage else s.uncorrLive) else s
    if stage then
      { t with fab := { t.fab with scrubStage := false, scrubStageAt := (t.fab.scrubStageAt + 1) % 16384 } }
    else
      let t := t.when (t.fab.scrubAt == 16383) (fun t => t.bump F.PLAN_SCRUB_PASSES)
      { t with fab := { t.fab with scrubStage := true, scrubAt := (t.fab.scrubAt + 1) % 16384 } })

/-! ### ACTIVATE, ARM and CANCEL (R189 to R191, R194, R195, R577) -/

/-- A refused command (R195). -/
def State.planRefuse (s : State) (code : Nat) : State := (s.planEv F.PLAN_EVENT_SWITCH_REFUSED).planLast code

/-- Mode, lead and first period of a plan's CATCH entry. -/
def PlanInfo.catchOr (p : PlanInfo) : Nat × Nat × Nat × Nat := p.catchEntry.getD (0, 0, 0, 0)

/-- R119 and R127 at the catch period that INIT_PER gives. -/
def PlanInfo.fits (p : PlanInfo) : Bool :=
  let (m, lead, _, per) := p.catchOr
  let t := catchPeriod m per
  decide (p.w + 64 ≤ 4 * t) && decide (16 ≤ lead) && decide (lead + 16 ≤ t)

/-- The DCO meets the plan's minimum (R90): N times the reference while it is locked or coasting, 3.42 to 3.78 GHz in FREE (R94);
within that span, and while an attempt runs, its frequency is open (log entry 1). -/
def State.dcoMeets (s : State) (p : PlanInfo) : Bool × State :=
  if 4 ≤ s.pllState then (decide (p.dcoMin * 1000000 ≤ s.pll.n * s.pll.refHz), s)
  else if s.pllState = pFree ∧ 3780 < p.dcoMin then (false, s)
  else if s.pllState = pFree ∧ p.dcoMin ≤ 3420 then (true, s)
  else s.freshBool

/-- The seat condition of R171 and R191. -/
def State.seatsFit (s : State) (p : PlanInfo) : Bool := decide (p.slots + 1 ≤ s.healthy.length)

/-- An ACTIVATE or ARM accepted while the SRAM phase of a load runs supersedes it (R265). -/
def State.supersede (s : State) : State :=
  if s.load.phase = 1 ∨ s.load.phase = 2 then { s with load := { s.load with superseded := true } } else s

/-- The images of a register in the binding, in section order, and the one that stays: the last (R255). -/
def imagesOf (b : List Bind) (a : Nat) : List Nat :=
  b.filterMap (fun e => match e with | .regImage p o v => if pageBase p + o = a then some v else none | _ => none)
def imageOf (b : List Bind) (a : Nat) : Option Nat := (imagesOf b a).getLast?

/-- A plan that holds an instance's DRV_NCATCH below 38 Hz (R282). -/
def PlanInfo.catchLow (p : PlanInfo) (d : Nat) : Bool :=
  p.bound d && (match imageOf p.bind (R.DRV_NCATCH d) with
    | some v => flLt (fval (BitVec.ofNat 32 v)) (flInt 38)
    | none => false)

/-- ACTIVATE (R190): its code, 0 if it is accepted. Of several conditions that fail, the first in this order is recorded (log entry
99), and so for ARM. COX0 last refuses a plan whose DRV_NCATCH is too low, with NO_PLAN in DRV_LAST (R282; log entry 104). -/
def State.planActivate (s : State) : Nat × State :=
  let (dco, s) := s.dcoMeets s.stage
  let low := [0, 1].filter s.stage.catchLow
  let code :=
    if s.fab.waiting then 0x08
    else if s.stageState ≠ sVerified then 0x01
    else if s.stage.fits = false then 0x03
    else if s.seatsFit s.stage = false then 0x06
    else if dco = false then 0x07
    else if s.liveValid && !s.outputsOff then 0x09
    else 0
  if code ≠ 0 then (code, s.planRefuse code)
  else if !low.isEmpty then (0x01, s.each low (fun d t => t.drvLast d 0x01))
  else (0, { s.supersede with fab := { s.fab with waiting := true } })

/-- The switch-fixed fields of a plan (R191): units and their legs, SD mode, clock, SDLY and R, SDC divisors, the CATCH
entry but for INIT_PER, and SAR triggers; each keyed by its hardware. -/
def PlanInfo.fixedKeys (p : PlanInfo) : List (Nat × Nat × Nat) :=
  p.bind.flatMap (fun b => match b with
    | .unit u f l k n => [(1, u, f), (2, u, l), (3, u, k), (4, u, n)]
    | .catchE m lead r _ => [(5, 0, m), (6, 0, lead), (7, 0, r)]
    | .sdc n w => [(8, n, w % 64)]
    | .sd n cfg _ _ _ _ => [(9, n, cfg &&& 0x1FF7F)]
    | .sar e seq _ _ => [(10, e, seq / 16 % 4)]
    | _ => [])

def PlanInfo.sameFixed (p q : PlanInfo) : Bool :=
  p.fixedKeys.all q.fixedKeys.contains && q.fixedKeys.all p.fixedKeys.contains

/-- The digest in PLAN_STAGE_DIG. -/
def State.stageDigest (s : State) : List Word := (List.range 16).map (fun k => s.rd (R.PLAN_STAGE_DIG k))

/-- A word of the STAGE half. -/
def State.stageWord (s : State) (x : Nat) : Word :=
  word32 (s.stageByte x) (s.stageByte (x + 1)) (s.stageByte (x + 2)) (s.stageByte (x + 3))

/-- STAGE names the LIVE digest as its predecessor, or is the plan LIVE immediately before (R191). -/
def State.follows (s : State) : Bool :=
  s.liveValid &&
    ((s.stageWord 0x44).getLsbD 0 && (List.range 16).map (fun k => s.stageWord (0x80 + 4 * k)) == s.liveDigest ||
      s.stageDigest == s.fab.prevDig)

/-- PLAN_TARGET. -/
def State.planTarget (s : State) : Nat := s.fld F.PLAN_TARGET_LO_N_LO + 2 ^ 32 * s.fld F.PLAN_TARGET_HI_N_HI

/-- The budget condition of R191 at the catch period in force. -/
def State.switchFits (s : State) : Bool :=
  decide (s.stage.w + s.stage.prologue + 64 ≤ 4 * catchPeriod (s.fld F.CATCH_CTRL_MODE) (s.fld F.CATCH_PERIOD_CARRIER))

/-- The checks of R191 against `n`; `far` leaves out TOO_SOON (R505). -/
def State.armCode (s : State) (n : Nat) (far dco : Bool) : Nat :=
  if s.switching || s.fab.waiting then 0x08
  else if s.stageState ≠ sVerified then 0x01
  else if far = false ∧ n < s.cat.num + 4 then 0x02
  else if s.switchFits = false then 0x03
  else if s.liveValid && !s.live.sameFixed s.stage then 0x04
  else if s.follows = false then 0x05
  else if s.seatsFit s.stage = false then 0x06
  else if dco = false then 0x07
  else 0

/-- ARM with target `n` (R191, R192): its code, 0 if it is accepted; the larger MINPER is enforced from then on. -/
def State.planArm (s : State) (n : Nat) (far : Bool) : Nat × State :=
  let (dco, s) := s.dcoMeets s.stage
  let code := s.armCode n far dco
  if code = 0 then
    let t := (s.supersede.setStage sArmed).set F.CATCH_MINPER_MINPER (max s.live.minPer s.stage.minPer)
    (0, { t with fab := { t.fab with armN := n, go := false } })
  else (code, s.planRefuse code)

/-- ARM on its own device: a cascade member refuses it (R189). -/
def State.localArm (s : State) : Nat × State :=
  if s.cascaded then (0x0A, s.planRefuse 0x0A) else s.planArm s.planTarget false

/-- CANCEL (R577): accepted until the close of catch N − 3, and refused from catch N − 2 on, in which the switch commits (R192). -/
def State.planCancel (s : State) : Nat × State :=
  if s.stageState = sArmed ∧ s.cat.num + 2 < s.fab.armN then (0, s.dropSwitch 0x00)
  else if s.switching then (0x08, s.planRefuse 0x08)
  else (0, s)

/-- A write of PLAN_CMD, which COX0 alone may make (R189). -/
def State.planCmd (s : State) (m : Master) (cmd : Nat) : State :=
  s.blockWrite m R.PLAN_CMD (isCox0 m) (fun s =>
    match cmd with
    | 1 => s.planActivate.2
    | 2 => s.localArm.2
    | 3 => s.planCancel.2
    | _ => s)

def activate (m : Master) (s : State) : State := s.onDie (fun s => s.planCmd m 1)
def arm (m : Master) (s : State) : State := s.onDie (fun s => s.planCmd m 2)
def cancel (m : Master) (s : State) : State := s.onDie (fun s => s.planCmd m 3)

/-! ### The pages a plan binds (R115, R255, R547) -/

/-- Pages that a binding entry names, with the units it covers; an entry that names no unit covers all four. -/
def State.bindPages (s : State) (e : Bind) : List (Nat × Nat) :=
  match e with
  | .unit u f l _ _ =>
    if u < 2 then
      (0x0E, 2 ^ u) :: (0x12, 2 ^ u) :: ((List.range 18).filter (fun x => decide (f ≤ x) && decide (x ≤ l))).map
        (fun x => (legPage x, 2 ^ u))
    else [(0x0E, 2 ^ u), (0x0D, 2 ^ u)]
  | .catchE .. => [(0x04, 15)]
  | .sdc .. => [(0x05, 15)]
  | .sd n _ m _ _ _ => [(5 + n / 20, unitMask (m / 2 ^ 11 % 8))]
  | .pair .. => [(0x06, 15)]
  | .sum .. => [(0x06, 15)]
  | .sar x _ _ _ => [(0x07, s.sarUnits x)]
  | .rsx .. => [(0x08, 15)]
  | .legGroup f _ u => [(legPage f, unitMask u)]
  | .brake _ m => [(0x0D, m % 4), (0x0E, m % 4)]
  | .pos i body => [(if i < 6 then 0x10 + i % 2 else 0x08, unitMask (body.getD 0 0 / 8 % 8))]
  | .regIn p _ => [(p, 15)]
  | .regOut p _ => [(p, 15)]
  | .exch .. => [(0x18, 15)]
  | .capture .. => [(0x13, 15)]
  | .inject _ body => [(0x13, unitMask (body.getD 0 0 % 8))]
  | .bandSet l _ _ => [(legPage l, match s.live.unitOf l with | some u => 2 ^ u | none => 15)]
  | .bandIn => [(0x14, 15)]
  | .snapshot _ => []
  | .regImage p _ _ => [(p, 15)]

/-- Units covered by the LIVE plan's binding of a page. -/
def State.pageUnits (s : State) (p : Nat) : Nat :=
  (s.live.bind.flatMap s.bindPages).foldl (fun m e => if e.1 = p then m ||| e.2 else m) 0

/-- The LIVE plan binds the page. -/
def State.pageBound (s : State) (p : Nat) : Bool := (s.live.bind.flatMap s.bindPages).any (fun e => e.1 == p)

/-- BOUND of every page; an activation also sets ENABLE (R115, R547). -/
def State.bindAll (s : State) (enable : Bool) : State :=
  let named := (s.live.bind.flatMap s.bindPages).map (fun e => e.1)
  s.each (List.range 32) (fun p t =>
    let b := named.contains p
    (t.set (F.PAGE_STATUS_BOUND p) (if b then 1 else 0)).when (enable && b && !pageFixed p) (fun t =>
      (t.set (F.PAGE_CTRL_ENABLE p) 1).set (F.PAGE_STATUS_CLR_PEND p) 0))

/-! ### What LIVE tells the registers -/

/-- Words of an init list: first local word and values of each run (R247). -/
def initRuns : Nat → List Nat → List (Nat × List Nat)
  | 0, _ => []
  | _, [] => []
  | n + 1, h :: ws =>
    let len := h / 65536 % 4096 + 1
    (h % 4096, ws.take len) :: initRuns n (ws.drop len)

/-- A halfword of the LIVE half. -/
def State.liveHalfword (s : State) (x : Nat) : Nat := (s.liveByte x).toNat + 256 * (s.liveByte (x + 1)).toNat

/-- The init list of slot `k`, entry 15 being the sub-work list (R246). -/
def State.initList (s : State) (k : Nat) : List (Nat × List Nat) :=
  let pool := s.liveHdr 0x18
  let len := fun i => s.liveHalfword (pool + 4 + 2 * i)
  let at' := pool + 40 + 4 * s.liveHalfword pool + 4 * s.liveHalfword (pool + 2) + ((List.range k).map len).sum
  let ws := (List.range (len k / 4)).map (fun i => (s.liveWord (at' + 4 * i)).toNat)
  initRuns ws.length ws

/-- An init list written into a seat, except its words below `cw` (R173, R192). -/
def State.initSeat (s : State) (seat k cw : Nat) : State :=
  s.each (s.initList k) (fun r t =>
    t.each r.2.zipIdx (fun v t => t.when (cw ≤ r.1 + v.2) (fun t => t.setLocal seat (r.1 + v.2) (BitVec.ofNat 32 v.1))))

/-- The sub-work list's init, written into the sub (R247). -/
def State.initSub (s : State) : State := s.initSeat workSeat 15 0

/-- The bits of a register that a plan's image loads, RO ones alone at a warm switch. -/
def imageMask (a : Nat) (all : Bool) : Word :=
  match regRow a with
  | some r => BitVec.ofNat 32 (if all then r.pmask else r.pmask &&& r.ro)
  | none => 0

/-- One register image (R255). -/
def State.image (s : State) (all : Bool) (a : Nat) (v : Word) : State :=
  let m := imageMask a all
  s.wr a ((s.rd a &&& ~~~ m) ||| (v &&& m))

/-- The images of a plan: LEG_CFG at a warm switch waits for the leg's next boundary (R346). -/
def State.images (s : State) (activation : Bool) : State :=
  s.each s.live.bind (fun e t => match e with
    | .regImage p o v =>
      let a := pageBase p + o
      match (List.range 24).find? (fun l => R.LEG_CFG l == a) with
      | some l => if activation then t.image true a (BitVec.ofNat 32 v) else t.modLeg l (fun x => { x with cfgNew := some (BitVec.ofNat 32 v) })
      | none => t.image activation a (BitVec.ofNat 32 v)
    | .sdc n w => t.image activation (R.SDC_CFG n) (BitVec.ofNat 32 w)
    | .sd n c m nom _ _ =>
      let t := (t.image activation (R.SD_CFG n) (BitVec.ofNat 32 c)).image activation (R.SD_MCFG n) (BitVec.ofNat 32 m)
      t.when activation (fun t => t.wr (R.SD_OFS n) (BitVec.ofNat 32 (nom % 2 ^ 25)))
    | .sar x seq nom _ =>
      (t.image activation (R.SAR_SEQ x) (BitVec.ofNat 32 seq)).when activation (fun t => t.wr (R.SAR_OFS x) (BitVec.ofNat 32 (nom % 2 ^ 12)))
    | .rsx n c ph => (t.image activation (R.RSX_CFG n) (BitVec.ofNat 32 c)).image activation (R.RSX_PHASE n) (BitVec.ofNat 32 ph)
    | .capture c body =>
      (t.wr (R.CAP_GEOM c) (BitVec.ofNat 32 (body.getD 0 0))).set (F.CAP_STAT_W c) (body.getD 1 0 % 16)
    | _ => t)

/-- Entries of each SAR converter (R165). -/
def PlanInfo.sarLen (p : PlanInfo) (c : Nat) : Nat :=
  (p.bind.filter (fun e => match e with | .sar x _ _ _ => x / 16 == c | _ => false)).length

/-- What the fabric, the CATCH block and the SAR sequencer show of the LIVE plan. -/
def State.showLive (s : State) : State :=
  let p := s.live
  ((((s.set F.CATCH_MINPER_MINPER p.minPer).set F.FAB_CFG_SLOTS p.slots).set F.SAR_CTRL_LEN0 (p.sarLen 0)).set
    F.SAR_CTRL_LEN1 (p.sarLen 1))

/-! ### The roles of the halves (R190, R192) -/

/-- The halves swap roles; `old` keeps the plan that was LIVE as a VERIFIED STAGE. -/
def State.swapHalves (s : State) : State :=
  let was := s.liveValid
  let live := s.liveDigest
  let stage := s.stageDigest
  let bytes := s.fld F.PLAN_USE_LIVE_BYTES
  let t := (s.set F.PLAN_STATUS_LIVE_HALF (1 - s.liveHalf)).set F.PLAN_STATUS_LIVE_VALID 1
  let t := (t.set F.PLAN_USE_LIVE_BYTES (s.fld F.PLAN_USE_STAGE_STAGE_BYTES)).set F.PLAN_USE_STAGE_STAGE_BYTES (if was then bytes else 0)
  let t := t.each (List.range 16) (fun k t =>
    (t.wr (R.PLAN_LIVE_DIG k) (stage.getD k 0)).wr (R.PLAN_STAGE_DIG k) (if was then live.getD k 0 else 0))
  let t := t.setStage (if was then sVerified else sEmpty)
  { t with live := s.stage, stage := if was then s.live else PlanInfo.empty
           fab := { t.fab with prevDig := if was then live else [], liveSlot := s.fab.stageSlot, stageSlot := s.fab.liveSlot } }

/-! ### Activation takes effect (R121, R171, R173, R190, R255, R330, R366, R578) -/

/-- RO fields that a plan loads return to zero before its own images are written, so that nothing of an older plan stays in
force (R255; log entry 30). -/
def State.clearImages (s : State) : State :=
  { s with regs := s.regs.foldl (fun m e =>
      let k := imageMask e.1 false
      if k = 0 then m else mapPut resetWord m e.1 (e.2 &&& ~~~ k)) s.regs }

/-- Slots are assigned to the healthy seats in order, the rest forming the pool (R171); rotation starts afresh. -/
def State.assign (s : State) : State :=
  let hs := s.healthy
  let n := s.live.slots
  let t := s.each (List.range 15) (fun k t => t.set (slotField k) (if k < n then hs.getD k 0xF else 0xF))
  let t := (t.setPool (hs.drop n)).set F.FAB_ROT_STATE 0
  let t : State := { t with fab := { t.fab with
    testing := none, timerDue := false, taken := none, copied := false, noSub := false, short := false, reactivate := false,
    dropSlot := none, waiting := false, credits := 0, stalled := [], own := [], flight := [], undo := [], armN := 0, go := false, cur := [], prev := [] } }
  if t.fab.pool.isEmpty then t.stopRotation else t

/-- Local data of every slot, and of the sub (R173, R247). -/
def State.initLocals (s : State) : State :=
  let t : State := { s with locals := [] }
  (t.each (List.range t.live.slots) (fun k t => t.initSeat (t.slotSeat k) k 0)).initSub

/-- Counters and results that an activation clears (R141, R446, R578 and the tables of chapters 6, 12, 14 and 17). An input's STUCK run, and the
LOCK, violations and good-bit count of its Manchester decoder, stay as they were: no rule says (log entry 125). -/
def State.clearCounts (s : State) : State :=
  let t := (((s.wr R.CATCH_LATE_TOTAL 0).wr R.CATCH_STALE_COUNT 0).wr R.CATCH_LATE 0).set F.CATCH_SLACK_MIN_SLACK 0xFFFFF
  let t := t.wr R.FAB_XBAR 0
  let t := t.each (List.range 40) (fun n t =>
    (((t.set (F.SD_STAT_VIOL n) 0).set (F.SD_STAT_ERRCNT n) 0).set (F.SD_RES_VALID n) 0).setSd n { t.sd n with count := 0, got := 0 })
  let t := t.each (List.range 32) (fun e t => t.set (F.SAR_RES_VALID e) 0)
  let t := t.each [0x0B, 0x0C, 0x0D] (fun p t => (t.wr (R.PWM_LATE_COUNT p) 0).wr (R.PWM_PENDING p) 0)
  let t := t.each (List.range 4) (fun u t => t.set (F.PROT_SPD_VALID u) 0)
  let t := t.when (t.fld F.THRM_STATUS_BAND != 7) (fun t => (t.set F.THRM_STATUS_BAND 7).ev F.THRM_EVENT_BAND_CHANGE)
  let t := (t.set F.THRM_STATUS_BAND_VALID 0).set F.THRM_MOD_TM 0
  let t := (t.each (List.range 6) (fun n t => (t.set (F.THRM_NTCT_VALID n) 0).set (F.THRM_NTCT_FAULT n) 0)).set F.THRM_MOD_GOOD 0
  { t with therm := { t.therm with ntcRun := [] }
           sense := { t.sense with chk := [], sarAt := [], sarOfs := [], sarOld := [], sarBusy := 0, rsxAt := [], refchk := [] } }

/-- The PWM legs at an activation (R330, R332, R576). -/
def State.legsActivate (s : State) : State :=
  let (_, _, _, per) := s.live.catchOr
  s.each (List.range 24) (fun l t =>
    let x := t.leg l
    let t := t.setLeg l { Leg.init with flt := x.flt, tripAt := x.tripAt, drvFault := x.drvFault, barUv := x.barUv }
    let t := (((t.wr (R.LEG_PER_SH l) 0).wr (R.LEG_CMP_SH l) 0).wr (R.LEG_CMP l) 0).wr (R.LEG_CARRY l) 0
    if (t.unitOf l).isSome then (t.wr (R.LEG_PER l) (BitVec.ofNat 32 per)).loadBand l 7 else t.wr (R.LEG_PER l) 0)

/-- The drive instances at an activation: every one starts in OFF (R292). -/
def State.drivesActivate (s : State) : State :=
  s.each [0, 1] (fun d t =>
    let x := t.drive d
    let t := ((t.setDrive d { Drive.init with verdict := x.verdict }).set (F.DRV_PSTAT_SRC d) 3).set (F.DRV_STATE_SRC d) 3
    if t.driveState d = dOff then t else t.setDriveState d dOff)

/-- Legs of A and B that the umpire keeps (R340). -/
def State.umpLegs (s : State) : State :=
  let of := fun u => (s.live.unitLegs u).map (fun e => (e.1, e.2.1))
  { s with ump := { s.ump with legsA := of 0, legsB := of 1, liveValid := s.liveValid } }

/-- Where the catches of the new run fall (R121): at the tick of the activation, or at the first LOCKED; a crew member's run once its
catch marker has placed them (R495). -/
def State.placeCatches (s : State) (tick : Nat) : State :=
  let (m, lead, _, per) := s.live.catchOr
  let t := ((s.set F.CATCH_CTRL_MODE m).set F.CATCH_LEAD_LEAD lead).set F.CATCH_PERIOD_CARRIER per
  let lock := decide (4 ≤ t.pllState)
  let crew := t.fld F.CASC_STATE_ROLE = 2
  let t := t.set F.CATCH_CTRL_RUN (if lock ∧ ¬ crew then 1 else 0)
  { t with cat := { t.cat with next := tick, first := true, centre := false, waitLock := !lock, lapsed := false, late := 0,
                               lateEsc := 0, ran := 0, sig := [], inputs := [] } }

/-- A new run of the LIVE plan starts at `tick`. -/
def State.startRun (s : State) (tick : Nat) : State :=
  let t := (((s.clearImages.showLive).assign).initLocals).clearCounts
  let t := ((t.images true).legsActivate).placeCatches tick
  let t := (((t.loadThresholds 7).bindAll true).hbRebind).chainStart
  let t := (t.posActivate.injActivate).drivesActivate
  ((t.umpLegs).planEv F.PLAN_EVENT_SWITCHED).planLast 0

/-- The tick at which an activation takes effect: the instant of the next catch while catches run (R190). -/
def State.effectTick (s : State) (tick : Nat) : Nat := if s.on F.CATCH_CTRL_RUN then s.cat.next else tick

/-- The catch before an activation closes. -/
def State.closeRun (s : State) : State := if s.on F.CATCH_CTRL_RUN && !s.cat.first then s.closeCatch.sarSkips else s

/-- ACTIVATION_EFFECT (R190); `tick` is the present tick. STAGE becomes LIVE whatever has become of it since the ACTIVATE was accepted
(log entry 98). -/
def activationEffect (tick : Nat) (s : State) : State :=
  s.onDie (fun s => if s.fab.waiting then
    ((s.closeRun.swapHalves).startRun (s.effectTick tick)).mbFinish svActivate (fun _ => true) 0 [] else s)

/-- FABRIC_REACTIVATE (R186): the LIVE plan is activated again, without its faulty seat. -/
def fabricReactivate (tick : Nat) (s : State) : State :=
  s.onDie (fun s => if s.reactivateDue then s.closeRun.startRun (s.effectTick tick) else s)

/-! ### The warm switch (R192, R193) -/

/-- SWITCH_COMMIT: at catch N − 2; a cascade member needs GO (R505, R506). -/
def switchCommit (s : State) : State :=
  s.onDie (fun s =>
    if s.stageState = sArmed ∧ s.cat.num + 2 = s.fab.armN then
      if s.cascaded && !s.fab.go then s.dropSwitch 0x0A
      else if s.switchFits then s.setStage sCommitted
      else
        let t := ((s.setStage sVerified).set F.CATCH_MINPER_MINPER s.live.minPer).planRefuse 0x03
        let t := if t.cascaded then t else t.mbFinish svArm (fun _ => true) 0x04 [0x03, 1]
        { t with fab := { t.fab with armN := 0, go := false } }
    else s)

/-- The source an input entry reads. -/
def Bind.source : Bind → Option (Nat × Nat × Nat)
  | .sd n _ _ _ _ _ => some (4, n, 0)
  | .sar e _ _ _ => some (7, e, 0)
  | .rsx n _ _ => some (8, n, 0)
  | .pos i body => some (0x0B, i, body.getD 0 0 % 8)
  | .regIn p o => some (0x0C, p, o)
  | .exch c body => if body.getD 0 0 % 2 = 1 then some (0x0E, c, 0) else none
  | .inject p _ => some (0x10, p, 0)
  | .bandIn => some (0x12, 0, 0)
  | _ => none

/-- Inputs of the outgoing plan under the incoming plan's binding indexes. -/
def State.rekeyInputs (s : State) (q : PlanInfo) : List (Nat × Input) :=
  q.bind.zipIdx.foldl (fun m e =>
    match e.1.source with
    | none => m
    | some k =>
      match s.live.bind.findIdx? (fun b => b.source == some k) with
      | some i => mapPut (fun _ => Input.init) m e.2 (s.input i)
      | none => m) []

/-- Units whose late counts carry over (R135): a late input of the outgoing plan that the incoming plan binds to the same
unit. -/
def State.carriedLate (s : State) (q : PlanInfo) : Nat :=
  (List.range 4).foldl (fun m u =>
    if bit s.cat.late u && s.live.bind.zipIdx.any (fun e =>
        (match (s.input e.2).res with | some (_, _, l) => l | none => false) &&
        (match e.1 with
         | .sd n _ _ _ _ _ => q.bind.any (fun b => match b with | .sd k _ mc _ _ _ => k == n && bit (unitMask (mc / 2 ^ 11 % 8)) u | _ => false) &&
             bit (s.sdUnits n) u
         | .pos i body => q.bind.any (fun b => match b with | .pos k bd => k == i && bit (unitMask (bd.getD 0 0 / 8 % 8)) u | _ => false) &&
             bit (unitMask (body.getD 0 0 / 8 % 8)) u
         | .inject i body => q.bind.any (fun b => match b with | .inject k bd => k == i && bit (unitMask (bd.getD 0 0 % 8)) u | _ => false) &&
             bit (unitMask (body.getD 0 0 % 8)) u
         | b => b.source.isSome && q.bind.any (fun c => c.source == b.source)))
    then setBit m u else m) 0

/-- Slots across a switch: common ones keep their seats, added ones take seats from the head of the pool with their local
data cleared, dropped ones return theirs to its tail. -/
def State.reslot (s : State) (old new : Nat) : State :=
  let added := s.fab.pool.take (new - old)
  let dropped := ((List.range old).filter (fun k => decide (new ≤ k))).map s.slotSeat
  let t := s.each (List.range 15) (fun k t =>
    if new ≤ k then t.set (slotField k) 0xF
    else if old ≤ k then
      let seat := added.getD (k - old) 0xF
      (t.set (slotField k) seat).clearSeat seat
    else t)
  let t := t.setPool (s.fab.pool.drop (new - old) ++ dropped)
  t.when (added.length < new - old) (fun t =>
    let t := t.ev F.FAB_EVENT_SEAT_SHORT
    { t with fab := { t.fab with short := true } })

/-- The prologue (R192, R247): init words are written but for the carried words of a slot that both plans have. -/
def State.prologue (s : State) (old : Nat) : State :=
  (s.each (List.range s.live.slots) (fun k t => t.initSeat (t.slotSeat k) k (if k < old then t.live.cw else 0))).initSub

/-- Position sources that a switch restarts (R366). -/
def posChanged (p q : PlanInfo) : List Nat :=
  let img := fun (r : PlanInfo) (i o : Nat) => r.bind.findSome? (fun b => match b with
    | .regImage pg off v => if pg = 0x10 + i % 2 ∧ off = o then some v else none
    | _ => none)
  (List.range 6).filter (fun i => q.hasPos i && (!p.hasPos i || (posStrict i).any (fun o => img p i o != img q i o)))

/-- Capture channels and injection points whose binding differs (R311, R319). -/
def PlanInfo.captureOf (p : PlanInfo) (c : Nat) : Option (List Nat) :=
  p.bind.findSome? (fun b => match b with | .capture k body => if k = c then some body else none | _ => none)

def State.injSwitch (s : State) (p q : PlanInfo) : State :=
  let t := s.each (List.range 8) (fun c t =>
    t.when (p.captureOf c != q.captureOf c) (fun t =>
      { (t.set (F.CAP_STAT_STATE c) capStopped) with
          inj := { t.inj with capStop := clearBit t.inj.capStop c, post := t.inj.post.filter (fun e => e.1 != c) } }))
  t.each [0, 1] (fun g t =>
    t.when ((List.range 8).any (fun k => t.pointOf k g && p.point k != q.point k)) (fun t => t.genAbort g 0x14))

/-- The swap at the close of catch N − 1. -/
def State.switchSwap (s : State) : State :=
  let s := s.settleSeats.sarSkips
  let p := s.live
  let q := s.stage
  let n := s.fab.armN
  let keep := s.carriedLate q
  let ins := s.rekeyInputs q
  let moved := posChanged p q
  let t := s.each ((List.range 4).filter (fun u => bit s.cat.late u && !bit keep u)) (fun u t => t.set (lateFld u) 0)
  let t := (t.injSwitch p q).swapHalves
  let t := ((t.reslot p.slots q.slots).showLive).prologue p.slots
  let t := t.each ((List.range 24).filter (fun l => (q.unitOf l).isSome)) (fun l t =>
    t.modLeg l (fun x => { x with cfgNew := some (t.rd (R.LEG_CFG l)) }))
  let t := (((t.images false).loadThresholds t.band).bindAll false).hbRebind
  let t := t.each moved (fun i t => t.posRestart i)
  let t := (t.planEv F.PLAN_EVENT_SWITCHED).planLast 0
  let t := t.set F.PLAN_LAST_CATCH (n % 65536)
  let t := if t.cascaded then t else t.mbFinish svArm (fun _ => true) 0 []
  { t with cat := { t.cat with inputs := ins }, fab := { t.fab with go := false } }

/-- SWITCH_SWAP. -/
def switchSwap (s : State) : State :=
  s.onDie (fun s => if s.stageState = sCommitted ∧ s.cat.num + 1 = s.fab.armN then s.switchSwap else s)

def execRotationTimer (s : State) : Host.Outcome State Fault Refusal := .next (rotationTimer s)
def execCopyStart (s : State) : Host.Outcome State Fault Refusal := .next (copyStart s)
def execCopyComplete (uncorr : Bool) (s : State) : Host.Outcome State Fault Refusal := .next (copyComplete uncorr s)
def execSubTakeover (s : State) : Host.Outcome State Fault Refusal := .next (subTakeover s)
def execIstComplete (sig : Word) (march : List Nat) (corrected detected : Bool) (s : State) : Host.Outcome State Fault Refusal :=
  .next (istComplete sig march corrected detected s)
def execXbarCreditReturn (i : Nat) (last : Bool) (cycles : Nat) (s : State) : Host.Outcome State Fault Refusal :=
  .next (xbarCreditReturn i last cycles s)
def execScrubRead (outcome : Fin 3) (s : State) : Host.Outcome State Fault Refusal := .next (scrubRead outcome s)
def execActivate (m : Master) (s : State) : Host.Outcome State Fault Refusal := .next (activate m s)
def execArm (m : Master) (s : State) : Host.Outcome State Fault Refusal := .next (arm m s)
def execCancel (m : Master) (s : State) : Host.Outcome State Fault Refusal := .next (cancel m s)
def execActivationEffect (tick : Nat) (s : State) : Host.Outcome State Fault Refusal := .next (activationEffect tick s)
def execFabricReactivate (tick : Nat) (s : State) : Host.Outcome State Fault Refusal := .next (fabricReactivate tick s)
def execSwitchCommit (s : State) : Host.Outcome State Fault Refusal := .next (switchCommit s)
def execSwitchSwap (s : State) : Host.Outcome State Fault Refusal := .next (switchSwap s)

end Sys2Proof.Machine
end

