-- ==== Sys2Proof/Machine/Record.lean ====
section
/-! DEFINITION. The form of a schedule record: opcodes, accepted types, costs, counts, reference fields and mode bits
(08_operation_set.md R199, R210; 09_race_plan_images.md R243 to R245). -/

namespace Sys2Proof

/-- KIND and INDEX of a reference (R244); the special "none" has KIND 3 and INDEX 0. -/
def refKind (r : Fin 16384) : Nat := r.val / 4096
def refIx (r : Fin 16384) : Nat := r.val % 4096
def refNone (r : Fin 16384) : Bool := r.val == 0x3000

/-- The opcodes of R210 with the types each accepts, bit T of the mask. -/
def opTypes (op : Nat) : Option Nat :=
  match op with
  | 0x01 => some 11 | 0x02 => some 1 | 0x03 => some 15 | 0x04 => some 15 | 0x05 => some 15 | 0x06 => some 1
  | 0x10 => some 1 | 0x11 => some 1 | 0x12 => some 1 | 0x13 => some 1 | 0x14 => some 8 | 0x15 => some 1 | 0x16 => some 1
  | 0x17 => some 1 | 0x20 => some 1 | 0x21 => some 1 | 0x22 => some 1 | 0x23 => some 7 | 0x24 => some 1 | 0x25 => some 1
  | 0x28 => some 1 | 0x29 => some 1 | 0x2A => some 1 | 0x2B => some 1 | 0x2C => some 3 | 0x30 => some 1 | 0x31 => some 1
  | 0x32 => some 1 | 0x33 => some 1 | 0x34 => some 1 | 0x35 => some 1 | 0x40 => some 7 | 0x41 => some 7 | 0x42 => some 15
  | 0x43 => some 15 | 0x44 => some 7 | 0x45 => some 15 | 0x46 => some 1 | 0x47 => some 1 | 0x48 => some 1 | 0x49 => some 15
  | 0x4A => some 15 | 0x50 => some 15 | 0x51 => some 3
  | _ => none

/-- Words of a value of the record's type. -/
def OpRec.width (r : OpRec) : Nat := if r.t = 2 then 2 else 1

/-- Cycles of a record (R210); a LOAD_SMP counts its shortest arbitration delay (log entry 32). -/
def opCost (op : Nat) (r : OpRec) : Nat :=
  let wide := r.t = 2
  match op with
  | 0x01 => 8 | 0x02 => 4 + r.n + r.mode / 2 % 2 | 0x03 => 5 | 0x04 => 4 + r.n | 0x05 => 4 + r.n | 0x06 => 8
  | 0x10 => 14 + 2 * r.n | 0x11 => 10 + r.n * r.m | 0x12 => 16 | 0x13 => 16 | 0x14 => 14 | 0x15 => 40 | 0x16 => 12 + 4 * r.n
  | 0x17 => 28 | 0x20 => 24 | 0x21 => 34 | 0x22 => 6 | 0x23 => 6 | 0x24 => 12 | 0x25 => 40 | 0x28 => 10 | 0x29 => 18
  | 0x2A => 14 | 0x2B => 22 | 0x2C => 8 + r.n | 0x30 => 72 | 0x31 => 24 | 0x32 => 36 | 0x33 => 40 | 0x34 => 12 + 8 * r.n
  | 0x35 => 10 | 0x40 => if wide then 8 else 5 | 0x41 => if wide then 9 else 6 | 0x42 => if wide then 6 else 4
  | 0x43 => if wide then 6 else 4 | 0x44 => 4 | 0x45 => if wide then 6 else 4 | 0x46 => 18 | 0x47 => 14 | 0x48 => 34
  | 0x49 => 4 | 0x4A => 4 | 0x50 => 4 | 0x51 => 6
  | _ => 0

/-- Range of N (R243). -/
def countRange (op : Nat) : Nat × Nat :=
  match op with
  | 0x02 => (1, 18) | 0x04 => (1, 8) | 0x05 => (1, 8) | 0x35 => (1, 8) | 0x10 => (1, 6) | 0x11 => (2, 18) | 0x16 => (1, 18)
  | 0x2C => (1, 8) | 0x34 => (2, 6) | 0x51 => (0, 31) | _ => (0, 0)

/-- N and M lie in the operation's range. -/
def OpRec.countOk (op : Nat) (r : OpRec) : Bool :=
  let (lo, hi) := countRange op
  decide (lo ≤ r.n.val) && decide (r.n.val ≤ hi) && (if op = 0x11 then decide (1 ≤ r.m.val) && decide (r.m.val ≤ 6) else r.m.val == 0)

/-- What a reference field holds. -/
inductive FSpec where
  | none                -- must be "none"
  | res (n : Nat)       -- a result of `n` words
  | opd (n : Nat)       -- operands or parameters of `n` words
  | may (n : Nat)       -- operands, or "none"
  | pool (n : Nat)      -- constant-pool words
  | state (n : Nat)     -- a state block
  | table
  | bind
  deriving DecidableEq, Repr

/-- The fields F0 to F4 of R245. -/
def fieldSpecs (op : Nat) (r : OpRec) : List FSpec :=
  let w := r.width
  let n := r.n.val
  match op with
  | 0x01 => [.res 1, .bind, if r.t = 0 then .opd 2 else .none, .none, .none]
  | 0x02 => [.opd n, if r.mode / 2 % 2 = 1 then .opd 1 else .may 1, .bind, .none, .none]
  | 0x03 => [.opd 1, .bind, .none, .none, .none]
  | 0x04 | 0x05 | 0x35 => [.opd n, .bind, .none, .none, .none]
  | 0x06 => [.res 1, .opd 1, .bind, .none, .none]
  | 0x10 => [.res 3, .opd (3 * n), .none, .none, .none]
  | 0x11 => [.res r.m, .opd n, .pool (n * r.m), .none, .none]
  | 0x12 | 0x13 => [.res 2, .opd 2, .opd 2, .none, .none]
  | 0x14 => [.res 3, .opd 1, .may 1, .table, .none]
  | 0x15 => [.res 3, .opd 2, .opd 1, if r.mode % 4 = 2 then .opd 1 else .may 1, .none]
  | 0x16 => [.res n, .opd n, .opd 1, .opd 1, .none]
  | 0x17 => [.res 3, .opd 3, .opd 3, .opd 1, .opd 1]
  | 0x20 => [.res 1, .opd 1, .opd 1, .opd 4, .state 2]
  | 0x21 => [.res 1, .opd 1, .opd 1, .opd 7, .state 4]
  | 0x22 => [.res 1, .opd 1, .opd 1, .opd 1, .none]
  | 0x23 => [.res w, .opd w, .opd (2 * w), .none, .none]
  | 0x24 => [.res 1, .opd 1, .opd 2, .state 2, .none]
  | 0x25 => [.res 2, .opd 2, .opd 1, .none, .none]
  | 0x28 => [.res 1, .opd 1, .opd 1, .state 2, .none]
  | 0x29 => [.res 1, .opd 1, .opd 5, .state 3, .none]
  | 0x2A => [.res 1, .opd 1, .table, .none, .none]
  | 0x2B => [.res 1, .opd 2, .table, .none, .none]
  | 0x2C => [.res n, .bind, .table, .none, .none]
  | 0x30 => [.res 3, .opd 2, .opd 2, .opd 7, .state 6]
  | 0x31 => [.res 2, .opd (if r.mode % 2 = 1 then 2 else 1), .opd 4, .state 3, .none]
  | 0x32 => [.res 2, .opd 1, .opd 3, .state 4, .none]
  | 0x33 => [.res 3, .opd 2, .opd 1, .opd 4, .state 3]
  | 0x34 => [.res n, .opd 1, .opd n, .opd 4, .state (n + 1)]
  | 0x40 | 0x42 | 0x43 | 0x48 => [.res w, .opd w, .opd w, .none, .none]
  | 0x41 => [.res w, .opd w, .opd w, .opd w, .none]
  | 0x44 | 0x46 | 0x47 => [.res w, .opd w, .none, .none, .none]
  | 0x45 => [.res (if r.mode % 8 = 2 then 2 else 1), .opd w, .none, .none, .none]
  | 0x49 => [.res 1, .opd w, .opd w, .none, .none]
  | 0x4A => [.res w, .opd 1, .opd w, .opd w, .none]
  | 0x50 => [.res w, .opd w, .opd 1, .state (w + 1), .none]
  | 0x51 => [.res 1, .opd 1, .opd 2, .none, .none]
  | _ => [.none, .none, .none, .none, .none]

def OpRec.fields (r : OpRec) : List (Fin 16384) := [r.f0, r.f1, r.f2, r.f3, r.f4]

/-- The flag words of R244. -/
def isFlagRef (r : Fin 16384) : Bool :=
  refKind r == 3 && (decide (0x010 ≤ refIx r ∧ refIx r < 0x014) || decide (0x020 ≤ refIx r ∧ refIx r < 0x024))

def isTableRef (r : Fin 16384) : Bool := refKind r == 3 && decide (0x400 ≤ refIx r ∧ refIx r < 0x800)
def isBindRef (r : Fin 16384) : Bool := refKind r == 3 && decide (0x800 ≤ refIx r)

/-- The SAT conversions of R234: target from type T. -/
def satPair (t target : Nat) : Bool :=
  match t with
  | 0 => target == 1 || target == 2 || target == 3 || target == 4
  | 1 => target == 0 || target == 2
  | 2 => target == 0 || target == 1
  | _ => target == 0 || target == 5

/-- MODE bits of R245, and the codes refused (R218, R234). -/
def OpRec.modeOk (op : Nat) (r : OpRec) : Bool :=
  let m := r.mode.val
  match op with
  | 0x02 => decide (m < 4)
  | 0x15 => decide (m < 3)
  | 0x24 | 0x25 | 0x28 | 0x31 | 0x51 => decide (m < 2)
  | 0x45 => decide (m < 8) && satPair r.t m
  | 0x49 => decide (m < 6)
  | _ => m == 0

/-- A field has the kind R245 gives it. -/
def FSpec.kindOk (f : FSpec) (r : Fin 16384) : Bool :=
  match f with
  | .none => refNone r
  | .table => isTableRef r
  | .bind => isBindRef r
  | .res _ => refKind r == 0 || refKind r == 2
  | .pool _ => refKind r == 1
  | .state _ => refKind r == 0
  | .may _ => !isTableRef r && !isBindRef r
  | .opd _ => !isTableRef r && !isBindRef r && !refNone r

/-- Fields, unit and MODE obey R243 and R245. -/
def OpRec.fieldOk (op : Nat) (r : OpRec) : Bool :=
  r.modeOk op && decide (r.unit.val < 5) && ((fieldSpecs op r).zip r.fields).all (fun e => e.1.kindOk e.2) &&
    !isTableRef r.pred && !isBindRef r.pred

/-- A reference is one that R244 lists, and its group of `n` words lies inside its space; `pool` and `routes` are the plan's
POOL_WORDS and ROUTES, and the four flag words of a catch are a space. -/
def inSpace (pool routes : Nat) (r : Fin 16384) (n : Nat) : Bool :=
  match refKind r with
  | 0 => decide (refIx r + n ≤ 4096)
  | 1 => decide (refIx r + n ≤ pool)
  | 2 => decide (refIx r < routes)
  | _ => refNone r || isTableRef r || isBindRef r || (isFlagRef r && decide (refIx r % 16 + n ≤ 4))

/-- Words that a field names. -/
def FSpec.words (f : FSpec) : Nat :=
  match f with
  | .res n | .opd n | .may n | .pool n | .state n => n
  | _ => 1

/-- Every reference of the record is in range (REFERENCE); the kind a field needs is `kindOk`'s matter (FIELD). -/
def OpRec.refOk (op pool routes : Nat) (r : OpRec) : Bool :=
  ((fieldSpecs op r).zip r.fields).all (fun e => inSpace pool routes e.2 e.1.words) && inSpace pool routes r.pred 1

/-- T is accepted by the opcode (R199). -/
def OpRec.typeOk (op : Nat) (r : OpRec) : Bool := match opTypes op with | some m => m.testBit r.t | none => false

/-- PHASE is below 2^K (R126). -/
def OpRec.rateOk (r : OpRec) : Bool := decide (r.phase.val < 2 ^ r.k.val)

/-- The record is one that a load check lets through for some plan. -/
def OpRec.ok (op : Nat) (r : OpRec) : Bool :=
  r.typeOk op && r.refOk op 4096 4096 && r.fieldOk op && r.rateOk && r.countOk op

/-- A record of the schedule section, opcode first (R243). -/
def decodeRecord (v : Nat) : Nat × OpRec :=
  let f := fun (lo n : Nat) (h : 0 < n) => (⟨v / 2 ^ lo % n, Nat.mod_lt _ h⟩ : Fin n)
  (v % 256,
   { t := f 8 4 (by decide), unit := f 10 8 (by decide), k := f 13 8 (by decide), phase := f 16 128 (by decide),
     pinv := v.testBit 23, slot := f 24 16 (by decide), pred := f 28 16384 (by decide), f0 := f 42 16384 (by decide),
     f1 := f 56 16384 (by decide), f2 := f 70 16384 (by decide), f3 := f 84 16384 (by decide), f4 := f 98 16384 (by decide),
     n := f 112 32 (by decide), m := f 117 8 (by decide), mode := f 120 256 (by decide) })

/-- The 128-bit word of a record, from the same layout (R243). -/
def encodeRecord (op : Nat) (r : OpRec) : Nat :=
  op % 256 + 2 ^ 8 * r.t.val + 2 ^ 10 * r.unit.val + 2 ^ 13 * r.k.val + 2 ^ 16 * r.phase.val + 2 ^ 23 * r.pinv.toNat +
    2 ^ 24 * r.slot.val + 2 ^ 28 * r.pred.val + 2 ^ 42 * r.f0.val + 2 ^ 56 * r.f1.val + 2 ^ 70 * r.f2.val + 2 ^ 84 * r.f3.val +
    2 ^ 98 * r.f4.val + 2 ^ 112 * r.n.val + 2 ^ 117 * r.m.val + 2 ^ 120 * r.mode.val

end Sys2Proof
end

