-- ==== Sys2Proof/Machine/PlanCheck.lean ====
section
/-! DEFINITION. The layout of a race-plan image and the checks made on it: header, records, pool, tables and binding
(09_race_plan_images.md R239 to R254, R263, and the conditions of other chapters that R263 names). -/

namespace Sys2Proof.Machine

/-! ### Reading an image -/

/-- Little-endian fields at offset `o` (R240). -/
def u16 (g : Nat → Byte) (o : Nat) : Nat := (g o).toNat + 256 * (g (o + 1)).toNat
def u32 (g : Nat → Byte) (o : Nat) : Nat := u16 g o + 65536 * u16 g (o + 2)

/-- Bytes `o` to `o + n − 1`. -/
def bytesOf (g : Nat → Byte) (o n : Nat) : List Byte := (List.range n).map (fun i => g (o + i))

/-- Every byte from `o` up to, but not including, `stop` is zero. -/
def zeroBytes (g : Nat → Byte) (o stop : Nat) : Bool := (List.range (stop - o)).all (fun i => g (o + i) == 0)

/-- Bits `lo` to `lo + n − 1` of a number. -/
def cut (v lo n : Nat) : Nat := v / 2 ^ lo % 2 ^ n

/-- Places of the stored sections (R241). -/
structure Hdr where
  stored : Nat
  image : Nat
  sched : Nat × Nat
  pool : Nat × Nat
  tab : Nat × Nat
  bind : Nat × Nat
  slots : Nat
  cw : Nat
  w : Nat
  p : Nat
  sine : Nat
  dco : Nat
  svn : Nat
  tables : Nat
  binds : Nat
  recs : List Nat
  deriving DecidableEq, Repr

def readHdr (g : Nat → Byte) : Hdr :=
  { stored := u32 g 8, image := u32 g 0xC, sched := (u32 g 0x10, u32 g 0x14), pool := (u32 g 0x18, u32 g 0x1C),
    tab := (u32 g 0x20, u32 g 0x24), bind := (u32 g 0x28, u32 g 0x2C), slots := (g 0x30).toNat, cw := u16 g 0x32,
    w := u32 g 0x34, p := u16 g 0x38, sine := u16 g 0x3A, dco := u16 g 0x3C, svn := u32 g 0x40, tables := u16 g 0x48,
    binds := u16 g 0x4A, recs := (List.range 16).map (fun k => u16 g (0x50 + 2 * k)) }

/-- Heads of the constant-pool section (R246). -/
def poolWords (g : Nat → Byte) (h : Hdr) : Nat := u16 g h.pool.1
def poolRoutes (g : Nat → Byte) (h : Hdr) : Nat := u16 g (h.pool.1 + 2)
def initLen (g : Nat → Byte) (h : Hdr) (k : Nat) : Nat := u16 g (h.pool.1 + 4 + 2 * k)

/-- Start of the route entries, and of the init list of slot `k`. -/
def routeAt (g : Nat → Byte) (h : Hdr) : Nat := h.pool.1 + 40 + 4 * poolWords g h
def initAt (g : Nat → Byte) (h : Hdr) (k : Nat) : Nat :=
  routeAt g h + 4 * poolRoutes g h + ((List.range k).map (initLen g h)).sum

/-- The words of an init list, and its runs (R247). -/
def initWords (g : Nat → Byte) (h : Hdr) (k : Nat) : List Nat :=
  (List.range (initLen g h k / 4)).map (fun i => u32 g (initAt g h k + 4 * i))
def initOf (g : Nat → Byte) (h : Hdr) (k : Nat) : List (Nat × List Nat) := initRuns (initWords g h k).length (initWords g h k)

/-- Descriptor of table `t`: data offset, format, NX, NY and its word `k` (R249). -/
structure Tbl where
  at' : Nat
  form : Nat
  nx : Nat
  ny : Nat
  rest : List Nat
  top : Nat
  deriving DecidableEq, Repr

def tblOf (g : Nat → Byte) (h : Hdr) (t : Nat) : Tbl :=
  let o := h.tab.1 + 32 * t
  let d := u32 g (o + 4)
  { at' := u32 g o, form := cut d 0 2, nx := cut d 2 13, ny := cut d 15 13, top := cut d 28 4
    rest := (List.range 6).map (fun k => u32 g (o + 8 + 4 * k)) }

def tblsOf (g : Nat → Byte) (h : Hdr) : List Tbl := (List.range h.tables).map (tblOf g h)

/-- Length of a table's data in bytes. -/
def Tbl.len (t : Tbl) : Nat := t.nx * t.ny * (if t.form = 0 then 4 else 2)

/-- Binding entries as type, index and body words (R253); `none` where the section's entries do not fit. -/
def rawBinds (g : Nat → Byte) (stop : Nat) : Nat → Nat → Option (List (Nat × Nat × List Nat) × Nat)
  | 0, o => some ([], o)
  | n + 1, o =>
    let h := u32 g o
    let len := cut h 8 8
    if len = 0 ∨ stop < o + 4 * len then none
    else
      match rawBinds g stop n (o + 4 * len) with
      | some (l, e) => some ((h % 256, h / 65536, (List.range (len - 1)).map (fun i => u32 g (o + 4 + 4 * i))) :: l, e)
      | none => none

/-- The pairs of threshold images of an SD entry, band 0 first (R254). -/
def thrPairs : List Nat → List (Nat × Nat)
  | a :: b :: l => (a, b) :: thrPairs l
  | _ => []

/-- A binding entry (R254): `none` for an unknown type, a wrong length or an index out of range. -/
def toBind (e : Nat × Nat × List Nat) : Option Bind :=
  let (ty, i, b) := e
  match ty, b with
  | 0x01, [w] => if i < 4 then some (.unit i (cut w 0 5) (cut w 5 5) (cut w 10 3) (cut w 13 3)) else none
  | 0x02, [m, l, r, p] => if i = 0 then some (.catchE m l r p) else none
  | 0x03, [w] => if i < 8 then some (.sdc i w) else none
  | 0x04, c :: m :: n :: o :: t => if i < 40 ∧ t.length = 16 then some (.sd i c m n o (thrPairs t)) else none
  | 0x05, [l, c, x, y] => if i < 16 then some (.pair i l c x y) else none
  | 0x06, l :: c :: ms => if i < 8 ∧ 3 ≤ ms.length ∧ ms.length ≤ 18 then some (.sum i l c ms) else none
  | 0x07, [q, n, o] => if i < 32 then some (.sar i q n o) else none
  | 0x08, [c, p] => if i < 2 then some (.rsx i c p) else none
  | 0x09, [f, n, u] => if i = 0 then some (.legGroup f n u) else none
  | 0x0A, [m] => if i < 4 then some (.brake i m) else none
  | 0x0B, [w] => if i < 8 then some (.pos i [w]) else none
  | 0x0C, [w] => if i = 0 then some (.regIn (cut w 0 8) (cut w 8 12)) else none
  | 0x0D, [w] => if i = 0 then some (.regOut (cut w 0 8) (cut w 8 12)) else none
  | 0x0E, [w] => if i < 16 then some (.exch i [w]) else none
  | 0x0F, [x, y] => if i < 8 then some (.capture i [x, y]) else none
  | 0x10, [x, y] => if i < 8 then some (.inject i [x, y]) else none
  | 0x11, [t, f] => if i < 24 then some (.bandSet i t f) else none
  | 0x12, [] => if i = 0 then some .bandIn else none
  | 0x13, b => if i = 0 then some (.snapshot b) else none
  | 0x20, [w, v] => if i = 0 then some (.regImage (cut w 0 8) (cut w 8 12) v) else none
  | _, _ => none

def bindsOf (g : Nat → Byte) (h : Hdr) : Option (List Bind) :=
  match rawBinds g (h.bind.1 + h.bind.2) h.binds h.bind.1 with
  | some (l, _) => l.mapM toBind
  | none => none

/-- The entries as far as they can be read, for the checks that come before BIND_ENTRY in the table of R263. -/
def bindsRead (g : Nat → Byte) (h : Hdr) : List Bind :=
  match rawBinds g (h.bind.1 + h.bind.2) h.binds h.bind.1 with
  | some (l, _) => l.map (fun e => (toBind e).getD (.snapshot []))
  | none => []

/-- What the loader keeps of a plan. -/
def planInfo (h : Hdr) (b : List Bind) : PlanInfo :=
  { slots := h.slots, cw := h.cw, w := h.w, prologue := h.p, sineTable := h.sine, dcoMin := h.dco, storedLen := h.stored,
    bind := b }

/-! ### SRAM phase: the container (R239 to R241) -/

def magicOk (g : Nat → Byte) : Bool := u32 g 0 == 0x4C50525A

def formatOk (g : Nat → Byte) : Bool :=
  u16 g 4 == 1 && u16 g 6 == 256 && u16 g 0x3E == 0xA1 && g 0x31 == 0 && zeroBytes g 0x4C 0x50 && zeroBytes g 0x70 0x80 &&
    zeroBytes g 0xE0 0x100 && u32 g 0x44 / 2 == 0

/-- Padding of a section is zero: the tail behind what the section holds (R240). -/
def paddingOk (g : Nat → Byte) (h : Hdr) : Bool :=
  let tabEnd := (tblsOf g h).foldl (fun m t => max m (t.at' + t.len)) (h.tab.1 + 32 * h.tables)
  zeroBytes g (initAt g h 16) (h.pool.1 + h.pool.2) && zeroBytes g tabEnd (h.tab.1 + h.tab.2) &&
    (match rawBinds g (h.bind.1 + h.bind.2) h.binds h.bind.1 with
     | some (_, e) => zeroBytes g e (h.bind.1 + h.bind.2)
     | none => true)

/-- Sections follow one another on multiples of 8 (R240). -/
def sectionsOk (h : Hdr) : Bool :=
  h.sched.1 == 256 && h.pool.1 == h.sched.1 + h.sched.2 && h.tab.1 == h.pool.1 + h.pool.2 && h.bind.1 == h.tab.1 + h.tab.2 &&
    h.stored == h.bind.1 + h.bind.2 && [h.sched.2, h.pool.2, h.tab.2, h.bind.2].all (fun n => n % 8 == 0)

/-- LENGTH: IMAGE_LEN against STORED_LEN, the stated length and the buffer, and R240. -/
def lengthOk (g : Nat → Byte) (stated : Option Nat) : Bool :=
  let h := readHdr g
  h.image == h.stored + 7283 && (match stated with | some n => h.image == n | none => true) && decide (h.image ≤ 262144) &&
    sectionsOk h && paddingOk g h

/-! ### Store phase: header and records (R241 to R248) -/

/-- Record `i` of the schedule section. -/
def recordAt (g : Nat → Byte) (h : Hdr) (i : Nat) : Nat × OpRec :=
  let o := h.sched.1 + 16 * i
  decodeRecord (u32 g o + 2 ^ 32 * u32 g (o + 4) + 2 ^ 64 * u32 g (o + 8) + 2 ^ 96 * u32 g (o + 12))

/-- The records with the group each stands in, 15 for the sub-work list (R242). -/
def recordsOf (g : Nat → Byte) (h : Hdr) : List (Nat × Nat × OpRec) :=
  (List.range 16).flatMap (fun k =>
    let before := ((List.range k).map (fun j => h.recs.getD j 0)).sum
    (List.range (h.recs.getD k 0)).map (fun i => (k, recordAt g h (before + i))))

def slotCost (l : List (Nat × Nat × OpRec)) (k : Nat) : Nat :=
  ((l.filter (fun e => e.1 == k)).map (fun e => opCost e.2.1 e.2.2)).sum

def headerOk (g : Nat → Byte) (h : Hdr) (l : List (Nat × Nat × OpRec)) : Bool :=
  decide (1 ≤ h.slots ∧ h.slots ≤ 15) && decide (h.cw ≤ 4095) && decide (3600 ≤ h.dco ∧ h.dco ≤ 4000) &&
    decide (h.sine < h.tables) && decide (1 ≤ h.tables ∧ h.tables ≤ 1024) && decide (1 ≤ h.binds ∧ h.binds ≤ 2048) &&
    (List.range 15).all (fun k => decide (k < h.slots) || h.recs.getD k 0 == 0) && h.sched.2 == 16 * h.recs.sum &&
    h.p == 16 + ((List.range h.slots).map (fun k => ((initOf g h k).map (fun r => r.2.length)).sum)).foldl max 0 &&
    (List.range h.slots).all (fun k => decide (slotCost l k ≤ h.w))

/-- An init list's runs keep their reserved bits zero, end at or below word 4095 and fill the list. -/
def initOk (g : Nat → Byte) (h : Hdr) (k : Nat) : Bool :=
  let ws := initWords g h k
  let rec go : Nat → List Nat → Bool
    | _, [] => true
    | 0, _ => false
    | n + 1, w :: r =>
      let len := cut w 16 12 + 1
      cut w 12 4 == 0 && cut w 28 4 == 0 && decide (w % 4096 + len ≤ 4096) && decide (len ≤ r.length) && go n (r.drop len)
  initLen g h k % 4 == 0 && go ws.length ws

/-- Route entry `i`. -/
def routeOf (g : Nat → Byte) (h : Hdr) (i : Nat) : Nat := u32 g (routeAt g h + 4 * i)

def routeOk (slots e : Nat) : Bool :=
  let n := cut e 20 2
  let slot := fun k => decide (k < slots) || k == 15
  slot (cut e 0 4) && slot (cut e 4 4) && (n == 1 || n == 2) && decide (cut e 8 12 + n ≤ 4096) && cut e 22 10 == 0

/-- Routes used as results leave the record's slot, and as operands end at it (R248). -/
def routeEnds (g : Nat → Byte) (h : Hdr) (op : Nat) (r : OpRec) : Bool :=
  ((fieldSpecs op r).zip r.fields).all (fun e =>
    refKind e.2 != 2 ||
      (match e.1 with
       | .res n => cut (routeOf g h (refIx e.2)) 0 4 == r.slot.val && cut (routeOf g h (refIx e.2)) 20 2 == n
       | .opd n | .may n => cut (routeOf g h (refIx e.2)) 4 4 == r.slot.val && decide (n ≤ cut (routeOf g h (refIx e.2)) 20 2)
       | _ => cut (routeOf g h (refIx e.2)) 4 4 == r.slot.val)) &&
    (refKind r.pred != 2 || cut (routeOf g h (refIx r.pred)) 4 4 == r.slot.val)

/-- References of a record (REFERENCE), bindings and tables within their counts. -/
def recRefOk (g : Nat → Byte) (h : Hdr) (op : Nat) (r : OpRec) : Bool :=
  r.refOk op (poolWords g h) (poolRoutes g h) && routeEnds g h op r &&
    (r.pred :: r.fields).all (fun f => (!isTableRef f || decide (refIx f - 0x400 < h.tables)) && (!isBindRef f || decide (refIx f - 0x800 < h.binds)))

/-- The pool section holds what its head states. -/
def poolOk (g : Nat → Byte) (h : Hdr) : Bool :=
  decide (poolWords g h ≤ 4096) && decide (poolRoutes g h ≤ 4096) && decide (initAt g h 16 ≤ h.pool.1 + h.pool.2) &&
    (List.range 16).all (initOk g h) &&
    (List.range (poolRoutes g h)).all (fun i => routeOk h.slots (routeOf g h i))

/-- The binding entry that a record's binding field names. -/
def bindOf (b : List Bind) (op : Nat) (r : OpRec) : Option Bind :=
  (((fieldSpecs op r).zip r.fields).find? (fun e => e.1 == .bind)).bind (fun e =>
    if isBindRef e.2 then b[refIx e.2 - 0x800]? else none)

/-- T suits the input of a LOAD_SMP (R211): F32 takes no ANG and no I32 input. -/
def inputTypeOk (b : List Bind) (op : Nat) (r : OpRec) : Bool :=
  if op = 0x01 ∧ r.t = 0 then
    match bindOf b op r with
    | some (.rsx ..) => false
    | some (.pos _ body) => cut (body.getD 0 0) 0 3 == 1 || cut (body.getD 0 0) 0 3 == 3
    | _ => true
  else true

/-- The counts that a binding entry fixes (R212, R315, R498). -/
def bindCountOk (b : List Bind) (op : Nat) (r : OpRec) : Bool :=
  match op, bindOf b op r with
  | 0x02, some (.legGroup _ n _) => r.n.val == n
  | 0x05, some (.capture _ body) => r.n.val == body.getD 1 0 % 16
  | 0x04, some (.exch _ body) => r.n.val == cut (body.getD 0 0) 5 4
  | _, _ => true

/-! ### Store phase: tables (R217, R226, R227, R249, R251) -/

def Tbl.ok (h : Hdr) (t : Tbl) : Bool :=
  decide (t.form ≤ 2) && decide (2 ≤ t.nx ∧ t.nx ≤ 4096) && decide (1 ≤ t.ny ∧ t.ny ≤ 4096) && t.top == 0 && t.at' % 4 == 0 &&
    decide (h.tab.1 + 32 * h.tables ≤ t.at') && decide (t.at' + t.len ≤ h.tab.1 + h.tab.2)

/-- Two tables share their data or do not overlap. -/
def Tbl.apart (a b : Tbl) : Bool :=
  (a.at' == b.at' && a.form == b.form && a.nx == b.nx && a.ny == b.ny) || decide (a.at' + a.len ≤ b.at') ||
    decide (b.at' + b.len ≤ a.at')

def positive (w : Nat) : Bool := let x := flOf (BitVec.ofNat 32 w); !f32Bad (BitVec.ofNat 32 w) && x.mant != 0 && !x.neg

/-- The tables that the records' LUT1 and LUT2 read can be looked up. -/
def lutOk (ts : List Tbl) (op : Nat) (r : OpRec) : Bool :=
  if op = 0x2A ∨ op = 0x2B then
    match ts[refIx r.f2 - 0x400]? with
    | some t => positive (t.rest.getD 1 0) && (op == 0x2A || positive (t.rest.getD 3 0) && decide (2 ≤ t.ny))
    | none => true
  else true

def tablesOk (h : Hdr) (ts : List Tbl) (l : List (Nat × Nat × OpRec)) : Bool :=
  ts.all (Tbl.ok h) && ts.zipIdx.all (fun a => ts.zipIdx.all (fun b => a.2 == b.2 || a.1.apart b.1)) &&
    l.all (fun e => lutOk ts e.2.1 e.2.2)

/-- A sine table: S16, 4096 entries, scale 2^−15, offset 0 (R217). -/
def Tbl.sineForm (t : Tbl) : Bool :=
  t.form == 1 && t.nx == 4096 && t.ny == 1 && t.rest.getD 4 0 == 0x38000000 && t.rest.getD 5 0 == 0

def sineOk (g : Nat → Byte) (h : Hdr) (ts : List Tbl) (l : List (Nat × Nat × OpRec)) : Bool :=
  (match ts[h.sine]? with
   | some t => t.sineForm && (t.rest.take 4).all (fun w => w == 0) && (List.range 4096).all (fun i => u16 g (t.at' + 2 * i) != 0x8000)
   | none => false) &&
    l.all (fun e => e.2.1 != 0x14 || (match ts[refIx e.2.2.f3 - 0x400]? with | some t => t.sineForm | none => false))

/-! ### Store phase: binding (R45, R60, R142, R155, R156, R158, R165, R254 and the chapters R254 names) -/

/-- Where two entries of one type may not name the same hardware: their key and whether that hardware is a ball (R60). -/
def bindKey : Bind → Option (Nat × Nat × Bool)
  | .unit u .. => some (1, u, false) | .catchE .. => some (2, 0, false) | .sdc n _ => some (3, n, true)
  | .sd n .. => some (4, n, true) | .pair j .. => some (5, j, false) | .sum j .. => some (6, j, false)
  | .sar e .. => some (7, e, false) | .rsx n .. => some (8, n, true) | .brake b _ => some (10, b, true)
  | .exch c _ => some (14, c, false) | .capture c _ => some (15, c, false) | .inject p _ => some (16, p, false)
  | .bandSet l .. => some (17, l, false) | _ => none

/-- No two entries of the given kind name the same hardware. -/
def keysOnce (b : List Bind) (ball : Bool) : Bool :=
  let ks := (b.filterMap bindKey).filter (fun k => k.2.2 == ball)
  ks.zipIdx.all (fun x => ks.zipIdx.all (fun y => x.2 == y.2 || x.1 != y.1))

/-- The fields of an image; a register without one is loaded with zero. -/
def imgFld (b : List Bind) (f : Field) : Nat := cut ((imageOf b f.addr).getD 0) f.lo f.width
def imgInt (b : List Bind) (f : Field) : Int := signed f.width (imgFld b f)

/-- A bound leg's PHASE is below INIT_PER (R576), and it has a BAND_SET entry. -/
def legOk (b : List Bind) (initPer l : Nat) : Bool :=
  decide (imgFld b (F.LEG_CFG_PHASE l) < initPer) && b.any (fun e => match e with | .bandSet k _ _ => k == l | _ => false)

/-- A BAND_SET entry's table has the form of R331. -/
def bandSetOk (ts : List Tbl) (e : Bind) : Bool :=
  match e with
  | .bandSet _ t f => (match ts[t]? with | some d => d.form == 2 && d.ny == 8 && decide (f + 4 ≤ d.nx) | none => false)
  | _ => true

/-- Legs of all units. -/
def PlanInfo.allLegs (p : PlanInfo) : List Nat := (List.range 4).flatMap p.legsOf

/-- A capture channel lies inside the capture area and holds an entry (R315). -/
def captureSpan (body : List Nat) : Nat × Nat := (cut (body.getD 0 0) 0 14, cut (body.getD 0 0) 14 15)
def captureOk (body : List Nat) : Bool :=
  let (base, len) := captureSpan body
  let w := body.getD 1 0 % 16
  decide (base + len ≤ 16384) && decide (1 ≤ w ∧ w ≤ 8) && decide (4 * (w + 1) ≤ 64 * len) && (!bit (body.getD 0 0) 30 || w == 3)

/-- An entry by itself (R254, R313, R315, R498). -/
def entryOk (p : PlanInfo) (e : Bind) : Bool :=
  match e with
  | .catchE _ _ _ per => decide (1250 ≤ per ∧ per ≤ 250000)
  | .legGroup f n u =>
    decide (1 ≤ n) && (List.range n).all (fun i => (p.legsOf u).contains (f + i)) && (decide (f + n ≤ 18) || decide (18 ≤ f ∧ 2 ≤ u))
  | .capture _ body => captureOk body
  | .inject _ body =>
    let w := body.getD 0 0
    decide (cut w 0 3 < 4) && decide (cut w 3 3 ≤ 5) && positive (body.getD 1 0)
  | .exch _ body =>
    let w := body.getD 0 0
    decide (1 ≤ cut w 5 4 ∧ cut w 5 4 ≤ 8) && cut w 14 18 == 0 && !(bit w 0 && cut w 1 4 == 15)
  | _ => true

/-- BIND_ENTRY, once every entry has its form. -/
def entriesOk (p : PlanInfo) (ts : List Tbl) : Bool :=
  let b := p.bind
  let (_, _, _, per) := p.catchOr
  let caps := b.filterMap (fun e => match e with | .capture c body => some (c, captureSpan body) | _ => none)
  let prim := b.filterMap (fun e => match e with | .pos i body => if bit (body.getD 0 0) 6 then some (i, cut (body.getD 0 0) 3 3) else none | _ => none)
  b.all (entryOk p) && b.all (bandSetOk ts) && keysOnce b false && p.allLegs.all (legOk b per) &&
    caps.all (fun x => caps.all (fun y => x.1 == y.1 || decide (x.2.1 + x.2.2 ≤ y.2.1) || decide (y.2.1 + y.2.2 ≤ x.2.1))) &&
    prim.all (fun x => prim.all (fun y => x.2 != y.2 || x.1 == y.1)) &&
    decide ((b.filter (fun e => match e with | .exch _ body => !bit (body.getD 0 0) 0 | _ => false)).length ≤ 4)

/-- LEGS: contiguous ranges that hold their winding sets of three phases each, and do not overlap (The six levels of 00_scope.md, R45). -/
def legsOk (p : PlanInfo) : Bool :=
  (p.bind.all (fun e => match e with
    | .unit u f l k n => if u < 2 then decide (f ≤ l ∧ l ≤ 17 ∧ 1 ≤ k ∧ 1 ≤ n) && l + 1 - f == 3 * k * n
                         else f == 0 && l == 0 && k == 0 && n == 0
    | _ => true)) && (p.legsOf 0).all (fun x => !(p.legsOf 1).contains x)

/-- The SAR entries of a plan with their SEQ images. -/
def sarOn (b : List Bind) : List (Nat × Nat) := b.filterMap (fun e => match e with | .sar x q _ _ => some (x, q) | _ => none)

/-- What a SAR entry measures, as far as the binding tells: a shunt, an NTC, a bootstrap supply (R60, R161, R338, R445). -/
def sarRoles (b : List Bind) (e q : Nat) : List Nat :=
  (if bit q 28 then [0] else []) ++
    (List.range 6).filterMap (fun n =>
      if (imageOf b (R.THRM_NTC n)).isSome ∧ imgFld b (F.THRM_NTC_ENTRY n) = e then some (1 + n) else none) ++
    (List.range 2).flatMap (fun x =>
      if (imageOf b (R.AUX_BSAR x)).isNone then []
      else ([F.AUX_BSAR_U x, F.AUX_BSAR_V x, F.AUX_BSAR_W x].zipIdx.filter (fun f => imgFld b f.1 == e)).map (fun f => 8 + 3 * x + f.2))

/-- No AIN ball has two roles: an entry that converts it measures one thing, and all of them the same. -/
def ainOk (b : List Bind) : Bool :=
  (sarOn b).all (fun x => decide (8 ≤ x.2 % 16) || decide ((sarRoles b x.1 x.2).length ≤ 1)) && (sarOn b).all (fun x => (sarOn b).all (fun y =>
    !(x.1 / 16 == y.1 / 16 && x.2 % 16 == y.2 % 16 && decide (x.2 % 16 < 8)) || sarRoles b x.1 x.2 == sarRoles b y.1 y.2))

/-- BALL: one role per ball, and one unit per position source (R60, R350). -/
def ballsOk (b : List Bind) : Bool :=
  let src := b.filterMap (fun e => match e with | .pos i body => some (i, cut (body.getD 0 0) 3 3) | _ => none)
  keysOnce b true && ainOk b && src.all (fun x => src.all (fun y => x.1 != y.1 || x.2 == y.2))

/-- The SDC_CFG image of an output; an output with no entry has EN clear. -/
def sdcOf (b : List Bind) (n : Nat) : Nat :=
  (b.findSome? (fun e => match e with | .sdc k w => if k = n then some w else none | _ => none)).getD 0

/-- Sigma-delta inputs that are not off: number, SD_CFG and SD_MCFG. -/
def sdOn (b : List Bind) : List (Nat × Nat × Nat) :=
  (List.range 40).filterMap (fun n => b.findSome? (fun e => match e with
    | .sd k c m _ _ _ => if k = n ∧ c % 4 ≠ 0 then some (n, c, m) else none
    | _ => none))

/-- SENSE (R142, R158, R165). -/
def senseOk (p : PlanInfo) : Bool :=
  let b := p.bind
  let ins := sdOn b
  let of := fun k => (ins.filter (fun e => cut e.2.2 8 3 == k)).map (fun e => (e.2.1 % 4, cut e.2.1 2 3, cut e.2.1 8 9))
  b.all (fun e => match e with | .sdc _ w => !bit w 8 || decide (10 ≤ w % 64 ∧ w % 64 ≤ 50) | _ => true) &&
    ins.all (fun e =>
      let (_, c, m) := e
      c % 4 != 3 && bit (sdcOf b (cut c 2 3)) 8 && (c % 4 != 2 || decide (50 ≤ m % 256 ∧ m % 256 ≤ 200)) &&
        decide (16 ≤ cut c 8 9 ∧ cut c 8 9 ≤ 256) && (cut c 17 2 == 0 || decide (4 ≤ cut c 19 6 ∧ cut c 19 6 ≤ 32)) &&
        cut m 8 3 != 7 && decide (cut m 11 3 ≤ 4)) &&
    of 5 == of 6 &&
    [0, 1].all (fun c => (List.range (p.sarLen c)).all (fun i =>
      b.any (fun e => match e with | .sar x _ _ _ => x == 16 * c + i | _ => false)))

/-- CHECKS: members of equal R and one unit (R156), a member whose MODE is 0 among them (log entry 97); a member that names no
SD entry is BIND_REF's matter. -/
def checksOk (b : List Bind) : Bool :=
  let ru := fun (m : Nat) => match b[cut m 16 11]? with | some (.sd _ c mc _ _ _) => some (cut c 8 9, cut mc 11 3) | _ => none
  let same := fun (ms : List Nat) => let l := ms.filterMap ru; l.all (fun x => x == l.headD (0, 0))
  b.all (fun e => match e with
    | .pair _ _ _ x y => same [x, y]
    | .sum _ _ _ ms => same ms
    | _ => true)

/-- DETECT: twice the detection time of a protection channel in ns, with ticks of 4 ns, against R155's limits. The
Manchester bit is 10 000 / RATE ns; both sides are multiplied by RATE. -/
def detectOk (b : List Bind) : Bool :=
  (sdOn b).all (fun e =>
    let (_, c, m) := e
    let kind := cut m 8 3
    let limit := if kind = 4 then 450 else 400
    let l := cut c 17 2 * (cut c 19 6 - 1) + 1 + cut c 25 2
    if cut c 17 2 = 0 ∨ kind < 1 ∨ 4 < kind then true
    else if c % 4 = 1 then decide (l * (4 * (sdcOf b (cut c 2 3) % 64)) + 25 ≤ limit)
    else decide ((2 * l + 1) * 10000 + 2 * 37 * (m % 256) ≤ 2 * limit * (m % 256)))

/-- Registers that REG_IMAGE may name (R255). -/
def imageAllowed (a : Nat) : Bool :=
  !([R.CATCH_CTRL, R.CATCH_LEAD, R.CATCH_MINPER, R.SAR_CTRL].contains a) &&
    (match regRow a with | some r => r.pmask != 0 | none => false)

/-- Registers that REG_IN and REG_OUT may name (R267, R321, R368, R369, R379). A register that its chapter gives to one writer (R189,
R325, R339, R345, R377, R552), or to none, is no output of a plan. -/
def regInAllowed (p a : Nat) : Bool :=
  if p = 0x12 then [0, 1].any (fun d => [R.DRV_MODE d, R.DRV_TREF d, R.DRV_TRATE d, R.DRV_SEED_ANG d, R.DRV_SEED_W d].contains a)
  else if p = 0x13 then a == R.SP_CTRL || (List.range 4).any (fun u => a == R.SP_REF u) ||
    [0, 1].any (fun k => a == R.PIN_PER k || a == R.PIN_HI k)
  else p != 0x10 && p != 0x11 && (regRow a).isSome

def regOutAllowed (p a : Nat) : Bool :=
  if p = 0x12 then [0, 1].any (fun d => [R.DRV_PSTAT d, R.DRV_SPIN d, R.DRV_SPIN_F d, R.DRV_SPIN_V d, R.DRV_SPIN_A d].contains a)
  else if p = 0x13 then a == R.SP_STAT
  else if p = 0x10 ∨ p = 0x11 then a == R.ENC_ALIGN (p - 0x10)
  else if p = 0x08 then [0, 1].any (fun n => [R.RSLV_ANG n, R.RSLV_SPD n, R.RSLV_STAT n].contains a)
  else if [0, 1].any (fun d => a == R.PROT_SPD d) then true
  else if [0x0B, 0x0C, 0x0D].contains p ∧
      (a = R.PWM_GATE_EN p ∨ a = R.PWM_COMMIT p ∨ (List.range 24).any (fun l => [R.LEG_PER_SH l, R.LEG_CMP_SH l, R.LEG_FS l].contains a) = true) then false
  else if [R.PLAN_CMD, R.PROT_DISCMD, R.PROT_REQ, R.UMP_CTRCMD, R.UMP_RELEASE, R.PAGE_IRQ_EN p].contains a ||
      (List.range 4).any (fun k => a == R.PROT_BRKCTL k || a == R.PROT_CLR k) || [0, 1].any (fun k => a == R.UMP_WDSVC k) then false
  else match regRow a with | some r => r.rw ||| r.wo ||| r.w1c != 0 | none => false

/-- The matrix cells of a unit (R381). -/
def matrixOk (b : List Bind) (u : Nat) : Bool :=
  (List.range 12).all (fun c =>
    let v := cut (imgFld b (F.PROT_MATRIX_CELLS u)) (2 * c) 2
    v != 3 && !(c / 3 == 2 && v == 1) && !(c / 3 == 3 && v == 2))

/-- The chopper thresholds of a bound brake switch (R377). -/
def chopperOk (b : List Bind) (k : Nat) : Bool :=
  let on := imgInt b (F.PROT_CHON_ON k)
  decide (imgInt b (F.PROT_CHOFF_OFF k) < on) &&
    b.all (fun e => match e with
      | .sd n _ _ _ _ thr => n != imgFld b (F.PROT_CHON_SD k) || thr.all (fun t => decide (on ≤ signed 18 (cut t.1 0 18)))
      | _ => true)

/-- Edges and curves that the plan sets (R447). -/
def edgesOk (b : List Bind) : Bool :=
  (List.range 7).all (fun k => (imageOf b (R.THRM_EDGE k)).isNone) ||
    (List.range 6).all (fun k => decide (imgInt b (F.THRM_EDGE_E k) + 64 ≤ imgInt b (F.THRM_EDGE_E (k + 1))))

def curveOk (b : List Bind) (c : Nat) : Bool :=
  let t := fun i => imgInt b (F.THRM_CURVE_T c i)
  (List.range 17).all (fun i => (imageOf b (R.THRM_CURVE c i)).isNone) ||
    (List.range 16).all (fun i => decide (t i < t (i + 1))) || (List.range 16).all (fun i => decide (t (i + 1) < t i))

/-- Chain positions in use name each switch once (R388); a brake switch, 18 to 21, has no side. -/
def chainOk (b : List Bind) : Bool :=
  let n := imgFld b F.DRVC_CFG_NDRV
  let m := (List.range n).map (fun p =>
    let w := imgFld b (F.DRVC_MAP_SWITCH p)
    (w, if 18 ≤ w then 0 else imgFld b (F.DRVC_MAP_SIDE p)))
  m.zipIdx.all (fun x => m.zipIdx.all (fun y => x.2 == y.2 || x.1 != y.1))

/-- Bootstrap entries that a binding gives an aux channel, bound or not (R349). -/
def bootOk (p : PlanInfo) (x : Nat) : Bool :=
  (imageOf p.bind (R.AUX_BSAR x)).isNone || [F.AUX_BSAR_U x, F.AUX_BSAR_V x, F.AUX_BSAR_W x].all (fun f =>
    p.bind.all (fun e => match e with
      | .sar k q _ _ => k != imgFld p.bind f || (cut q 4 2 == 0 && decide (cut q 16 3 ≤ 2))
      | _ => true))

/-- LEG_CFG images (R322), each by itself. -/
def legCfgOk (b : List Bind) (refLeg l : Nat) : Bool :=
  (imagesOf b (R.LEG_CFG l)).all (fun v =>
    !(bit v 0 && (bit v 1 || decide (18 ≤ l))) && !(l == refLeg && cut v 2 18 != 0))

/-- REGISTER. -/
def registersOk (p : PlanInfo) : Bool :=
  let b := p.bind
  let (_, _, refLeg, _) := p.catchOr
  b.all (fun e => match e with
    | .regImage q o _ => decide (q < 32) && imageAllowed (pageBase q + o)
    | .regIn q o => decide (q < 32) && regInAllowed q (pageBase q + o)
    | .regOut q o => decide (q < 32) && regOutAllowed q (pageBase q + o)
    | .brake k _ => chopperOk b k
    | _ => true) &&
    (List.range 24).all (legCfgOk b refLeg) && (List.range 4).all (matrixOk b) && edgesOk b && [0, 1].all (curveOk b) && chainOk b &&
    [0, 1].all (bootOk p) && [0, 1].all (fun x => imgFld b (F.SER_FMT_ERRB x) != 3)

/-- A binding reference names an entry of the type its field needs (R255, R315, R350, R498). -/
def bindRefOk (b : List Bind) (op : Nat) (r : OpRec) : Bool :=
  match op, bindOf b op r with
  | 0x01, some (.sd ..) | 0x01, some (.sar ..) | 0x01, some (.regIn ..) | 0x01, some .bandIn | 0x01, some (.rsx ..) => true
  | 0x01, some (.pos i _) => decide (i < 6)
  | 0x01, some (.exch ..) => true
  | 0x02, some (.legGroup ..) => true
  | 0x03, some (.regOut ..) => true
  | 0x04, some (.exch ..) => true
  | 0x05, some (.capture _ body) => !bit (body.getD 0 0) 30
  | 0x06, some (.inject ..) => true
  | 0x2C, some .bandIn => true
  | 0x35, some (.snapshot _) => true
  | 0x01, _ | 0x02, _ | 0x03, _ | 0x04, _ | 0x05, _ | 0x06, _ | 0x2C, _ | 0x35, _ => false
  | _, _ => true

/-- BIND_REF: also members of checks name SD entries, and no two EXCH records name one transmit channel (R498). -/
def bindRefsOk (b : List Bind) (l : List (Nat × Nat × OpRec)) : Bool :=
  let isSd := fun (m : Nat) => match b[cut m 16 11]? with | some (.sd ..) => true | _ => false
  let tx := (l.filter (fun e => e.2.1 == 0x04)).filterMap (fun e => match bindOf b e.2.1 e.2.2 with | some (.exch c body) => if bit (body.getD 0 0) 0 then none else some c | _ => none)
  l.all (fun e => bindRefOk b e.2.1 e.2.2) &&
    b.all (fun e => match e with | .pair _ _ _ x y => isSd x && isSd y | .sum _ _ _ ms => ms.all isSd | _ => true) &&
    tx.zipIdx.all (fun x => tx.zipIdx.all (fun y => x.2 == y.2 || x.1 != y.1))

/-- The first code of R263's table whose check fails; 0 if all pass. -/
def firstCode : List (Nat × Bool) → Nat
  | [] => 0
  | (c, ok) :: l => if ok then firstCode l else c

/-- The store-phase checks of R263 after the digest of the copy. -/
def storeCode (g : Nat → Byte) : Nat :=
  let h := readHdr g
  let l := recordsOf g h
  let ts := tblsOf g h
  let b := bindsRead g h
  let p := planInfo h b
  let all := fun (f : Nat → OpRec → Bool) => l.all (fun e => f e.2.1 e.2.2)
  firstCode
    [(0x30, headerOk g h l), (0x31, all (fun op _ => (opTypes op).isSome)),
     (0x32, all (fun op r => r.typeOk op && inputTypeOk b op r)), (0x33, poolOk g h && all (recRefOk g h)),
     (0x34, all (fun op r => r.fieldOk op)), (0x35, all (fun _ r => r.rateOk)), (0x36, l.all (fun e => e.2.2.slot.val == e.1)),
     (0x37, all (fun op r => r.countOk op && bindCountOk b op r)), (0x40, tablesOk h ts l), (0x41, sineOk g h ts l),
     (0x50, (bindsOf g h).isSome && entriesOk p ts), (0x51, legsOk p), (0x52, ballsOk b), (0x53, senseOk p), (0x54, checksOk b),
     (0x55, detectOk b), (0x56, registersOk p), (0x57, bindRefsOk b l)]

end Sys2Proof.Machine
end

