-- ==== Sys2Proof/Machine/Sha3.lean ====
section
/-! DEFINITION. SHA3-512, the digest that the spec names for plans, keys, firmware and nonces (R256, R257, R514, R522).
The spec does not print the function; it is FIPS 202's (PRESUMED, log entry 5). -/

namespace Sys2Proof.Machine

/-- A lane of the sponge's state; the state is a list of 25, lane (x, y) at place x + 5·y. -/
abbrev Lane := BitVec 64

def laneAt (a : List Lane) (x y : Nat) : Lane := a.getD (x % 5 + 5 * (y % 5)) 0

/-- A new state from what each lane becomes. -/
def lanes (f : Nat → Nat → Lane) : List Lane := (List.range 25).map (fun i => f (i % 5) (i / 5))

/-- Rotation of each lane, in the order of the places. -/
def rotations : List Nat :=
  [0, 1, 62, 28, 27, 36, 44, 6, 55, 20, 3, 10, 43, 25, 39, 41, 45, 15, 21, 8, 18, 2, 61, 56, 14]

/-- Round constants. -/
def roundConstants : List Lane :=
  [0x0000000000000001, 0x0000000000008082, 0x800000000000808A, 0x8000000080008000, 0x000000000000808B, 0x0000000080000001,
   0x8000000080008081, 0x8000000000008009, 0x000000000000008A, 0x0000000000000088, 0x0000000080008009, 0x000000008000000A] ++
  [0x000000008000808B, 0x800000000000008B, 0x8000000000008089, 0x8000000000008003, 0x8000000000008002, 0x8000000000000080,
   0x000000000000800A, 0x800000008000000A, 0x8000000080008081, 0x8000000000008080, 0x0000000080000001, 0x8000000080008008]

def thetaStep (a : List Lane) : List Lane :=
  let c := (List.range 5).map (fun x => laneAt a x 0 ^^^ laneAt a x 1 ^^^ laneAt a x 2 ^^^ laneAt a x 3 ^^^ laneAt a x 4)
  let d := (List.range 5).map (fun x => c.getD ((x + 4) % 5) 0 ^^^ (c.getD ((x + 1) % 5) 0).rotateLeft 1)
  lanes (fun x y => laneAt a x y ^^^ d.getD x 0)

/-- Rotation of every lane, and its move from (x, y) to (y, 2·x + 3·y). -/
def rhoPiStep (a : List Lane) : List Lane :=
  let b := (a.zip rotations).map (fun e => e.1.rotateLeft e.2)
  lanes (fun x y => laneAt b (x + 3 * y) x)

def chiStep (a : List Lane) : List Lane :=
  lanes (fun x y => laneAt a x y ^^^ (~~~ laneAt a (x + 1) y &&& laneAt a (x + 2) y))

def iotaStep (rc : Lane) : List Lane → List Lane
  | l :: a => (l ^^^ rc) :: a
  | [] => []

/-- The permutation's 24 rounds. -/
def keccak (a : List Lane) : List Lane :=
  roundConstants.foldl (fun a rc => iotaStep rc (chiStep (rhoPiStep (thetaStep a)))) a

/-- A lane of eight bytes, lowest first. -/
def laneOf (b : List Byte) : Lane := BitVec.ofNat 64 (b.foldr (fun x n => x.toNat + 256 * n) 0)

/-- Lanes of a block of 72 bytes. -/
def blockLanes (b : List Byte) : List Lane := (List.range 9).map (fun i => laneOf ((b.drop (8 * i)).take 8))

/-- The first `n` blocks of a message go into the state. -/
def absorb : Nat → List Byte → List Lane → List Lane
  | 0, _, a => a
  | n + 1, m, a =>
    let b := blockLanes m
    absorb n (m.drop 72) (keccak ((a.zip (b ++ List.replicate 16 0)).map (fun e => e.1 ^^^ e.2)))

/-- A message with its suffix and padding. -/
def padded (m : List Byte) : List Byte :=
  let z := 71 - m.length % 72
  if z = 0 then m ++ [0x86] else m ++ [0x06] ++ List.replicate (z - 1) 0 ++ [0x80]

/-- SHA3-512 of a byte string. -/
def sha3 (m : List Byte) : List Byte :=
  let a := absorb (m.length / 72 + 1) (padded m) (List.replicate 25 0)
  (a.take 8).flatMap (fun l => (List.range 8).map (fun k => BitVec.ofNat 8 (l.toNat / 256 ^ k)))

end Sys2Proof.Machine
end

