-- ==== Sys2Proof/Machine/Image.lean ====
section
/-! DEFINITION. Signed objects (20_identity_and_boot.md R514) and the loading of a race plan (09_race_plan_images.md R256 to
R265). -/

namespace Sys2Proof.Machine

/-! ### Digests, keys and signatures (R256 to R258, R514) -/

/-- A SHA3-512 digest. -/
def digestOf (m : List Byte) : List Byte := sha3 m

/-- The 16 register words of a digest. -/
def digestWords (d : List Byte) : List Word := (List.range 16).map (fun k => bytesWord (d.drop (4 * k)))

/-- Context strings of R514. -/
def ctxPlan : List Byte := [0x4F, 0x5A, 0x41, 0x55, 0x52, 0x55, 0x4E, 0x2D, 0x50, 0x4C, 0x41, 0x4E]
def ctxFw : List Byte := [0x4F, 0x5A, 0x41, 0x55, 0x52, 0x55, 0x4E, 0x2D, 0x46, 0x57]
def ctxConf : List Byte := [0x4F, 0x5A, 0x41, 0x55, 0x52, 0x55, 0x4E, 0x2D, 0x43, 0x4F, 0x4E, 0x46]
def ctxFuse : List Byte := [0x4F, 0x5A, 0x41, 0x55, 0x52, 0x55, 0x4E, 0x2D, 0x46, 0x55, 0x53, 0x45]
def ctxAtt : List Byte := [0x4F, 0x5A, 0x41, 0x55, 0x52, 0x55, 0x4E, 0x2D, 0x41, 0x54, 0x54]

/-- The trailer of an object whose body has `n` bytes: digest block, key and signature. -/
def objDigest (o : List Byte) (n : Nat) : List Byte := (o.drop n).take 64
def objKey (o : List Byte) (n : Nat) : List Byte := (o.drop (n + 64)).take 2592
def objSig (o : List Byte) (n : Nat) : List Byte := (o.drop (n + 2656)).take 4627

/-- The digest block is the body's digest. -/
def digestOk (o : List Byte) (n : Nat) : Bool := objDigest o n == digestOf (o.take n)

/-- The signature verifies over the digest block. -/
def sigOk (ctx o : List Byte) (n : Nat) : Bool := Config.mldsaVerify (objKey o n) ctx (objDigest o n) (objSig o n)

/-- State of a plan-key slot: 0 empty, 1 active, 2 revoked. -/
def State.slotState (s : State) (k : Nat) : Nat := s.fld F.SEC_SLOT_STATE / 4 ^ k % 4

/-- The key digest of a slot. -/
def State.slotDig (s : State) (k : Nat) : List Word := (List.range 16).map (fun j => s.rd (R.SEC_SLOTDIG k j))

/-- The slot whose key a digest is, an active one before a revoked one. -/
def State.keySlot (s : State) (dig : List Byte) : Option Nat :=
  let hit := fun (k : Nat) => s.slotState k != 0 && s.slotDig k == digestWords dig
  match [0, 1].find? (fun k => hit k && s.slotState k == 1) with
  | some k => some k
  | none => [0, 1].find? hit

/-- The active slot that has signed an object. -/
def State.signer (s : State) (o : List Byte) (n : Nat) : Option Nat :=
  match s.keySlot (digestOf (objKey o n)) with
  | some k => if s.slotState k = 1 then some k else none
  | none => none

/-- Plans and records are taken in this lifecycle state (R513). -/
def State.takesPlans (s : State) : Bool := s.fld F.SEC_LC_STATE == 1 || s.fld F.SEC_LC_STATE == 2

/-! ### The load buffer (R260, R264) -/

def loadBuffer := 0x203C0000

/-- A byte of the image as the loader judges it. -/
def State.bufByte (s : State) (n o : Nat) : Byte := if o < min n 262144 then s.byte (loadBuffer + o) else 0

/-- The first `n` bytes of the load buffer. -/
def State.bufBytes (s : State) (n : Nat) : List Byte := bytesOf (s.bufByte 262144) 0 n

/-- Bytes put into a byte memory from `a` on. -/
def putBytes (m : List Host.Cell) (a : Nat) (l : List Byte) : List Host.Cell :=
  l.zipIdx.foldl (fun m e => mapPut (fun _ => 0#8) m (a + e.2) e.1) m

def State.putSram (s : State) (a : Nat) (l : List Byte) : State := { s with sram := putBytes s.sram a l }

/-- A write to the buffer is refused: a load is in its SRAM phase (R260). -/
def State.bufferHeld (s : State) : Bool := s.load.phase == 1 || s.load.phase == 2

/-! ### A load (R259, R261, R263, R265) -/

/-- A load's request: the MBOX code and results, or the load starts (R259). -/
def State.loadStart (s : State) (src len : Nat) : Option (Nat × List Nat) × State :=
  if s.takesPlans = false then (some (0x05, []), s)
  else if s.fld F.CASC_STATE_ROLE = 2 ∧ src ≠ 1 then (some (0x06, []), s)
  else if s.load.phase ≠ 0 ∨ s.switching = true ∨ s.fab.waiting = true then (some (0x04, [eBusy, 7]), s)
  else (none, { s with load := { Load.init with phase := if src = 2 then 1 else 2, len := if src = 2 then none else some len } })

/-- A load ends: its request is answered (R435); a load of AUTO_PLAN that fails activates nothing (R520). -/
def State.loadEnd (s : State) (code : Nat) : State :=
  let t : State := { s with load := Load.init }
  if code = 0 then t.mbFinish svLoad (fun _ => true) 0 []
  else ({ t with boot := { t.boot with auto := if t.boot.auto = 1 then 2 else t.boot.auto } } : State).mbFinish svLoad (fun _ => true)
    0x04 [code, 2]

/-- Flash offset of the plan image for a position (R515). -/
def planArea (p : Nat) : Nat := 0x140000 + 0x40000 * p

/-- FLASH_READ_DONE: the image of the device's own plan area, that of position 0 on a standalone device, stands in the buffer (R259,
R515). A read of another part of the flash is none of the load's. -/
def flashReadDone (offset : Nat) (bytes : List Byte) (s : State) : State :=
  s.onDie (fun s =>
    if s.load.phase = 1 ∧ offset = planArea (if s.cascaded then s.fld F.CASC_STATE_POS else 0) then
      { (s.putSram loadBuffer (bytes.take 262144)) with load := { s.load with phase := 2 } }
    else s)

/-- The SRAM-phase checks of R263 in their order; 0 if all pass. -/
def State.sramCode (s : State) (ecc : Bool) : Nat :=
  let g := s.bufByte (s.load.len.getD 262144)
  let h := readHdr g
  let o := bytesOf g 0 h.image
  let slot := s.keySlot (digestOf (objKey o h.stored))
  firstCode
    [(0x01, magicOk g), (0x02, formatOk g), (0x03, lengthOk g s.load.len), (0x04, decide (h.stored ≤ 131072)), (0x05, !ecc),
     (0x06, !s.load.superseded), (0x10, s.takesPlans), (0x11, slot.isSome),
     (0x12, match slot with | some k => s.slotState k == 1 | none => true), (0x13, digestOk o h.stored),
     (0x14, sigOk ctxPlan o h.stored), (0x15, decide (s.fld (F.SEC_PMIN_MIN (slot.getD 0)) ≤ h.svn))]

/-- LOAD_SRAM_PHASE_END; `ecc`: an uncorrectable error was read in the buffer. -/
def loadSramPhaseEnd (ecc : Bool) (s : State) : State :=
  s.onDie (fun s =>
    if s.load.phase = 2 then
      match s.sramCode ecc with
      | 0 =>
        let g := s.bufByte (s.load.len.getD 262144)
        let h := readHdr g
        let o := bytesOf g 0 h.image
        let t : State := { s with load := { s.load with
          phase := 3, digest := objDigest o h.stored, stored := h.stored, slot := (s.keySlot (digestOf (objKey o h.stored))).getD 0 } }
        { (t.setStage sLoading) with stage := PlanInfo.empty }
      | c => ((s.set F.PLAN_STATUS_FAIL c).planEv F.PLAN_EVENT_LOAD_FAIL).loadEnd c
    else s)

/-- LOAD_COPY_END: the stored sections stand in STAGE (R261); what lies behind them in the half stays as it was (R178). -/
def loadCopyEnd (s : State) : State :=
  s.onDie (fun s =>
    if s.load.phase = 3 then
      let l := s.bufBytes s.load.stored
      let t := s.setHalf (1 - s.liveHalf) (putBytes (s.half (1 - s.liveHalf)) 0 l)
      let t := t.each (digestWords s.load.digest).zipIdx (fun e t => t.wr (R.PLAN_STAGE_DIG e.2) e.1)
      let t := (t.set F.PLAN_USE_STAGE_STAGE_BYTES s.load.stored).setStage sVerifying
      { t with load := { t.load with phase := 4 } }
    else s)

/-- The store-phase checks; `ecc`: an uncorrectable error was read in STAGE (R265). -/
def State.storePhase (s : State) (ecc : Bool) : Nat :=
  let g := fun o => if o < s.load.stored then s.stageByte o else 0
  if ecc then 0xE0
  else if digestOf (bytesOf g 0 s.load.stored) ≠ s.load.digest then 0x20
  else storeCode g

/-- LOAD_VERIFY_END. -/
def loadVerifyEnd (ecc : Bool) (s : State) : State :=
  s.onDie (fun s =>
    if s.load.phase = 4 then
      match s.storePhase ecc with
      | 0 =>
        let g := fun o => if o < s.load.stored then s.stageByte o else 0
        let h := readHdr g
        let t : State := { s with stage := planInfo h ((bindsOf g h).getD []), fab := { s.fab with stageSlot := s.load.slot } }
        ((t.setStage sVerified).planEv F.PLAN_EVENT_LOADED).loadEnd 0
      | c => (s.stageFail c).loadEnd c
    else s)

/-- A plan-key slot is revoked while STAGE holds a VERIFIED plan signed with it (R265). -/
def State.slotRevoked (s : State) (k : Nat) : State :=
  if s.stageState = sVerified ∧ s.fab.stageSlot = k then s.stageFail 0x12 else s

def execLoadSramPhaseEnd (ecc : Bool) (s : State) : Host.Outcome State Fault Refusal := .next (loadSramPhaseEnd ecc s)
def execLoadCopyEnd (s : State) : Host.Outcome State Fault Refusal := .next (loadCopyEnd s)

end Sys2Proof.Machine
end

