-- ==== Sys2Proof/Machine/Boot.lean ====
section
/-! DEFINITION. The Faesteel root: self-test and boot of the control die, keys, firmware slots and configuration records,
fuse commands, debug and scan entry (20_identity_and_boot.md R510 to R525, 21_self_test.md R527 to R536). -/

namespace Sys2Proof.Machine

def State.bootStep (s : State) (k : Nat) : State := { s with boot := { s.boot with step := k } }

/-- The cox firmware runs. -/
def State.fw (s : State) : Bool := s.boot.step == 6

/-- A boot halt with its code; a memory failure leaves SEC_BOOT.CODE (R519, R531). -/
def State.bootHalt (s : State) (code : Option Nat) : State :=
  ((match code with | some c => s.set F.SEC_BOOT_CODE c | none => s)).bootStep 7

/-! ### Self-test (R527 to R536) -/

/-- A signature equals the fused one of island `k`, or of seat `k - 16` (R532, R537). -/
def State.sigMatches (s : State) (k : Nat) (sig : Word) : Bool := sig.toNat == s.fuses.sigs.get k

/-- The logic tests of control-die islands, each with its signature and duration: their results, and reset-hold if one fails, the umpire
keeping the lowest failing island (R532, R533). -/
def State.logicTests (s : State) (l : List (Fin 8 × Word × Nat)) (same : List ResetCause) (next : State → State) : State :=
  let t := s.each l (fun e t =>
    (t.set (F.BIST_LBIST_MS e.1) (min e.2.2 255)).set (F.BIST_LBIST_PASS e.1) (if s.sigMatches e.1 e.2.1 then 1 else 0))
  match l.find? (fun e => !s.sigMatches e.1 e.2.1) with
  | some e => t.causes (.lbist e.1) same
  | none => (next t).beside same

/-- The root reads the seed into its latch, if one is programmed, the device is not retired and no wipe has taken the keys (R511, R512,
R525). -/
def State.loadLatch (s : State) : State :=
  if s.on F.SEC_LC_SEED_OK && s.fld F.SEC_LC_STATE != 3 && !s.sec.wiped then
    { s with boot := { s.boot with latch := some Config.fusedSeed } } else s

/-- An island that failed before the reset is shown (R533). -/
def State.showIsland (s : State) : State :=
  match s.sec.island with
  | some i =>
    let t : State := { s with sec := { s.sec with island := none } }
    ((t.set F.BIST_RESULT_UNIT i).set F.BIST_RESULT_CODE 2).set (F.BIST_LBIST_PASS i) 0
  | none => s

/-- Every logic test has passed: boot takes step 3 (R518, R533). -/
def State.logicPassed (s : State) : State :=
  ((s.set F.BIST_RESULT_LBIST_OK 1).bootStep 3).loadLatch.showIsland

/-- A mask of the numbers that satisfy `p`. -/
def maskWhere (n : Nat) (p : Nat → Bool) : Nat := ((List.range n).filter p).foldl setBit 0

/-- The inputs whose loopback fails at R = 64, PORD = 2, M = 8: S is ±5324 within 8, P is ±32 within 1 (R534). -/
def loopFails (l : List Loopback) : Nat := maskWhere 40 (fun n => l.any (fun x => x.input.val == n && !loopOk x 10648 64 8192))

/-- The converters whose reference conversions fail (R534). -/
def refFails (l : List SarRefs) : Nat := maskWhere 2 (fun k => l.any (fun x => x.conv.val == k && !refsOk x))

/-- A sensor differs from its die's median by more than 10 K in every read (R534). -/
def State.sensorFails (s : State) (reads : List (List (BitVec 16))) : Nat :=
  maskWhere 16 (fun i => !reads.isEmpty && reads.all (fun l =>
    let t := fun (j : Nat) => (l.getD j 0).toInt
    match median2 (((dieSensors (!(dieSensors false).contains i)).filter (fun j => !s.excluded j)).map t) with
    | some m => decide (320 < (2 * t i - m).natAbs)
    | none => false))

/-- SD inputs, converters and sensors that a loopback or reference check fails (R536). -/
def State.analogueFails (s : State) (sd sar sensors : Nat) : State :=
  let t : State := { s with sense := { s.sense with sdFailed := s.sense.sdFailed ||| sd, sarFailed := s.sense.sarFailed ||| sar } }
  let t := (t.set F.BIST_SD0_FAIL (t.sense.sdFailed % 2 ^ 20)).set F.BIST_SD1_FAIL (t.sense.sdFailed / 2 ^ 20)
  let t := t.set F.BIST_SAR_FAIL t.sense.sarFailed
  let t := t.each ((List.range 16).filter (bit sensors)) (fun i t => (t.set (F.THRM_RO_EXCL i) 1).ev F.THRM_EVENT_SENS_FAULT)
  (t.when (sd != 0) (fun t => t.ev F.BIST_EVENT_SD_FAIL)).when (sar != 0) (fun t => t.ev F.BIST_EVENT_SAR_FAIL)

/-- Rows, or columns, that an array has to spare (R529). -/
def spares (array : Fin 88) (column : Bool) : Nat :=
  if array.val < 32 then (if column then 2 else 4) else if column then 1 else 2

/-- Spares of an array that a list of lines takes. -/
def sparesOf (l : List MemLine) (array : Fin 88) (column : Bool) : Nat := (l.filter (fun x => x.array == array && x.column == column)).length

/-- The memory test over the fused repairs: the lines that fail still, those for which the array has spares left, and the arrays that are
unrepairable, which are the ones that have too few spares or fail again after their soft repair (R530; log entry 129). -/
structure MemTest where
  soft : List MemLine
  dead : List (Fin 88)
  deriving DecidableEq, Repr

def memTest (repairs fails : List MemLine) (again : List (Fin 88)) : MemTest :=
  let new := fails.eraseDups.filter (fun x => !repairs.contains x)
  let short := fun (a : Fin 88) => [false, true].any (fun c => spares a c < sparesOf repairs a c + sparesOf new a c)
  let soft := new.filter (fun x => !short x.array)
  { soft := soft
    dead := (List.finRange 88).filter (fun a => short a || (again.contains a && soft.any (fun x => x.array == a))) }

/-- Seats whose local data cannot be repaired. -/
def MemTest.seats (m : MemTest) : List Nat := (m.dead.filter (fun a => 64 ≤ a.val && a.val < 80)).map (fun a => a.val - 64)

/-- The first unrepairable array outside the seats. -/
def MemTest.fatal (m : MemTest) : Option Nat := (m.dead.find? (fun a => a.val < 64 || 80 ≤ a.val)).map (fun a => a.val)

/-- The memory test: fuses that do not read halt the boot; every memory ends as zeros (R510, R530, R531). -/
def State.memoryTest (s : State) (fuseErr : Bool) (m : MemTest) (ms : Nat) : State :=
  if fuseErr then (s.set F.SEC_BOOT_MS (min ms 255)).bootHalt (some 0x10)
  else
    let t : State := { s with sram := [], half0 := [], half1 := [], locals := [], caches := [], boot := { s.boot with soft := m.soft } }
    let t := ((t.set F.BIST_MEM_FUSED (min s.fuses.repairs.length 255)).set F.BIST_MEM_SOFT (min m.soft.length 255)).set
      F.BIST_RESULT_REPAIRED (if m.soft.isEmpty then 0 else 1)
    let t := t.when (!m.seats.isEmpty) (fun t =>
      (t.each m.seats (fun x t => t.clearFldBit F.FAB_SEATS_HEALTHY x)).set F.BIST_RESULT_SEAT_RETIRED 1)
    match m.fatal with
    | some a => (((t.set F.BIST_RESULT_CODE 1).set F.BIST_RESULT_UNIT a).set F.SEC_BOOT_MS (min ms 255)).bootHalt none
    | none => (t.set F.BIST_RESULT_MEM_OK 1).bootStep 1

/-- One output of the gate-off path passes: its pre-driver reads back on and off within 100 ns, and the ball comparator reads low
throughout (R535). -/
def gateReadOk (r : GateRead) : Bool :=
  let intime := fun (t : Option Nat) => match t with | some ns => decide (ns ≤ 100) | none => false
  intime r.onNs && intime r.offNs && !r.ballHigh

/-- The first output of the 52 that fails the gate-off path test (R535, R536). -/
def gateFails (l : List GateRead) : Option (Fin 52) := (List.finRange 52).find? (fun b => !l.any (fun r => r.ball == b && gateReadOk r))

/-- The umpire's test of its own island fails: the control die is held in reset-hold with LBIST_FAIL, and the output stage holds every
gate off without a clock, LIVE static and the contactors open, since the umpire stops (R533). A RST_N pulse starts the umpire anew. -/
def State.umpireFails (s : State) : State :=
  let t : State := { s with sup := { (s.sup.log 0x19 0 0) with die := .resetHold }, sec := { s.sec with island := some 5 } }
  let t := ((t.set (F.BIST_LBIST_PASS 5) 0).set F.UMP_CTRSTAT_CMDED 0).ctrToOpen
  { t with sup := { t.sup with umpire := false, rcTries := 3, rcStopped := true } }

/-- The die is down or held, the umpire runs and VIO and V18 are good, with the gate-off path still to be tested (R528). -/
def State.gateTestDue (s : State) : Bool :=
  (s.sup.die == .down || s.sup.die == .held) && s.sup.umpTest && !s.sup.gateTest && s.sup.good.contains .vio && s.sup.good.contains .v18

/-- BIST_PHASE_END: the umpire's own tests fall before the release, that of its island in step 3 of R73 and that of the gate-off path
while VCORE and VDDA rise; a phase out of its order changes nothing. -/
def bistPhaseEnd (e : BistEnd) (same : List ResetCause) (s : State) : State :=
  match e with
  | .umpire sig =>
    s.onUmp (fun s =>
      if (s.sup.die = .down ∨ s.sup.die = .held) ∧ s.sup.umpTest = false then
        if s.sigMatches 5 sig then (({ s with sup := { s.sup with umpTest := true } } : State).set (F.BIST_LBIST_PASS 5) 1).beside same
        else s.umpireFails.beside same
      else s.beside same)
  | .gateOff reads =>
    s.onUmp (fun s =>
      if s.gateTestDue then
        let t : State := { s with sup := { s.sup with gateTest := true } }
        (match gateFails reads with | some b => t.gatePathFail b | none => t).beside same
      else s.beside same)
  | .memory fuseErr fails again ms =>
    s.onDie (fun s => (if s.boot.step = 0 then s.memoryTest fuseErr (memTest s.fuses.repairs fails again) ms else s).beside same)
  | .logicA seat periph a b =>
    s.onDie (fun s => if s.boot.step = 1 then s.logicTests [(0, seat, a), (3, periph, b)] same (fun t => t.bootStep 2) else s.beside same)
  | .logicB cox pwm link a b c =>
    s.onDie (fun s => if s.boot.step = 2 then s.logicTests [(1, cox, a), (2, pwm, b), (4, link, c)] same State.logicPassed
      else s.beside same)
  | .analogue loops refs reads ms =>
    s.onDie (fun s => (if s.boot.step = 3 then
      let t := s.analogueFails (loopFails loops) (refFails refs) (s.sensorFails reads)
      let t := t.set F.BIST_RESULT_ANA_OK (if loopFails loops = 0 ∧ refFails refs = 0 ∧ s.sensorFails reads = 0 then 1 else 0)
      (t.set F.BIST_RESULT_MS (min ms 255)).bootStep 4
    else s).beside same)

/-! ### Keys (R511, R512) -/

/-- The device's public key. -/
def publicKey : List Byte := (List.range 2592).map (Config.mldsaPublicKey Config.fusedSeed)

/-- KEYGEN_DONE: the private key goes into the key store, SEC_PK, SEC_ID and KEYS_VALID follow, and the root clears the seed latch. It ends
only where a seed stands in the latch; a generation that fails leaves KEYS_VALID clear (R511, R518). -/
def keygenDone (ok : Bool) (s : State) : State :=
  s.onDie (fun s =>
    match s.boot.latch with
    | none => s
    | some seed =>
      let t : State := { s with boot := { s.boot with latch := none } }
      if ok then
        let t : State := { t with boot := { t.boot with keys := (List.range 4896).map (Config.mldsaPrivateKey seed) } }
        let pk := publicKey
        let t := t.each (List.range 648) (fun k t => t.wr (R.SEC_PK k) (bytesWord (pk.drop (4 * k))))
        (t.each (digestWords (digestOf pk)).zipIdx (fun e t => t.wr (R.SEC_ID e.2) e.1)).set F.SEC_LC_KEYS_VALID 1
      else t)

/-- The identity's bytes; zeros while KEYS_VALID is clear. -/
def State.identity (s : State) : List Byte := wordBytes ((List.range 16).map (fun k => s.rd (R.SEC_ID k)))

/-! ### Configuration records (R517) -/

/-- An accepted body of a record: its kind, COUNT and entries from byte 80 on. -/
def State.recordOk (s : State) (o : List Byte) (kind : Nat) : Bool :=
  let g := fun (i : Nat) => o.getD i 0
  let count := u16 g 12
  let n := 80 + (if kind = 3 then 64 else 8) * count
  let id := bytesOf g 16 64
  u32 g 0 == 0x4643525A && u16 g 4 == 1 && (g 6).toNat == kind && g 7 == 0 && u16 g 14 == 0 && decide (o.length = n + 7283) &&
    s.takesPlans && (id.all (· == 0) || id == s.identity) && digestOk o n && sigOk ctxConf o n &&
    (match s.signer o n with | some k => decide (s.fld (F.SEC_PMIN_MIN k) ≤ u32 g 8) | none => false) &&
    (kind != 3 || (decide (1 ≤ count) && decide (count ≤ 8)))

/-- Entries of a record of kind 1 or 2: address and value. -/
def regEntries (o : List Byte) : List (Nat × Nat × Nat) :=
  let g := fun (i : Nat) => o.getD i 0
  (List.range (u16 g 12)).map (fun k =>
    let w := u32 g (80 + 8 * k)
    (w / 2 ^ 20, pageBase (w % 256) + w / 256 % 4096, u32 g (84 + 8 * k)))

/-- RWS bits of a register. -/
def rwsMask (a : Nat) : Nat := match regRow a with | some r => r.rws | none => 0

/-- Pages a record of each kind may name. -/
def recordPage (kind a : Nat) : Bool :=
  if kind = 1 then pageOf a == 0x1E
  else [0x03, 0x15, 0x16, 0x17, 0x19].contains (pageOf a) || a == R.SEC_BOOTCFG

def entriesNameRws (o : List Byte) (kind : Nat) : Bool :=
  (regEntries o).all (fun e => e.1 == 0 && recordPage kind e.2.1 && rwsMask e.2.1 != 0)

/-- An accepted umpire record reaches the umpire, which still checks each value (R417); the repeat of a boot finds the page sealed, and its
fields keep what they hold (R525, R550). -/
def State.applyUmpRecord (s : State) (o : List Byte) : State :=
  if s.recordOk o 1 && entriesNameRws o 1 then
    ((if s.on (F.PAGE_CTRL_SEAL 0x1E) then s
      else s.each (regEntries o) (fun e t => t.umpConfig (e.2.1 % 4096) (BitVec.ofNat 32 e.2.2)))).set F.SEC_BOOT_CFG_UMP_OK 1
  else s

/-- The RWS bits of a register written; a sealed page keeps them, and a PLL_DIV.N outside 80 to 200 is refused and logged (R105, R550). -/
def State.putRws (s : State) (a v : Nat) : State :=
  let m := BitVec.ofNat 32 (rwsMask a)
  let w := (s.rd a &&& ~~~ m) ||| (BitVec.ofNat 32 v &&& m)
  if s.on (F.PAGE_CTRL_SEAL (pageOf a)) then s
  else if a = R.PLL_DIV ∧ (F.PLL_DIV_N.get w < 80 ∨ 200 < F.PLL_DIV_N.get w) then s.refuse .root a eBusy true
  else s.wr a w

def State.applyIfRecord (s : State) (o : List Byte) : State :=
  if s.recordOk o 2 && entriesNameRws o 2 then
    (s.each (regEntries o) (fun e t => t.putRws e.2.1 e.2.2)).set F.SEC_BOOT_CFG_IF_OK 1
  else s

/-- Identities of an accepted pairing record (R524). -/
def State.pairing (s : State) (o : List Byte) : Option (List (List Byte)) :=
  if s.recordOk o 3 then
    some ((List.range (u16 (fun i => o.getD i 0) 12)).map (fun k => (o.drop (80 + 64 * k)).take 64))
  else none

def State.applyPairing (s : State) (o : List Byte) : State :=
  match s.pairing o with
  | some l => { s with boot := { s.boot with pair := l, pairNext := l, pairOk := true } }
  | none => { s with boot := { s.boot with pair := [], pairNext := [], pairOk := false } }

/-! ### Firmware (R516, R518, R519, R520) -/

/-- A slot is a candidate. -/
def fwCandidate (o : List Byte) : Bool :=
  let g := fun (i : Nat) => o.getD i 0
  let len := u32 g 12
  u32 g 0 == 0x5746525A && u16 g 4 == 1 && u16 g 6 == 0xA1 && decide (64 ≤ len) && len % 8 == 0 && decide (len ≤ 262144)

/-- What steps 4 and 5 make of a candidate: 0, or its code. A header that breaks R516 otherwise fails with FW_FORMAT. -/
def State.fwCode (s : State) (o : List Byte) : Nat :=
  let g := fun (i : Nat) => o.getD i 0
  let len := u32 g 12
  firstCode
    [(0x24, decide (s.fld F.SEC_SVN_FW_MIN ≤ u32 g 8)),
     (0x21, decide (u32 g 8 ≤ 63) && decide (u32 g 16 < len) && zeroBytes g 20 64),
     (0x22, digestOk o len),
     (0x23, digestOf (objKey o len) == Config.fwKeyDigest && sigOk ctxFw o len)]

/-- A page is sealed (R550). -/
def State.sealPage (p : Nat) (s : State) : State := (s.set (F.PAGE_CTRL_SEAL p) 1).set (F.PAGE_STATUS_SEALED p) 1

/-- AUTO_PLAN (R520): a FLASH load of the firmware's own on a standalone device, as soon as the PLL is LOCKED; 3 reads as
0. -/
def State.autoPlan (s : State) : State :=
  let a := s.fld F.SEC_BOOTCFG_AUTO_PLAN
  if s.fw && s.pllState == pLocked && s.boot.auto == 0 && (a == 1 || a == 2) && !s.cascaded then
    let t := (s.loadStart 2 0).2
    { t with boot := { t.boot with auto := if a = 1 ∧ t.load.phase = 1 then 1 else 2 } }
  else s

/-! ### The octal flash (R515) -/

/-- A region of the flash, of which `flash` lists what stands at an offset; what is not listed is erased. -/
def flashRegion (flash : List (Nat × List Byte)) (offset size : Nat) : List Byte :=
  (((flash.find? (fun e => e.1 == offset)).map Prod.snd).getD []).take size

/-- Firmware slot 0 (A) or 1 (B). -/
def flashSlot (flash : List (Nat × List Byte)) (k : Nat) : List Byte := flashRegion flash (0x80000 * k) 0x80000

/-- The record of a kind, 1 to 3, in its region of 8 KB; the object is as long as its COUNT says, and what lies behind it is no part of
it. -/
def flashRecord (flash : List (Nat × List Byte)) (kind : Nat) : List Byte :=
  let o := flashRegion flash (0x100000 + 0x2000 * (kind - 1)) 0x2000
  o.take (80 + (if kind = 3 then 64 else 8) * u16 (fun i => o.getD i 0) 12 + 7283)

/-- Steps 7 and 8 of R518: records, seals, and the firmware starts. Its version is no number of the spec (log entry 1). A
repeat after a debug wipe counts as a release for the first watchdog service (R525). A device that a record has put into a cascade is in
start step 3, boot verification (R489). -/
def State.startFirmware (s : State) : State :=
  let t := ((s.applyUmpRecord s.boot.umpRec).applyIfRecord s.boot.ifRec).applyPairing s.boot.pairRec
  let t := t.each (List.range 32) State.sealPage
  let t := t.when (t.cascaded && t.fld F.CASC_STATE_STEP == 0 && !t.on F.CASC_STATE_READY) (fun t => t.set F.CASC_STATE_STEP 3)
  let (v, t) := t.fresh 32
  let t := t.wr R.MBOX_FW v
  let t := if t.boot.ports ≠ 0 then { t with ump := t.ump.firstDue 3 } else t
  (t.bootStep 6).mbSkip.autoPlan

/-- Step 6 of R518 ends once each pair has passed its comparator test, or has a debugger's attach behind it (R426). -/
def State.testsEnd (s : State) : State :=
  if s.boot.step = 5 ∧ s.lsOver 0 = true ∧ s.lsOver 1 = true then s.startFirmware else s

/-- Slots the root may still try, in the order of R519: the highest SVN first, slot A first on equal SVN. -/
def State.fwSlots (s : State) (a b : List Byte) : List (Nat × List Byte) :=
  let svn := fun (o : List Byte) => u32 (fun i => o.getD i 0) 8
  (if svn a < svn b then [(1, b), (0, a)] else [(0, a), (1, b)]).filter
    (fun e => fwCandidate e.2 && !s.boot.tried.any (fun f => f.1 == e.1))

/-- A slot has passed: its body is in SRAM, its values are shown, and step 6 of R518 is next. -/
def State.fwLoaded (s : State) (slot : Nat) (image : List Byte) : State :=
  let len := u32 (fun i => image.getD i 0) 12
  let t := (s.putSram 0x20000000 (image.take len)).set F.SEC_SVN_FW_SVN (u32 (fun i => image.getD i 0) 8)
  let t := ((t.set F.SEC_BOOT_SLOT slot).set F.SEC_BOOT_ALT_CODE ((s.boot.tried.map Prod.snd).headD 0)).set F.SEC_BOOT_CODE 0
  (t.each (digestWords (objDigest image len)).zipIdx (fun e t => t.wr (R.SEC_FWDIG e.2) e.1)).bootStep 5

/-- FW_SLOT_VERIFIED: `flash` lists the regions of the flash by their offsets; the slot whose turn it is passes or fails, and with no further
candidate the boot halts with the code of the last slot tried, FW_NONE if there was none. `ms` is the time that SEC_BOOT.MS shows, of the
halt or, behind a slot that passes, of step 8 (log entry 64). -/
def fwSlotVerified (flash : List (Nat × List Byte)) (ms : Nat) (s : State) : State :=
  s.onDie (fun s =>
    if s.boot.step = 4 then
      let s := s.set F.SEC_BOOT_MS (min ms 255)
      match s.fwSlots (flashSlot flash 0) (flashSlot flash 1) with
      | [] => s.bootHalt (some ((s.boot.tried.map Prod.snd).headD 0x20))
      | (slot, image) :: rest =>
        let code := s.fwCode image
        if code = 0 then
          let t := s.fwLoaded slot image
          ({ t with boot := { t.boot with
            umpRec := flashRecord flash 1, ifRec := flashRecord flash 2, pairRec := flashRecord flash 3 } } : State).testsEnd
        else
          let t : State := { s with boot := { s.boot with tried := (slot, code) :: s.boot.tried } }
          if rest.isEmpty then t.bootHalt (some code) else t
    else s)

/-! ### Fuse commands (R521) -/

/-- Active slots. -/
def State.activeSlots (s : State) : List Nat := [0, 1].filter (fun k => s.slotState k == 1)

/-- Slot `k` is active, and its key has signed the object. -/
def State.signedBy (s : State) (o : List Byte) (n k : Nat) : Bool := s.slotState k == 1 && s.slotDig k == digestWords (digestOf (objKey o n))

/-- The signing key is the one R521 requires. -/
def State.fuseKeyOk (s : State) (o : List Byte) (op slot : Nat) : Bool :=
  let own := digestOf (objKey o 160)
  let either := [0, 1].any (s.signedBy o 160)
  match op with
  | 1 => match s.fld F.SEC_LC_STATE with
    | 1 => (o.drop 80).take 64 == own
    | 2 => s.signedBy o 160 (1 - slot)
    | _ => true
  | 3 => s.signedBy o 160 slot
  | 6 => either || s.activeSlots.isEmpty
  | _ => either

/-- The lifecycle and slot conditions of an operation. -/
def State.fuseStateOk (s : State) (op slot : Nat) : Bool :=
  let lc := s.fld F.SEC_LC_STATE
  (lc == 1 || lc == 2) && (3 < op || slot < 2) &&
    (match op with
     | 1 => s.slotState slot == 0
     | 5 => lc == 1 && s.slotState 0 == 1
     | _ => true)

/-- The first failing code of R521's table; 0 if the command is accepted. -/
def State.fuseCode (s : State) (o : List Byte) : Nat :=
  let g := fun (i : Nat) => o.getD i 0
  let op := (g 6).toNat
  let slot := (g 7).toNat
  let v := u32 g 8
  firstCode
    [(0x01, s.load.phase == 0 && s.boot.sign.isNone),
     (0x02, u32 g 0 == 0x4346525A && u16 g 4 == 1 && u32 g 12 == 0 && zeroBytes g 144 160 && decide (1 ≤ op) && decide (op ≤ 6)),
     (0x03, s.on F.SEC_LC_KEYS_VALID && bytesOf g 16 64 == s.identity),
     (0x04, s.fuseKeyOk o op slot),
     (0x05, digestOk o 160 && sigOk ctxFuse o 160),
     (0x06, s.fuseStateOk op slot),
     (0x07, match op with
       | 3 => decide (s.fld (F.SEC_PMIN_MIN slot) < v) && decide (v ≤ 255)
       | 4 => decide (s.fld F.SEC_SVN_FW_MIN < v) && decide (v ≤ s.fld F.SEC_SVN_FW_SVN)
       | _ => true),
     (0x08, op != 2 || s.fld F.SEC_LC_STATE != 2 || (s.activeSlots.any (fun k => k != slot))),
     (0x09, !s.anyOn)]

/-- A fuse command ends. -/
def State.fuseEnd (s : State) (code : Nat) : State :=
  if code = 0 then ((s.set F.SEC_FSTAT_STATE 2).set F.SEC_FSTAT_CODE 0).ev F.SEC_EVENT_FUSE_DONE
  else ((s.set F.SEC_FSTAT_STATE 3).set F.SEC_FSTAT_CODE code).ev F.SEC_EVENT_FUSE_FAIL

/-- GO: the object in the load buffer. A repeat of an accepted command ends DONE; while a command runs another is refused
and the running one keeps its state. -/
def State.fuseGo (s : State) : State :=
  if !s.fw then s
  else if s.boot.fuse.isSome then (s.set F.SEC_FSTAT_CODE 0x01).ev F.SEC_EVENT_FUSE_FAIL
  else
    let o := s.bufBytes 7443
    if s.load.phase = 0 ∧ s.boot.sign = none ∧ s.fuses.done.contains o = true then s.fuseEnd 0
    else match s.fuseCode o with
      | 0 => { ((s.set F.SEC_FSTAT_STATE 1).set F.SEC_FSTAT_CODE 0) with boot := { s.boot with fuse := some o } }
      | c => s.fuseEnd c

/-- A SEC register whose fuses have been blown. -/
def State.blow (s : State) (a : Nat) (w : Word) : State :=
  { (s.wr a w) with fuses := { s.fuses with words := mapPut resetWord s.fuses.words a w } }

/-- What an accepted command blows; SEAL and RETIRE act at the next device reset. -/
def State.fuseBlow (s : State) (o : List Byte) : State :=
  let g := fun (i : Nat) => o.getD i 0
  let slot := (g 7).toNat
  let v := u32 g 8
  let setSlot := fun (t : State) (c : Nat) =>
    t.blow R.SEC_SLOT (F.SEC_SLOT_STATE.put (t.fld F.SEC_SLOT_STATE - t.slotState slot * 4 ^ slot + c * 4 ^ slot))
  match (g 6).toNat with
  | 1 => (setSlot s 1).each (digestWords (bytesOf g 80 64)).zipIdx (fun e t => t.blow (R.SEC_SLOTDIG slot e.2) e.1)
  | 2 => (setSlot s 2).slotRevoked slot
  | 3 => s.blow (R.SEC_PMIN slot) (BitVec.ofNat 32 v)
  | 4 => (s.blow R.SEC_SVN (F.SEC_SVN_FW_MIN.put v)).set F.SEC_SVN_FW_SVN (s.fld F.SEC_SVN_FW_SVN)
  | 5 => { s with fuses := { s.fuses with stage := max s.fuses.stage 2 } }
  | _ => { s with fuses := { s.fuses with stage := 3 } }

def secFcmdGo (m : Master) (s : State) : State :=
  s.onDie (fun s => s.blockWrite m R.SEC_FCMD true State.fuseGo)

/-- FUSE_COMMAND_DONE; when a read-back failed, whether the fuses took hold is open (log entry 1). -/
def fuseCommandDone (ok : Bool) (s : State) : State :=
  s.onDie (fun s =>
    match s.boot.fuse with
    | none => s
    | some o =>
      let s : State := { s with boot := { s.boot with fuse := none } }
      if ok then
        let t := s.fuseBlow o
        ({ t with fuses := { t.fuses with done := o :: t.fuses.done } } : State).fuseEnd 0
      else
        let (c, t) := s.freshBool
        (if c then t.fuseBlow o else t).fuseEnd 0x0A)

/-! ### Debug and scan entry (R427, R513, R525) -/

/-- An entry request that is allowed: the umpire imposes all-off on every unit, whose grants end, and the wipe runs (R32, R525). The
self-test, or a boot halt, in which it comes goes on behind it: only a reset leads out of a halt (R519; log entry 130). -/
def State.entryRequest (s : State) (e : Nat) : State :=
  let t := ((s.overrides true 15).recheck).set F.DBG_STAT_WIPE_RUN 1
  let back := if s.boot.step = 8 then s.boot.back else if s.boot.step < 4 ∨ s.boot.step = 7 then s.boot.step else 4
  { t with boot := { t.boot with entry := e, step := 8, back := back, sign := none, fuse := none } }

/-- DEBUG_ATTACH of pair `x`: refused in SEALED; else it breaks the pair's lockstep at once, and the access is held until the wipe has run,
also where another entry's wipe runs already (R427, R513, R525). On a die held in reset, such as behind a latched mismatch, the reset
proceeds and LOCKSTEP_BROKEN is still set (R430). -/
def debugAttach (x : Fin 2) (s : State) : State :=
  if s.running then
    let s := s.ev F.DBG_EVENT_ENTRY_REQ
    if s.boot.step = 9 then s
    else if s.fld F.SEC_LC_STATE = 2 then s.ev F.SEC_EVENT_DEBUG_REFUSED
    else
      let t := (s.attach x).bump F.DBG_COUNT_ATTACHES
      let t : State := { t with boot := { t.boot with want := setBit t.boot.want x } }
      if s.boot.entry ≠ 0 then t else t.entryRequest (1 + x)
  else if s.sup.umpire && s.sup.die != .down && s.fuses.lc != 2 then (s.attach x).bump F.DBG_COUNT_ATTACHES
  else s

/-- TESTEN_ENTRY: scan is allowed in OPEN and RETIRED. -/
def testenEntry (s : State) : State :=
  s.onDie (fun s =>
    let s := s.ev F.DBG_EVENT_ENTRY_REQ
    if s.boot.entry ≠ 0 ∨ s.boot.step = 9 then s
    else if s.fld F.SEC_LC_STATE = 0 ∨ s.fld F.SEC_LC_STATE = 3 then s.entryRequest 3
    else s.ev F.SEC_EVENT_TESTEN)

/-- What order 2 of R525 clears. -/
def State.wipe (s : State) : State :=
  let t := s.each (List.range 648) (fun k t => t.wr (R.SEC_PK k) 0)
  { t with sram := [], locals := [], caches := [], boot := { t.boot with latch := none, keys := [] } }

/-- The wipe has run, and the entry request is over. -/
def State.wipeEnds (s : State) : State :=
  let t := s.wipe.set F.DBG_STAT_WIPE_RUN 0
  { t with boot := { t.boot with entry := 0 } }

/-- After a wipe that passed: SEC_ID is gone, and the port or the scan chain opens. -/
def State.wipePassed (s : State) (e : Nat) : State :=
  let t := ((s.each (List.range 16) (fun k t => t.wr (R.SEC_ID k) 0)).set F.SEC_LC_KEYS_VALID 0).set F.SEC_LC_WIPED 1
  let t := (t.ev F.SEC_EVENT_WIPE_DONE).ev F.DBG_EVENT_ENTRY_OPEN
  let t := t.set (if e = 3 then F.DBG_STAT_SCAN else F.DBG_STAT_PORT_EN) 1
  { t with sec := { t.sec with wiped := true } }

/-- What a repeat of steps 4 to 8 of R518 begins with: no slot tried, no comparator test passed and no record accepted, and AUTO_PLAN is
the restarted firmware's to carry out (R518, R520, R525). -/
def State.repeatBoot (s : State) : State :=
  let t := ((s.set F.LSTP_STATUS_CTEST_OK0 0).set F.LSTP_STATUS_CTEST_OK1 0).set F.SEC_BOOT_CFG_UMP_OK 0
  let t := t.set F.SEC_BOOT_CFG_IF_OK 0
  { t with boot := { t.boot with tried := [], pairOk := false, auto := 0 }, ump := { t.ump with lsWindow := none, lsSeen := [] } }

/-- What follows: the scan chain runs, or the ports open that attaches were held for and the root repeats the boot from step 4; a
self-test or a boot halt goes on as it stood (R519, R525). -/
def State.entryOpens (t : State) (e : Nat) : State :=
  let t : State := { t with boot := { t.boot with ports := t.boot.ports ||| t.boot.want, want := 0 } }
  if e = 3 then t.bootStep 9 else (if t.boot.back = 7 then t else t.repeatBoot).bootStep t.boot.back

/-- WIPE_DONE: the port or the scan chain opens, and after a debug wipe the root repeats the boot from step 4; or the entry
stays closed. -/
def wipeDone (ok : Bool) (s : State) : State :=
  s.onDie (fun s =>
    if s.boot.entry = 0 then s
    else if ok then (s.wipeEnds.wipePassed s.boot.entry).entryOpens s.boot.entry
    else
      let t := s.wipeEnds.ev F.SEC_EVENT_WIPE_FAIL
      { t with boot := { t.boot with want := 0 } })

def execBistPhaseEnd (e : BistEnd) (same : List ResetCause) (s : State) : Host.Outcome State Fault Refusal :=
  .next (bistPhaseEnd e same s)
def execKeygenDone (ok : Bool) (s : State) : Host.Outcome State Fault Refusal := .next (keygenDone ok s)
def execFwSlotVerified (flash : List (Nat × List Byte)) (ms : Nat) (s : State) : Host.Outcome State Fault Refusal :=
  .next (fwSlotVerified flash ms s)
def execSecFcmdGo (m : Master) (s : State) : Host.Outcome State Fault Refusal := .next (secFcmdGo m s)
def execFuseCommandDone (ok : Bool) (s : State) : Host.Outcome State Fault Refusal := .next (fuseCommandDone ok s)
def execDebugAttach (x : Fin 2) (s : State) : Host.Outcome State Fault Refusal := .next (debugAttach x s)
def execTestenEntry (s : State) : Host.Outcome State Fault Refusal := .next (testenEntry s)
def execWipeDone (ok : Bool) (s : State) : Host.Outcome State Fault Refusal := .next (wipeDone ok s)

/-- LS_TEST, and with the second pair's test the boot goes on. -/
def execLsTest (x : Fin 2) (ended : Bool) (same : List ResetCause) (s : State) : Host.Outcome State Fault Refusal :=
  .next (lsTest x ended same s).testsEnd

/-- LOAD_VERIFY_END, and the activation of AUTO_PLAN. -/
def loadVerifyAuto (ecc : Bool) (s : State) : State :=
  let t := loadVerifyEnd ecc s
  if t.boot.auto = 1 ∧ s.load.phase = 4 ∧ t.load.phase = 0 then
    let t : State := { t with boot := { t.boot with auto := 2 } }
    if t.stageState = sVerified then t.planActivate.2 else t
  else t

end Sys2Proof.Machine
end

