-- ==== Sys2Proof/Machine/Mailbox.lean ====
section
/-! DEFINITION. The mailbox and its services (16_supervisor_cores.md R432 to R438), with attestation, pairing and the tests on
request behind them (20_identity_and_boot.md R522 to R524, 21_self_test.md R538 to R541). -/

namespace Sys2Proof.Machine

/-! ### Submission (R432 to R434) -/

/-- A queued request ends as ABORTED, and nothing of it has run (R432). -/
def State.mbAbort (s : State) (c : Nat) : State :=
  let r := s.mbReq c
  let t := if r.service = svCalibrate then
      let u := (r.args.getD 0 0).toNat
      s.setCal u .idle (s.calOf u).2.1 (s.calOf u).2.2
    else { s with self := { s.self with reqs := s.self.reqs.filter (fun q => q.chan != c) } }
  t.mbEnd c 0x07 []

/-- A running kind 2 test of the channel, which ABORT stops (R541). -/
def State.runningTest (s : State) (c : Nat) : Option SelfReq :=
  s.self.reqs.find? (fun r => r.chan == c && r.kind == 2 && r.phase == 4)

/-- A write of MB_REQ: its refusal code, 0 if it is taken. -/
def State.mbSubmit (s : State) (c : Nat) (v : Word) : Nat × State :=
  let st := s.mbState c
  let sv := v.toNat % 256
  let seq := v.toNat / 256 % 256
  let req : MbReq := ⟨sv, seq, (List.range 4).map (fun k => s.rd (R.MB_ARG c k))⟩
  if st = mbQueued ∧ sv = svAbort then (0, s.mbAbort c)
  else if sv = svAbort ∧ (s.runningTest c).isSome = true then
    (0, match s.runningTest c with | some r => s.stopTest r.unit | none => s)
  else if st = mbPending ∨ st = mbAccepted ∨ st = mbQueued then (eBusy, s)
  else if (st = mbDone ∨ st = mbFailed) ∧ req = s.mbReq c then
    (0, ((s.set (F.MB_STATE_DUP c) 1).setFldBit F.MBOX_EVENT_DONE c).hostEvent 0x0006 4 (c + 256 * s.fld (F.MB_STATE_CODE c)))
  else
    let t := ((s.wr (R.MB_STATE c) 0).set (F.MB_STATE_SEQ c) seq).set (F.MB_STATE_SERVICE c) sv
    let t := (t.set (F.MB_STATE_STATE c) mbPending).mbResults c []
    let t : State := { t with mail := { t.mail with req := mapPut (fun _ => MbReq.init) t.mail.req c req } }
    (0, ({ t with mail := { t.mail with order := t.mail.order ++ [c] } } : State).mbSkip)

/-- A write of MB_ARG is refused while the channel is busy. -/
def State.mbBusy (s : State) (c : Nat) : Bool :=
  s.mbState c == mbPending || s.mbState c == mbAccepted || s.mbState c == mbQueued

/-- MB_ABORT: a write of MB_REQ with SERVICE ABORT. -/
def mbAbort (m : Master) (c : Fin 4) (s : State) : State :=
  s.onDie (fun s => s.blockWrite m (R.MB_REQ c) true (fun s =>
    let (k, t) := s.mbSubmit c 0xFF
    if k = 0 then t else s.refuse m (R.MB_REQ c) k true))

/-! ### Taking a request -/

/-- COX1 takes the first PENDING request, if it stands in channel `c` and asks for service `sv`; requests behind it that take no work end
with it (R434). -/
def State.mbTake (s : State) (c : Fin 4) (sv : Nat) (act : State → State) : State :=
  s.onDie (fun s =>
    if s.fw && s.mail.order.head? == some (c : Nat) && s.mbState c == mbPending && (s.mbReq c).service == sv then
      let t : State := { s with mail := { s.mail with order := s.mail.order.tail } }
      (act (t.set (F.MB_STATE_STATE c) mbAccepted)).mbSkip
    else s)

/-- A register write of COX0's behind a service, which R548 judges first: a refusal is logged and ends the request (R437, R549); a write that a
gated page discards in silence is logged too and is no refusal, and `quiet` says how the request fares then. -/
def State.cox0Write (s : State) (c a : Nat) (quiet act : State → State) : State :=
  match s.blockStops .cox0 a true with
  | some (k, silent) =>
    let t := s.refuse .cox0 a k true
    if silent then quiet t else t.mbRefuse c k 0x07
  | none => act s

/-- A write whose register may itself refuse it, with an error code of R548. -/
def State.cox0Access (s : State) (c a : Nat) (act : State → Nat × State) : State :=
  s.cox0Write c a (fun t => t.mbEnd c 0 []) (fun s =>
    let (k, t) := act s
    if k = 0 then t.mbEnd c 0 [] else (s.refuse .cox0 a k true).mbRefuse c k 0x07)

/-- INFO. -/
def info (c : Fin 4) (s : State) : State :=
  s.mbTake c svInfo (fun s => s.mbEnd c 0 [(s.rd R.MBOX_FW).toNat, s.fld F.SEC_SVN_FW_SVN, 0x00A1])

/-- PLAN_LOAD (R259). -/
def planLoad (c : Fin 4) (s : State) : State :=
  s.mbTake c svLoad (fun s =>
    if 2 < s.mbArg c 0 then s.mbEnd c 0x02 []
    else match s.loadStart (s.mbArg c 0) (s.mbArg c 1) with
      | (some (k, res), _) => s.mbEnd c k res
      | (none, t) => t)

/-- PLAN_ACTIVATE (R190): it waits until SWITCHED is set. -/
def planActivate (c : Fin 4) (s : State) : State :=
  s.mbTake c svActivate (fun s => s.cox0Write c R.PLAN_CMD id (fun s =>
    let (k, t) := s.planActivate
    if k = 0 then t else t.mbRefuse c k 0x01))

def planCancel (c : Fin 4) (s : State) : State :=
  s.mbTake c svCancel (fun s => s.cox0Write c R.PLAN_CMD (fun t => t.mbEnd c 0 []) (fun s =>
    let (k, t) := s.planCancel
    if k = 0 then t.mbEnd c 0 [] else t.mbRefuse c k 0x01))

/-! ### Calibration and tests on request (R161, R539, R540) -/

/-- The answer of an existing action: the state of its channel, and the channel (R436, R539). -/
def State.mbExisting (s : State) (c : Nat) (l : List Nat) : State :=
  match l.filter (fun d => d != c) with
  | d :: _ => s.mbEnd c 0 [s.mbState d, d]
  | [] => s.mbEnd c 0 []

/-- The zero-torque windows of unit `u` can last at least 5 ms (R161, R539). -/
def State.windowFits (s : State) (u : Nat) : Bool := decide (u < 2) && decide (50 ≤ s.fld (F.DRV_TIMES_ZT_HOLD u))

/-- 0.5 ms and N catch periods fit a window of 5 ms: a tick is 16 DCO cycles, of N × the reference while the PLL is locked or
coasting. Below that the DCO's frequency, and so the answer, is open (log entry 1). -/
def State.calFits (s : State) (u log : Nat) : Bool × State :=
  let ticks := 2 ^ log * catchPeriod (s.fld F.CATCH_CTRL_MODE) (s.fld F.CATCH_PERIOD_CARRIER)
  if s.windowFits u = false then (false, s)
  else if 4 ≤ s.pllState then (decide (32000 * ticks ≤ 9 * (s.pll.n * s.pll.refHz)), s)
  else s.freshBool

def calibrate (c : Fin 4) (s : State) : State :=
  s.mbTake c svCalibrate (fun s =>
    let u := s.mbArg c 0
    let log := s.mbArg c 1
    if 3 < u ∨ log < 6 ∨ 10 < log then s.mbEnd c 0x02 []
    else if (s.calOf u).1 != .idle then s.mbExisting c (s.mbWaiting svCalibrate (fun r => r.unit u))
    else if s.unitOff u then s.setCal u .due log 0
    else if bit (s.mbArg c 2) 0 = false then s.mbEnd c 0x03 []
    else
      let (fits, s) := s.calFits u log
      if fits then (s.setCal u .queuedWindow log 0).mbQueue c 1
      else (s.setCal u .queuedStandstill log 0).mbQueue c 2)

/-- What a kind of test needs: every gate output of the unit, or of the device, off. -/
def State.testNeeds (s : State) (kind u : Nat) : Bool :=
  match kind with
  | 2 => s.unitOff u
  | 4 => true
  | _ => s.deviceOff

def State.addTest (s : State) (kind u c phase : Nat) : State :=
  { s with self := { s.self with reqs := s.self.reqs ++ [⟨kind, u, c, phase, [], 0⟩] } }

def selftest (c : Fin 4) (s : State) : State :=
  s.mbTake c svSelftest (fun s =>
    let k := s.mbArg c 0
    let u := if k = 2 then s.mbArg c 1 else 0
    if k < 1 ∨ 4 < k ∨ 3 < u then s.mbEnd c 0x02 []
    else match s.self.reqs.find? (fun r => r.kind == k && r.unit == u) with
      | some r => s.mbEnd c 0 [s.mbState r.chan, r.chan]
      | none =>
        if s.testNeeds k u then s.addTest k u c 0
        else if bit (s.mbArg c 2) 0 = false then s.mbEnd c 0x03 []
        else if k = 2 ∧ s.windowFits u = true then (s.addTest k u c 1).mbQueue c 1
        else (s.addTest k u c (if k = 2 then 2 else 3)).mbQueue c 2)

/-- What a queued test waits for holds. -/
def State.testDue (s : State) (r : SelfReq) : Bool :=
  s.testNeeds r.kind r.unit &&
    (match r.phase with
     | 1 => (decide (r.unit < 2) && s.driveState r.unit == dZtw) || decide (2 ≤ r.unit) || s.on (F.DRV_STATE_STANDSTILL r.unit)
     | 2 => decide (2 ≤ r.unit) || s.on (F.DRV_STATE_STANDSTILL r.unit)
     | 4 => false
     | _ => true)

/-- The SD inputs that a kind 2 test of a unit covers, with G and M^PORD, and its converters. -/
def State.testSd (s : State) (u : Nat) : List (Nat × Nat × Nat) :=
  ((List.range 40).filter (fun n => s.sdUsed n && bit (s.sdUnits n) u)).map (fun n =>
    (n, sincGain (s.fld (F.SD_CFG_R n)), if s.fld (F.SD_CFG_PORD n) = 0 then 0 else s.fld (F.SD_CFG_M n) ^ s.fld (F.SD_CFG_PORD n)))
def State.testSar (s : State) (u : Nat) : Nat :=
  maskWhere 2 (fun k => s.live.bind.any (fun b => match b with
    | .sar e _ _ _ => sarConv e == k && bit (s.sarUnits e) u | _ => false))

/-- SELFTEST_START: kind 1 is the reset itself; a kind 2 test keeps the configuration it starts with (R541). -/
def selftestStart (c : Fin 4) (s : State) : State :=
  s.onDie (fun s =>
    match s.self.reqs.find? (fun r => r.chan == (c : Nat) && s.testDue r) with
    | none => s
    | some r =>
      if r.kind = 1 then s.dieReset 0x16 0 0
      else
        let t := (s.set (F.MB_STATE_STATE c) mbAccepted).mbResults c []
        let go : SelfReq := { r with phase := 4, sd := if r.kind = 2 then s.testSd r.unit else [],
                                     sar := if r.kind = 2 then s.testSar r.unit else 0 }
        { t with self := { t.self with reqs := t.self.reqs.map (fun q => if q = r then go else q) } })

/-- The failed inputs of a kind 2 test: S within G/1024 + 2 of ±G/2 (R538). -/
def SelfReq.loopFails (r : SelfReq) (l : List Loopback) : Nat :=
  maskWhere 40 (fun n => r.sd.any (fun e => e.1 == n && l.any (fun x => x.input.val == n && !loopOk x e.2.1 e.2.2 (e.2.1 + 2048))))

/-- SELFTEST_END: results and outcomes (R540). -/
def selftestEnd (c : Fin 4) (loops : List Loopback) (refs : List SarRefs) (gates : List GateRead) (reads : List (List (BitVec 16)))
    (s : State) : State :=
  s.onDie (fun s =>
    match s.self.reqs.find? (fun r => r.chan == (c : Nat) && r.phase == 4) with
    | none => s
    | some r =>
      let a := r.loopFails loops
      let b := refFails refs &&& r.sar
      let g := if r.kind = 3 then (gateFails gates).map (fun b => b.val) else none
      let x := if r.kind = 4 then ((List.range 16).filter (fun i => bit (s.sensorFails reads) i && !s.excluded i)).foldl setBit 0 else 0
      let t : State := { s with self := { s.self with reqs := s.self.reqs.filter (fun q => q != r) } }
      let t := t.analogueFails a b x
      let t := match g with | some n => t.gatePathFail n | none => t
      let top := match g with | some n => (n + 1) * 2 ^ 16 | none => 0
      (t.ev F.BIST_EVENT_REQ_DONE).mbEnd c 0 [a % 2 ^ 32, a / 2 ^ 32 + b * 256 + top, x])

/-! ### Latches, release, discharge, contactors (R438) -/

/-- The leg that a page and a number name. -/
def svLeg (p k : Nat) : Option Nat :=
  if p = 0x0B ∧ k < 9 then some k else if p = 0x0C ∧ k < 9 then some (9 + k) else if p = 0x0D ∧ k < 6 then some (18 + k) else none

def fsClear (c : Fin 4) (s : State) : State :=
  s.mbTake c svFsClear (fun s =>
    match svLeg (s.mbArg c 0) (s.mbArg c 1) with
    | none => s.mbEnd c 0x02 []
    | some l => s.cox0Access c (R.LEG_FS l) (fun s => s.fsClear l))

def brkClear (c : Fin 4) (s : State) : State :=
  s.mbTake c svBrkClear (fun s =>
    let b := s.mbArg c 0
    if 3 < b then s.mbEnd c 0x02 [] else s.cox0Access c (R.PROT_BRKCTL b) (fun s => s.brkClear b))

/-- The unit has something to release in the umpire. -/
def State.umpHolds (s : State) (u : Nat) : Bool :=
  s.umpHeld u || (List.range 16).any (fun b => bit (s.fld F.UMP_FAULT_FAULT) b && bit (s.ump.faultUnits.get b) u)

/-- The control-die step of a release (R438). -/
def State.releaseDieStep (s : State) (c u : Nat) : State :=
  if s.on (F.PROT_STATE_HELD u) then s.cox0Access c (R.PROT_CLR u) (fun t => t.protRelease u) else s.mbEnd c 0 []

def release (c : Fin 4) (s : State) : State :=
  s.mbTake c svRelease (fun s =>
    let u := s.mbArg c 0
    if 3 < u then s.mbEnd c 0x02 []
    else if s.on F.THRM_STATUS_SHUTDOWN then s.mbRefuse c 0x01 0x08
    else if s.umpHolds u then s.cox0Write c R.UMP_RELEASE (fun t => t.releaseDieStep c u) (fun s =>
      let (k, t) := s.umpRelease u
      if k ≠ 0 then t.mbRefuse c k 0x04 else t.releaseDieStep c u)
    else s.releaseDieStep c u)

def discharge (c : Fin 4) (s : State) : State :=
  s.mbTake c svDischarge (fun s =>
    match s.mbArg c 0 with
    | 1 => s.cox0Write c R.PROT_DISCMD id (fun s =>
      let t := s.dischargeStart
      if t.discharging then t else t.mbRefuse c (t.fld F.PROT_DISSTAT_CODE) 0x05)
    | 2 => s.cox0Write c R.PROT_DISCMD (fun t => t.mbEnd c 0 []) (fun s => s.dischargeAbort.mbEnd c 0 [])
    | _ => s.mbEnd c 0x02 [])

def contactor (c : Fin 4) (s : State) : State :=
  s.mbTake c svContactor (fun s =>
    let k := s.mbArg c 0
    if k < 1 ∨ 5 < k then s.mbEnd c 0x02 []
    else s.cox0Write c R.UMP_CTRCMD id (fun s =>
      let t := (s.ctrCommand k).ctrSettle
      if 4 ≤ k ∧ t.ctrUsed cAux = false then t.mbEnd c 0 [] else t))

/-! ### Attestation (R522, R523) -/

/-- The report's body. -/
def State.report (s : State) (nonce : List Byte) : List Byte :=
  let b := fun (v : Nat) => BitVec.ofNat 8 v
  let bitOf := fun (f : Field) => if s.on f then 1 else 0
  le 4 0x5441525A ++ le 2 1 ++ le 2 0xA1 ++ nonce ++ s.identity ++
    (if s.liveValid then wordBytes s.liveDigest else List.replicate 64 0) ++
    wordBytes ((List.range 16).map (fun k => s.rd (R.SEC_FWDIG k))) ++ le 4 (s.fld F.SEC_SVN_FW_SVN) ++
    [b (s.fld F.SEC_LC_STATE),
     b ((if s.ump.lockstepBroken then 1 else 0) + 2 * (if s.liveValid then 1 else 0) + 4 * bitOf F.SEC_BOOT_CFG_UMP_OK +
        8 * bitOf F.SEC_BOOT_CFG_IF_OK),
     b (s.fld F.SEC_SLOT_STATE), b (s.fld F.CASC_STATE_ROLE + 4 * s.fld F.CASC_STATE_POS)] ++
    le 4 (s.fld (F.SEC_PMIN_MIN 0)) ++ le 4 (s.fld (F.SEC_PMIN_MIN 1)) ++ le 6 s.cat.num ++
    [b s.sec.session, b (s.fld F.RST_CAUSE_CODE)] ++ wordBytes [s.rd (R.SEC_SERIAL 0), s.rd (R.SEC_SERIAL 1)] ++
    List.replicate 8 0

/-- A report goes to the signing engine: 0, BUSY while a load or another report holds the buffer, or NO_KEYS. -/
def State.signStart (s : State) (chan : Option Nat) (nonce : List Byte) : Nat × State :=
  if s.bufferHeld || s.boot.sign.isSome then (0x01, s)
  else if !s.on F.SEC_LC_KEYS_VALID then (0x0B, s)
  else (0, { s with boot := { s.boot with sign := some ⟨chan, s.report nonce, s.cat.num⟩ } })

/-- The signing engine ends: the signed report stands in the load buffer, or SIGN_LIMIT; a load that has taken the buffer
meanwhile keeps it. -/
def State.signEnd (s : State) (g : Signing) : Nat × State :=
  let t : State := { s with boot := { s.boot with sign := none } }
  let d := digestOf g.body
  if t.bufferHeld then (0x01, t)
  else if Config.mldsaSignEnds Config.fusedSeed ctxAtt d then
    let sig := (List.range 4627).map (Config.mldsaSign Config.fusedSeed ctxAtt d)
    (0, t.putSram loadBuffer (g.body ++ d ++ publicKey ++ sig))
  else (0x0C, t)

def attest (c : Fin 4) (s : State) : State :=
  s.mbTake c svAttest (fun s =>
    let (k, t) := s.signStart (some c) (wordBytes (s.mbReq c).args)
    if k = 0 then t else t.mbRefuse c k 0x09)

/-! ### Pairing (R524) -/

/-- Positions the device can judge: a standalone device itself; a cascade member itself and every attested member. -/
def State.knownIds (s : State) : List (Nat × List Byte) :=
  if s.cascaded then
    let pos := s.fld F.CASC_STATE_POS
    (pos, s.identity) :: s.ring.ids.filter (fun e => e.1 != pos)
  else [(0, s.identity)]

/-- Position masks of a PAIRING check: matching, not matching, and unpaired, which any position of the cascade is that COUNT does not
reach, whether it has been attested or not. -/
def State.pairCheck (s : State) : List Nat :=
  let l := s.knownIds
  let paired := fun (p : Nat) => s.boot.pairOk && decide (p < s.boot.pair.length)
  let mask := fun (f : Nat × List Byte → Bool) => (l.filter f).foldl (fun m e => setBit m e.1) 0
  [mask (fun e => paired e.1 && s.boot.pair.getD e.1 [] == e.2), mask (fun e => paired e.1 && s.boot.pair.getD e.1 [] != e.2),
   ((List.range (if s.cascaded then s.devices else 1)).filter (fun p => !paired p)).foldl setBit 0]

/-- Why a pairing record is refused, in the codes of R521. -/
def State.pairCode (s : State) (o : List Byte) : Nat :=
  let n := 80 + 64 * u16 (fun i => o.getD i 0) 12
  let g := fun (i : Nat) => o.getD i 0
  firstCode
    [(0x01, !s.bufferHeld && s.boot.fuse.isNone && s.boot.sign.isNone),
     (0x02, u32 g 0 == 0x4643525A && u16 g 4 == 1 && (g 6).toNat == 3 && decide (o.length = n + 7283)),
     (0x03, let id := bytesOf g 16 64; id.all (· == 0) || id == s.identity),
     (0x04, (s.signer o n).isSome),
     (0x05, digestOk o n && sigOk ctxConf o n),
     (0x07, s.recordOk o 3),
     (0x09, !s.anyOn)]

def pairing (c : Fin 4) (s : State) : State :=
  s.mbTake c svPairing (fun s =>
    match s.mbArg c 0 with
    | 1 => s.mbEnd c 0 s.pairCheck
    | 2 =>
      if s.takesPlans = false then s.mbEnd c 0x05 []
      else if 262144 < s.mbArg c 1 then s.mbEnd c 0x02 []
      else
        let o := s.bufBytes (s.mbArg c 1)
        match s.pairCode o with
        | 0 =>
          let l := (s.pairing o).getD []
          ({ s with boot := { s.boot with pairNext := l, pairRec := o } } : State).mbEnd c 0 []
        | k => s.mbRefuse c k 0x09
    | _ => s.mbEnd c 0x02 [])

def execMbAbort (m : Master) (c : Fin 4) (s : State) : Host.Outcome State Fault Refusal := .next (mbAbort m c s)
def execInfo (c : Fin 4) (s : State) : Host.Outcome State Fault Refusal := .next (info c s)
def execPlanLoad (c : Fin 4) (s : State) : Host.Outcome State Fault Refusal := .next (planLoad c s)
def execPlanActivate (c : Fin 4) (s : State) : Host.Outcome State Fault Refusal := .next (planActivate c s)
def execPlanCancel (c : Fin 4) (s : State) : Host.Outcome State Fault Refusal := .next (planCancel c s)
def execCalibrate (c : Fin 4) (s : State) : Host.Outcome State Fault Refusal := .next (calibrate c s)
def execSelftest (c : Fin 4) (s : State) : Host.Outcome State Fault Refusal := .next (selftest c s)
def execSelftestStart (c : Fin 4) (s : State) : Host.Outcome State Fault Refusal := .next (selftestStart c s)
def execSelftestEnd (c : Fin 4) (loops : List Loopback) (refs : List SarRefs) (gates : List GateRead) (reads : List (List (BitVec 16))) (s : State) :
    Host.Outcome State Fault Refusal := .next (selftestEnd c loops refs gates reads s)
def execFsClear (c : Fin 4) (s : State) : Host.Outcome State Fault Refusal := .next (fsClear c s)
def execBrkClear (c : Fin 4) (s : State) : Host.Outcome State Fault Refusal := .next (brkClear c s)
def execRelease (c : Fin 4) (s : State) : Host.Outcome State Fault Refusal := .next (release c s)
def execDischarge (c : Fin 4) (s : State) : Host.Outcome State Fault Refusal := .next (discharge c s)
def execContactor (c : Fin 4) (s : State) : Host.Outcome State Fault Refusal := .next (contactor c s)
def execAttest (c : Fin 4) (s : State) : Host.Outcome State Fault Refusal := .next (attest c s)
def execPairing (c : Fin 4) (s : State) : Host.Outcome State Fault Refusal := .next (pairing c s)

end Sys2Proof.Machine
end

