-- ==== Sys2Proof/Machine/RingJobs.lean ====
section
/-! DEFINITION. What the stroke runs with its members: image transfers, reading and writing of reports, the start of the drive
and a restart (19_cascade.md R489 to R494). -/

namespace Sys2Proof.Machine

/-- Mailbox channel of a member that the stroke uses (log entry 40). -/
def strokeChannel := 3

/-- The next piece of a transfer: at most 1024 bytes (R483). -/
def State.sendPiece (s : State) (x : Xfer) : State :=
  let n := min 1024 (x.len - x.ofs)
  let words := (n + 3) / 4
  if x.kind = 2 then s.sendTxn 0 x.pos tyRd (loadBuffer + x.ofs) (le 2 words ++ [0, 0])
  else s.sendTxn 0 x.pos tyWr (loadBuffer + x.ofs) (bytesOf (s.bufByte 262144) x.ofs (4 * words))

/-- A transfer starts. -/
def State.xferStart (s : State) (x : Xfer) : State :=
  ({ s with ring := { s.ring with xfer := some x, rep := [] } } : State).sendPiece x

/-- A start step fails: its code, position and detail on the stroke, or a crew member's own record (R489). -/
def State.startFail (s : State) (step pos detail : Nat) : State :=
  let t := (((s.set F.CASC_START_CODE step).set F.CASC_START_STEP step).set F.CASC_START_POS pos).set F.CASC_START_DETAIL detail
  let t := (t.set F.CASC_STATE_STEP 0).ev F.CASC_EVENT_START_FAIL
  { t with ring := { t.ring with xfer := none, polls := [], dist8 := 0 } }

/-- The step in progress. -/
def State.startStep (s : State) : Nat := s.fld F.CASC_STATE_STEP

/-- The transfer to a position ends: done, or failed with a code (R494, R509). A copy to the next position that runs already goes on, and
keeps CASC_XSTAT unless this one has failed. -/
def State.xferEnd (s : State) (pos code : Nat) : State :=
  let own := match s.ring.xfer with | some x => x.pos == pos | none => true
  let t : State := { s with ring := { s.ring with
    xfer := if own then none else s.ring.xfer, polls := s.ring.polls.filter (fun p => p != pos) } }
  let t := t.when (own || code != 0) (fun t =>
    ((t.set F.CASC_XSTAT_POS pos).set F.CASC_XSTAT_CODE code).set F.CASC_XSTAT_STATE (if code = 0 then 2 else 3))
  let t := if code = 0 then t.ev F.CASC_EVENT_XFER_DONE else t
  if code ≠ 0 ∧ t.startStep = 8 then t.startFail 8 pos code else t

/-- A transfer to position `pos` starts, of the image in this device's load buffer. -/
def State.xferGo (s : State) (pos len : Nat) : State :=
  let t := ((s.set F.CASC_XSTAT_STATE 1).set F.CASC_XSTAT_CODE 0).set F.CASC_XSTAT_POS pos
  t.xferStart ⟨0, pos, len, 0, 1⟩

/-- A write of CASC_XFER: its refusal code. A standalone device runs no ring function (R477). -/
def State.cascXferWrite (s : State) (v : Word) : Nat × State :=
  if s.fld F.CASC_XSTAT_STATE = 1 then (eBusy, s)
  else if s.cascaded && s.role == roleStroke then (0, s.xferGo (F.CASC_XFER_POS.get v) (F.CASC_XFER_LEN.get v))
  else (0, s)

/-- A page lock whose owner is the ring is released (R551). -/
def State.dropLocks (s : State) (owner : Nat) : State :=
  s.each (List.range 32) (fun p t =>
    if t.on (F.PAGE_LOCK_LOCK p) && t.fld (F.PAGE_LOCK_OWNER p) == owner then
      ((t.set (F.PAGE_LOCK_LOCK p) 0).set (F.PAGE_LOCK_OWNER p) 0xF).set (F.PAGE_STATUS_LOCKED p) 0
    else t)

/-- The member returns to start step 4: every lane trains again, DOWN lanes are usable and enumeration runs anew (R490). A pairing record
installed since applies from here (R524). Whether the lane that the PLL is locked to loses its reference while it trains is no rule of the
spec: the PLL stays LOCKED, with no standby lane until one reaches character lock again (DESIGN CHOICE, log entry 131). -/
def State.toStep4 (s : State) : State :=
  let t := s.each [0, 1] (fun r t => ((t.set (F.LINK_STAT_RX_UP r) 0).set (F.LINK_STAT_CHAR_LOCK r) 0).set (F.LINK_STAT_SRCOK r) 0)
  let t := (t.set F.PLL_STATUS_STANDBY_OK 0).set F.CASC_STATE_SEEN 0
  let t := ((((t.set F.CASC_STATE_STEP 4).set F.CASC_STATE_READY 0).set F.CASC_STATE_DEGRADED 0).set F.CASC_STATE_ALIGNED 0).set
    F.CASC_STATE_BREAK 0
  let t := (t.wr R.CASC_MEMBERS 0).dropLocks 6
  { t with ring := { Ring.init with roleFixed := t.ring.roleFixed, sent := t.ring.sent, nextTag := t.ring.nextTag,
                                    answers := t.ring.answers, res := t.ring.res }
           pll := { t.pll with lanes := [] }
           boot := { t.boot with pair := t.boot.pairNext, pairOk := t.boot.pairOk || !t.boot.pairNext.isEmpty } }

/-- A write of RESTART: its refusal code. Gates of other members are not seen here: while the drive is READY, whether one is
enabled is open (log entry 1). -/
def State.cascRestart (s : State) : Nat × State :=
  if s.cascaded && s.role == roleStroke then
    let (other, t) := if s.on F.CASC_STATE_READY then s.freshBool else (false, s)
    if t.anyOn || other then (eBusy, t) else (0, (t.toStep4).sendCtl 0 allMembers ctRestart [])
  else (0, s)

/-- The role is fixed at the first LOCKED after reset (R477), and the member transmits from then on (R100). The stroke stands
at position 0. The start steps go on as they end (R489). -/
def State.fixRole (s : State) : State :=
  if s.pllState = pLocked ∧ s.ring.roleFixed = false then
    let t : State := { s with ring := { s.ring with roleFixed := true } }
    if t.cascaded then
      let t := (t.set (F.LINK_STAT_TX_ACTIVE 0) 1).set (F.LINK_STAT_TX_ACTIVE 1) 1
      let t := t.set F.CASC_STATE_ROLE (if t.fld F.PLL_STATUS_SRC = 1 then roleStroke else roleCrew)
      if t.role = roleStroke then
        { t with ring := { t.ring with enumerated := true } }
      else t
    else t
  else s

end Sys2Proof.Machine
end

