-- ==== Sys2Proof/Machine/Bus.lean ====
section
/-! DEFINITION. Accesses of a bus master to the address space: how each is judged, its effect, and what a read returns
(22_register_pages.md R543 to R557). -/

namespace Sys2Proof.Machine

/-! ### Regions (R543, R545) -/

/-- The regions of R543. -/
inductive Region where
  | firmware | working | capture | buffer | live | stage | pages | unmapped
  deriving DecidableEq, Repr

def regionOf (a : Nat) : Region :=
  if 0x20000000 ≤ a ∧ a < 0x20040000 then .firmware
  else if 0x20040000 ≤ a ∧ a < 0x202C0000 then .working
  else if 0x202C0000 ≤ a ∧ a < 0x203C0000 then .capture
  else if 0x203C0000 ≤ a ∧ a < 0x20400000 then .buffer
  else if 0x30000000 ≤ a ∧ a < 0x30020000 then .live
  else if 0x30020000 ≤ a ∧ a < 0x30040000 then .stage
  else if 0x40000000 ≤ a ∧ a < 0x40020000 then .pages
  else .unmapped

/-- Offsets that R556 gives a register and no table lays down: words that read 0 (log entry 20). -/
def reservedWord (a : Nat) : Bool := a == pageBase 0x13 + 0x5C || a == pageBase 0x1E + 0x7C

/-- A page offset that holds a register. -/
def hasReg (a : Nat) : Bool := (regRow a).isSome || reservedWord a

/-- The address stands in a page's header. -/
def inHeader (a : Nat) : Bool := decide (a % 0x1000 < 0x40)

/-- The masters that run on a core or take its place. -/
def internal : Master → Bool
  | .root | .cox0 | .cox1 | .debug => true
  | _ => false

/-! ### Order 4 of R548: who may access -/

/-- Registers that only a crossing of the plan writes (R325, R355, R369, R379). -/
def crossingOnly (a : Nat) : Bool :=
  (List.range 24).any (fun l => a == R.LEG_PER_SH l || a == R.LEG_CMP_SH l) ||
  [0x0B, 0x0C, 0x0D].any (fun p => a == R.PWM_COMMIT p) ||
  [0, 1].any (fun i => a == R.ENC_ALIGN i || a == R.RSLV_ANG i || a == R.RSLV_SPD i || a == R.RSLV_STAT i) ||
  (List.range 4).any (fun u => a == R.PROT_SPD u)

/-- Registers that COX0 alone writes (R189, R339, R378, R380, R385, R386, R402, R410). -/
def cox0Only (a : Nat) : Bool :=
  a == R.PLAN_CMD || a == R.PROT_DISCMD || a == R.PROT_REQ || a == R.UMP_CTRCMD || a == R.UMP_RELEASE ||
  [0x0B, 0x0C, 0x0D].any (fun p => a == R.PWM_GATE_EN p) ||
  (List.range 4).any (fun u => a == R.PROT_BRKCTL u || a == R.PROT_CLR u)

/-- The legs' false-start registers. -/
def fsLeg (a : Nat) : Option Nat := (List.range 24).find? (fun l => a == R.LEG_FS l)

/-- A write to PAGE_LOCK is refused (R551). -/
def State.lockRefused (s : State) (m : Master) (p : Nat) (lock : Bool) : Bool :=
  let owner := s.fld (F.PAGE_LOCK_OWNER p)
  if owner = 0xF ∨ owner = masterId m then false
  else if lock then external m
  else !(m == .cox0 || m == .cox1)

/-- A write to a register passes order 4. -/
def State.writeAuth (s : State) (m : Master) (a : Nat) (v : Word) : Bool :=
  let p := pageOf a
  if inHeader a then
    if a = R.PAGE_IRQ_EN p then m == .cox0 || m == .cox1
    else if a = R.PAGE_LOCK p then !s.lockRefused m p (v.getLsbD 8)
    else true
  else
    !s.lockStops m p && !crossingOnly a && (isCox0 m || !cox0Only a) &&
    (match fsLeg a with | some _ => isCox0 m || !v.getLsbD 8 | none => true) &&
    (a != R.UMP_WDSVC 0 || s.wdWriter m 0) && (a != R.UMP_WDSVC 1 || s.wdWriter m 1) &&
    (a != R.RST_SWREQ || v.toNat % 65536 == 0xA5C3) &&
    (!s.isCrew || !(a == R.CASC_XFER || a == R.CASC_CMD || [0, 1].any (fun d => a == R.DRV_CMD d || a == R.DRV_TRQ d)))

/-- An access to memory passes order 4 (R545). -/
def memAuth (m : Master) (write : Bool) : Region → Bool
  | .firmware => m == .root || (internal m && !write)
  | .working => internal m
  | _ => true

/-! ### Orders 1 to 5 of R548 -/

/-- A write would change an RWS field of a sealed page (R18, R550). Whether "the value" of a field that reads otherwise than it is stored
(CASC_CFG.DEVICES, SEC_BOOTCFG.AUTO_PLAN) is the one stored or the one read is open: the stored word counts (DESIGN CHOICE, log entry 24). -/
def State.sealStops (s : State) (a : Nat) (v : Word) : Bool :=
  match regRow a with
  | some r => s.on (F.PAGE_CTRL_SEAL (pageOf a)) && ((s.rd a ^^^ v) &&& BitVec.ofNat 32 r.rws) != 0
  | none => false

/-- The first failing check of orders 1 to 5, with whether the device answers in silence; `w` is the word of a write. -/
def State.judge (s : State) (m : Master) (a : Nat) (w : Option Word) : Option (Nat × Bool) :=
  if a % 4 ≠ 0 then some (eAlign, false)
  else match regionOf a with
    | .unmapped => some (eUnmapped, false)
    | .pages =>
      let p := pageOf a
      if !hasReg a then some (eUnmapped, false)
      else if !inHeader a && m != .root && !s.pageOn p then some (eGated, s.on (F.PAGE_CTRL_GATE_POLICY p))
      else match w with
        | none => none
        | some v => if !s.writeAuth m a v then some (eAuth, false) else if s.sealStops a v then some (eSealed, false) else none
    | .live => if w.isSome then some (eSealed, false) else none
    | .stage => if w.isSome then some (eSealed, false) else none
    | g => if memAuth m w.isSome g then none else some (eAuth, false)

/-! ### Effects of a write, and order 6 -/

/-- The plain effect of a write on a register: RW and RWS fields take the value, a W1C bit written 1 clears (R18, R20). -/
def State.plainWrite (s : State) (a : Nat) (v : Word) : State :=
  match regRow a with
  | some r =>
    let k := BitVec.ofNat 32 (r.rw ||| r.rws)
    s.wr a (((s.rd a &&& ~~~ k) ||| (v &&& k)) &&& ~~~ (v &&& BitVec.ofNat 32 r.w1c))
  | none => s

/-- A PWM page is disabled: every unit with a leg in it goes off at once, loses its enables and its grant, and in PWMC the
choppers' commands end, but for the switches that a discharge holds on (R342, R415). -/
def State.pwmDisable (s : State) (p : Nat) : State :=
  let us := (List.range 4).filter (fun u => (s.legsOf u).any (fun l => legPage l == p))
  let t := s.each us (fun u t => (t.releaseUnit u).endGrant u)
  if p = 0x0D then t.each (List.range 4) (fun b t => t.chopOff b) else t

/-- A write of PAGE_CTRL: its refusal code (R115, R550). A block whose ENABLE has been cleared stops at its idle point; ENABLE set
again before that ends the wait, and CLR_PEND (log entry 90). -/
def State.pageCtrl (s : State) (p : Nat) (v : Word) : Nat × State :=
  let sealIt := fun (t : State) => if v.getLsbD 31 then t.sealPage p else t
  if pageFixed p then (0, sealIt s)
  else
    let was := s.on (F.PAGE_CTRL_ENABLE p)
    let now := v.getLsbD 0
    let pwm := p == 0x0B || p == 0x0C || p == 0x0D
    let covered := s.pageUnits p
    if was && !now && !pwm && s.pageBound p && (List.range 4).any (fun u => bit covered u && s.unitOn u) then (eBusy, s)
    else
      let t := ((s.set (F.PAGE_CTRL_ENABLE p) (if now then 1 else 0)).set (F.PAGE_CTRL_AUTO_GATE p) (if v.getLsbD 1 then 1 else 0)).set
        (F.PAGE_CTRL_GATE_POLICY p) (if v.getLsbD 2 then 1 else 0)
      let t := if was && !now then (if pwm then t.pwmDisable p else t).set (F.PAGE_STATUS_CLR_PEND p) 1
        else if now then t.set (F.PAGE_STATUS_CLR_PEND p) 0 else t
      (0, sealIt t)

/-- A write of PAGE_LOCK that is not refused (R551). -/
def State.pageLock (s : State) (m : Master) (p : Nat) (lock : Bool) : State :=
  let owner := s.fld (F.PAGE_LOCK_OWNER p)
  if lock then
    if owner = 0xF then
      ((s.set (F.PAGE_LOCK_LOCK p) 1).set (F.PAGE_LOCK_OWNER p) (masterId m)).set (F.PAGE_STATUS_LOCKED p) 1
    else s
  else ((s.set (F.PAGE_LOCK_LOCK p) 0).set (F.PAGE_LOCK_OWNER p) 0xF).set (F.PAGE_STATUS_LOCKED p) 0

/-- A write of PAGE_ERR_COUNT.CLEAR (R547). -/
def State.pageErrClear (s : State) (p : Nat) : State :=
  ((s.wr (R.PAGE_ERR_ADDR p) 0).wr (R.PAGE_ERR_INFO p) 0).wr (R.PAGE_ERR_COUNT p) 0

/-- A write of CAN_CTRL.RECOVER: a bus-off controller starts the recovery sequence (R472). -/
def State.canRecover (s : State) (i : Nat) : State :=
  if s.fld (F.CAN_ERR_STATE (ifPage i)) = 2 then s.modIf i (fun x => { x with recov := true }) else s

/-- Writes to the header of a page. -/
def State.headerWrite (s : State) (m : Master) (a : Nat) (v : Word) : Nat × State :=
  let p := pageOf a
  if a = R.PAGE_CTRL p then s.pageCtrl p v
  else if a = R.PAGE_LOCK p then (0, s.pageLock m p (v.getLsbD 8))
  else if a = R.PAGE_ERR_COUNT p then (0, if v.getLsbD 31 then s.pageErrClear p else s)
  else (0, s.plainWrite a v)

/-- Writes to the PWM pages. -/
def State.pwmWrite (s : State) (a : Nat) (v : Word) : Nat × State :=
  let p := pageOf a
  if a = R.PWM_GATE_EN p then
    let old := s.fld (F.PWM_GATE_EN_EN p)
    let new := v.toNat % 512
    (0, (s.gateClear p (old &&& (511 - new))).gateSet p (new &&& (511 - old)))
  else match fsLeg a with
    | some l => if v.getLsbD 8 then s.fsClear l else (0, s)
    | none => (0, s.plainWrite a v)

/-- Writes to the PROT page. -/
def State.protWrite (s : State) (a : Nat) (v : Word) : Nat × State :=
  if a = R.PROT_DISCMD then
    (0, match v.toNat % 4 with | 1 => s.dischargeStart | 2 => s.dischargeAbort | _ => s)
  else if a = R.PROT_REQ then
    (0, if F.PROT_REQ_GO.get v = 1 then
        s.protReq (F.PROT_REQ_UNIT.get v) (if F.PROT_REQ_USE_CLS.get v = 1 then some (F.PROT_REQ_CLS.get v) else none)
      else s)
  else match (List.range 4).find? (fun k => a == R.PROT_BRKCTL k), (List.range 4).find? (fun k => a == R.PROT_CLR k) with
    | some b, _ =>
      let (c, t) := if v.getLsbD 1 then s.brkClear b else (0, s)
      if c = 0 then (0, (t.set (F.PROT_BRKCTL_ARM b) (if v.getLsbD 0 then 1 else 0)).dropChoppers) else (c, s)
    | _, some u => if v.getLsbD 0 then s.protRelease u else (0, s)
    | _, _ => (0, s.plainWrite a v)

/-- Every field of the register is read-only. -/
def readOnly (a : Nat) : Bool :=
  match regRow a with | some r => r.rw ||| r.rws ||| r.w1c ||| r.wo == 0 | none => false

/-- Writes to the INJ page. EN of a point sets only in the unit states of R313 (log entry 102). A generator's settings and its
points stand still while it is busy (R310); a channel's while it is ARMED or RUN (R317). -/
def State.injWrite (s : State) (m : Master) (a : Nat) (v : Word) : Nat × State :=
  let o := a % 0x1000
  if readOnly a then (0, s)
  else if a = R.SP_CTRL then
    let moves := fun (u : Nat) => (F.SP_CTRL_SRC u).get v != s.fld (F.SP_CTRL_SRC u) ||
      (u < 2 && (F.SP_CTRL_LOOP u).get v != s.fld (F.SP_CTRL_LOOP u))
    if (List.range 4).any (fun u => moves u && s.unitOn u) then (eBusy, s) else (0, s.spCtrlWrite m v)
  else if 0x100 ≤ o ∧ o < 0x200 then
    let g := (o - 0x100) / 0x40
    if a = R.INJ_CMD g then
      (0, match v.toNat % 4 with | 1 => s.injStart m g | 2 => s.injStop m g | 3 => s.injAbort m g | _ => s)
    else if s.genBusy g then (eBusy, s) else (0, s.plainWrite a v)
  else if 0x200 ≤ o ∧ o < 0x400 then
    if s.genBusy ((o - 0x200) / 0x100) then (eBusy, s) else (0, s.plainWrite a v)
  else if 0x400 ≤ o ∧ o < 0x440 then
    let p := (o - 0x400) / 8
    if s.genBusy (s.fld (F.INJ_PTCTL_GEN p)) then (eBusy, s)
    else if a = R.INJ_AMP p then (0, s.injAmp m p v)
    else (0, s.plainWrite a (if s.on (F.INJ_PTCTL_EN p) || s.pointInside p then v else v &&& ~~~ 1#32))
  else if 0x500 ≤ o ∧ o < 0x600 then
    let c := (o - 0x500) / 0x20
    let busy := s.capState c == capArmed || s.capState c == capRun
    if a = R.CAP_CMD c then
      match v.toNat % 4 with
      | 1 => if busy then (eBusy, s) else (0, s.capArm m c)
      | 2 => (0, s.capStop m c)
      | _ => (0, s)
    else if busy then (eBusy, s) else (0, s.plainWrite a v)
  else (0, s.plainWrite a v)

/-- Writes to the UMP page. The time since the last watchdog service is no operand of a plain write: the umpire's windows bound it. -/
def State.umpWrite (s : State) (a : Nat) (v : Word) : Nat × State :=
  if a = R.UMP_CTRCMD then (0, (s.ctrCommand (v.toNat % 8)).ctrSettle)
  else if a = R.UMP_RELEASE then (0, (s.umpRelease (v.toNat % 4)).2)
  else if a = R.UMP_WDSVC 0 ∨ a = R.UMP_WDSVC 1 then
    let x : Fin 2 := if a = R.UMP_WDSVC 0 then 0 else 1
    let (ok, t) := s.wdInTimeBy x
    (0, t.wdService x (v.extractLsb' 0 12) ok [])
  else if umpRws (a % 0x1000) then (0, s.umpConfig (a % 0x1000) v)
  else (0, s.plainWrite a v)

/-- Writes to the MBOX page. -/
def State.mboxWrite (s : State) (a : Nat) (v : Word) : Nat × State :=
  let o := a % 0x1000
  let c := (o - 0x100) / 0x40
  if o < 0x100 then (0, s.plainWrite a v)
  else if a = R.MB_REQ c then s.mbSubmit c v
  else if s.mbBusy c && !readOnly a then (eBusy, s) else (0, s.plainWrite a v)

/-- The effect of a write to a block register that has passed orders 1 to 5: its refusal code of order 6, or 0. -/
def State.regWrite (s : State) (m : Master) (a : Nat) (v : Word) : Nat × State :=
  let p := pageOf a
  if inHeader a then s.headerWrite m a v
  else if p = 0x0B ∨ p = 0x0C ∨ p = 0x0D then s.pwmWrite a v
  else if p = 0x0E then s.protWrite a v
  else if p = 0x13 then s.injWrite m a v
  else if p = 0x1D then s.mboxWrite a v
  else if p = 0x1E then s.umpWrite a v
  else if a = R.RST_SWREQ then if s.anyOn then (eBusy, s) else (0, s.causes .soft [])
  else if a = R.PLL_DIV then
    let n := v.toNat % 256
    if n < 80 ∨ 200 < n then (eBusy, s) else (0, s.plainWrite a v)
  else if p = 0x05 ∨ p = 0x06 then
    match (List.range 40).find? (fun n => a == R.SD_OFS n) with
    | some n => s.ofsWrite false n v
    | none => (0, s.plainWrite a v)
  else if p = 0x07 then
    match (List.range 32).find? (fun n => a == R.SAR_OFS n) with
    | some n => s.ofsWrite true n v
    | none => (0, s.plainWrite a v)
  else if a = R.PLAN_CMD then (0, s.planCmd m (v.toNat % 16))
  else if a = R.DRV_CMD 0 then (0, s.drvCmdWrite 0 v)
  else if a = R.DRV_CMD 1 then (0, s.drvCmdWrite 1 v)
  else if a = R.DRV_TRQ 0 then (0, s.trqWriteAll 0 v)
  else if a = R.DRV_TRQ 1 then (0, s.trqWriteAll 1 v)
  else if a = R.CAN_CTRL 0x16 ∨ a = R.CAN_CTRL 0x17 then
    let t := s.plainWrite a v
    (0, if v.getLsbD 8 then t.canRecover (p - 0x15) else t)
  else if a = R.CASC_XFER then s.cascXferWrite v
  else if a = R.CASC_CMD then if v.getLsbD 0 then s.cascRestart else (0, s)
  else if a = R.SEC_FCMD then (0, if v.getLsbD 0 then s.fuseGo else s)
  else if a = R.LSTP_DBG then
    let t := if v.getLsbD 2 then s.set F.LSTP_DBG_HOLD_REFUSED 0 else s
    (0, t.wdHold (v.getLsbD 0) (if v.getLsbD 1 then 1 else 0))
  else (0, s.plainWrite a v)

/-- A write of one word: 0, or the code of its refusal, which is logged (R548, R549). -/
def State.busWrite (s : State) (m : Master) (a : Nat) (v : Word) : Nat × State :=
  match s.judge m a (some v) with
  | some (c, silent) => (if silent then 0 else c, s.refuse m a c true)
  | none =>
    match regionOf a with
    | .pages =>
      let (c, t) := s.regWrite m a v
      if c = 0 then (0, t) else (c, t.refuse m a c true)
    | .buffer => if s.bufferHeld then (eBusy, s.refuse m a eBusy true) else (0, s.setSramWord a v)
    | _ => (0, s.setSramWord a v)

/-! ### Reads -/

/-- Event register of a page, which PAGE_IRQ_RAW mirrors (R547). -/
def eventReg (p : Nat) : Option Nat :=
  match p with
  | 0x00 => some R.SYS_EVENT | 0x02 => some R.CLK_EVENT | 0x04 => some R.CATCH_EVENT
  | 0x05 => some (R.SDM_EVENT 0) | 0x06 => some (R.SDM_EVENT 1) | 0x07 => some R.SAR_EVENT | 0x09 => some R.FAB_EVENT
  | 0x0A => some R.PLAN_EVENT | 0x0B => some (R.PWM_STATUS 0x0B) | 0x0C => some (R.PWM_STATUS 0x0C)
  | 0x0D => some (R.PWM_STATUS 0x0D) | 0x0E => some R.PROT_EVENT | 0x0F => some R.DRVC_EVENT
  | 0x10 => some (R.POS_EVENT 0) | 0x11 => some (R.POS_EVENT 1) | 0x12 => some (R.DRV_EVENT 0) | 0x13 => some R.INJ_EVENT
  | 0x14 => some R.THRM_EVENT | 0x15 => some (R.CONV_EVENT 0x15) | 0x16 => some (R.CONV_EVENT 0x16)
  | 0x17 => some (R.CONV_EVENT 0x17) | 0x18 => some R.LINK_EVENT | 0x19 => some R.CASC_EVENT | 0x1A => some R.SEC_EVENT
  | 0x1B => some R.BIST_EVENT | 0x1C => some R.LSTP_EVENT | 0x1D => some R.MBOX_EVENT | 0x1E => some R.UMP_EVENT
  | 0x1F => some R.DBG_EVENT
  | _ => none

/-- PAGE_IRQ_RAW; DRVA holds instance A at its own positions and instance B 16 above (R296). -/
def State.irqRaw (s : State) (p : Nat) : Word :=
  let w := match eventReg p with | some a => s.rd a | none => 0
  if p = 0x12 then w ||| (s.rd (R.DRV_EVENT 1) <<< 16) else w

def State.irqStat (s : State) (p : Nat) : Word := s.irqRaw p &&& s.rd (R.PAGE_IRQ_EN p)

/-- The block of a page has work of its own: a conversion, a transfer or a load in progress, outputs it drives, or frames that wait
(R114; log entry 91). -/
def State.pageWork (s : State) (p : Nat) : Bool :=
  match p with
  | 0x07 => s.sense.sarBusy != 0
  | 0x09 => s.fld F.FAB_ROT_STATE != 0
  | 0x0A => s.load.phase != 0 || s.fab.waiting
  | 0x0B | 0x0C | 0x0D => (List.range 24).any (fun l => legPage l == p && s.legOn l)
  | 0x0E => s.prot.disch || s.prot.disArm != 0 || (List.range 4).any (fun u => s.on (F.PROT_STATE_HELD u))
  | 0x10 | 0x11 => (s.ser (p - 0x10)).busy
  | 0x12 => (List.range 2).any (fun d => s.driveState d != dOff)
  | 0x13 => (List.range 2).any s.genBusy || (List.range 8).any (fun c => s.capState c == capArmed || s.capState c == capRun)
  | 0x14 => s.therm.grace
  | 0x15 | 0x16 | 0x17 =>
    let x := s.hostIf (p - 0x15)
    x.asm.isSome || !x.busy.isEmpty || !x.out.isEmpty || !x.events.isEmpty
  | 0x18 | 0x19 => s.cascaded && (!s.ring.txns.isEmpty || s.ring.xfer.isSome)
  | _ => false

/-- Whether a page's block clock runs (R114). -/
def State.clkRun (s : State) (p : Nat) : Bool :=
  if pageFixed p then true
  else if s.on (F.PAGE_CTRL_ENABLE p) then
    !s.on (F.PAGE_CTRL_AUTO_GATE p) || s.on (F.PAGE_STATUS_BOUND p) || s.irqStat p != 0 || s.pageWork p
  else s.on (F.PAGE_STATUS_CLR_PEND p)

/-- The island of a page (R556). -/
def island (p : Nat) : Nat :=
  if p = 0x09 ∨ p = 0x0A then 0 else if p = 0x1C ∨ p = 0x1D then 1
  else if p = 0x04 ∨ (0x0B ≤ p ∧ p ≤ 0x0E) then 2 else if p = 0x18 ∨ p = 0x19 then 4 else if p = 0x1E then 5 else 3

/-- A mask of pages for which `f` holds. -/
def pageBits (f : Nat → Bool) : Nat := ((List.range 32).filter f).foldl setBit 0

/-- A field that reads otherwise than it is stored. -/
def Field.alter (f : Field) (w : Word) (g : Nat → Nat) : Word := f.insert w (g (f.get w))

/-- The loop is closed: the phase error and the fine word move with every reference cycle, and no command names each of them, so
that what PLL_PHERR.ERR and PLL_BAND.FINE return is a free value, and PEAK grows by one, never below the magnitude of an ERR that was read
(R105; log entry 24). -/
def State.loopClosed (s : State) : Bool := 2 ≤ s.pllState && s.pllState ≤ 4

def zeroAsOne (v : Nat) : Nat := if v = 0 then 1 else v

/-- What a register returns: fields that read as another value where their chapter says so, and the words that other state
gives. -/
def State.readWord (s : State) (a : Nat) : Word × State :=
  let p := pageOf a
  let w := s.rd a
  if a = R.PAGE_ID p then (BitVec.ofNat 32 (0x96400100 + p), s)
  else if a = R.PAGE_CAP p then
    (BitVec.ofNat 32 ((if pageFixed p then 1 else 0) + (if (pageRows p).any (fun r => r.rws != 0) then 2 else 0) + 16 * island p), s)
  else if a = R.PAGE_CTRL p then (if pageFixed p then (w &&& 0x80000000#32) ||| 1#32 else w, s)
  else if a = R.PAGE_STATUS p then ((F.PAGE_STATUS_CLK_RUN p).insert w (if s.clkRun p then 1 else 0), s)
  else if a = R.PAGE_IRQ_RAW p then (s.irqRaw p, s)
  else if a = R.PAGE_IRQ_STAT p then (s.irqStat p, s)
  else if a = R.SYS_IRQ_SUM then (BitVec.ofNat 32 (pageBits (fun p => s.irqStat p != 0)), s)
  else if a = R.SYS_ERR_SUM then (BitVec.ofNat 32 (pageBits (fun p => s.rd (R.PAGE_ERR_COUNT p) != 0)), s)
  else if a = R.CLK_GATE_STAT then (BitVec.ofNat 32 (pageBits s.clkRun), s)
  else if a = R.CATCH_NUM_LO then (BitVec.ofNat 32 s.cat.num, s.set F.CATCH_NUM_HI_NUM_HI (s.cat.num / 2 ^ 32))
  else if a = R.CATCH_CTRL then (F.CATCH_CTRL_LATE_LIMIT.alter w zeroAsOne, s)
  else if a = R.PLL_BAND ∧ s.loopClosed = true then let (x, t) := s.fresh 14; (F.PLL_BAND_FINE.insert w x.toNat, t)
  else if a = R.PLL_PHERR ∧ s.loopClosed = true then
    let (x, t) := s.fresh 32
    let err := (F.PLL_PHERR_ERR.get x : Nat)
    let peak := max (F.PLL_PHERR_PEAK.get w) (max (F.PLL_PHERR_PEAK.get x) (min err (65536 - err)))
    let v := F.PLL_PHERR_PEAK.insert (F.PLL_PHERR_ERR.insert w err) peak
    (v, t.wr a v)
  else if a = R.PLL_LOCK then
    (F.PLL_LOCK_CYCLES.alter (F.PLL_LOCK_WIN.alter w zeroAsOne) (fun v => max 16 (min v 4096)), s)
  else if a = R.PLL_COAST then (F.PLL_COAST_MAX.alter w (fun v => zeroAsOne (min v 10000)), s)
  else if a = R.PROT_FLTCFG then (F.PROT_FLTCFG_FILT.alter w (fun v => min v 4), s)
  else if a = R.PROT_DISCHK then (F.PROT_DISCHK_STEP.alter w zeroAsOne, s)
  else if a = R.DRVC_CFG then (F.DRVC_CFG_RETRY.alter w zeroAsOne, s)
  else if a = R.THRM_CFG then (F.THRM_CFG_NTC_AGE.alter (F.THRM_CFG_SD_GRACE.alter w zeroAsOne) zeroAsOne, s)
  else if a = R.CASC_CFG then (F.CASC_CFG_DEVICES.put s.devices, s)
  else if a = R.SEC_BOOTCFG then (F.SEC_BOOTCFG_AUTO_PLAN.alter w (fun v => if v = 3 then 0 else v), s)
  else if [0x15, 0x16, 0x17].contains p ∧ a = R.HB_CFG p then ((F.HB_CFG_TMO p).alter w zeroAsOne, s)
  else if [0x15, 0x16, 0x17].contains p ∧ a = pageBase p + 0x48 then
    ((F.CONV_STAT_HB_ALIVE p).insert ((F.CONV_STAT_OPEN p).insert w (if s.isOpen (p - 0x15) then 1 else 0)) (if s.hbAlive then 1 else 0), s)
  else if [0x0B, 0x0C, 0x0D].contains p ∧ a = R.PWM_FSCFG p then
    ((F.PWM_FSCFG_LEAK p).alter ((F.PWM_FSCFG_LIMIT p).alter w zeroAsOne) zeroAsOne, s)
  else match (List.range 4).find? (fun b => a == R.PROT_BRKCTL b), (List.range 4).find? (fun u => a == R.PROT_STATE u),
      [0, 1].find? (fun g => a == R.INJ_CFG g), (List.range 8).find? (fun c => a == R.CAP_CFG c) with
    | some b, _, _, _ => ((F.PROT_BRKCTL_ARMED b).insert w (if s.chopArmed b then 1 else 0), s)
    | _, some u, _, _ => ((F.PROT_STATE_READY u).insert w (if s.ready u then 1 else 0), s)
    | _, _, some g, _ => ((F.INJ_CFG_ORDER g).alter w (fun v => min v 6), s)
    | _, _, _, some c => ((F.CAP_CFG_TRIG c).alter w (fun v => if v = 3 then 0 else v), s)
    | _, _, _, _ => (w, s)

/-- Write-only bits of a register read zero (R18). -/
def woMask (a : Nat) : Word := match regRow a with | some r => BitVec.ofNat 32 r.wo | none => 0

/-- An uncorrectable SRAM word reads 0 and is recorded (R546). -/
def State.badWord (s : State) (a : Nat) : Word × State :=
  (0, ((s.bump F.SYS_ECC_UNCORR).wr R.SYS_ECC_ADDR (BitVec.ofNat 32 a)).ev F.SYS_EVENT_SRAM_UNCORR)

/-- A word of the store read on the bus (R178, R180): a single-bit error is corrected and counted; an uncorrectable one makes the word a
free value, and in STAGE fails it. -/
def State.storeRead (s : State) (stage : Bool) (w : Word) (err : Option MemErr) : Word × State :=
  match err with
  | none => (w, s)
  | some .corrected => (w, s.bump F.PLAN_SCRUB_CORR)
  | some .uncorr =>
    let (x, t) := s.fresh 32
    (x, if stage then t.uncorrStage else t)

/-- A read of one word: 0 or the code of its refusal, and the word; `err`: the error that the memory word holds. -/
def State.busRead (s : State) (m : Master) (a : Nat) (err : Option MemErr) : Nat × Word × State :=
  match s.judge m a none with
  | some (c, silent) => (if silent then 0 else c, 0, s.refuse m a c false)
  | none =>
    match regionOf a with
    | .pages => let (w, t) := s.readWord a; (0, w &&& ~~~ (woMask a), t)
    | .live => (0, s.storeRead false (s.liveWord (a % 0x20000)) err)
    | .stage =>
      let x := a % 0x20000
      (0, s.storeRead true (word32 (s.stageByte x) (s.stageByte (x + 1)) (s.stageByte (x + 2)) (s.stageByte (x + 3))) err)
    | _ => if err = some .uncorr then (0, s.badWord a) else (0, s.sramWord a, s)

/-! ### Commands -/

/-- W1C bits that hardware sets in the cycle of a write: they end set (R19). -/
def State.setBeside (s : State) (a : Nat) (same : Word) : State :=
  match regRow a with
  | some r => s.wr a (s.rd a ||| (same &&& BitVec.ofNat 32 r.w1c))
  | none => s

/-- REGISTER_WRITE: an access narrower than a word is refused with ALIGN (R17); `same` holds the W1C bits of the register that
hardware sets in the cycle of the write. -/
def registerWrite (m : Master) (size : AccessSize) (addr v same : Word) (s : State) : State :=
  s.onDie (fun s =>
    let t := if size = .word then (s.busWrite m addr.toNat v).2 else s.refuse m addr.toNat eAlign true
    if t.running then t.setBeside addr.toNat same else t)

/-- PAGE_ENABLE_CLEAR: PAGE_CTRL written with ENABLE clear and its other bits as they stand. -/
def pageEnableClear (m : Master) (page : Fin 32) (s : State) : State :=
  s.onDie (fun s => (s.busWrite m (R.PAGE_CTRL page) (s.rd (R.PAGE_CTRL page) &&& ~~~ 1#32)).2)

/-- BLOCK_IDLE: the block's clock stops (R115). -/
def blockIdle (page : Fin 32) (s : State) : State := s.onDie (fun s => s.set (F.PAGE_STATUS_CLR_PEND page) 0)

/-- PAGE_SEAL: PAGE_CTRL written with SEAL set and its other bits as they stand. -/
def pageSeal (m : Master) (page : Fin 32) (s : State) : State :=
  s.onDie (fun s => (s.busWrite m (R.PAGE_CTRL page) (s.rd (R.PAGE_CTRL page) ||| 0x80000000#32)).2)

/-- PAGE_LOCK_WRITE. -/
def pageLockWrite (m : Master) (page : Fin 32) (lock : Bool) (s : State) : State :=
  s.onDie (fun s => (s.busWrite m (R.PAGE_LOCK page) (if lock then 0x100 else 0)).2)

/-- PAGE_ERR_CLEAR. -/
def pageErrClear (m : Master) (page : Fin 32) (s : State) : State :=
  s.onDie (fun s => (s.busWrite m (R.PAGE_ERR_COUNT page) 0x80000000#32).2)

/-- CAN_RECOVER: CAN_CTRL written with RECOVER set and its other bits as they stand; interface 0 has no such register. -/
def canRecover (m : Master) (i : Fin 2) (s : State) : State :=
  s.onDie (fun s =>
    let a := R.CAN_CTRL (ifPage (1 + i))
    (s.busWrite m a (s.rd a ||| 0x100)).2)

/-- DRV_TRQ_WRITE. -/
def drvTrqWrite (m : Master) (d : DriveIx) (v : Word) (s : State) : State :=
  s.onDie (fun s => (s.busWrite m (R.DRV_TRQ d) v).2)

/-- CASC_XFER. -/
def cascXfer (m : Master) (v : Word) (s : State) : State := s.onDie (fun s => (s.busWrite m R.CASC_XFER v).2)

/-- CASC_CMD_RESTART. -/
def cascCmdRestart (m : Master) (s : State) : State := s.onDie (fun s => (s.busWrite m R.CASC_CMD 1).2)

def execRegisterWrite (m : Master) (size : AccessSize) (addr v same : Word) (s : State) : Host.Outcome State Fault Refusal :=
  .next (registerWrite m size addr v same s)
def execPageEnableClear (m : Master) (page : Fin 32) (s : State) : Host.Outcome State Fault Refusal :=
  .next (pageEnableClear m page s)
def execBlockIdle (page : Fin 32) (s : State) : Host.Outcome State Fault Refusal := .next (blockIdle page s)
def execPageSeal (m : Master) (page : Fin 32) (s : State) : Host.Outcome State Fault Refusal := .next (pageSeal m page s)
def execPageLockWrite (m : Master) (page : Fin 32) (lock : Bool) (s : State) : Host.Outcome State Fault Refusal :=
  .next (pageLockWrite m page lock s)
def execPageErrClear (m : Master) (page : Fin 32) (s : State) : Host.Outcome State Fault Refusal := .next (pageErrClear m page s)
def execCanRecover (m : Master) (i : Fin 2) (s : State) : Host.Outcome State Fault Refusal := .next (canRecover m i s)
def execDrvTrqWrite (m : Master) (d : DriveIx) (v : Word) (s : State) : Host.Outcome State Fault Refusal :=
  .next (drvTrqWrite m d v s)
def execCascXfer (m : Master) (v : Word) (s : State) : Host.Outcome State Fault Refusal := .next (cascXfer m v s)
def execCascCmdRestart (m : Master) (s : State) : Host.Outcome State Fault Refusal := .next (cascCmdRestart m s)

end Sys2Proof.Machine
end

