-- ==== Sys2Proof/Machine/Seat.lean ====
section
/-! DEFINITION. How a seat issues a record, reads its operands and writes its results, and the operations that move data
in and out of the seats (08_operation_set.md R203 to R213, R228, R231, R238). -/

namespace Sys2Proof.Machine

/-! ### Issue (R126, R180, R185, R186, R206) -/

/-- The seat that runs a record: its slot's, or the sub for the sub-work list. -/
def State.opSeat (s : State) (r : OpRec) : Nat := if r.slot.val = 15 then workSeat else s.slotSeat r.slot

/-- The record's seat runs its schedule: catches run on a valid plan, and the slot has a healthy seat whose writes are not
discarded; sub work runs while the sub is IDLE, beside a test of the freed seat too (R181, R185). -/
def State.seatReady (s : State) (r : OpRec) : Bool :=
  s.on F.CATCH_CTRL_RUN && s.liveValid && !s.cat.first &&
    (if r.slot.val = 15 then (s.fld F.FAB_ROT_STATE == 0 || s.fld F.FAB_ROT_STATE == 2) && !s.fab.pool.isEmpty
     else decide (r.slot.val < s.slots) && bit (s.fld F.FAB_SEATS_HEALTHY) (s.slotSeat r.slot) && s.fab.dropSlot != some r.slot.val)

/-- POOL_OFS plus the head of the constant-pool section (R246). -/
def State.poolBase (s : State) : Nat := s.liveHdr 0x18 + 40

/-- Constant-pool word `i`. -/
def State.poolWord (s : State) (i : Nat) : Word := s.liveWord (s.poolBase + 4 * i)

/-- Route entry `i` (R248). -/
def State.routeEntry (s : State) (i : Nat) : Nat :=
  (s.liveWord (s.poolBase + 4 * s.liveHalfword (s.liveHdr 0x18) + 4 * i)).toNat

/-- The delivery that a route entry schedules: the seat and first word of its destination. -/
def State.routeSeat (s : State) (e : Nat) : Nat := if e / 16 % 16 = 15 then workSeat else s.slotSeat (e / 16 % 16)

/-- A crossbar delivery scheduled to arrive at the record that reads it (R204): the oldest in flight to those words, or, delivered
already, the words themselves. -/
def State.delivery (s : State) (e i : Nat) : Word :=
  let seat := s.routeSeat e
  let w := e / 256 % 4096
  match s.fab.flight.find? (fun f => f.1 == seat && f.2.1 == w) with
  | some (_, _, ws, _) => ws.getD i 0
  | none => s.localWord seat (w + i)

/-- Word `i` of the group that a reference names (R204, R244). -/
def State.refWord (s : State) (r : OpRec) (ref : Fin 16384) (i : Nat) : Word :=
  let x := refIx ref
  match refKind ref with
  | 0 => s.localWord (s.opSeat r) (x + i)
  | 1 => s.poolWord (x + i)
  | 2 => s.delivery (s.routeEntry x) i
  | _ =>
    if 0x010 ≤ x + i ∧ x + i < 0x014 then BitVec.ofNat 32 (s.fab.cur.get (x + i - 0x010))
    else if 0x020 ≤ x + i ∧ x + i < 0x024 then BitVec.ofNat 32 (s.fab.prev.get (x + i - 0x020))
    else 0

/-- The record's rate and predicate let it run in this catch (R126, R206). -/
def State.recDue (s : State) (r : OpRec) : Bool :=
  s.cat.num % 2 ^ r.k.val == r.phase.val && (refNone r.pred || ((s.refWord r r.pred 0 != 0) != r.pinv))

/-- A seat's error at a record (R180, R186). -/
def State.seatError (s : State) (r : OpRec) (err : SeatErr) : State :=
  let slot := r.slot.val
  let fault := fun (code : Nat) => if slot = 15 then s else s.seatFault (s.opSeat r) slot code
  match err with
  | .localEcc => fault 2
  | .fetchParity => fault 3
  | .decodeParity => fault 4
  | .storeUncorr => s.uncorrLive
  | .corrected => s.bump F.FAB_ECC_CORR
  | .storeCorrected => s.bump F.PLAN_SCRUB_CORR
  | .none => s

/-- The error keeps the record from running. -/
def errStops : SeatErr → Bool
  | .none | .corrected | .storeCorrected => false
  | _ => true

/-- A record issues, the cycle after the last one of the record before it in its slot (R205, R207). -/
def State.issue (s : State) (r : OpRec) (err : SeatErr) (f : State → State) : State :=
  if s.seatReady r then
    let t := (s.flushOwn (s.opSeat r)).seatError r err
    if !errStops err && t.recDue r then f t else t
  else s

/-- A schedule record as a command. -/
def State.seatOp (s : State) (op : Nat) (r : OpRec) (err : SeatErr) (f : State → State) : Host.Outcome State Fault Refusal :=
  if r.ok op then .next (s.onDie (fun s => s.issue r err f)) else .fault .illFormed

/-! ### Transfers, results and flags (R174, R176, R204, R209) -/

/-- A slot put into a rising list, behind its like. -/
def insertSlot (x : Nat) : List Nat → List Nat
  | [] => [x]
  | y :: l => if x < y then x :: y :: l else y :: insertSlot x l

/-- `n` transfers leave a slot: each takes a credit, and those for which none is left stall their slot (R174, R176). -/
def State.xfer (s : State) (slot n : Nat) : State :=
  let c := min 128 (s.fab.credits + n)
  let t := s.set F.FAB_XBAR_PEAK (max (s.fld F.FAB_XBAR_PEAK) c)
  { t with fab := { t.fab with credits := c
                               stalled := (List.range (s.fab.credits + n - 128)).foldl (fun l _ => insertSlot slot l) t.fab.stalled } }

/-- Result words for the group a reference names: local words, written in the record's last cycle, or a transfer to another slot's
(R204, R205). -/
def State.putRef (s : State) (r : OpRec) (ref : Fin 16384) (ws : List Word) : State :=
  let x := refIx ref
  if refKind ref = 0 then
    { s with fab := { s.fab with own := s.fab.own ++ ws.zipIdx.map (fun e => (s.opSeat r, x + e.2, e.1)) } }
  else
    let e := s.routeEntry x
    let t := s.xfer r.slot 1
    { t with fab := { t.fab with flight := t.fab.flight ++ [(s.routeSeat e, e / 256 % 4096, ws.take (e / 2 ^ 20 % 4), r.slot.val)] } }

/-- Flags raised for some units (R209). -/
def State.raiseUnits (s : State) (us : List Nat) (fl : Nat) : State :=
  { s with fab := { s.fab with cur := us.foldl (fun c u => c.set u (c.get u ||| fl)) s.fab.cur } }

/-- Flags that a record raises: its unit's, or every unit's for a record of unit none (R209). -/
def State.raise (s : State) (r : OpRec) (fl : Nat) : State := s.raiseUnits (if r.unit.val < 4 then [r.unit.val] else [0, 1, 2, 3]) fl

/-- The record's unit carries NV so far in this catch; any unit for a record of unit none. -/
def State.nvSoFar (s : State) (r : OpRec) : Bool :=
  (if r.unit.val < 4 then [r.unit.val] else [0, 1, 2, 3]).any (fun u => bit (s.fab.cur.get u) 1)

/-- An F32 operand (R200). -/
def State.fop (s : State) (r : OpRec) (ref : Fin 16384) (i : Nat := 0) : FV := fin (s.refWord r ref i)

/-- An integer operand of type `t` (R199). An I64 reference at an odd word, which no rule refuses, takes that word as the low one (log entry
128). -/
def State.iop (s : State) (r : OpRec) (ref : Fin 16384) (i : Nat := 0) : Int :=
  if r.t = 2 then ((s.refWord r ref (2 * i + 1)) ++ (s.refWord r ref (2 * i))).toInt else (s.refWord r ref i).toInt

/-- An integer saturated to `w` bits, with SAT (R202). -/
def satInt (w : Nat) (v : Int) : Int × Nat :=
  let y := clampI v (-(2 ^ (w - 1) : Int)) (2 ^ (w - 1) - 1)
  (y, if y = v then 0 else flagSat)

/-- The words of an integer of type `t`, low word first. -/
def intWords (wide : Bool) (v : Int) : List Word :=
  if wide then [BitVec.ofInt 32 v, BitVec.ofInt 32 (v / 2 ^ 32)] else [BitVec.ofInt 32 v]

/-- An integer result, saturated. -/
def State.putInt (s : State) (r : OpRec) (ref : Fin 16384) (wide : Bool) (v : Int) : State :=
  let (y, fl) := satInt (if wide then 64 else 32) v
  (s.putRef r ref (intWords wide y)).raise r fl

/-- F32 results with the flags of the values they come from. -/
def State.putFl (s : State) (r : OpRec) (ref : Fin 16384) (vs : List FV) (fl : Nat := 0) : State :=
  (s.putRef r ref (vs.map FV.w)).raise r (vs.foldl (fun a v => a ||| v.fl) fl)

/-- A state block's words and then its status word (R208): `valid` as read before the run. For a record of unit none, NV in any of the four
flag words keeps VALID from setting (log entry 127). -/
def State.putState (s : State) (r : OpRec) (ref : Fin 16384) (ws : List Word) (valid sat : Bool) : State :=
  let v := valid || !s.nvSoFar r
  s.putRef r ref (ws ++ [BitVec.ofNat 32 ((if v then 1 else 0) + (if sat then 2 else 0))])

/-- VALID of a state block whose status is word `i`. -/
def State.stValid (s : State) (r : OpRec) (ref : Fin 16384) (i : Nat) : Bool := (s.refWord r ref i).getLsbD 0

/-! ### Tables (R226) -/

/-- Table number of a reference. -/
def tableOf (ref : Fin 16384) : Nat := refIx ref - 0x400

/-- A parameter word of a table's descriptor, word `k` counting from 0. -/
def State.tableF (s : State) (t k : Nat) : FV := fin (s.tableWord t k)

/-- Entry at position `i`, as read. -/
def State.entry (s : State) (t i : Nat) : FV :=
  if s.tableFormat t = 0 then fin (BitVec.ofInt 32 (s.tableRaw t i))
  else ffma (fofInt (s.tableRaw t i)) (s.tableF t 6) (s.tableF t 7)

/-! ### Inputs (R211, R228) -/

/-- Binding index of a reference. -/
def bindIx (ref : Fin 16384) : Nat := refIx ref - 0x800

def State.bindAt (s : State) (ref : Fin 16384) : Option Bind := s.live.bind[bindIx ref]?

/-- An input at its deadline: its words with VALID and lateness, and the state after (R131, R132). -/
def State.consume (s : State) (r : OpRec) (ref : Fin 16384) : (List Word × Nat) × State :=
  let b := bindIx ref
  let t := s.deadline b r.unit
  match (t.input b).res with
  | some (ws, v, late) => ((ws, (if late then flagLate else 0) ||| (if v then 0 else flagNv)), t.xfer r.slot (max 1 ws.length))
  | none => (([0], flagLate ||| flagNv), t.xfer r.slot 1)

/-- The input delivers signed integers (R211). -/
def Bind.isInt : Bind → Bool
  | .sd .. | .sar .. | .bandIn => true
  | _ => false

def State.opLoadSmp (s : State) (r : OpRec) : State :=
  let ((ws, fl), t) := s.consume r r.f1
  let int := match s.bindAt r.f1 with | some b => b.isInt | none => false
  if r.t = 0 then
    let k := t.fop r r.f2
    let c := t.fop r r.f2 1
    t.putFl r r.f0 (ws.map (fun w => ffma (if int then fofInt w.toInt else fin w) k c)) fl
  else (t.putRef r r.f0 ws).raise r fl

def State.opBandSel (s : State) (r : OpRec) : State :=
  let ((ws, fl), t) := s.consume r r.f1
  let b := (ws.headD 7).toNat % 8
  let n := tableOf r.f2
  let at' := fun k => b * t.tableNx n + k
  if r.t = 1 then (t.putRef r r.f0 ((List.range r.n).map (fun k => BitVec.ofInt 32 (t.tableRaw n (at' k))))).raise r fl
  else t.putFl r r.f0 ((List.range r.n).map (fun k => t.entry n (at' k))) fl

/-! ### Outputs (R212, R213) -/

/-- Words that leave the seats in record order enter the write signature (R140). -/
def State.sendWords (s : State) (r : OpRec) (ix : Fin 8192) (ws : List Word) : State := (s.xfer r.slot ws.length).sign ix ws

/-- The carrier period that a leg has once this commit applies (R212). -/
def State.emitPeriod (s : State) (l : Nat) (sent : Option Nat) : Nat :=
  match sent, (s.leg l).pendPer with
  | some p, _ => p
  | none, some p => p
  | none, none => s.per l

/-- `clamp(rne(d × 32P), 0, 32P)`. -/
def compareOf (d : FV) (p : Nat) : Nat := (clampI (rneFl (flMul d.v (flInt (32 * p))) 0) 0 (32 * p)).toNat

/-- Legs of a LEG_GROUP entry. -/
def State.groupLegs (s : State) (ref : Fin 16384) : List Nat :=
  match s.bindAt ref with
  | some (.legGroup f n _) => (List.range n).map (fun i => f + i)
  | _ => []

/-- A register written by the output crossing for a slot; a disabled page answers GATED (R114, R325). -/
def State.seatWrite (s : State) (slot a : Nat) (act : State → State) : State :=
  s.blockWrite .seat a true (fun t => act (t.keepWord slot a))

/-- A commit of a page by a slot, what stood for its legs before it kept (R186). -/
def State.slotCommit (s : State) (slot page : Nat) (legs : List Nat) (per : Option Nat) (atNs : Nat) : State :=
  let t := s.each (legs.filter (fun l => legPage l == page)) (fun l t =>
    let x := t.leg l
    t.keep slot (.leg l (t.pend l) x.pendPer x.group x.latchAt x.shStale))
  t.commit page legs per atNs

/-- EMIT_PWM (R212). The record's words enter the signature as its compares, in leg order, and then its period (R140; log entry 126). -/
def State.opEmitPwm (s : State) (r : OpRec) (ix : Fin 8192) (atNs : Nat) : State :=
  let legs := s.groupLegs r.f2
  let sent := if r.mode / 2 % 2 = 1 then some (s.refWord r r.f1 0) else none
  let per := sent.map BitVec.toNat
  let ds := (List.range legs.length).map (fun j => s.fop r r.f0 j)
  let cs := (legs.zip ds).map (fun e => compareOf e.2 (s.emitPeriod e.1 per))
  let sat := ds.any (fun d => fclamped d fzero fone)
  let fl := ds.foldl (fun a d => a ||| d.fl) (if sat then flagSat else 0)
  let words := cs.map (fun c => BitVec.ofNat 32 c) ++ (match sent with | some p => [p] | none => [])
  let t := (s.raise r fl).sendWords r ix words
  let t := t.each (legs.zip cs) (fun e t => t.seatWrite r.slot (R.LEG_CMP_SH e.1) (fun t => t.set (F.LEG_CMP_SH_CMP e.1) e.2))
  let t := match per with
    | some p => t.each legs (fun l t => t.seatWrite r.slot (R.LEG_PER_SH l) (fun t => t.set (F.LEG_PER_SH_PER l) p))
    | none => t
  if r.mode % 2 = 1 then t.each (legPages legs) (fun page t => t.seatWrite r.slot (R.PWM_COMMIT page) (fun t => t.slotCommit r.slot page legs per atNs))
  else t

/-- The first `n` words of F0. -/
def State.words0 (s : State) (r : OpRec) : List Word := (List.range r.n).map (fun i => s.refWord r r.f0 i)

/-- EXCH: one frame on each ring for the channel's member; a standalone device sends none (R477, R499). -/
def State.opExch (s : State) (r : OpRec) (ix : Fin 8192) : State :=
  let ws := s.words0 r
  let t := s.sendWords r ix ws
  match s.bindAt r.f1 with
  | some (.exch c body) =>
    t.when t.cascaded (fun t => { t with ring := { t.ring with exchOut := t.ring.exchOut ++ [(c, body.getD 0 0 / 2 % 16, ws)] } })
  | _ => t

/-- What an entry of `n` words is about to replace in a capture channel. -/
def State.keepCapture (s : State) (slot c n : Nat) : State :=
  let a := s.capAddr c (s.capNext c)
  (R.CAP_STAT c :: R.CAP_WIDX c :: R.CAP_LOST c :: (List.range n).map (fun k => a + 4 * k)).foldl (fun t a => t.keepWord slot a) s

def State.opCapture (s : State) (r : OpRec) (ix : Fin 8192) : State :=
  let ws := s.words0 r
  let t := s.sendWords r ix ws
  match s.bindAt r.f1 with | some (.capture c _) => (t.keepCapture r.slot c (ws.length + 1)).capWrite c ws | _ => t

/-- TRQ_EST: a snapshot for COX0, which is no value of R136. -/
def State.opTrqEst (s : State) (r : OpRec) : State :=
  let ws := s.words0 r
  let t := s.xfer r.slot ws.length
  let b := bindIx r.f1
  { t with fab := { t.fab with snap := (b, t.cat.num, ws) :: t.fab.snap.filter (fun e => e.1 != b) } }

/-- INJECT (R213, R314): the sample of a point that is on is added; that of a point that is off passes x bit for bit, also while it
is the one held (log entry 96). A late sample is a late input (R132, R133). The sample enters as one word, none for off. -/
def State.opInject (s : State) (r : OpRec) (late : Bool) : State :=
  match s.bindAt r.f2 with
  | some (.inject p _) =>
    let b := bindIx r.f2
    let x := s.refWord r r.f1 0
    let s := if late then s else s.setInput b ((s.input b).accept (match s.pointSample p with | none => [] | some g => [g.w]) true)
    let ((ws, fl), t) := s.consume r r.f2
    match ws with
    | [] => (t.putRef r r.f0 [x]).raise r fl
    | g :: _ => t.putFl r r.f0 [fadd (fin x) (fconst g)] fl
  | _ => s

/-- CHECK (R238): verdict, RANGE, and the crossing to the umpire (R397). The record's words enter the signature as check number, verdict and x
(R140; log entry 126). -/
def State.opCheck (s : State) (r : OpRec) (ix : Fin 8192) : State :=
  let x := s.refWord r r.f1 0
  let lo := s.refWord r r.f2 0
  let hi := s.refWord r r.f2 1
  let inside := if r.t = 0 then fle (fin lo) (fin x) && fle (fin x) (fin hi) else decide (lo.toInt ≤ x.toInt) && decide (x.toInt ≤ hi.toInt)
  let fl := if r.t = 0 then (fin lo).fl ||| (fin x).fl ||| (fin hi).fl else 0
  let ok := inside && (r.mode % 2 == 1 || !s.nvSoFar r)
  let v : Word := if ok then 1 else 0
  let k := r.n.val
  let t := ((s.putRef r r.f0 [v]).raise r (fl ||| (if ok then 0 else flagRange))).sendWords r ix [BitVec.ofNat 32 k, v, x]
  let t := t.keep r.slot (.check k (if ok then 0 else 1) (t.checks.x.get k) (bit t.checks.xval k))
  { t with checks := { t.checks with
      runs := t.checks.runs.set k (t.checks.runs.get k + 1)
      fails := t.checks.fails.set k (t.checks.fails.get k + (if ok then 0 else 1))
      x := if k < 3 then t.checks.x.set k x.toNat else t.checks.x
      xval := if k < 3 then setBit t.checks.xval k else t.checks.xval } }

def execLoadSmp (r : OpRec) (_ix : Fin 8192) (err : SeatErr) (s : State) : Host.Outcome State Fault Refusal :=
  s.seatOp 0x01 r err (fun s => s.opLoadSmp r)
def execEmitPwm (r : OpRec) (ix : Fin 8192) (err : SeatErr) (atNs : Nat) (s : State) : Host.Outcome State Fault Refusal :=
  s.seatOp 0x02 r err (fun s => s.opEmitPwm r ix atNs)
def execExch (r : OpRec) (ix : Fin 8192) (err : SeatErr) (s : State) : Host.Outcome State Fault Refusal :=
  s.seatOp 0x04 r err (fun s => s.opExch r ix)
def execCapture (r : OpRec) (ix : Fin 8192) (err : SeatErr) (s : State) : Host.Outcome State Fault Refusal :=
  s.seatOp 0x05 r err (fun s => s.opCapture r ix)
def execInject (r : OpRec) (_ix : Fin 8192) (err : SeatErr) (late : Bool) (s : State) : Host.Outcome State Fault Refusal :=
  s.seatOp 0x06 r err (fun s => s.opInject r late)
def execTrqEst (r : OpRec) (_ix : Fin 8192) (err : SeatErr) (s : State) : Host.Outcome State Fault Refusal :=
  s.seatOp 0x35 r err (fun s => s.opTrqEst r)
def execBandSel (r : OpRec) (_ix : Fin 8192) (err : SeatErr) (s : State) : Host.Outcome State Fault Refusal :=
  s.seatOp 0x2C r err (fun s => s.opBandSel r)
def execCheck (r : OpRec) (ix : Fin 8192) (err : SeatErr) (s : State) : Host.Outcome State Fault Refusal :=
  s.seatOp 0x51 r err (fun s => s.opCheck r ix)

end Sys2Proof.Machine
end

