-- ==== Sys2Proof/Machine/SeatMath.lean ====
section
/-! DEFINITION. Transforms, modulation, control, filters, tables, arithmetic and state operations of the seats
(08_operation_set.md R214 to R227, R233 to R237). -/

namespace Sys2Proof.Machine

/-! ### Transforms and modulation (R214 to R220) -/

def cK3 : FV := fconst 0x3EAAAAAB#32
def cKS3 : FV := fconst 0x3F13CD3A#32
def cKH : FV := fconst 0x3F5DB3D7#32

/-- A sum from left to right; one value stands for itself. -/
def fsumL : List FV → FV
  | [] => fzero
  | x :: l => l.foldl fadd x

def State.opClarke3 (s : State) (r : OpRec) : State :=
  let l := r.n.val
  let ph := fun (k : Nat) => fsumL ((List.range l).map (fun j => s.fop r r.f1 (k * l + j)))
  let a := ph 0
  let b := ph 1
  let c := ph 2
  s.putFl r r.f0 [fmul (fsub (fsub (fadd a a) b) c) cK3, fmul (fsub b c) cKS3, fmul (fadd (fadd a b) c) cK3]

def State.opClarkeN (s : State) (r : OpRec) : State :=
  let row := fun (j : Nat) => (List.range r.n).foldl (fun a i => ffma (s.fop r r.f2 (j * r.n + i)) (s.fop r r.f1 i) a) fzero
  s.putFl r r.f0 ((List.range r.m).map row)

def State.opPark (s : State) (r : OpRec) : State :=
  let al := s.fop r r.f1
  let be := s.fop r r.f1 1
  let sn := s.fop r r.f2
  let cs := s.fop r r.f2 1
  s.putFl r r.f0 [ffma al cs (fmul be sn), ffma be cs (fneg (fmul al sn))]

def State.opIpark (s : State) (r : OpRec) : State :=
  let d := s.fop r r.f1
  let q := s.fop r r.f1 1
  let sn := s.fop r r.f2
  let cs := s.fop r r.f2 1
  s.putFl r r.f0 [ffma d cs (fneg (fmul q sn)), ffma d sn (fmul q cs)]

/-- sin and cos of an angle by table `t` (R217). -/
def State.sinCos (s : State) (t theta : Nat) : FV × FV :=
  (fconst (sinWith (s.tableRaw t) (theta % 2 ^ 32)), fconst (sinWith (s.tableRaw t) ((theta + 2 ^ 30) % 2 ^ 32)))

def State.opSincos (s : State) (r : OpRec) : State :=
  let d := if refNone r.f2 then 0 else (s.refWord r r.f2 0).toNat
  let th := ((s.refWord r r.f1 0).toNat + d) % 2 ^ 32
  let (sn, cs) := s.sinCos (tableOf r.f3) th
  s.putRef r r.f0 [sn.w, cs.w, BitVec.ofNat 32 th]

/-- A duty `clamp(fma(v + off, g, 0.5), 0, 1)`, SAT on a clamp. -/
def duty (v off g : FV) : FV :=
  let x := ffma (fadd v off) g fhalf
  (fclamp x fzero fone).raiseIf (fclamped x fzero fone) flagSat

/-- The zero-sequence offset of R218. -/
def svmOffset (mode : Nat) (va vb vc h : FV) : FV :=
  match mode with
  | 1 => fmul (fneg (fadd (fmax (fmax va vb) vc) (fmin (fmin va vb) vc))) fhalf
  | 2 => h
  | _ => fzero

def State.opSvm3 (s : State) (r : OpRec) : State :=
  let va := s.fop r r.f1
  let vbeta := s.fop r r.f1 1
  let g := s.fop r r.f2
  let half := fneg (fmul fhalf va)
  let vb := ffma cKH vbeta half
  let vc := ffma (fneg cKH) vbeta half
  let v0 := svmOffset (r.mode % 4) va vb vc (if r.mode % 4 = 2 then s.fop r r.f3 else fzero)
  s.putFl r r.f0 [duty va v0 g, duty vb v0 g, duty vc v0 g]

def State.opSpwmN (s : State) (r : OpRec) : State :=
  let h := s.fop r r.f2
  let g := s.fop r r.f3
  s.putFl r r.f0 ((List.range r.n).map (fun k => duty (s.fop r r.f1 k) h g))

def State.opDeadcomp (s : State) (r : OpRec) : State :=
  let ib0 := s.fop r r.f3
  let ib := if fle ib0 fzero then (FV.mk 0 ib0.fl).raise flagDom else ib0
  let de := s.fop r r.f4
  let one := fun (k : Nat) =>
    let sk := fclamp (fmul (s.fop r r.f2 k) ib) (fneg fone) fone
    let x := ffma sk de (s.fop r r.f1 k)
    (fclamp x fzero fone).raiseIf (fclamped x fzero fone) flagSat
  s.putFl r r.f0 [one 0, one 1, one 2]

/-! ### Control (R221 to R224) -/

/-- Output, integrator and saturation of R221 for the sum `u`. -/
def piClamp (u e i itry umin umax : FV) : FV × FV × Bool :=
  let (out, i, sat) :=
    if flt umax u then (umax, if flt fzero e then i else itry, true)
    else if flt u umin then (umin, if flt e fzero then i else itry, true)
    else (u, itry, false)
  (out, fclamp i umin umax, sat)

def State.opPi (s : State) (r : OpRec) : State :=
  let kp := s.fop r r.f3
  let kit := s.fop r r.f3 1
  let umin := s.fop r r.f3 2
  let umax := s.fop r r.f3 3
  let i := s.fop r r.f4
  let valid := s.stValid r r.f4 1
  if flt umax umin then
    (s.putFl r r.f0 [umax] (flagDom ||| flagSat ||| umin.fl)).putState r r.f4 [s.refWord r r.f4 0] valid true
  else
    let e := fsub (s.fop r r.f1) (s.fop r r.f2)
    let itry := ffma kit e i
    let u := fadd (fmul kp e) itry
    let (out, i', sat) := piClamp u e i itry umin umax
    let t := s.putFl r r.f0 [out] (u.fl ||| i'.fl ||| umin.fl ||| umax.fl ||| (if sat then flagSat else 0))
    t.putState r r.f4 [i'.w] valid sat

def State.opPidFd (s : State) (r : OpRec) : State :=
  let p := fun k => s.fop r r.f3 k
  let i := s.fop r r.f4
  let valid := s.stValid r r.f4 3
  let y := s.fop r r.f2
  let e := fsub (s.fop r r.f1) y
  let w := if s.refWord r r.f3 6 != 0 then e else fneg y
  let delta := if valid then fsub w (s.fop r r.f4 2) else fzero
  let d := ffma (p 3) (s.fop r r.f4 1) (fmul (p 2) delta)
  let umin := p 4
  let umax := p 5
  if flt umax umin then
    (s.putFl r r.f0 [umax] (flagDom ||| flagSat ||| umin.fl ||| d.fl ||| w.fl)).putState r r.f4
      [s.refWord r r.f4 0, d.w, w.w] valid true
  else
    let itry := ffma (p 1) e i
    let u := fadd (fadd (fmul (p 0) e) itry) d
    let (out, i', sat) := piClamp u e i itry umin umax
    let t := s.putFl r r.f0 [out] (u.fl ||| w.fl ||| i'.fl ||| umin.fl ||| umax.fl ||| (if sat then flagSat else 0))
    t.putState r r.f4 [i'.w, d.w, w.w] valid sat

def State.opFfAdd (s : State) (r : OpRec) : State := s.putFl r r.f0 [ffma (s.fop r r.f2) (s.fop r r.f3) (s.fop r r.f1)]

def State.opLimit (s : State) (r : OpRec) : State :=
  if r.t = 0 then
    let x := s.fop r r.f1
    let lo := s.fop r r.f2
    let hi := s.fop r r.f2 1
    if flt hi lo then s.putFl r r.f0 [hi] (flagDom ||| x.fl ||| lo.fl)
    else s.putFl r r.f0 [(fclamp x lo hi).raiseIf (fclamped x lo hi) flagSat]
  else
    let x := s.iop r r.f1
    let lo := s.iop r r.f2
    let hi := s.iop r r.f2 1
    if hi < lo then (s.putRef r r.f0 (intWords (r.t = 2) hi)).raise r flagDom
    else (s.putRef r r.f0 (intWords (r.t = 2) (clampI x lo hi))).raise r (if clampI x lo hi = x then 0 else flagSat)

/-- A negative parameter read as +0 with DOM. -/
def nonNeg (a : FV) : FV := if flt a fzero then (FV.mk 0 a.fl).raise flagDom else a

def State.opRateLim (s : State) (r : OpRec) : State :=
  let up := nonNeg (s.fop r r.f2)
  let dn := nonNeg (s.fop r r.f2 1)
  let x := s.fop r r.f1
  let st := s.fop r r.f3
  let valid := s.stValid r r.f3 1
  if r.mode % 2 = 1 ∧ valid = false then (s.putFl r r.f0 [x] (up.fl ||| dn.fl)).putState r r.f3 [x.w] valid false
  else
    let diff := fsub x st
    let sat := fclamped diff (fneg dn) up
    let y := fadd st (fclamp diff (fneg dn) up)
    (s.putFl r r.f0 [y] (if sat then flagSat else 0)).putState r r.f3 [y.w] valid sat

def State.opVlimCirc (s : State) (r : OpRec) : State :=
  let vd := s.fop r r.f1
  let vq := s.fop r r.f1 1
  let vmax := nonNeg (s.fop r r.f2)
  let l2 := fmul vmax vmax
  if r.mode % 2 = 1 then
    let vd' := fclamp vd (fneg vmax) vmax
    let qmax := fsqrt (fmax (ffma (fneg vd') vd' l2) fzero)
    let vq' := fclamp vq (fneg qmax) qmax
    s.putFl r r.f0 [vd', vq'] (if fclamped vd (fneg vmax) vmax || fclamped vq (fneg qmax) qmax then flagSat else 0)
  else
    let m2 := ffma vd vd (fmul vq vq)
    if fle m2 l2 then s.putFl r r.f0 [vd, vq] (m2.fl ||| l2.fl)
    else
      let kk := fmul vmax (frecip (fsqrt m2))
      s.putFl r r.f0 [fmul vd kk, fmul vq kk] (flagSat ||| l2.fl)

/-! ### Filters and tables (R225, R227) -/

def State.opLpf1 (s : State) (r : OpRec) : State :=
  let x := s.fop r r.f1
  let st := s.fop r r.f3
  let valid := s.stValid r r.f3 1
  let y := if r.mode % 2 = 1 ∧ valid = false then x else ffma (s.fop r r.f2) (fsub x st) st
  (s.putFl r r.f0 [y]).putState r r.f3 [y.w] valid false

def State.opNotch2 (s : State) (r : OpRec) : State :=
  let p := fun k => s.fop r r.f2 k
  let x := s.fop r r.f1
  let y := ffma (p 0) x (s.fop r r.f3)
  let s1 := ffma (p 1) x (ffma (fneg (p 3)) y (s.fop r r.f3 1))
  let s2 := ffma (p 2) x (fneg (fmul (p 4) y))
  (s.putFl r r.f0 [y] (s1.fl ||| s2.fl)).putState r r.f3 [s1.w, s2.w] (s.stValid r r.f3 2) false

/-- A coordinate on an axis of `n` entries: the interval and the fraction within it. -/
def locate (x x0 inv : FV) (n : Nat) : Nat × FV :=
  let p := fmul (fsub x x0) inv
  let p := if flt p fzero then (FV.mk 0 p.fl).raise flagTclamp else p
  let top := fofInt ((n : Int) - 1)
  let p := if flt top p then (FV.mk top.w p.fl).raise flagTclamp else p
  let i := floorFl p.v
  let i := if i = n - 1 then n - 2 else i
  (i, fsub p (fofInt i))

def lerp (f a b : FV) : FV := ffma f (fsub b a) a

def State.opLut1 (s : State) (r : OpRec) : State :=
  let t := tableOf r.f2
  let (i, f) := locate (s.fop r r.f1) (s.tableF t 2) (s.tableF t 3) (s.tableNx t)
  s.putFl r r.f0 [lerp f (s.entry t i) (s.entry t (i + 1))]

def State.opLut2 (s : State) (r : OpRec) : State :=
  let t := tableOf r.f2
  let nx := s.tableNx t
  let (i, fx) := locate (s.fop r r.f1) (s.tableF t 2) (s.tableF t 3) nx
  let (j, fy) := locate (s.fop r r.f1 1) (s.tableF t 4) (s.tableF t 5) (s.tableNy t)
  let e := fun (a b : Nat) => s.entry t (b * nx + a)
  s.putFl r r.f0 [lerp fy (lerp fx (e i j) (e (i + 1) j)) (lerp fx (e i (j + 1)) (e (i + 1) (j + 1)))]

/-! ### Arithmetic and logic (R233 to R236) -/

def State.opMul (s : State) (r : OpRec) : State :=
  if r.t = 0 then s.putFl r r.f0 [fmul (s.fop r r.f1) (s.fop r r.f2)]
  else s.putInt r r.f0 (r.t = 2) (s.iop r r.f1 * s.iop r r.f2)

def State.opMac (s : State) (r : OpRec) : State :=
  if r.t = 0 then s.putFl r r.f0 [ffma (s.fop r r.f1) (s.fop r r.f2) (s.fop r r.f3)]
  else s.putInt r r.f0 (r.t = 2) (s.iop r r.f1 * s.iop r r.f2 + s.iop r r.f3)

def State.opAdd (s : State) (r : OpRec) : State :=
  if r.t = 0 then s.putFl r r.f0 [fadd (s.fop r r.f1) (s.fop r r.f2)]
  else if r.t = 3 then s.putRef r r.f0 [s.refWord r r.f1 0 + s.refWord r r.f2 0]
  else s.putInt r r.f0 (r.t = 2) (s.iop r r.f1 + s.iop r r.f2)

def State.opSub (s : State) (r : OpRec) : State :=
  if r.t = 0 then s.putFl r r.f0 [fsub (s.fop r r.f1) (s.fop r r.f2)]
  else if r.t = 3 then s.putRef r r.f0 [s.refWord r r.f1 0 - s.refWord r r.f2 0]
  else s.putInt r r.f0 (r.t = 2) (s.iop r r.f1 - s.iop r r.f2)

def State.opAbs (s : State) (r : OpRec) : State :=
  if r.t = 0 then s.putFl r r.f0 [fabs (s.fop r r.f1)]
  else s.putInt r r.f0 (r.t = 2) ((s.iop r r.f1).natAbs : Int)

/-- SAT (R234). -/
def State.opSat (s : State) (r : OpRec) : State :=
  let x := s.fop r r.f1
  match r.t.val, r.mode % 8 with
  | 0, 1 => (s.raise r x.fl).putInt r r.f0 false (rneFl x.v 0)
  | 0, 2 => (s.raise r x.fl).putInt r r.f0 true (rneFl x.v 0)
  | 0, 3 => (s.putRef r r.f0 [BitVec.ofInt 32 (rneFl x.v 32)]).raise r x.fl
  | 0, 4 =>
    let (y, fl) := satInt 16 (rneFl x.v 15)
    (s.putRef r r.f0 [BitVec.ofInt 32 y]).raise r (x.fl ||| fl)
  | 3, 0 => s.putFl r r.f0 [fround ⟨false, (s.refWord r r.f1 0).toNat, -32⟩ 0]
  | 3, 5 =>
    let v := (s.refWord r r.f1 0).toInt
    s.putFl r r.f0 [fround ⟨decide (v < 0), v.natAbs, -32⟩ 0]
  | _, 0 => s.putFl r r.f0 [fofInt (s.iop r r.f1)]
  | _, 1 => s.putInt r r.f0 false (s.iop r r.f1)
  | _, _ => s.putInt r r.f0 true (s.iop r r.f1)

def State.opSqrt (s : State) (r : OpRec) : State := s.putFl r r.f0 [fsqrt (s.fop r r.f1)]

def State.opRecip (s : State) (r : OpRec) : State := s.putFl r r.f0 [frecip (s.fop r r.f1)]

/-- ATAN2: F1 is y, F2 is x. -/
def State.opAtan2 (s : State) (r : OpRec) : State :=
  let y := s.fop r r.f1
  let x := s.fop r r.f2
  let fl := y.fl ||| x.fl
  if y.v.mant = 0 ∧ x.v.mant = 0 then (s.putRef r r.f0 [0]).raise r (fl ||| flagDom)
  else (s.putRef r r.f0 [BitVec.ofNat 32 (atan2Turn y.v x.v)]).raise r fl

/-- Whether a condition of CMP holds of an order: less, equal. -/
def cmpHolds (cond : Nat) (lt eq : Bool) : Bool :=
  match cond with
  | 0 => eq
  | 1 => !eq
  | 2 => lt
  | 3 => lt || eq
  | 4 => !(lt || eq)
  | _ => !lt

def State.opCmp (s : State) (r : OpRec) : State :=
  let c := r.mode % 8
  let out := fun (b : Bool) => (if b then 1 else 0 : Word)
  if r.t = 0 then
    let a := s.fop r r.f1
    let b := s.fop r r.f2
    (s.putRef r r.f0 [out (cmpHolds c (flt a b) (feq a b))]).raise r (a.fl ||| b.fl)
  else if r.t = 3 then
    let d := (s.refWord r r.f1 0 - s.refWord r r.f2 0).toInt
    s.putRef r r.f0 [out (cmpHolds c (decide (d < 0)) (decide (d = 0)))]
  else
    let a := s.iop r r.f1
    let b := s.iop r r.f2
    s.putRef r r.f0 [out (cmpHolds c (decide (a < b)) (decide (a = b)))]

/-- The words of a value of the record's type. -/
def State.valWords (s : State) (r : OpRec) (ref : Fin 16384) : List Word := (List.range r.width).map (fun i => s.refWord r ref i)

def State.opSel (s : State) (r : OpRec) : State :=
  s.putRef r r.f0 (s.valWords r (if s.refWord r r.f1 0 != 0 then r.f2 else r.f3))

def State.opHold (s : State) (r : OpRec) : State :=
  let ws := s.valWords r (if s.refWord r r.f2 0 != 0 then r.f1 else r.f3)
  (s.putRef r r.f0 ws).putState r r.f3 ws (s.stValid r r.f3 r.width) false

def execClarke3 (r : OpRec) (_ix : Fin 8192) (err : SeatErr) (s : State) : Host.Outcome State Fault Refusal :=
  s.seatOp 0x10 r err (fun s => s.opClarke3 r)
def execClarkeN (r : OpRec) (_ix : Fin 8192) (err : SeatErr) (s : State) : Host.Outcome State Fault Refusal :=
  s.seatOp 0x11 r err (fun s => s.opClarkeN r)
def execPark (r : OpRec) (_ix : Fin 8192) (err : SeatErr) (s : State) : Host.Outcome State Fault Refusal :=
  s.seatOp 0x12 r err (fun s => s.opPark r)
def execIpark (r : OpRec) (_ix : Fin 8192) (err : SeatErr) (s : State) : Host.Outcome State Fault Refusal :=
  s.seatOp 0x13 r err (fun s => s.opIpark r)
def execSincos (r : OpRec) (_ix : Fin 8192) (err : SeatErr) (s : State) : Host.Outcome State Fault Refusal :=
  s.seatOp 0x14 r err (fun s => s.opSincos r)
def execSvm3 (r : OpRec) (_ix : Fin 8192) (err : SeatErr) (s : State) : Host.Outcome State Fault Refusal :=
  s.seatOp 0x15 r err (fun s => s.opSvm3 r)
def execSpwmN (r : OpRec) (_ix : Fin 8192) (err : SeatErr) (s : State) : Host.Outcome State Fault Refusal :=
  s.seatOp 0x16 r err (fun s => s.opSpwmN r)
def execDeadcomp (r : OpRec) (_ix : Fin 8192) (err : SeatErr) (s : State) : Host.Outcome State Fault Refusal :=
  s.seatOp 0x17 r err (fun s => s.opDeadcomp r)
def execPi (r : OpRec) (_ix : Fin 8192) (err : SeatErr) (s : State) : Host.Outcome State Fault Refusal :=
  s.seatOp 0x20 r err (fun s => s.opPi r)
def execPidFd (r : OpRec) (_ix : Fin 8192) (err : SeatErr) (s : State) : Host.Outcome State Fault Refusal :=
  s.seatOp 0x21 r err (fun s => s.opPidFd r)
def execFfAdd (r : OpRec) (_ix : Fin 8192) (err : SeatErr) (s : State) : Host.Outcome State Fault Refusal :=
  s.seatOp 0x22 r err (fun s => s.opFfAdd r)
def execLimit (r : OpRec) (_ix : Fin 8192) (err : SeatErr) (s : State) : Host.Outcome State Fault Refusal :=
  s.seatOp 0x23 r err (fun s => s.opLimit r)
def execRateLim (r : OpRec) (_ix : Fin 8192) (err : SeatErr) (s : State) : Host.Outcome State Fault Refusal :=
  s.seatOp 0x24 r err (fun s => s.opRateLim r)
def execVlimCirc (r : OpRec) (_ix : Fin 8192) (err : SeatErr) (s : State) : Host.Outcome State Fault Refusal :=
  s.seatOp 0x25 r err (fun s => s.opVlimCirc r)
def execLpf1 (r : OpRec) (_ix : Fin 8192) (err : SeatErr) (s : State) : Host.Outcome State Fault Refusal :=
  s.seatOp 0x28 r err (fun s => s.opLpf1 r)
def execNotch2 (r : OpRec) (_ix : Fin 8192) (err : SeatErr) (s : State) : Host.Outcome State Fault Refusal :=
  s.seatOp 0x29 r err (fun s => s.opNotch2 r)
def execLut1 (r : OpRec) (_ix : Fin 8192) (err : SeatErr) (s : State) : Host.Outcome State Fault Refusal :=
  s.seatOp 0x2A r err (fun s => s.opLut1 r)
def execLut2 (r : OpRec) (_ix : Fin 8192) (err : SeatErr) (s : State) : Host.Outcome State Fault Refusal :=
  s.seatOp 0x2B r err (fun s => s.opLut2 r)
def execMul (r : OpRec) (_ix : Fin 8192) (err : SeatErr) (s : State) : Host.Outcome State Fault Refusal :=
  s.seatOp 0x40 r err (fun s => s.opMul r)
def execMac (r : OpRec) (_ix : Fin 8192) (err : SeatErr) (s : State) : Host.Outcome State Fault Refusal :=
  s.seatOp 0x41 r err (fun s => s.opMac r)
def execAdd (r : OpRec) (_ix : Fin 8192) (err : SeatErr) (s : State) : Host.Outcome State Fault Refusal :=
  s.seatOp 0x42 r err (fun s => s.opAdd r)
def execSub (r : OpRec) (_ix : Fin 8192) (err : SeatErr) (s : State) : Host.Outcome State Fault Refusal :=
  s.seatOp 0x43 r err (fun s => s.opSub r)
def execAbs (r : OpRec) (_ix : Fin 8192) (err : SeatErr) (s : State) : Host.Outcome State Fault Refusal :=
  s.seatOp 0x44 r err (fun s => s.opAbs r)
def execSat (r : OpRec) (_ix : Fin 8192) (err : SeatErr) (s : State) : Host.Outcome State Fault Refusal :=
  s.seatOp 0x45 r err (fun s => s.opSat r)
def execSqrt (r : OpRec) (_ix : Fin 8192) (err : SeatErr) (s : State) : Host.Outcome State Fault Refusal :=
  s.seatOp 0x46 r err (fun s => s.opSqrt r)
def execRecip (r : OpRec) (_ix : Fin 8192) (err : SeatErr) (s : State) : Host.Outcome State Fault Refusal :=
  s.seatOp 0x47 r err (fun s => s.opRecip r)
def execAtan2 (r : OpRec) (_ix : Fin 8192) (err : SeatErr) (s : State) : Host.Outcome State Fault Refusal :=
  s.seatOp 0x48 r err (fun s => s.opAtan2 r)
def execCmp (r : OpRec) (_ix : Fin 8192) (err : SeatErr) (s : State) : Host.Outcome State Fault Refusal :=
  s.seatOp 0x49 r err (fun s => s.opCmp r)
def execSel (r : OpRec) (_ix : Fin 8192) (err : SeatErr) (s : State) : Host.Outcome State Fault Refusal :=
  s.seatOp 0x4A r err (fun s => s.opSel r)
def execHold (r : OpRec) (_ix : Fin 8192) (err : SeatErr) (s : State) : Host.Outcome State Fault Refusal :=
  s.seatOp 0x50 r err (fun s => s.opHold r)

end Sys2Proof.Machine
end

