-- ==== Sys2Proof/Machine/SeatEst.lean ====
section
/-! DEFINITION. The estimation operations of the seats (08_operation_set.md R229 to R232). -/

namespace Sys2Proof.Machine

/-- One axis of the observer: innovation, new prediction and new EMF. -/
def obsAxis (kt rs l1 l2 i v ih eh : FV) : FV × FV × FV :=
  let r := fsub i ih
  (r, ffma l1 r (ffma kt (fsub v (ffma rs ih eh)) ih), ffma (fneg l2) r eh)

def State.opObsEmf (s : State) (r : OpRec) : State :=
  let p := fun k => s.fop r r.f3 k
  let st := fun k => s.fop r r.f4 k
  let (ra, iha, eha) := obsAxis (p 0) (p 1) (p 2) (p 3) (s.fop r r.f1) (s.fop r r.f2) (st 0) (st 2)
  let (rb, ihb, ehb) := obsAxis (p 0) (p 1) (p 2) (p 3) (s.fop r r.f1 1) (s.fop r r.f2 1) (st 1) (st 3)
  let q := ffma ra ra (fmul rb rb)
  let qf := ffma (p 4) (fsub q (st 4)) (st 4)
  let m := ffma eha eha (fmul ehb ehb)
  let den := ffma (p 5) m (p 6)
  let conf := if fle den fzero then (FV.mk 0 den.fl).raise flagDom
    else fclamp (fsub fone (fmul qf (frecip den))) fzero fone
  let t := s.putFl r r.f0 [eha, ehb, conf] (iha.fl ||| ihb.fl ||| qf.fl)
  t.putState r r.f4 [iha.w, ihb.w, eha.w, ehb.w, qf.w] (s.stValid r r.f4 5) false

/-- The angle-indexed sine table of the LIVE plan (R245). -/
def State.sineTable (s : State) : Nat := s.live.sineTable

def State.opPllTrk (s : State) (r : OpRec) : State :=
  let p := fun k => s.fop r r.f2 k
  let theta := (s.refWord r r.f3 0).toNat
  let w0 := s.fop r r.f3 1
  let eps := if r.mode % 2 = 1 then
      let (sn, cs) := s.sinCos s.sineTable theta
      fmul (ffma (s.fop r r.f1) cs (fneg (fmul (s.fop r r.f1 1) sn))) (p 3)
    else s.fop r r.f1
  let x := ffma (p 1) eps w0
  let w := fclamp x (fneg (p 2)) (p 2)
  let delta := ffma (p 0) eps w
  let (du, fl) := satInt 32 (rneFl delta.v 32)
  let sat := fclamped x (fneg (p 2)) (p 2) || fl != 0
  let th := BitVec.ofInt 32 (theta + du)
  let t := (s.putRef r r.f0 [th, w.w]).raise r (w.fl ||| delta.fl ||| (if sat then flagSat else 0))
  t.putState r r.f3 [th, w.w] (s.stValid r r.f3 2) sat

def State.opHfiDemod (s : State) (r : OpRec) : State :=
  let p := fun k => s.fop r r.f2 k
  let x := s.fop r r.f1
  let valid := s.stValid r r.f3 3
  let sw := s.refWord r r.f3 1
  let sg := fconst (if sw = 0x3F800000 ∨ sw = 0xBF800000 then sw else 0x3F800000)
  let e0 := s.fop r r.f3 2
  let delta := if valid then fsub x (s.fop r r.f3) else fzero
  let e := ffma (p 1) (fsub (fmul (fmul sg delta) (p 2)) e0) e0
  let sg' := fneg sg
  let t := s.putFl r r.f0 [e, fmul sg' (p 0)] x.fl
  t.putState r r.f3 [x.w, sg'.w, e.w] valid false

def State.opRslvDemod (s : State) (r : OpRec) : State :=
  let a := s.fop r r.f3 1
  let rho := (s.sinCos s.sineTable ((s.refWord r r.f2 0).toNat + (s.refWord r r.f3 0).toNat)).1
  let sd0 := s.fop r r.f4
  let cd0 := s.fop r r.f4 1
  let sd := ffma a (fsub (fmul (s.fop r r.f1) rho) sd0) sd0
  let cd := ffma a (fsub (fmul (s.fop r r.f1 1) rho) cd0) cd0
  let m2 := ffma sd sd (fmul cd cd)
  let lo := s.fop r r.f3 2
  let hi := s.fop r r.f3 3
  let t := s.putFl r r.f0 [sd, cd, m2] (lo.fl ||| hi.fl ||| (if flt m2 lo || flt hi m2 then flagLos else 0))
  t.putState r r.f4 [sd.w, cd.w] (s.stValid r r.f4 2) false

/-- The trims of SHARE after a run that moves them, and whether one was clamped. -/
def shareTrims (k invn tmax sum : FV) (is ts : List FV) : List FV × Bool :=
  let ks := if flt fzero sum then k else fneg k
  let m := fmul sum invn
  let ts := (is.zip ts).map (fun e => ffma (fneg ks) (fsub e.1 m) e.2)
  let tm := fmul (fsumL ts) invn
  let ds := ts.map (fun t => fsub t tm)
  (ds.map (fun d => fclamp d (fneg tmax) tmax), ds.any (fun d => fclamped d (fneg tmax) tmax))

def State.opShare (s : State) (r : OpRec) : State :=
  let n := r.n.val
  let p := fun k => s.fop r r.f3 k
  let is := (List.range n).map (fun j => s.fop r r.f2 j)
  let ts := (List.range n).map (fun j => s.fop r r.f4 j)
  let sum := fsumL is
  let moves := fle (p 2) (fabs sum)
  let (us, sat) := if moves then shareTrims (p 0) (p 1) (p 3) sum is ts else (ts, false)
  let kept := if moves then us.map FV.w else (List.range n).map (fun j => s.refWord r r.f4 j)
  let xs := us.map (fun t => fadd (s.fop r r.f1) t)
  let hit := xs.any (fun x => fclamped x fzero fone)
  let fl := (sum.fl ||| (p 2).fl) ||| (if sat || hit then flagSat else 0)
  (s.putFl r r.f0 (xs.map (fun x => fclamp x fzero fone)) fl).putState r r.f4 kept (s.stValid r r.f4 n) (sat || hit)

def execObsEmf (r : OpRec) (_ix : Fin 8192) (err : SeatErr) (s : State) : Host.Outcome State Fault Refusal :=
  s.seatOp 0x30 r err (fun s => s.opObsEmf r)
def execPllTrk (r : OpRec) (_ix : Fin 8192) (err : SeatErr) (s : State) : Host.Outcome State Fault Refusal :=
  s.seatOp 0x31 r err (fun s => s.opPllTrk r)
def execHfiDemod (r : OpRec) (_ix : Fin 8192) (err : SeatErr) (s : State) : Host.Outcome State Fault Refusal :=
  s.seatOp 0x32 r err (fun s => s.opHfiDemod r)
def execRslvDemod (r : OpRec) (_ix : Fin 8192) (err : SeatErr) (s : State) : Host.Outcome State Fault Refusal :=
  s.seatOp 0x33 r err (fun s => s.opRslvDemod r)
def execShare (r : OpRec) (_ix : Fin 8192) (err : SeatErr) (s : State) : Host.Outcome State Fault Refusal :=
  s.seatOp 0x34 r err (fun s => s.opShare r)

end Sys2Proof.Machine
end

