-- ==== Sys2Proof/Machine/Emit.lean ====
section
/-! DEFINITION. What the plan's register outputs bring about (08_operation_set.md R213, and the registers' own chapters), and the
frequency-response template on the sub (11_loops_and_tuning.md R320). -/

namespace Sys2Proof.Machine

/-! ### EMIT_REG -/

/-- DRV_PSTAT as the plan has written it: TZERO is counted by execution (R290), and SRC is mirrored (R296). -/
def State.pstatOut (s : State) (d : Nat) : State :=
  (s.modDrive d (fun x => { x with tzero := if s.on (F.DRV_PSTAT_TZERO d) then x.tzero + 1 else 0 })).set (F.DRV_STATE_SRC d)
    (s.fld (F.DRV_PSTAT_SRC d))

/-- The setpoint of a drive instance after a speed execution (R304): with FACT STOP a fault acts as on STOP of DRV_CMD, with FACT HOLD one
that has lasted SP_HOLD executions does, and with DEFAULT none. FACT and SP_HOLD are constants of the plan (log entry 111). -/
def State.spFault (s : State) (d : Nat) : State :=
  let n := if s.on (F.SP_STAT_FAULT d) then s.inj.spRun.get d + 1 else 0
  let t : State := { s with inj := { s.inj with spRun := s.inj.spRun.set d n } }
  let fact := (Config.setpointFact d s.liveDigest).toNat
  if n ≠ 0 ∧ s.on (F.SP_STAT_DEFAULT d) = false ∧ (fact = 1 ∨ (fact ≠ 2 ∧ Config.setpointHold d s.liveDigest < n)) then
    if t.relays then t.relay d 2 0 0 0 else t.easyDue d 1
  else t

/-- SP_STAT as the plan has written it, `old` the word before: SP_FAULT when a FAULT sets, and the start and stop of the aux channels
(R304, R307). -/
def State.spStatOut (s : State) (old : Word) : State :=
  let rises := fun (f : Field) => s.on f && f.get old == 0
  let falls := fun (f : Field) => !s.on f && f.get old == 1
  let t := s.when ((List.range 4).any (fun u => rises (F.SP_STAT_FAULT u))) (fun t => t.ev F.INJ_EVENT_SP_FAULT)
  let t := t.each [2, 3] (fun u t => if rises (F.SP_STAT_ON u) then t.auxStart u else if falls (F.SP_STAT_ON u) then t.easyAux u 1 else t)
  (t.spFault 0).spFault 1

/-- What an output register of the plan does with its word (R267, R290, R321, R355, R369, R379). -/
def State.regOutput (s : State) (a : Nat) (w : Word) : State :=
  let mask := match regRow a with | some r => BitVec.ofNat 32 (r.ro ||| r.rw ||| r.wo) | none => 0
  let t := s.wr a (w &&& mask)
  if a = R.ENC_ALIGN 0 then s.encAlign 0 w.toNat
  else if a = R.ENC_ALIGN 1 then s.encAlign 1 w.toNat
  else if a = R.DRV_PSTAT 0 then t.pstatOut 0
  else if a = R.DRV_PSTAT 1 then t.pstatOut 1
  else if a = R.SP_STAT then t.spStatOut (s.rd a)
  else t

/-- Registers that only the plan's outputs write: of DRVA, INJ, the position pages, RSLV and PROT_SPD (R267, R321, R368, R369, R379). -/
def planOut (a : Nat) : Bool :=
  let p := pageOf a
  p == 0x08 || p == 0x10 || p == 0x11 || p == 0x12 || p == 0x13 || [0, 1].any (fun u => a == R.PROT_SPD u)

/-- EMIT_REG (R213). Another register takes the word as a bus write of the seats' master, with that write's checks (R544). -/
def State.opEmitReg (s : State) (r : OpRec) (ix : Fin 8192) : State :=
  let w := s.refWord r r.f0 0
  let t := s.sendWords r ix [w]
  match s.bindAt r.f1 with
  | some (.regOut p o) =>
    let a := pageBase p + o
    if planOut a then t.seatWrite r.slot a (fun t => t.regOutput a w) else ((t.keepWord r.slot a).busWrite .seat a w).2
  | _ => t

/-! ### Frequency response on the sub (R320) -/

/-- The accumulations of a point over its paired catches: Uc, Us, Yc, Ys. cos θ and sin θ are SINCOS's, from the plan's table (R217). -/
def State.frfSums (s : State) (pairs : List (Word × Word × Word)) : FV × FV × FV × FV :=
  pairs.foldl (fun (uc, us, yc, ys) (th, u, y) =>
    let (n, c) := s.sinCos s.sineTable th.toNat
    (ffma (fin u) c uc, ffma (fin u) n us, ffma (fin y) c yc, ffma (fin y) n ys)) (fzero, fzero, fzero, fzero)

/-- FRF_POINT: step `k` of generator `g`, the plan channel `io` and the FRF channel `frf`. The template is sub work of no unit: its flags
are every unit's (R209; log entry 110). -/
def frfPoint (g : Fin 2) (io frf : Fin 8) (k : Fin 32) (s : State) : State :=
  s.onDie (fun s =>
    if (s.fld F.FAB_ROT_STATE ≠ 0 ∧ s.fld F.FAB_ROT_STATE ≠ 2) ∨ s.fab.pool.isEmpty = true then s
    else
      let from' := (s.gen g).start + ((List.range k).map (s.stepLen g)).sum +
        s.fld (F.INJ_STEPA_DIV g k) * s.fld (F.INJ_STEPB_SETTLE g k)
      let count := s.fld (F.INJ_STEPA_DIV g k) * s.fld (F.INJ_STEPB_MEAS g k)
      let logs := s.capEntries (s.fld (F.INJ_CFG_LOG g))
      let plan := s.capEntries io
      let pairs := (List.range count).filterMap (fun i =>
        let w := BitVec.ofNat 32 (from' + i)
        match logs.find? (fun e => e.head? == some w), plan.find? (fun e => e.head? == some w) with
        | some a, some b => some (a.getD 1 0, b.getD 1 0, b.getD 2 0)
        | _, _ => none)
      let (uc, us, yc, ys) := s.frfSums pairs
      let d := ffma uc uc (fmul us us)
      let h := fun (x : FV) => if d.v.mant = 0 then fzero.raise flagDom else fmul x (frecip d)
      let hre := h (ffma yc uc (fmul ys us))
      let him := h (ffma ys uc (fneg (fmul yc us)))
      let fl := [uc, us, yc, ys, d, hre, him].foldl (fun a v => a ||| v.fl) 0
      (s.raiseUnits [0, 1, 2, 3] fl).capWrite frf [BitVec.ofNat 32 k, BitVec.ofNat 32 pairs.length, uc.w, us.w, yc.w, ys.w, hre.w, him.w])

def execEmitReg (r : OpRec) (ix : Fin 8192) (err : SeatErr) (s : State) : Host.Outcome State Fault Refusal :=
  s.seatOp 0x03 r err (fun s => s.opEmitReg r ix)
def execFrfPoint (g : Fin 2) (io frf : Fin 8) (k : Fin 32) (s : State) : Host.Outcome State Fault Refusal :=
  .next (frfPoint g io frf k s)

end Sys2Proof.Machine
end

