-- ==== Sys2Proof/Machine/Host.lean ====
section
/-! DEFINITION. The request conversation on host SPI and CAN (18_host_interfaces.md R450 to R475, 20_identity_and_boot.md R520). -/

namespace Sys2Proof.Machine

/-! ### Answers (R455 to R458, R461, R467) -/

/-- Status codes of R457 and R458. -/
def stPageErr := 0x01
def stBadOpcode := 0x02
def stBadField := 0x03
def stBadLen := 0x04
def stBadRange := 0x05
def stTagBusy := 0x06
def stOrder := 0x07
def stFull := 0x08
def stNotPending := 0x09
def stShort := 0x20
def stLength := 0x21
def stCrc := 0x22
def stSegment := 0x23
def stSegTimeout := 0x24
def stTooLong := 0x25

/-- A byte of a frame. -/
def byteAt (l : List Byte) (i : Nat) : Nat := (l.getD i 0).toNat

/-- LEN and ADDR of a request frame. -/
def reqLen (f : List Byte) : Nat := ofLe ((f.drop 2).take 2)
def reqAddr (f : List Byte) : Nat := ofLe ((f.drop 4).take 4)
def reqTag (f : List Byte) : Nat := byteAt f 1 % 128
def reqPayload (f : List Byte) : List Byte := (f.drop 8).take (reqLen f)

/-- Bytes 0 to 7 + LEN, by which requests are identical (R461). -/
def reqBody (f : List Byte) : List Byte := f.take (8 + reqLen f)

/-- An answer frame (R455). -/
def answerFrame (op tag status err session : Nat) (payload : List Byte) : List Byte :=
  closeFrame ([BitVec.ofNat 8 op, BitVec.ofNat 8 tag] ++ le 2 payload.length ++
    [BitVec.ofNat 8 status, BitVec.ofNat 8 err, BitVec.ofNat 8 session, 0] ++ payload)

/-- A frame sent again: DUP set in its tag byte, and its CRC with it (R461, R464). -/
def dupFrame (f : List Byte) : List Byte :=
  let l := f.take (f.length - 2)
  closeFrame (l.take 1 ++ [BitVec.ofNat 8 (byteAt l 1 % 128 + 128)] ++ l.drop 2)

/-- BUSY tags of an interface are shown. -/
def State.showBusy (s : State) (i : Nat) : State := s.set (F.CONV_STAT_BUSY (ifPage i)) (s.hostIf i).busy.length

/-- An answer frame enters the output store. -/
def State.putOut (s : State) (i : Nat) (f : List Byte) (fmt : Nat) : State := s.modIf i (fun x => x.put f fmt (f.length == 10) false)

/-- CONV_LAST and CONV_EVENT of an answer that is not OK. -/
def State.noteStatus (s : State) (i tag status : Nat) : State :=
  let p := ifPage i
  if status = 0 then s
  else
    let t := ((s.set (F.CONV_LAST_STATUS p) status).set (F.CONV_LAST_TAG p) (tag % 128)).set (F.CONV_LAST_CATCH p) s.stamp
    let t := t.when (decide (stBadOpcode ≤ status) && decide (status ≤ stBadRange)) (fun t => t.ev (F.CONV_EVENT_BAD_REQ p))
    let t := t.when (status == stOrder) (fun t => (t.ev (F.CONV_EVENT_ORDER p)).bump (F.CONV_CNT1_ORDER_ERRS p))
    t.when (status == stFull) (fun t => t.ev (F.CONV_EVENT_FULL p))

/-- A request is answered. TAG_BUSY, ORDER, FULL and SYNC answers are not cached and leave the tag as it was (R461, R463). -/
def State.respond (s : State) (i : Nat) (f : List Byte) (fmt status err : Nat) (payload : List Byte) : State :=
  let tag := reqTag f
  let a := answerFrame (byteAt f 0 % 128 + 128) tag status err s.sec.session payload
  let t := s.noteStatus i tag status
  let mine := status != stTagBusy && status != stOrder
  let t := t.when mine (fun t => (t.modIf i (fun x => { x with busy := x.busy.filter (fun e => e.1 != tag) })).showBusy i)
  let keep := mine && status != stFull && byteAt f 0 != 4
  let t := t.when keep (fun t => t.modIf i (fun x =>
    { x with cache := (tag, reqBody f, a) :: x.cache.filter (fun e => e.1 != tag) }))
  t.putOut i a fmt

/-- A FRAME_ERR answer (R458). -/
def State.frameErr (s : State) (i : Nat) (f : List Byte) (fmt status : Nat) : State :=
  let p := ifPage i
  let tag := if f.length < 2 then 0xFF else byteAt f 1
  let t := ((s.ev (F.CONV_EVENT_FRAME_ERR p)).bump (F.CONV_CNT0_FRAME_ERRS p)).noteStatus i tag status
  t.putOut i (answerFrame 0xFF tag status 0 s.sec.session []) fmt

/-! ### Reception: checks 1 to 4 of R457 -/

/-- Check 1; 0 if the frame passes. -/
def frameCode (f : List Byte) : Nat :=
  let n := reqLen f
  if f.length < 10 then stShort
  else if f.length ≠ n + 10 then stLength
  else if 1034 < n + 10 then stTooLong
  else if crc16 (f.take (n + 8)) ≠ BitVec.ofNat 16 (ofLe (f.drop (n + 8))) then stCrc
  else 0

/-- A retry found by R461. -/
def State.noteDup (s : State) (i : Nat) : State :=
  (s.bump (F.CONV_CNT1_DUPS (ifPage i))).ev (F.CONV_EVENT_DUP (ifPage i))

/-- A new request: order and opcode, and then it waits for COX1 (R459, R462). A SYNC is exempt from the check of its tag; with ORDER clear
NEXT_TAG follows it as it does every new request (log entry 70). -/
def State.newRequest (s : State) (i : Nat) (f : List Byte) (fmt : Nat) : State :=
  let p := ifPage i
  let tag := reqTag f
  let op := byteAt f 0
  let strict := s.on (F.CONV_CFG_ORDER p)
  if strict && op != 4 && tag != s.fld (F.CONV_STAT_NEXT_TAG p) then s.respond i f fmt stOrder 0 []
  else
    let t := if op = 4 ∧ strict = true then s else s.set (F.CONV_STAT_NEXT_TAG p) ((tag + 1) % 128)
    if op = 0 ∨ 5 < op then t.respond i f fmt stBadOpcode 0 []
    else
      let t := (t.modIf i (fun x => { x with busy := x.busy ++ [(tag, reqBody f)] })).showBusy i
      { t with conv := { t.conv with queue := t.conv.queue ++ [(i, f, fmt)] } }

/-- A received frame on an open interface. -/
def State.hostFrame (s : State) (i : Nat) (f : List Byte) (fmt : Nat) : State :=
  match frameCode f with
  | 0 =>
    let t := s.bump (F.CONV_CNT0_FRAMES (ifPage i))
    let x := t.hostIf i
    let tag := reqTag f
    match x.busy.find? (fun e => e.1 == tag), x.cache.find? (fun e => e.1 == tag) with
    | some e, _ => if e.2 = reqBody f then t.noteDup i else t.respond i f fmt stTagBusy 0 []
    | none, some e =>
      if e.2.1 = reqBody f then
        let t := t.noteDup i
        if x.fits e.2.2.length (e.2.2.length == 10) then t.putOut i (dupFrame e.2.2) fmt else t.respond i f fmt stFull 0 []
      else t.newRequest i f fmt
    | none, none => t.newRequest i f fmt
  | c => s.frameErr i f fmt c

/-- Frames that leave make room for pending events that have not been sent (R473). -/
def State.flushEvents (s : State) (i : Nat) : State :=
  s.each (((s.hostIf i).events.filter (fun e => !e.sent)).map (fun e => e.tag)) (fun tag t =>
    match (t.hostIf i).events.find? (fun e => e.tag == tag) with
    | some e =>
      if (t.hostIf i).fits e.bytes.length false then
        t.modIf i (fun x =>
          ({ x with events := x.events.map (fun d => if d.tag = tag then { d with sent := true } else d) } : HostIf).put e.bytes
            (t.eventFmt i) false true)
      else t
    | none => t)

/-! ### Host SPI (R468, R469, R475) -/

/-- The preamble that a transaction sends first (R469). -/
def State.spiPreamble (s : State) : List Byte :=
  let x := s.hostIf 0
  let b := (if x.out.isEmpty then 0 else 1) + (if 1 < x.out.length then 2 else 0) + (if x.events.isEmpty then 0 else 4)
  [0xA5#8, BitVec.ofNat 8 b] ++ le 2 ((x.out.head?.map (fun f => f.bytes.length)).getD 0)

/-- HIRQ_N is low (R469). -/
def State.hirqLow (s : State) : Bool := s.isOpen 0 && !(s.hostIf 0).out.isEmpty

/-- SPI_TRANSACTION: the bytes of HMOSI from HCS_N falling to HCS_N rising; as many go out on HMISO. -/
def spiTransaction (mosi : List Byte) (s : State) : State :=
  s.onDie (fun s =>
    if !s.isOpen 0 then s
    else
      let sent := (s.spiPreamble ++ ((s.hostIf 0).out.head?.map (fun f => f.bytes)).getD []).take mosi.length
      let s : State := { s with conv := { s.conv with hmiso := sent ++ List.replicate (mosi.length - sent.length) 0 } }
      let t := match (s.hostIf 0).out with
        | f :: rest =>
          if 4 + f.bytes.length ≤ mosi.length then (s.modIf 0 (fun x => { x with out := rest })).flushEvents 0
          else s.when (decide (4 < mosi.length)) (fun s => s.bump F.HSPI_STAT_TRUNC)
        | [] => s
      match mosi with
      | [] => t
      | b :: _ =>
        if b = 0 then t
        else
          let f := if mosi.length < 10 then mosi else mosi.take (reqLen mosi + 10)
          (t.when (decide (f.length < 10)) (fun t => t.bump F.HSPI_STAT_SHORT)).hostFrame 0 f 0)

/-! ### CAN (R470 to R472) -/

/-- Data bytes of a segment of each format, without the segment byte. -/
def segBytes (fmt : Nat) : Nat := match fmt with | 0 => 7 | 3 => 2047 | _ => 63

/-- A frame is one the controller receives for the conversation. -/
def State.canTakes (s : State) (p : Nat) (f : CanFrame) : Bool :=
  let fmt : Nat := f.fmt
  let id := s.fld (F.CAN_ID_RX_ID p)
  !f.remote && !f.data.isEmpty &&
  (if fmt = 3 then s.on (F.CAN_CTRL_XL_EN p) && f.id.toNat == id % 2048
   else (fmt == 0 || s.on (F.CAN_CTRL_FD_EN p)) &&
     (if s.on (F.CAN_CTRL_EXT_ID p) then f.ext && f.id.toNat == id else !f.ext && f.id.toNat == id % 2048))

/-- The XL fields agree. -/
def State.xlTakes (s : State) (p : Nat) (f : CanFrame) : Bool :=
  f.sdt.toNat == s.fld (F.CAN_XL_SDT p) && (!s.on (F.CAN_XL_VCID_EN p) || f.vcid.toNat == s.fld (F.CAN_XL_VCID p))

/-- A segmentation failure. -/
def State.segFail (s : State) (i : Nat) (partial' : List Byte) (fmt : Nat) : State :=
  let t := ((s.bump (F.CAN_SEG_SEG_LOST (ifPage i))).ev (F.CONV_EVENT_SEG_ERR (ifPage i))).modIf i (fun x => { x with asm := none })
  t.frameErr i partial' fmt stSegment

/-- A segment joins its frame; LAST completes it. -/
def State.segJoin (s : State) (i : Nat) (sofar : List Byte) (seg : List Byte) (fmt : Nat) : State :=
  let c := byteAt seg 0
  let l := sofar ++ seg.tail
  if bit c 6 then
    let f := if 10 ≤ l.length then l.take (reqLen l + 10) else l
    (s.modIf i (fun x => { x with asm := none })).hostFrame i f fmt
  else s.modIf i (fun x => { x with asm := some (l, (c % 64 + 1) % 64, fmt) })

/-- Error-active or error-passive, by the counts of a controller that is not bus-off (ISO 11898-1; log entry 21). -/
def State.canState (s : State) (i : Nat) : State :=
  let p := ifPage i
  if s.fld (F.CAN_ERR_STATE p) = 2 then s
  else s.set (F.CAN_ERR_STATE p) (if 127 < s.fld (F.CAN_ERR_TEC p) ∨ 127 < s.fld (F.CAN_ERR_REC p) then 1 else 0)

/-- A receive error with its code: 1, and 8 for every further dominant bit that the standard counts (ISO 11898-1; log entry 21). -/
def State.canRxError (s : State) (i : Nat) (e : CanErr) : State :=
  let p := ifPage i
  ((s.set (F.CAN_ERR_REC p) (min 255 (s.fld (F.CAN_ERR_REC p) + 1 + 8 * e.dominant))).set (F.CAN_ERR_LEC p) e.lec).canState i

/-- A transmit error with its code: 8, but none for an acknowledgement error of an error-passive transmitter that sees no dominant bit in its
error flag; a count that passes 255 ends in bus-off (R472; ISO 11898-1; log entry 21). -/
def State.canTxError (s : State) (i : Nat) (e : CanErr) : State :=
  let p := ifPage i
  if s.fld (F.CAN_ERR_STATE p) = 2 then s
  else
    let alone := e.lec == 3 && s.fld (F.CAN_ERR_STATE p) == 1 && e.dominant == 0
    let n := s.fld (F.CAN_ERR_TEC p) + (if alone then 0 else 8) + 8 * e.dominant
    let t := (s.set (F.CAN_ERR_TEC p) (min 255 n)).set (F.CAN_ERR_LEC p) e.lec
    if n < 256 then t.canState i
    else ((t.set (F.CAN_ERR_STATE p) 2).ev (F.CONV_EVENT_BUS_OFF p)).modIf i (fun x => { x with recov := false })

/-- A good reception lowers the receive error count; from error-passive it returns to a value of 119 to 127 (ISO 11898-1;
log entry 21). -/
def State.canGood (s : State) (i : Nat) : State :=
  let r := s.fld (F.CAN_ERR_REC (ifPage i))
  if r ≤ 127 then (s.set (F.CAN_ERR_REC (ifPage i)) (r - 1)).canState i
  else
    let (v, t) := s.fresh 8
    (t.set (F.CAN_ERR_REC (ifPage i)) (119 + v.toNat % 9)).canState i

/-- A controller that takes part in bus traffic. -/
def State.canOn (s : State) (i : Nat) : Bool := s.isOpen i && s.fld (F.CAN_ERR_STATE (ifPage i)) != 2

/-- CAN_SEGMENT, after the receive errors before it. -/
def canSegment (c : Fin 2) (errs : List CanErr) (f : CanFrame) (s : State) : State :=
  s.onDie (fun s =>
    let i := 1 + (c : Nat)
    let p := ifPage i
    if !s.canOn i then s
    else
      let s := (s.each errs (fun e t => t.canRxError i e)).canGood i
      if !s.canTakes p f then s
      else if f.fmt = 3 ∧ f.sec = true then s.bump (F.CAN_SEG_SEG_LOST p)
      else if f.fmt = 3 ∧ s.xlTakes p f = false then s
      else
        let b := byteAt f.data 0
        match bit b 7, (s.hostIf i).asm with
        | true, some (l, _, fm) =>
          let t := s.segFail i l fm
          if b % 64 = 0 then t.segJoin i [] f.data f.fmt else t.segFail i f.data.tail f.fmt
        | true, none => if b % 64 = 0 then s.segJoin i [] f.data f.fmt else s.segFail i f.data.tail f.fmt
        | false, some (l, n, _) => if b % 64 = n then s.segJoin i l f.data f.fmt else s.segFail i l f.fmt
        | false, none => s.segFail i f.data.tail f.fmt)

/-- SEG_TIMEOUT; a closed interface answers nothing (R450). -/
def segTimeout (c : Fin 2) (s : State) : State :=
  s.onDie (fun s =>
    let i := 1 + (c : Nat)
    match if s.isOpen i then (s.hostIf i).asm else none with
    | some (l, _, fmt) =>
      let t := ((s.bump (F.CAN_SEG_SEG_TMO (ifPage i))).ev (F.CONV_EVENT_SEG_ERR (ifPage i))).modIf i (fun x => { x with asm := none })
      t.frameErr i l fmt stSegTimeout
    | none => s)

/-- CAN_BUS_OFF: which counts and which last error stand then is not stated (log entries 1 and 21). -/
def canBusOff (c : Fin 2) (s : State) : State :=
  s.onDie (fun s =>
    let i := 1 + (c : Nat)
    let p := ifPage i
    if !s.canOn i then s
    else
      let (a, t) := s.fresh 8
      let (b, t) := t.fresh 8
      let (e, t) := t.fresh 3
      let t := ((t.set (F.CAN_ERR_TEC p) a.toNat).set (F.CAN_ERR_REC p) b.toNat).set (F.CAN_ERR_LEC p) (e.toNat % 7)
      ((t.set (F.CAN_ERR_STATE p) 2).ev (F.CONV_EVENT_BUS_OFF p)).modIf i (fun x => { x with recov := false }))

/-- CAN_BUS_OFF_RECOVERED: the controller is error-active with both counts at zero (ISO 11898-1; log entry 21). -/
def canBusOffRecovered (c : Fin 2) (s : State) : State :=
  s.onDie (fun s =>
    let i := 1 + (c : Nat)
    let p := ifPage i
    if s.fld (F.CAN_ERR_STATE p) = 2 ∧ (s.on (F.CAN_CTRL_AUTO_RECOV p) || (s.hostIf i).recov) = true then
      (((s.set (F.CAN_ERR_STATE p) 0).set (F.CAN_ERR_TEC p) 0).set (F.CAN_ERR_REC p) 0).modIf i (fun x => { x with recov := false })
    else s)

/-- The next segment that a controller sends (R471). -/
def OutFrame.segment (f : OutFrame) : List Byte :=
  let n := segBytes f.fmt
  BitVec.ofNat 8 ((if f.first then 128 else 0) + (if f.bytes.length ≤ n then 64 else 0) + f.count) :: f.bytes.take n

/-- Bytes of a data field that holds `n` bytes: an FD frame has the lengths of its DLC only (ISO 11898-1; log entry 21). -/
def dataLen (fmt n : Nat) : Nat :=
  if (fmt = 1 ∨ fmt = 2) ∧ 8 < n then ([12, 16, 20, 24, 32, 48, 64].find? (fun k => n ≤ k)).getD n else n

/-- `n` bytes that the spec does not state: the padding of a data field. -/
def State.padBytes (s : State) : Nat → List Byte × State
  | 0 => ([], s)
  | n + 1 =>
    let (b, t) := s.fresh 8
    let (l, t) := t.padBytes n
    (b :: l, t)

/-- The frame that a controller sends for the next segment of an output frame, its acceptance field zero (R470, R471). -/
def State.canFrame (s : State) (i : Nat) (f : OutFrame) : CanFrame × State :=
  let p := ifPage i
  let ext := s.on (F.CAN_CTRL_EXT_ID p) && f.fmt != 3
  let id := s.fld (if f.event then F.CAN_ID_EVT_ID p else F.CAN_ID_TX_ID p)
  let (pad, t) := s.padBytes (dataLen f.fmt f.segment.length - f.segment.length)
  ({ fmt := ⟨f.fmt % 4, Nat.mod_lt _ (by decide)⟩, remote := false, ext := ext, id := BitVec.ofNat 29 (if ext then id else id % 2048),
     sec := false, esi := decide (f.fmt ≠ 0) && s.fld (F.CAN_ERR_STATE p) == 1, sdt := BitVec.ofNat 8 (s.fld (F.CAN_XL_SDT p)),
     vcid := BitVec.ofNat 8 (s.fld (F.CAN_XL_VCID p)), af := 0, data := f.segment ++ pad }, t)

/-- CAN_FRAME_SENT: after the transmit errors before it, a segment has gone out; a successful transmission lowers the transmit
error count. -/
def canFrameSent (c : Fin 2) (errs : List CanErr) (s : State) : State :=
  s.onDie (fun s =>
    let i := 1 + (c : Nat)
    let p := ifPage i
    match (s.hostIf i).out with
    | f :: rest =>
      if !s.canOn i then s
      else
        let s := s.each errs (fun e t => t.canTxError i e)
        if !s.canOn i then s
        else
          let (fr, s) := s.canFrame i f
          let t := ((s.set (F.CAN_ERR_TEC p) (s.fld (F.CAN_ERR_TEC p) - 1)).canState i).modIf i (fun x => { x with sent := some fr })
          let n := segBytes f.fmt
          if f.bytes.length ≤ n then (t.modIf i (fun x => { x with out := rest })).flushEvents i
          else t.modIf i (fun x =>
            { x with out := { f with bytes := f.bytes.drop n, first := false, count := (f.count + 1) % 64 } :: rest })
    | [] => s)

/-! ### Execution: checks 5 to 9 of R457 -/

/-- The regions of R460 by number. -/
def hostRegion (a : Nat) : Nat :=
  match regionOf a with
  | .pages => 1 | .live => 2 | .stage => 2 | .capture => 3 | .buffer => 4 | .firmware => 5 | .working => 5 | .unmapped => 6

/-- Words that a READ or WRITE names. -/
def reqWords (f : List Byte) : Nat := if byteAt f 0 = 1 then ofLe ((reqPayload f).take 2) else reqLen f / 4

/-- Check 5. -/
def fieldsOk (f : List Byte) : Bool :=
  let p := reqPayload f
  byteAt f 1 < 128 &&
  (match byteAt f 0 with
   | 1 => (p.length < 2 || (0 < reqWords f && reqWords f ≤ 256)) && ((p.drop 2).take 2).all (fun b => b == 0)
   | 2 => true
   | 5 => reqAddr f < 128
   | _ => reqAddr f == 0)

/-- Check 6. -/
def lenOk (f : List Byte) : Bool :=
  match byteAt f 0 with
  | 1 => reqLen f == 4
  | 2 => reqLen f % 4 == 0 && decide (4 ≤ reqLen f) && decide (reqLen f ≤ 1024)
  | 3 => reqLen f == 4
  | _ => reqLen f == 0

/-- Check 7. -/
def rangeOk (f : List Byte) : Bool :=
  if byteAt f 0 = 1 ∨ byteAt f 0 = 2 then
    let a := reqAddr f / 4 * 4
    let z := a + 4 * reqWords f - 4
    decide (z < 2 ^ 32) && hostRegion a == hostRegion z && (hostRegion a != 1 || a / 0x1000 == z / 0x1000)
  else true

/-- Payload bytes of a request's OK answer (R456). -/
def okBytes (f : List Byte) : Nat := match byteAt f 0 with | 1 => 4 * reqWords f | 2 => 8 | 3 => 8 | 4 => 4 | _ => 0

/-- The first failing check of 5 to 8; 0 if none. -/
def State.checkCode (s : State) (i : Nat) (f : List Byte) : Nat :=
  if !fieldsOk f then stBadField
  else if !lenOk f then stBadLen
  else if !rangeOk f then stBadRange
  else if !(s.hostIf i).fits (10 + okBytes f) (okBytes f == 0) then stFull
  else 0

/-- The first accepted request of an open interface, if it is of interface `i` and of opcode `op`, is executed: checks 5 to 8 and then
`act`, with the frame and its CAN format; requests of a closed interface wait and hold up no other (R459). While no firmware runs, the root
answers (R520). -/
def State.hostTake (s : State) (i op : Nat) (rootOk : List Byte → Bool) (act : List Byte → Nat → State → State) : State :=
  s.onDie (fun s =>
    match s.conv.queue.find? (fun e => s.isOpen e.1) with
    | some (k, f, fmt) =>
      if k = i ∧ byteAt f 0 = op then
        let t : State := { s with conv := { s.conv with queue := s.conv.queue.erase (k, f, fmt) } }
        match t.checkCode i f with
        | 0 => if t.fw || rootOk f then act f fmt t else t.respond i f fmt stPageErr eAuth (le 4 0)
        | c => t.respond i f fmt c 0 []
      else s
    | none => s)

/-- The master of a request: its interface, or the root where the root executes it (R544). -/
def State.hostMaster (s : State) (i : Nat) : Master :=
  if s.fw then (match i with | 0 => .hspi | 1 => .can0 | _ => .can1) else .root

/-- The words of a READ from address `a`: the words read, or the index and code of the first refusal. -/
def readLoop (m : Master) (bad : List (Nat × MemErr)) : Nat → Nat → Nat → List Word → State → (Option (Nat × Nat) × List Word) × State
  | 0, _, _, acc, s => ((none, acc), s)
  | n + 1, k, a, acc, s =>
    let (c, w, t) := s.busRead m (a + 4 * k) ((bad.find? (fun e => e.1 == k)).map (fun e => e.2))
    if c = 0 then readLoop m bad n (k + 1) a (acc ++ [w]) t else ((some (k, c), acc), t)

/-- The words of a WRITE: the index and code of the first refusal. -/
def writeLoop (m : Master) : List Word → Nat → Nat → State → Option (Nat × Nat) × State
  | [], _, _, s => (none, s)
  | w :: ws, k, a, s =>
    let (c, t) := s.busWrite m (a + 4 * k) w
    if c = 0 then writeLoop m ws (k + 1) a t else (some (k, c), t)

/-- The words of a payload. -/
def payloadWords (n : Nat) (l : List Byte) : List Word := (List.range n).map (fun k => bytesWord (l.drop (4 * k)))

/-- HOST_READ. `bad`: indexes of words whose memory holds an error. -/
def hostRead (i : Fin 3) (bad : List (Nat × MemErr)) (s : State) : State :=
  s.hostTake i 1 (fun f => [0x40000, 0x40001, 0x4001A].contains (reqAddr f / 0x1000)) (fun f fmt s =>
    let ((r, ws), t) := readLoop (s.hostMaster i) bad (reqWords f) 0 (reqAddr f) [] s
    match r with
    | none => t.respond i f fmt 0 0 (wordBytes ws)
    | some (k, c) => t.respond i f fmt stPageErr c (le 4 k))

/-- The catch of a WRITE's answer: the next one for words the plan reads as inputs, else the one in progress, 0 while no catch runs (R459);
catches go on where an uncorrectable word has taken LIVE_VALID (R180). -/
def State.writeCatch (s : State) (a n : Nat) : Nat :=
  let named := s.live.bind.any (fun e => match e with
    | .regIn p o => decide (a ≤ pageBase p + o) && decide (pageBase p + o < a + 4 * n)
    | _ => false)
  let runs := s.on F.CATCH_CTRL_RUN && !s.cat.first
  if named && (runs || s.liveValid) then (s.cat.num + 1) % 2 ^ 48 else if runs then s.cat.num else 0

/-- HOST_WRITE. -/
def hostWrite (i : Fin 3) (s : State) : State :=
  s.hostTake i 2 (fun _ => false) (fun f fmt s =>
    let n := reqWords f
    let (r, t) := writeLoop (s.hostMaster i) (payloadWords n (reqPayload f)) 0 (reqAddr f) s
    match r with
    | none => t.respond i f fmt 0 0 (le 6 (t.writeCatch (reqAddr f) n) ++ [0, 0])
    | some (k, c) => t.respond i f fmt stPageErr c (le 4 k))

/-- Units in a safe state of either die, and units with a gate output enabled (R456). -/
def State.hbWord (s : State) : Nat :=
  ((List.range 4).filter s.inSafe).foldl setBit 0 +
    16 * ((List.range 4).filter s.unitOn).foldl setBit 0 + (if s.hbAlive then 256 else 0)

/-- The HEARTBEAT of an interface still counts at `nowUs` (R465). -/
def State.hbFresh (s : State) (i nowUs : Nat) : Bool :=
  match (s.hostIf i).hb with
  | some t => decide (nowUs < t + 1000 * max 1 (min 1000 (s.fld (F.HB_CFG_TMO (ifPage i)))))
  | none => false

/-- Some supervising interface has accepted a HEARTBEAT within its TMO at `nowUs` (R465). -/
def State.hbWithin (s : State) (nowUs : Nat) : Bool :=
  (List.range 3).any (fun i => s.on (F.HB_CFG_HB_EN (ifPage i)) && s.hbFresh i nowUs)

/-- HEARTBEATs whose TMO has passed at `nowUs` keep nothing alive any more (R465). -/
def State.hbExpire (s : State) (nowUs : Nat) : State :=
  s.each ((List.range 3).filter (fun i => !s.hbFresh i nowUs)) (fun i t => t.modIf i (fun x => { x with hb := none }))

/-- A HEARTBEAT's counter on a supervising interface (R465). -/
def State.renew (s : State) (i counter atUs : Nat) : State :=
  let p := ifPage i
  let last := s.fld (F.HB_LAST_COUNTER p)
  if s.on (F.HB_CFG_HB_EN p) && counter != last then
    let t := s.when (counter != (last + 1) % 2 ^ 32) (fun s => s.bump (F.HB_JUMP_COUNT p))
    let t := (t.set (F.HB_LAST_COUNTER p) counter).modIf i (fun x => { x with hb := some atUs })
    ({ t with conv := { t.conv with hbLast := counter, hbLive := true } } : State).hbExpire atUs
  else s

/-- HEARTBEAT, whose last bit passed the ball at `atUs`. -/
def heartbeat (i : Fin 3) (atUs : Nat) (s : State) : State :=
  s.hostTake i 3 (fun _ => false) (fun f fmt s =>
    let c := ofLe (reqPayload f)
    let t := s.renew i c atUs
    t.respond i f fmt 0 0 (le 4 c ++ le 4 t.hbWord))

/-- Dropped events are reported once a tag is free (R464). -/
def State.reportDropped (s : State) (i : Nat) : State :=
  let x := s.hostIf i
  if 0 < x.dropped ∧ x.events.length < 128 then
    let t := s.setIf i { x with dropped := 0 }
    if t.fw && t.isOpen i && t.on (F.CONV_CFG_EVT_EN (ifPage i)) then
      t.raiseOn i (le 2 0x0009 ++ [4, 0] ++ le 4 (t.cat.num % 2 ^ 32) ++ le 4 x.dropped)
    else t
  else s

/-- SYNC: the requests before it have been answered, since it is executed in its turn (R463, R473). -/
def sync (i : Fin 3) (s : State) : State :=
  s.hostTake i 4 (fun _ => false) (fun f fmt s =>
    let n := (reqTag f + 1) % 128
    let t := s.modIf i (fun x => { x with
      cache := [], events := [], out := x.out.filter (fun o => !(o.first && o.event)) })
    let t := ((t.evPend i).set (F.CONV_STAT_NEXT_TAG (ifPage i)) n).dropLocks (3 + i)
    (t.respond i f fmt 0 0 (le 4 n)).reportDropped i)

/-- EVENT_ACK. -/
def eventAck (i : Fin 3) (s : State) : State :=
  s.hostTake i 5 (fun _ => false) (fun f fmt s =>
    let tag := reqAddr f
    if (s.hostIf i).events.any (fun e => e.tag == tag) then
      let t := (s.modIf i (fun x => { x with events := x.events.filter (fun e => e.tag != tag) })).evPend i
      (t.respond i f fmt 0 0 []).reportDropped i
    else s.respond i f fmt stNotPending 0 [])

/-- EVENT_RESEND: 10 ms without an acknowledgement of an event that has been sent. -/
def eventResend (i : Fin 3) (tag : Fin 128) (s : State) : State :=
  s.onDie (fun s =>
    match (s.hostIf i).events.find? (fun e => e.tag == (tag : Nat)) with
    | some e => if e.sent && s.isOpen i && (s.hostIf i).fits e.bytes.length false then
        s.modIf i (fun x => x.put (dupFrame e.bytes) (s.eventFmt i) ((dupFrame e.bytes).length == 10) true) else s
    | none => s)

/-- HEARTBEAT_LOSS at `nowUs` (R466): the heartbeat stops being alive, also where a plan switch has moved HB_EN away from the interfaces that
kept it so; with any unit outside OFF it is lost. -/
def heartbeatLoss (nowUs : Nat) (s : State) : State :=
  s.onDie (fun s =>
    if !(s.hbSupervised && s.conv.hbLive) then s
    else if s.hbWithin nowUs then s.hbExpire nowUs
    else
      let on := (List.range 3).filter (fun i => s.on (F.HB_CFG_HB_EN (ifPage i)))
      let t := s.each (List.range 3) (fun i t => t.modIf i (fun x => { x with hb := none }))
      let t : State := { t with conv := { t.conv with hbLive := false } }
      let outside := [0, 1].any (fun d => s.driveState d != dOff) || (List.range 4).any (fun u => s.unitOn u || s.inSafe u)
      if outside then
        let t := t.each [3, 4, 5] (fun o t => t.dropLocks o)
        let t := t.each on (fun i t => t.ev (F.CONV_EVENT_HB_LOST (ifPage i)))
        let t := (t.easyAll 3).hostEvent 0x0002 4 s.conv.hbLast
        t.each [0, 1] (fun g t => t.when (t.fld (F.INJ_STATUS_STATE g) == 2 || t.fld (F.INJ_STATUS_STATE g) == 3) (fun t => t.genAbort g 0x13))
      else t)

def execHostRead (i : Fin 3) (bad : List (Nat × MemErr)) (s : State) : Host.Outcome State Fault Refusal := .next (hostRead i bad s)
def execHostWrite (i : Fin 3) (s : State) : Host.Outcome State Fault Refusal := .next (hostWrite i s)
def execHeartbeat (i : Fin 3) (atUs : Nat) (s : State) : Host.Outcome State Fault Refusal := .next (heartbeat i atUs s)
def execSync (i : Fin 3) (s : State) : Host.Outcome State Fault Refusal := .next (sync i s)
def execEventAck (i : Fin 3) (s : State) : Host.Outcome State Fault Refusal := .next (eventAck i s)
def execSpiTransaction (mosi : List Byte) (s : State) : Host.Outcome State Fault Refusal := .next (spiTransaction mosi s)
def execCanSegment (i : Fin 2) (errs : List CanErr) (f : CanFrame) (s : State) : Host.Outcome State Fault Refusal :=
  .next (canSegment i errs f s)
def execSegTimeout (i : Fin 2) (s : State) : Host.Outcome State Fault Refusal := .next (segTimeout i s)
def execCanBusOff (i : Fin 2) (s : State) : Host.Outcome State Fault Refusal := .next (canBusOff i s)
def execCanBusOffRecovered (i : Fin 2) (s : State) : Host.Outcome State Fault Refusal := .next (canBusOffRecovered i s)
def execCanFrameSent (i : Fin 2) (errs : List CanErr) (s : State) : Host.Outcome State Fault Refusal :=
  .next (canFrameSent i errs s)
def execEventResend (i : Fin 3) (tag : Fin 128) (s : State) : Host.Outcome State Fault Refusal := .next (eventResend i tag s)
def execHeartbeatLoss (nowUs : Nat) (s : State) : Host.Outcome State Fault Refusal := .next (heartbeatLoss nowUs s)

end Sys2Proof.Machine
end

