-- ==== Sys2Proof/Machine/Pins.lean ====
section
/-! DEFINITION. What the output balls show in a state (01_architecture.md R29 to R32, 03_supply_reset_pin_states.md R84 to R88).
The balls hold nothing of their own: each is read from the registers and the state of the two dies. -/

namespace Sys2Proof.Machine

/-- What a ball shows. -/
inductive Ball where
  | low | high
  | pwm          -- follows the edges of its leg
  | toggle       -- 1 MHz
  | released     -- open drain, off
  | highZ
  | undriven
  | idle         -- electrical idle
  | functional   -- driven by its block
  deriving DecidableEq, Repr

/-- The side of a leg under a pattern. -/
def patternBall (p : Nat) (high : Bool) : Ball :=
  if (p == patHigh && high) || (p == patLow && !high) then .high else .low

/-- The unit whose legs the umpire takes leg `l` for, as last bound (R398); an aux leg belongs to its channel. -/
def State.umpUnit (s : State) (l : Nat) : Option Nat :=
  let inside := fun (r : Option (Nat × Nat)) => match r with | some (f, k) => decide (f ≤ l ∧ l ≤ k) | none => false
  if 18 ≤ l then some (2 + (l - 18) / 3)
  else if inside s.ump.legsA then some 0
  else if inside s.ump.legsB then some 1
  else none

/-- The umpire's pattern for a leg; an aux leg takes all-off for any (R47). -/
def State.overrideOf (s : State) (l : Nat) : Option Nat :=
  match s.umpUnit l with
  | some u => if s.umpHeld u then some (if l < 18 then s.umpPattern u else patOff) else none
  | none => none

/-- The control die's pattern for a leg. -/
def State.protOf (s : State) (l : Nat) : Option Nat :=
  match s.unitOf l with
  | some u => if s.protPattern u = patNone then none else some (if l < 18 then s.protPattern u else patOff)
  | none => none

/-- A gate ball: the first row of R29 that holds. A leg that an interlock or a trip holds off until its next boundary is off (R30,
R333, R373). -/
def State.gateBall (s : State) (l : Nat) (high : Bool) : Ball :=
  if !s.sup.umpire then .low
  else match s.overrideOf l with
    | some p => patternBall p high
    | none =>
      if s.sup.die != .running || s.ump.failed then .low
      else match s.protOf l with
        | some p => if bit s.prot.heldOff l || (s.leg l).lockUntil then .low else patternBall p high
        | none => if s.pageOn (legPage l) && s.on (F.LEG_STAT_EN l) && !(s.leg l).offUntil then .pwm else .low

/-- BRK0 to BRK3. -/
def State.brkBall (s : State) (b : Nat) : Ball := if s.sup.umpire && s.brkDriven b then .high else .low

/-- Gate output `b` of the 52: the sides of the 24 legs, high side first, and then BRK0 to BRK3 (log entry 133). -/
def State.outputBall (s : State) (b : Nat) : Ball := if b < 48 then s.gateBall (b / 2) (b % 2 == 0) else s.brkBall (b - 48)

/-- The level that the umpire commands of a gate output; that of one which follows its leg's edges is the gate-edge line's, `line`. -/
def State.outputLevel (s : State) (b : Nat) (line : Bool) : Bool :=
  match s.outputBall b with
  | .high => true
  | .pwm => line
  | _ => false

/-- GATE_READBACK_MISMATCH: in one umpire cycle the ball of a gate output reads `level`; if that is not its command, the gate path has failed
(R535, R536). -/
def gateReadbackMismatch (ball : Fin 52) (line level : Bool) (s : State) : State :=
  s.onUmp (fun s => if level == s.outputLevel ball line then s else s.gatePathFail ball)

/-- CTR_PRE, CTR_MP, CTR_MN and CTR_AUX, `k` 0 to 3: on, or open. -/
def State.ctrBall (s : State) (k : Nat) : Ball :=
  if s.sup.umpire && bit (s.fld F.UMP_CTRSTAT_CMDED) k then .low else .released

/-- DISCH. -/
def State.dischBall (s : State) : Ball :=
  if s.sup.umpire && s.sup.die == .running && s.prot.disch then .high else .low

/-- LIVE (R32, R84). -/
def State.liveBall (s : State) : Ball := if s.sup.umpire && s.gateMayBeOn then .toggle else .low

/-- SAFE_N: low while a unit holds a safe state of either die and while the control die is held (R84, R399). Unpowered, it reads low
through its pull-up (R86). -/
def State.safeBall (s : State) : Ball :=
  if !s.sup.umpire || s.sup.die != .running || (List.range 4).any (fun u => s.umpHeld u || s.on (F.PROT_STATE_HELD u)) then .low
  else .released

/-- A reset cause marked in R77 is in force: the one that holds the control die, one that asserted beside it, or a rail's cause that
has not cleared. -/
def Supply.marked (p : Supply) : Bool :=
  causeUflt p.code || (List.range 32).any (fun k => p.also.getLsbD k && causeUflt k) || p.bad.any (fun c => causeUflt (causeCode c))

/-- UFLT_N: low while a fault of UMP_FAULT or a failure of the gate-off path is latched, or a reset cause so marked in R77 is in force
(R399, R536). -/
def State.ufltBall (s : State) : Ball :=
  if !s.sup.umpire || s.fld F.UMP_FAULT_FAULT != 0 || s.ump.grbLatched || (s.sup.die != .running && s.sup.marked) then .low else .released

/-- USDC runs whenever the umpire runs (R84). -/
def State.usdcBall (s : State) : Ball := if s.sup.umpire then .functional else .undriven

/-- The control die's outputs of one row of R84: what they show while the die is held, and functional while it runs. -/
def State.dieBall (s : State) (held : Ball) : Ball :=
  if !s.sup.umpire then .undriven else if s.sup.die == .running then .functional else held

/-- DCK and DSO; DCS_N and the serial clocks. -/
def State.dckBall (s : State) : Ball := s.dieBall .low
def State.dcsBall (s : State) : Ball := s.dieBall .high

/-- SDC0 to SDC7: low while EN is clear (R143). -/
def State.sdcBall (s : State) (k : Nat) : Ball :=
  let b := s.dieBall .low
  if b == .functional && !s.on (F.SDC_CFG_EN k) then .low else b

/-- RSX0 and RSX1: low while EN is clear and until the excitation has started (R168). -/
def State.rsxBall (s : State) (k : Nat) : Ball :=
  let b := s.dieBall .low
  if b == .functional && !(s.on (F.RSX_CFG_EN k) && s.sense.rsxAt.any (fun e => e.1 == k)) then .low else b

/-- What the excitation output carries at tick `t` after its start, as a fraction of full swing: AMP / 256 times the sine of its phase
(R168, R169). The bits of the modulator are no rule of the spec. -/
def State.rsxLevel (s : State) (k : Nat) (t : Nat) : FV :=
  fmul (fmul (fofInt (s.fld (F.RSX_CFG_AMP k))) ⟨0x3B800000#32, 0⟩)
    (fconst (sinWith sineEntry (rsxPhaseAt t (s.fld (F.RSX_CFG_PERIOD k)) (s.fld (F.RSX_PHASE_PHASE k))).toNat))

/-- The ring's transmitters: a crew member's stay in electrical idle until its PLL has declared LOCKED (R100). -/
def State.mecBall (s : State) : Ball :=
  let b := s.dieBall .idle
  if b == .functional && s.cascaded && s.fld F.PLL_STATUS_SRC != 1 && !s.onceLocked then .idle else b

/-- HMISO, CAN0_TX and CAN1_TX, of interface `i`: released while the control die does not run (R84, R88), until the first LOCKED (R100),
and while the interface is closed (R450). -/
def State.hostBall (s : State) (i : Nat) : Ball :=
  if s.sup.umpire && s.sup.die == .running && s.isOpen i then .functional else .highZ

/-- DBG_TDO. -/
def State.tdoBall (s : State) : Ball := if s.sup.umpire && s.sup.die == .running then .functional else .highZ

/-- HIRQ_N (R84, R100, R469). -/
def State.hirqBall (s : State) : Ball :=
  if s.sup.umpire && s.sup.die == .running && s.onceLocked && s.hirqLow then .low else .released

/-! ### Input balls (R57, R58, R84) -/

/-- The balls of R57 that have a bias: the input and the bidirectional balls, and OSPI_CS_N. -/
inductive InBall where
  | sto (k : Fin 2) | cfb (k : Fin 4) | rstN | usd (k : Fin 2) | uain (k : Fin 4)
  | flt (k : Fin 18) | fltb (k : Fin 4) | fltAux (k : Fin 2) | dsi | dalrt | pin (k : Fin 2) | sd (k : Fin 40) | ain (k : Fin 16)
  | enc (k : Fin 6) | hall (k : Fin 6) | serDi (k : Fin 2) | hsck | hmosi | hcsN | canRx (k : Fin 2)
  | tck | tms | tdi | testen | ospiCsN | ospiDqs | ospiD (k : Fin 8) | ref | mecRx (k : Fin 2)
  deriving DecidableEq, Repr

/-- What holds an input that nothing drives. -/
inductive Bias where
  | none | pullUp | pullDown | selfBiased
  deriving DecidableEq, Repr

/-- Bias of each ball (R57). -/
def InBall.bias : InBall → Bias
  | .sto _ | .cfb _ | .usd _ | .dsi | .pin _ | .sd _ | .hsck | .hmosi | .tck | .testen | .ospiDqs => .pullDown
  | .rstN | .flt _ | .fltb _ | .fltAux _ | .dalrt | .enc _ | .hall _ | .serDi _ | .hcsN | .canRx _ | .tms | .tdi | .ospiCsN => .pullUp
  | .ref | .mecRx _ => .selfBiased
  | .uain _ | .ain _ | .ospiD _ => .none

/-- The rail on which the ball's bias acts: V18 for the LV18 balls, VCORE for the differential inputs, VIO for the others (R56, R58). -/
def InBall.rail : InBall → Rail
  | .ospiCsN | .ospiDqs | .ospiD _ => .v18
  | .ref | .mecRx _ => .vcore
  | _ => .vio

/-- The bias in force: none with the safety die down, nor while the ball's rail is out of its range (R58, R84). -/
def State.inBias (s : State) (b : InBall) : Bias :=
  if s.sup.umpire && s.sup.good.contains b.rail && !s.sup.bad.any (fun c => causeRail c == b.rail) then b.bias else .none

/-- The octal flash interface: OSPI_CK; OSPI_CS_N, which its pull-up holds high while nothing drives it, as long as V18 is in range
(R57, R58, R84); and OSPI_D0 to D7 with OSPI_DQS. -/
def State.ospiCkBall (s : State) : Ball := s.dieBall .low
def State.ospiCsBall (s : State) : Ball := s.dieBall (if s.inBias .ospiCsN == .pullUp then .high else .undriven)
def State.ospiDataBall (s : State) : Ball := s.dieBall .highZ

def execGateReadbackMismatch (ball : Fin 52) (line level : Bool) (s : State) : Host.Outcome State Fault Refusal :=
  .next (gateReadbackMismatch ball line level s)

/-- The level that an undriven input reads (R58, R59). -/
def Bias.level : Bias → Option Bool
  | .pullUp => some true
  | .pullDown => some false
  | _ => Option.none

end Sys2Proof.Machine
end

