-- ==== Sys2Proof/Machine/RingRx.lean ====
section
/-! DEFINITION. What a cascade member receives on the Mecen ring: ordered sets, class-0 frames, and the transactions of the
stroke that it answers (19_cascade.md R479 to R509). -/

namespace Sys2Proof.Machine

/-- A quotient the spec does not round: either neighbour, by a free choice, unless it is exact (log entry 1). -/
def State.roundDiv (s : State) (num : Int) (den : Nat) : Int × State :=
  let q := num / (den : Int)
  if num % (den : Int) = 0 then (q, s)
  else
    let (c, t) := s.freshBool
    (if c then q + 1 else q, t)

/-! ### Lanes (R479, R482, R503) -/

/-- A sender's SRCOK on a ring (R482). -/
def State.sendsSrcok (s : State) (r : Nat) : Bool :=
  s.role == roleStroke || (s.on (F.LINK_STAT_RX_UP r) && s.on (F.LINK_STAT_SRCOK r))

/-- Check byte of an ordered set over its data characters (R480). -/
def setCheck (l : List Byte) : BitVec 8 := crc8 (8 * l.length) (l.foldl (fun a b => 256 * a + b.toNat) 0)

/-- The LS set that a member sends on a ring every 128 link cycles (R480, R482): status, position, check. -/
def State.lsSet (s : State) (r : Nat) : List Byte :=
  let l : List Byte := [BitVec.ofNat 8 ((if s.sendsSrcok r then 1 else 0) + (if s.pllState = pLocked then 2 else 0) +
    (if s.ring.enumerated then 4 else 0)), BitVec.ofNat 8 s.pos']
  l ++ [setCheck l]

/-- An ordered set arrives: one whose check byte fails is not taken (R480; log entry 113). -/
def State.takeSet (s : State) (l : List Byte) (check : BitVec 8) (act : State → State) : State :=
  s.onDie (fun s => if s.cascaded && setCheck l == check then act s else s)

/-- LS: two sets in a row without SRCOK on the lane that the PLL is locked to, whichever was locked while they came, are the loss of its
reference (R482, R503). -/
def ls (r : Fin 2) (status pos check : BitVec 8) (fines : List (BitVec 14)) (s : State) : State :=
  s.takeSet [status, pos] check (fun s =>
    if bit s.ring.down r then s
    else
      let srcok := status.getLsbD 0
      let n := if srcok then 0 else s.ring.noSrc.get r + 1
      let t := s.set (F.LINK_STAT_SRCOK r) (if srcok then 1 else 0)
      let t : State := { t with ring := { t.ring with noSrc := t.ring.noSrc.set r (min n 2) } }
      if 2 ≤ n ∧ t.role = roleCrew ∧ t.fld F.PLL_STATUS_SRC = 2 + (r : Nat) then t.refLost fines else t)

/-- CHARACTER_LOCK, with `same` when the other ring's lane reaches it in the same reference cycle (R91): the lane is usable unless
it is DOWN; the residence is measured at training, within its bounds. -/
def characterLock (r : Fin 2) (offset : Int) (same : Bool) (s : State) : State :=
  s.onDie (fun s =>
    if !s.cascaded then s
    else
      let t := s.set (F.LINK_STAT_CHAR_LOCK r) 1
      if bit t.ring.down r then t
      else
        let t := (t.set (F.LINK_STAT_RX_UP r) 1).laneLock r offset same
        if t.ring.res ≠ 0 then t
        else
          let (v, t) := t.fresh 16
          let x := 288 + v.toNat % 97
          ({ t with ring := { t.ring with res := x } } : State).set F.LINK_RES_RES x)

/-- Consecutive code violations at the end of a run of characters, and whether 16 in a row were reached. -/
def violRun : Nat → List Bool → Nat × Bool
  | n, [] => (n, false)
  | n, c :: l =>
    let k := if c then min 16 (n + 1) else 0
    let (m, b) := violRun k l
    (m, b || k == 16)

/-- LANE_DOWN: the characters received since the last such command, true for a code violation, and whether character lock was lost;
16 violations in a row, or the loss, take the lane DOWN (R482). -/
def laneDown (r : Fin 2) (chars : List Bool) (lost : Bool) (fines : List (BitVec 14)) (s : State) : State :=
  s.onDie (fun s =>
    if !s.cascaded then s
    else
      let k := s.devices
      let (n, run) := violRun (s.ring.viols.get r) chars
      let t : State := { s with ring := { s.ring with viols := s.ring.viols.set r n } }
      let t := t.bump (F.LINK_STAT_CODE_ERR r) (chars.filter (fun c => c)).length
      let t := t.when lost (fun t => t.set (F.LINK_STAT_CHAR_LOCK r) 0)
      if bit t.ring.down r || !t.on (F.LINK_STAT_RX_UP r) || !(lost || run) then t
      else
        let t : State := { t with ring := { t.ring with down := setBit t.ring.down r } }
        let t := (t.set (F.LINK_STAT_RX_UP r) 0).set (F.LINK_STAT_SRCOK r) 0
        let t := t.ev (if (r : Nat) = 0 then F.LINK_EVENT_LANE_DOWN0 else F.LINK_EVENT_LANE_DOWN1)
        let t := t.laneUnlock r fines
        ((t.ev F.CASC_EVENT_RING_BREAK).set F.CASC_STATE_DEGRADED 1).set F.CASC_STATE_BREAK
          (if (r : Nat) = 0 then (t.pos' + k - 1) % k else t.pos'))

/-- A frame discarded under R485. -/
def State.badFrame (s : State) (r : Nat) : State := (s.bump (F.LINK_STAT_CRC_ERR r)).ev F.LINK_EVENT_CRC

/-- LINK_ABORT. -/
def linkAbort (r : Fin 2) (s : State) : State := s.onDie (fun s => if s.cascaded && !bit s.ring.down r then s.badFrame r else s)

/-- The bytes of a frame before its CRC (R483): byte 3 is `b3`, bytes 4 to 7 are `addr`. -/
def ringBytes (h : RingHdr) (typ b3 addr : Nat) (payload : List Byte) : List Byte :=
  [BitVec.ofNat 8 typ, BitVec.ofNat 8 ((h.dst : Nat) + 16 * (h.src : Nat)), BitVec.ofNat 8 ((h.hops : Nat) + 16 * (h.ring : Nat)),
   BitVec.ofNat 8 b3] ++ le 4 addr ++ le 2 payload.length ++ le 2 h.attempt.toNat ++ payload

/-- Longest payload of a type (R483). -/
def ringLimit (typ : Nat) : Nat := if typ = tyExch then 32 else if typ = tySig then 24 else 1024

/-- The frame types of R484. -/
def ringTypes : List Nat := [tyExch, tySig, tyRd, tyWr, tyRsp, tyCtl, tyCtlr]

/-- The frame passes R485; every row of the command set that brings a frame names its TYPE. -/
def ringGood (h : RingHdr) (typ b3 addr : Nat) (payload : List Byte) : Bool :=
  !h.viol && ringTypes.contains typ && decide (payload.length ≤ ringLimit typ) && crcBytes (ringBytes h typ b3 addr payload) == h.crc

/-- A frame goes on around the ring with HOPS raised, unless it is for this position alone or has passed every device (R483). -/
def State.forward (s : State) (h : RingHdr) : State :=
  { s with ring := { s.ring with fwd :=
      if (h.dst : Nat) ≠ s.pos' ∧ (h.hops : Nat) + 2 < s.devices then some { h with hops := h.hops + 1 } else none } }

/-- A frame arrives: it is forwarded before it is judged; a bad one is counted, one for this position or for all is taken (R483,
R485). What comes over a DOWN lane is out of use (R482). -/
def State.takeFrame (s : State) (h : RingHdr) (typ b3 addr : Nat) (payload : List Byte) (act : State → State) : State :=
  s.onDie (fun s =>
    if !s.cascaded || bit s.ring.down h.ring then s
    else
      let s := s.forward h
      if !ringGood h typ b3 addr payload then s.badFrame h.ring
      else if (h.dst : Nat) = s.pos' ∨ (h.dst : Nat) = allMembers then act s
      else s)

/-! ### Notices (R504, R507) -/

/-- SSN of another member. -/
def ssn (pos : Fin 8) (reason check : BitVec 8) (s : State) : State :=
  s.takeSet [BitVec.ofNat 8 pos, reason] check (fun s =>
    if (pos : Nat) == s.pos' then s
    else
      let t := s.ev F.CASC_EVENT_SSN_RX
      let t := if t.rd R.CASC_SSN = 0 then
          ((t.set F.CASC_SSN_POS pos).set F.CASC_SSN_REASON reason.toNat).set F.CASC_SSN_CATCH t.stamp else t
      let was := t.ring.sent
      let t := t.each ([0, 1].filter t.live.bound) (fun d t => t.protReq d none)
      { t with ring := { t.ring with sent := was } })

/-- REV with target N + 2 of the switch in hand. -/
def rev (bits : BitVec 8) (pos : Fin 8) (check : BitVec 8) (s : State) : State :=
  s.takeSet [bits, BitVec.ofNat 8 pos] check (fun s =>
    let m := s.ring.mode
    if (pos : Nat) != s.pos' && m.phase == 1 && decide (s.cat.num ≤ m.n + 1) && bits.toNat == (m.n + 2) % 256 then
      { s with ring := { s.ring with mode := { m with phase := 2, revertAt := m.n + 2 } } }
    else s)

/-! ### Delay probes (R492) -/

/-- DLY: a crew member stamps both arrivals of a round, the stroke measures both loop times. -/
def dly (r : Fin 2) (round check : BitVec 8) (arrival : Nat) (s : State) : State :=
  s.takeSet [round, 0] check (fun s =>
    if 64 ≤ s.ring.rounds.length ∨ bit s.ring.down r = true then s
    else
      let x : Int := if s.role = roleStroke then (arrival : Int) - s.ring.txAt else arrival
      let keep : State := { s with ring := { s.ring with half := some (round.toNat, r, x.toNat) } }
      match s.ring.half with
      | some (k, r0, a0) =>
        if r0 = (r : Nat) ∨ k ≠ round.toNat then keep
        else
          let pair := if (r : Nat) = 1 then ((a0 : Int), x) else (x, (a0 : Int))
          { s with ring := { s.ring with half := none, rounds := pair :: s.ring.rounds } }
      | none => keep)

/-! ### Catch alignment (R495 to R497) -/

/-- The alignment is lost. -/
def State.alignLost (s : State) : State := ((s.set F.CASC_STATE_ALIGNED 0).ev F.CASC_EVENT_ALIGN_LOST).ssn ssnAlign

/-- The error of a catch. -/
def State.alignError (s : State) (e : Int) : State :=
  let a := e.natAbs
  let g := if a ≤ 8 then min (s.ring.good + 1) 64 else 0
  let b := if 64 < a then s.ring.bad + 1 else 0
  let sum := s.ring.epsSum + e
  let full := s.ring.epsN + 1 == 16
  let step : Int := if full && 16 ≤ sum.natAbs then (if 0 < sum then -1 else 1) else 0
  let t : State := { s with ring := { s.ring with
    good := g, bad := b, cmSeen := true, noCm := 0, epsSum := if full then 0 else sum, epsN := if full then 0 else s.ring.epsN + 1,
    base := s.ring.base + step } }
  let t := t.iset F.CASC_ALIGN_ERR (clampI e (-32768) 32767)
  let t := if g = 64 then t.set F.CASC_STATE_ALIGNED 1 else t
  if b = 4 then t.alignLost else t

/-- The number of a catch that a marker's bits name: the full number that CTL ALIGN gives, or the next one after the
member's own count once that is known. -/
def State.markerNum (s : State) (bits : Nat) : Option Nat :=
  if s.ring.placed then some (s.cat.num + 1 + (bits + 2 ^ 24 - (s.cat.num + 1) % 2 ^ 24) % 2 ^ 24)
  else match s.ring.num48 with
    | some n => if n % 2 ^ 24 = bits then some n else none
    | none => none

/-- CM on the ring that the PLL is locked to: before the first catch it places that catch, afterwards it gives ε. -/
def cm (r : Fin 2) (bits : BitVec 24) (flags check : BitVec 8) (arrival : Nat) (s : State) : State :=
  s.takeSet (le 3 bits.toNat ++ [flags]) check (fun s =>
    if !s.isCrew || bit s.ring.down r || s.fld F.PLL_STATUS_SRC != 2 + (r : Nat) || s.cat.waitLock || !(s.on F.CATCH_CTRL_RUN || s.cat.first) then s
    else
      let s := s.set F.CASC_ALIGN_MSRC r
      let d := s.fld (if (r : Nat) = 0 then F.CASC_DELAY_D0 else F.CASC_DELAY_D1)
      let at' : Int := (arrival : Int) + 4000 - d
      if s.cat.first || !s.ring.placed then
        match s.markerNum bits.toNat with
        | some n =>
          { s.set F.CATCH_CTRL_RUN 1 with
                   cat := { s.cat with num := n - 1, next := (at' / 32).toNat }
                   ring := { s.ring with placed := true, base := at' % 32, cmSeen := true } }
        | none => s
      else
        let own := fun (tick : Nat) => 32 * (tick : Int) + s.ring.base
        let e0 := own s.cat.tick - at'
        let e1 := own s.cat.next - at'
        let (e, n) := if e0.natAbs < e1.natAbs then (e0, s.cat.num) else (e1, s.cat.num + 1)
        if n % 2 ^ 24 ≠ bits.toNat then
          ({ s with ring := { s.ring with cmSeen := true } } : State).ev F.CASC_EVENT_CATCH_SLIP |>.ssn ssnAlign
        else s.alignError e)

/-! ### EXCH and SIG (R498 to R502) -/

/-- Input of a receive channel for a sender's channel: binding index, LAG and W. -/
def State.exchInputs (s : State) (src ch : Nat) : List (Nat × Nat × Nat) :=
  s.live.bind.zipIdx.filterMap (fun e => match e.1 with
    | .exch _ body =>
      let w := body.getD 0 0
      if w % 2 = 1 ∧ w / 2 % 16 = src ∧ w / 2 ^ 10 % 16 = ch then some (e.2, w / 2 ^ 9 % 2, w / 2 ^ 5 % 16) else none
    | _ => none)

/-- EXCH_FRAME: the first good copy counts for catch CATCH + LAG. -/
def exchFrame (h : RingHdr) (ch : Fin 16) (num : Word) (words : List Word) (s : State) : State :=
  s.takeFrame h tyExch ch num.toNat (wordBytes words) (fun s =>
    let key := 16 * (h.src : Nat) + ch
    if s.ring.exch.any (fun e => e.1 == key && e.2 == num.toNat) then s
    else
      let t : State := { s with ring := { s.ring with exch := (key, num.toNat) :: s.ring.exch.filter (fun e => e.1 != key || decide (num.toNat < e.2 + 8)) } }
      t.each (t.exchInputs h.src ch) (fun e t =>
        t.when (e.2.2 == words.length) (fun t => t.datum e.1 ((num.toNat + e.2.1) % 256) words true)))

/-- The payload of this member's SIG frame for catch `n`, which has closed. -/
def State.sigPayload (s : State) (n : Nat) : List Byte :=
  let f := (if s.pllState = pCoast then 1 else 0) + (if (List.range 4).any s.inSafe then 2 else 0) +
    (if s.on F.CASC_STATE_ALIGNED then 4 else 0) + (if s.cat.lateEsc = 0 then 0 else 8)
  le 6 n ++ [0, 0] ++ (wordBytes s.liveDigest).take 8 ++ le 4 (s.rd R.CATCH_WSIG).toNat ++ le 4 f

/-- SIG. On the stroke the first one with COAST relays easy-all with the clock cause (R497). -/
def sig (h : RingHdr) (num : BitVec 48) (dig : List Byte) (wsig flags : Word) (s : State) : State :=
  s.takeFrame h tySig 0 num.toNat (le 6 num.toNat ++ [0, 0] ++ dig ++ le 4 wsig.toNat ++ le 4 flags.toNat) (fun s =>
    let p : Nat := h.src
    if p = s.pos' ∨ bit (s.fld F.CASC_MEMBERS_LOST) p = true ∨ s.devices ≤ p then s
    else
      let coasts := fun (e : Nat × Nat × List Byte × Nat) => bit e.2.2.2 0
      let old := s.ring.sigs.find? (fun e => e.1 == p)
      let rest := s.ring.sigs.filter (fun e => !(e.1 == p && e.2.1 == num.toNat) && decide (num.toNat < e.2.1 + 8))
      let t : State := { s with ring := { s.ring with sigs := (p, num.toNat, dig.take 8, flags.toNat) :: rest } }
      let t := t.setFldBit F.CASC_MEMBERS_ALIVE p
      let first := flags.getLsbD 0 && !(match old with | some e => coasts e | none => false)
      if t.role = roleStroke ∧ first = true then t.easyAll 5 else t)

/-! ### Transactions that a member answers (R486 to R488) -/

/-- The request of a frame, as far as an identical repeat must equal it (R486). -/
def reqKey (h : RingHdr) (typ addr : Nat) (body : List Byte) : List Byte :=
  [BitVec.ofNat 8 typ, BitVec.ofNat 8 ((h.dst : Nat) + 16 * (h.src : Nat)), BitVec.ofNat 8 h.tag] ++ le 4 addr ++ body

/-- The last answer kept for a source and a tag. -/
def State.keepAnswer (s : State) (h : RingHdr) (req ans : List Byte) : State :=
  let k := 128 * (h.src : Nat) + h.tag
  { s with ring := { s.ring with answers := (k, req, ans) :: s.ring.answers.filter (fun e => e.1 != k) } }

/-- A request of the stroke: an identical repeat gets the answer that was kept, or waits with its first copy for the one to come; anything
else is executed. -/
def State.ringRequest (s : State) (h : RingHdr) (typ addr : Nat) (body : List Byte) (act : List Byte → State → State) : State :=
  s.takeFrame h typ h.tag addr body (fun s =>
    let req := reqKey h typ addr body
    if s.ring.answers.any (fun e => e.1 == 128 * (h.src : Nat) + (h.tag : Nat) && e.2.1 == req) ||
        s.ring.due == some ((h.src : Nat), (h.tag : Nat), req) then s
    else act req s)

/-- RSP of an RD or WR: STATUS, ERR, and data (R484). -/
def State.answerRsp (s : State) (h : RingHdr) (req : List Byte) (status err : Nat) (data : List Byte) : State :=
  s.keepAnswer h req ([BitVec.ofNat 8 status, BitVec.ofNat 8 err] ++ data)

/-- The accesses that attestation itself needs are open before it has passed: those of the load buffer (log entry 41). -/
def State.ringOpen (s : State) (addr n : Nat) : Bool :=
  s.ring.trusted || (decide (0 < n) && hostRegion addr == 4 && hostRegion (addr + 4 * n - 4) == 4)

/-- Checks of an RD or WR of `n` words; 0 if all pass. -/
def State.ringCheck (s : State) (read : Bool) (addr n : Nat) : Nat :=
  let a := addr / 4 * 4
  let z := a + 4 * n - 4
  if !s.ringOpen addr n then stBadOpcode
  else if n = 0 ∨ 256 < n then (if read then stBadField else stBadLen)
  else if 2 ^ 32 ≤ z ∨ hostRegion a ≠ hostRegion z ∨ (hostRegion a = 1 ∧ a / 0x1000 ≠ z / 0x1000) then stBadRange
  else 0

/-- RD; `bad`: words whose SRAM holds an uncorrectable error. -/
def rdTxn (h : RingHdr) (addr : Word) (count : BitVec 16) (bad : List (Nat × MemErr)) (s : State) : State :=
  s.ringRequest h tyRd addr.toNat (le 2 count.toNat ++ [0, 0]) (fun req s =>
    if (h.src : Nat) ≠ 0 ∨ s.isCrew = false then s
    else match s.ringCheck true addr.toNat count.toNat with
      | 0 =>
        let ((r, ws), t) := readLoop .ring bad count.toNat 0 addr.toNat [] s
        match r with
        | none => t.answerRsp h req 0 0 (wordBytes ws)
        | some (k, c) => t.answerRsp h req stPageErr c (le 4 k)
      | c => s.answerRsp h req c 0 [])

/-- WR. -/
def wrTxn (h : RingHdr) (addr : Word) (words : List Word) (s : State) : State :=
  s.ringRequest h tyWr addr.toNat (wordBytes words) (fun req s =>
    if (h.src : Nat) ≠ 0 ∨ s.isCrew = false then s
    else match s.ringCheck false addr.toNat words.length with
      | 0 =>
        let (r, t) := writeLoop .ring words 0 addr.toNat s
        match r with
        | none => t.answerRsp h req 0 0 (le 6 (t.writeCatch addr.toNat words.length) ++ [0, 0])
        | some (k, c) => t.answerRsp h req stPageErr c (le 4 k)
      | c => s.answerRsp h req c 0 [])

/-- Status values of a CTLR (R488). -/
def csOk := 0
def csRefused := 1
def csNotNow := 2
def csBadLen := 3
def csUnknown := 4

/-- CTLR. -/
def State.answerCtl (s : State) (h : RingHdr) (req : List Byte) (code status : Nat) (body : List Byte) : State :=
  s.keepAnswer h req ([BitVec.ofNat 8 code, BitVec.ofNat 8 status, 0, 0] ++ body)

/-- Codes executed before attestation has passed (R487), and codes that need READY (R488). -/
def ctlEarly (code : Nat) : Bool := [ctEnum, ctLoop, ctNonce, ctGetNonce, ctVerify, ctRestart].contains code
def ctlReady (code : Nat) : Bool := [ctDrive, ctPrepare, ctGo, ctAbort].contains code

/-- Payload of a CTL message (R488). -/
def ctlBody (code : Nat) (body : List Byte) : List Byte := [BitVec.ofNat 8 code, 0, 0, 0] ++ body

/-- Payload of the CTL message that has come: the row's own code and body, or what has come in their place. -/
def ctlSent (code : Nat) (body : List Byte) : Option CtlOdd → List Byte
  | some o => ctlBody o.code.toNat o.body
  | none => ctlBody code body

/-- A CTL message at a crew member: UNKNOWN for a code that is not listed, BAD_LEN unless LEN matches the code's body, else `act` gives
STATUS and body of the answer (NOT_NOW before BAD_LEN: log entry 114). `odd` is what has come in place of the row's code and body. -/
def State.ctl (s : State) (h : RingHdr) (code : Nat) (body : List Byte) (odd : Option CtlOdd) (lenOk : Bool)
    (act : State → (Nat × List Byte) × State) : State :=
  let c := match odd with | some o => o.code.toNat | none => code
  s.ringRequest h tyCtl 0 (ctlSent code body odd) (fun req s =>
    if (h.src : Nat) ≠ 0 ∨ s.isCrew = false then s
    else if c = 0 ∨ 12 < c then s.answerCtl h req c csUnknown []
    else if (!s.ring.trusted && !ctlEarly c) || (ctlReady c && !s.on F.CASC_STATE_READY) then
      s.answerCtl h req c csNotNow []
    else if !lenOk || odd.isSome then s.answerCtl h req c csBadLen []
    else
      let ((st, b), t) := act s
      t.answerCtl h req code st b)

/-- ENUM (R491). A device locked to REFP/REFN reports ROLE_CONFLICT. -/
def enum (h : RingHdr) (ring : Fin 2) (odd : Option CtlOdd) (s : State) : State :=
  let body : List Byte := [BitVec.ofNat 8 ring, 0, 0, 0]
  if s.role = roleStroke then s.takeFrame h tyCtl h.tag 0 (ctlSent ctEnum body odd) (fun s => s.when odd.isNone (fun s => s.startFail 5 0 1))
  else
    let k := s.devices
    let hop : Nat := (h.hops : Nat) + 1
    let id := s.identity.take 8
    s.ctl h ctEnum body odd true (fun s =>
      if (ring : Nat) = 0 then
        let t := (s.set F.CASC_STATE_POS hop).wr (R.CASC_ID (hop % 8)) (bytesWord id)
        ((csOk, [BitVec.ofNat 8 hop, 0, 0, 0] ++ id), { t with ring := { t.ring with enumerated := true } })
      else
        let p := k - hop
        ((csOk, [BitVec.ofNat 8 p, 0, 0, 0] ++ id), if p = s.pos' then s else s.startFail 5 s.pos' 0))

/-- LOOP (R492). -/
def loop (h : RingHdr) (l : Word) (odd : Option CtlOdd) (s : State) : State :=
  s.ctl h ctLoop (le 4 l.toNat) odd true (fun s =>
    let n := s.ring.rounds.length
    if n = 0 then ((csNotNow, []), s)
    else
      let span : Int := (l.toNat : Int) - s.ring.res
      let delta := (s.ring.rounds.map (fun e => e.2 - e.1)).sum
      let (d0, t) := s.roundDiv ((n : Int) * span - delta) (2 * n)
      let d1 := span - d0
      let t := (t.iset F.CASC_DELAY_D0 d0).iset F.CASC_DELAY_D1 d1
      ((csOk, le 2 (unsigned 16 d0) ++ le 2 (unsigned 16 d1)), { t with ring := { t.ring with loop := l.toNat } }))

/-- NONCE (R493): the member signs its report, and answers once that has ended. -/
def nonce (h : RingHdr) (nonce : List Byte) (s : State) : State :=
  s.ringRequest h tyCtl 0 (ctlBody ctNonce nonce) (fun req s =>
    if (h.src : Nat) ≠ 0 ∨ s.isCrew = false then s
    else if nonce.length ≠ 16 then s.answerCtl h req ctNonce csBadLen []
    else
      let (k, t) := s.signStart none nonce
      if k = 0 then { t with ring := { t.ring with due := some (h.src, h.tag, req) } }
      else t.answerCtl h req ctNonce csRefused [BitVec.ofNat 8 k])

/-- GET_NONCE: a fresh nonce of the member's own. -/
def getNonce (h : RingHdr) (odd : Option CtlOdd) (s : State) : State :=
  s.ctl h ctGetNonce [] odd true (fun s =>
    let (v, t) := s.fresh 128
    let n := le 16 v.toNat
    ((csOk, n), { t with ring := { t.ring with nonceOwn := (0, n) :: t.ring.nonceOwn.filter (fun e => e.1 != 0) } }))

/-- Verdict over a report: 1 signature, 2 identity, 3 unpaired, 4 nonce list (R488, R522, R523). -/
def State.verdict (s : State) (o : List Byte) (pos : Nat) (nonce : List Byte) : Nat :=
  let id := (o.drop 24).take 64
  if o.length ≠ 7539 ∨ o.take 4 ≠ le 4 0x5441525A ∨ digestOk o 256 = false ∨ sigOk ctxAtt o 256 = false then 1
  else if s.boot.pairOk = false ∨ s.boot.pair.length ≤ pos then 3
  else if id ≠ digestOf (objKey o 256) ∨ s.boot.pair.getD pos [] ≠ id then 2
  else if (o.drop 8).take 16 ≠ nonce then 4
  else 0

/-- VERIFY_STROKE: the stroke's report stands in the load buffer. -/
def verifyStroke (h : RingHdr) (len : Word) (nonces : List (List Byte)) (s : State) : State :=
  s.ctl h ctVerify (le 4 len.toNat ++ nonces.flatten) none
    (nonces.length + 1 == s.devices && nonces.all (fun n => n.length == 16)) (fun s =>
    let o := s.bufBytes (min len.toNat 262144)
    let mine := ((s.ring.nonceOwn.find? (fun e => e.1 == 0)).map (fun e => e.2)).getD []
    let v := s.verdict o 0 ((digestOf nonces.flatten).take 16)
    let v := if v = 0 ∧ (mine = [] ∨ nonces.getD (s.pos' - 1) [] ≠ mine) then 4 else v
    ((csOk, [BitVec.ofNat 8 v, 0, 0, 0]),
      if v = 0 then
        let id := (o.drop 24).take 64
        let s := s.wr (R.CASC_ID 0) (bytesWord id)
        { s with ring := { s.ring with trusted := true, ids := (0, id) :: s.ring.ids.filter (fun e => e.1 != 0) } }
      else s.startFail 7 s.pos' v))

/-- ALIGN (R495). -/
def align (h : RingHdr) (num : BitVec 48) (odd : Option CtlOdd) (s : State) : State :=
  s.ctl h ctAlign (le 6 num.toNat ++ [0, 0]) odd true (fun s => ((csOk, []), { s with ring := { s.ring with num48 := some num.toNat } }))

/-- Every EXCH binding names a position below DEVICES (R489). -/
def State.exchValid (s : State) : Bool :=
  s.live.bind.all (fun e => match e with
    | .exch _ body =>
      let w := body.getD 0 0
      decide (w / 2 % 16 < s.devices) || (w % 2 == 0 && w / 2 % 16 == 15)
    | _ => true)

/-- Flags of READY_Q: the LIVE digest is held against that of the plan which the stroke has distributed to this member. -/
def State.readyFlags (s : State) : Nat :=
  (if s.on F.CASC_STATE_ALIGNED then 1 else 0) + (if s.liveValid && wordBytes s.liveDigest == s.ring.mine then 2 else 0) +
    (if (List.range 4).any s.inSafe then 0 else 4) + (if s.exchValid then 8 else 0)

/-- READY_Q (R489). -/
def readyQ (h : RingHdr) (odd : Option CtlOdd) (s : State) : State :=
  s.ctl h ctReadyQ [] odd true (fun s => ((csOk, [BitVec.ofNat 8 s.readyFlags, 0, 0, 0] ++ (wordBytes s.liveDigest).take 8), s))

/-- DRIVE (R501): it waits for its catch. -/
def driveMsg (h : RingHdr) (unit action : BitVec 8) (num : BitVec 48) (d0 d1 d2 : Word) (odd : Option CtlOdd) (s : State) : State :=
  s.ctl h ctDrive ([unit, action, 0, 0] ++ le 6 num.toNat ++ [0, 0] ++ wordBytes [d0, d1, d2]) odd true (fun s =>
    ((csOk, []),
      if unit.toNat < 2 then
        { s with ring := { s.ring with drive := s.ring.drive ++ [⟨unit.toNat, action.toNat, num.toNat, [d0, d1, d2]⟩] } }
      else s))

/-- PREPARE (R505): the checks of R191 without TOO_SOON. -/
def prepare (h : RingHdr) (num : BitVec 48) (old new : List (List Byte)) (s : State) : State :=
  s.ctl h ctPrepare (le 6 num.toNat ++ [0, 0] ++ (List.zipWith (fun a b => a ++ b) old new).flatten) none
    (old.length == s.devices && new.length == s.devices && (old ++ new).all (fun d => d.length == 8)) (fun s =>
    let (c, t) := s.planArm num.toNat true
    if c = 0 then
      ((csOk, wordBytes t.stageDigest),
        { t with ring := { t.ring with mode := ⟨num.toNat, old, new, 0, false, 1, 0⟩ } })
    else ((csRefused, [BitVec.ofNat 8 c]), t))

/-- GO (R505): taken before the start of the member's own catch N − 2. -/
def go (h : RingHdr) (num : BitVec 48) (odd : Option CtlOdd) (s : State) : State :=
  s.ctl h ctGo (le 6 num.toNat ++ [0, 0]) odd true (fun s =>
    if s.stageState = sArmed ∧ s.fab.armN = num.toNat ∧ s.cat.num + 2 < num.toNat then
      ((csOk, []), { s with fab := { s.fab with go := true } })
    else ((csRefused, [0x0A]), s))

/-- ABORT (R506): the member cancels its ARM. -/
def ctlAbort (h : RingHdr) (num : BitVec 48) (odd : Option CtlOdd) (s : State) : State :=
  s.ctl h ctAbort (le 6 num.toNat ++ [0, 0]) odd true (fun s =>
    if s.stageState = sArmed ∧ s.fab.armN = num.toNat then
      ((csOk, []), { s.dropSwitch 0x00 with ring := { s.ring with mode := Mode.init } })
    else if s.stageState = sCommitted then ((csRefused, [0x08]), s)
    else ((csOk, []), s))

/-- RESTART (R490): answered, and then the member returns to start step 4. -/
def restart (h : RingHdr) (odd : Option CtlOdd) (s : State) : State :=
  let t := s.ctl h ctRestart [] odd true (fun s => ((csOk, []), s))
  if t.ring.answers = s.ring.answers ∨ odd.isSome = true then t else t.toStep4

def execLs (r : Fin 2) (status pos check : BitVec 8) (fines : List (BitVec 14)) (s : State) : Host.Outcome State Fault Refusal :=
  .next (ls r status pos check fines s)
def execCharacterLock (r : Fin 2) (offset : Int) (same : Bool) (s : State) : Host.Outcome State Fault Refusal :=
  .next (characterLock r offset same s)
def execLaneDown (r : Fin 2) (chars : List Bool) (lost : Bool) (fines : List (BitVec 14)) (s : State) :
    Host.Outcome State Fault Refusal := .next (laneDown r chars lost fines s)
def execLinkAbort (r : Fin 2) (s : State) : Host.Outcome State Fault Refusal := .next (linkAbort r s)
def execSsn (pos : Fin 8) (reason check : BitVec 8) (s : State) : Host.Outcome State Fault Refusal := .next (ssn pos reason check s)
def execRev (bits : BitVec 8) (pos : Fin 8) (check : BitVec 8) (s : State) : Host.Outcome State Fault Refusal :=
  .next (rev bits pos check s)
def execCm (r : Fin 2) (bits : BitVec 24) (flags check : BitVec 8) (arrival : Nat) (s : State) : Host.Outcome State Fault Refusal :=
  .next (cm r bits flags check arrival s)
def execExchFrame (h : RingHdr) (ch : Fin 16) (num : Word) (words : List Word) (s : State) : Host.Outcome State Fault Refusal :=
  .next (exchFrame h ch num words s)
def execSig (h : RingHdr) (num : BitVec 48) (dig : List Byte) (wsig flags : Word) (s : State) : Host.Outcome State Fault Refusal :=
  .next (sig h num dig wsig flags s)
def execRd (h : RingHdr) (addr : Word) (count : BitVec 16) (bad : List (Nat × MemErr)) (s : State) : Host.Outcome State Fault Refusal :=
  .next (rdTxn h addr count bad s)
def execWr (h : RingHdr) (addr : Word) (words : List Word) (s : State) : Host.Outcome State Fault Refusal :=
  .next (wrTxn h addr words s)
def execEnum (h : RingHdr) (ring : Fin 2) (odd : Option CtlOdd) (s : State) : Host.Outcome State Fault Refusal := .next (enum h ring odd s)
def execLoop (h : RingHdr) (l : Word) (odd : Option CtlOdd) (s : State) : Host.Outcome State Fault Refusal := .next (loop h l odd s)
def execNonce (h : RingHdr) (n : List Byte) (s : State) : Host.Outcome State Fault Refusal := .next (nonce h n s)
def execGetNonce (h : RingHdr) (odd : Option CtlOdd) (s : State) : Host.Outcome State Fault Refusal := .next (getNonce h odd s)
def execVerifyStroke (h : RingHdr) (len : Word) (nonces : List (List Byte)) (s : State) : Host.Outcome State Fault Refusal :=
  .next (verifyStroke h len nonces s)
def execAlign (h : RingHdr) (num : BitVec 48) (odd : Option CtlOdd) (s : State) : Host.Outcome State Fault Refusal := .next (align h num odd s)
def execReadyQ (h : RingHdr) (odd : Option CtlOdd) (s : State) : Host.Outcome State Fault Refusal := .next (readyQ h odd s)
def execDrive (h : RingHdr) (unit action : BitVec 8) (num : BitVec 48) (d0 d1 d2 : Word) (odd : Option CtlOdd) (s : State) :
    Host.Outcome State Fault Refusal := .next (driveMsg h unit action num d0 d1 d2 odd s)
def execPrepare (h : RingHdr) (num : BitVec 48) (old new : List (List Byte)) (s : State) : Host.Outcome State Fault Refusal :=
  .next (prepare h num old new s)
def execGo (h : RingHdr) (num : BitVec 48) (odd : Option CtlOdd) (s : State) : Host.Outcome State Fault Refusal := .next (go h num odd s)
def execCtlAbort (h : RingHdr) (num : BitVec 48) (odd : Option CtlOdd) (s : State) : Host.Outcome State Fault Refusal := .next (ctlAbort h num odd s)
def execRestart (h : RingHdr) (odd : Option CtlOdd) (s : State) : Host.Outcome State Fault Refusal := .next (restart h odd s)

end Sys2Proof.Machine
end

