-- ==== Sys2Proof/Machine/Ring.lean ====
section
/-! DEFINITION. The stroke's part of a drive, the drive-wide plan switch on every member, and the catch of the device
(19_cascade.md R486 to R507). -/

namespace Sys2Proof.Machine

/-! ### What the stroke knows of its members -/

/-- Positions of the crew. -/
def State.crew (s : State) : List Nat := (List.range s.devices).filter (fun p => p != 0)

/-- Every crew position in a set of bits. -/
def State.allCrew (s : State) (got : Nat) : Bool := s.crew.all (fun p => bit got p)

/-- Digest distributed to a position: of its STAGE plan, or of its LIVE plan, which stands 16 above. -/
def State.distOf (s : State) (p : Nat) : Option (List Byte) := (s.ring.dist.find? (fun e => e.1 == p)).map (fun e => e.2)
def State.setDist (s : State) (p : Nat) (d : List Byte) : State :=
  { s with ring := { s.ring with dist := (p, d) :: s.ring.dist.filter (fun e => e.1 != p) } }

/-- The distributed STAGE plans have become LIVE. -/
def State.distLive (s : State) : State :=
  { s with ring := { s.ring with dist := s.ring.dist.filterMap (fun e => if e.1 < 16 then some (e.1 + 16, e.2) else none) } }

/-- The distributed plans have changed places with the LIVE ones. -/
def State.distSwap (s : State) : State :=
  { s with ring := { s.ring with dist := s.ring.dist.map (fun e => (if e.1 < 16 then e.1 + 16 else e.1 - 16, e.2)) } }

/-- First 8 bytes of a digest. -/
def digPrefix (d : List Byte) : List Byte := d.take 8

def State.setNonce (s : State) (k : Nat) (n : List Byte) : State :=
  { s with ring := { s.ring with nonceOwn := (k, n) :: s.ring.nonceOwn.filter (fun e => e.1 != k) } }
def State.nonceOf (s : State) (k : Nat) : List Byte := ((s.ring.nonceOwn.find? (fun e => e.1 == k)).map (fun e => e.2)).getD []

/-- Nonces of the crew in position order (R523). -/
def State.crewNonces (s : State) : List (List Byte) := s.crew.map s.nonceOf

/-! ### Attestation on the stroke (R493, R523) -/

/-- The stroke asks a position for its report over a fresh nonce; behind the last position it signs its own. -/
def State.attestAt (s : State) (p : Nat) : State :=
  if p < s.devices then
    let (v, t) := s.fresh 128
    let n := le 16 v.toNat
    (t.setNonce (16 + p) n).sendCtl 0 p ctNonce n
  else
    let (k, t) := s.signStart none ((digestOf s.crewNonces.flatten).take 16)
    if k = 0 then t else t.startFail 7 0 k

/-- The report of position `p` has been read: its verdict, and the member's own nonce is asked for. -/
def State.reportRead (s : State) (p : Nat) : State :=
  let o := s.ring.rep
  let t : State := { s with ring := { s.ring with xfer := none } }
  match t.verdict o p (t.nonceOf (16 + p)) with
  | 0 =>
    let id := (o.drop 24).take 64
    let t : State := { t with ring := { t.ring with ids := (p, id) :: t.ring.ids.filter (fun e => e.1 != p) } }
    t.sendCtl 0 p ctGetNonce []
  | 3 => { t with ring := { t.ring with unpaired := setBit t.ring.unpaired p } } |>.startFail 7 p 3
  | v => t.startFail 7 p v

/-- The stroke's report goes to a position; behind the last one attestation has passed. -/
def State.reportTo (s : State) (p : Nat) : State :=
  if p < s.devices then s.xferStart ⟨1, p, 7539, 0, 1⟩
  else { s with ring := { s.ring with trusted := true, xfer := none } }

/-! ### Plans (R494) -/

/-- The stroke polls the load of a position. -/
def State.poll (s : State) (p : Nat) : State := s.sendTxn 0 p tyRd (R.MB_STATE strokeChannel) (le 2 2 ++ [0, 0])

/-- A request of a member's mailbox. -/
def State.memberReq (s : State) (p sv : Nat) : State :=
  s.sendTxn 0 p tyWr (R.MB_REQ strokeChannel) (le 4 (sv + 256 * s.ring.nextTag))

/-- Every load of start step 8 has ended: the plans are activated on every member. -/
def State.tryActivate (s : State) : State :=
  if s.startStep = 8 ∧ s.ring.dist8 = 0 ∧ s.ring.xfer = none ∧ s.ring.polls = [] ∧ s.stageState = sVerified ∧
      s.crew.all (fun p => (s.distOf p).isSome) = true then
    let t := s.planActivate.2
    (t.each t.crew (fun p t => t.memberReq p svActivate)).distLive
  else s

/-- The member has taken the request: its load runs, and in step 8 the next position follows. -/
def State.loadRuns (s : State) (p : Nat) : State :=
  let t : State := { s with ring := { s.ring with xfer := none, polls := s.ring.polls ++ [p] } }
  let t : State := if t.startStep = 8 then
      { t with ring := { t.ring with dist8 := if p + 1 < t.devices then p + 1 else 0 } } else t
  t.poll p

/-- A piece of a transfer has been answered. -/
def State.xferPiece (s : State) (x : Xfer) (data : List Word) : State :=
  let o := x.ofs + 1024
  let s : State := if x.kind = 2 then { s with ring := { s.ring with rep := (s.ring.rep ++ wordBytes data).take x.len } } else s
  if o < x.len then
    let y := { x with ofs := o }
    ({ s with ring := { s.ring with xfer := some y } } : State).sendPiece y
  else match x.kind with
    | 0 =>
      ({ s with ring := { s.ring with xfer := some { x with step := 2 } } } : State).sendTxn 0 x.pos tyWr (R.MB_ARG strokeChannel 0)
        (wordBytes [1, BitVec.ofNat 32 x.len, 0, 0])
    | 1 =>
      ({ s with ring := { s.ring with xfer := none } } : State).sendCtl 0 x.pos ctVerify (le 4 x.len ++ s.crewNonces.flatten)
    | _ => s.reportRead x.pos

/-! ### Answers (R486) -/

/-- A transfer, or a start, fails because a transaction of it has failed. -/
def State.txnFailed (s : State) (x : RingTxn) (detail : Nat) : State :=
  if x.typ = tyCtl then
    match byteAt x.body 0 with
    | 1 => s.startFail 5 0 detail
    | 2 => s.startFail 6 0 detail
    | 3 => s.startFail 7 x.dst detail
    | 4 => s.startFail 7 x.dst detail
    | 5 => s.startFail 7 x.dst detail
    | 6 => s.startFail 10 0 detail
    | 7 => s.startFail 11 0 detail
    | _ => s
  else match s.ring.xfer with
    | some y => if y.kind ≠ 0 ∧ y.pos = x.dst then s.startFail 7 x.dst detail else s.xferEnd x.dst detail
    | none => if x.addr = R.MB_REQ strokeChannel then s.startFail 8 x.dst detail else s.xferEnd x.dst detail

/-- The outstanding transaction that an answer belongs to. -/
def State.txnOf (s : State) (h : RingHdr) : Option RingTxn :=
  s.ring.txns.find? (fun x => x.ring == (h.ring : Nat) && x.tag == (h.tag : Nat) && (x.dst == (h.src : Nat) || x.dst == allMembers))

def State.dropTxn (s : State) (x : RingTxn) : State :=
  ({ s with ring := { s.ring with txns := s.ring.txns.filter (fun y => y != x) } } : State).showTxns

/-- RSP; an answer with a STATUS fails what its transaction was for, with ERR or, where that is 0, with the STATUS as code (DESIGN CHOICE,
log entry 132). -/
def rsp (h : RingHdr) (status err : BitVec 8) (data : List Word) (s : State) : State :=
  s.takeFrame h tyRsp h.tag 0 ([status, err] ++ wordBytes data) (fun s =>
    match s.txnOf h with
    | none => s
    | some x =>
      if x.typ = tyCtl then s
      else
        let t := s.dropTxn x
        if status ≠ 0 then t.txnFailed x (if err = 0 then status.toNat else err.toNat)
        else if hostRegion x.addr = 4 then
          match t.ring.xfer with | some y => if y.pos = x.dst then t.xferPiece y data else t | none => t
        else if x.addr = R.MB_ARG strokeChannel 0 then
          match t.ring.xfer with
          | some y => if y.pos = x.dst then ({ t with ring := { t.ring with xfer := some { y with step := 3 } } } : State).memberReq x.dst svLoad else t
          | none => t
        else if x.addr = R.MB_REQ strokeChannel then
          match t.ring.xfer with | some y => if y.pos = x.dst then t.loadRuns x.dst else t | none => t
        else if x.addr = R.MB_STATE strokeChannel then
          let st := (F.MB_STATE_STATE strokeChannel).get (data.getD 0 0)
          if st = mbDone then t.sendTxn 0 x.dst tyRd (R.PLAN_STAGE_DIG 0) (le 2 16 ++ [0, 0])
          else if st = mbFailed then t.xferEnd x.dst ((data.getD 1 0).toNat % 256)
          else t.poll x.dst
        else if x.addr = R.PLAN_STAGE_DIG 0 then
          ((t.setDist x.dst (wordBytes (data.take 16))).xferEnd x.dst 0).tryActivate
        else t)

/-! ### The drive-wide switch on the stroke (R505, R506) -/

/-- CASC_MODE states. -/
def mdPreparing := 1
def mdGoSent := 2
def mdCommitted := 3
def mdConfirming := 4
def mdReverting := 5
def mdDone := 6
def mdFailed := 7

/-- A mode change ends without a confirmed switch. -/
def State.modeFail (s : State) (code pos : Nat) : State :=
  let t : State := { s with ring := { s.ring with mode := Mode.init } }
  if t.role = roleStroke then
    let t := ((t.set F.CASC_MODE_STATE mdFailed).set F.CASC_MODE_CODE code).set F.CASC_MODE_POS pos
    ((t.ev F.CASC_EVENT_MODE_FAIL).planLast 0x0A).mbFinish svArm (fun _ => true) 0x04 [0x0A, 1]
  else t.ev F.CASC_EVENT_MODE_FAIL

/-- Rows 3 and 4: every member cancels its ARM. -/
def State.modeAbort (s : State) (code pos : Nat) : State :=
  let t := s.sendCtl 0 allMembers ctAbort (le 6 s.ring.mode.n ++ [0, 0])
  (if t.stageState = sArmed then t.dropSwitch 0x00 else t).modeFail code pos

/-- G of R505. -/
def State.modeG (s : State) : Nat := s.ring.mode.n - 2 - s.catchesIn 500000

/-- GO, once every READY has arrived. The stroke itself goes once a member has taken it: a GO that reaches no member leaves every member on
LIVE (R506, row 5). -/
def State.modeGo (s : State) : State :=
  if s.allCrew s.ring.mode.ready && decide (s.cat.num ≤ s.modeG) then
    let b := le 6 s.ring.mode.n ++ [0, 0]
    let t := (s.sendCtl 0 allMembers ctGo b).sendCtl 1 allMembers ctGo b
    ({ t with fab := { t.fab with go := false } } : State).set F.CASC_MODE_STATE mdGoSent
  else s

/-- A READY, with the digest of the member's STAGE plan. -/
def State.modeReady (s : State) (p : Nat) (dig : List Byte) : State :=
  if s.fld F.CASC_MODE_STATE ≠ mdPreparing then s
  else if s.distOf p = some (dig.take 64) then
    ({ s with ring := { s.ring with mode := { s.ring.mode with ready := setBit s.ring.mode.ready p } } } : State).modeGo
  else s.modeAbort 0x02 p

/-- PLAN_ARM on the stroke: refused on it, or PREPARE goes out. -/
def State.modeStart (s : State) (c n : Nat) : State :=
  if s.ring.mode.phase ≠ 0 then (s.planRefuse 0x0A).mbRefuse c 0x0A 1
  else
    let s := s.set F.CASC_MODE_N_N n
    let lacking := s.crew.find? (fun p => (s.distOf p).isNone)
    let no := fun (t : State) (code pos : Nat) => (t.planRefuse 0x0A).modeFail code pos
    if n < s.cat.num + s.catchesIn 2000000 then no s 0x01 0
    else if s.on F.CASC_STATE_READY = false then no s 0x02 0
    else match lacking with
      | some p => no s 0x02 p
      | none =>
        let old := digPrefix (wordBytes s.liveDigest) :: s.crew.map (fun p => digPrefix ((s.distOf (16 + p)).getD []))
        let new := digPrefix (wordBytes s.stageDigest) :: s.crew.map (fun p => digPrefix ((s.distOf p).getD []))
        let (k, t) := s.planArm n true
        if k ≠ 0 then no t 0x02 0
        else
          let t := ((t.set F.CASC_MODE_STATE mdPreparing).set F.CASC_MODE_CODE 0).set F.CASC_MODE_POS 0
          let t : State := { t with ring := { t.ring with mode := ⟨n, old, new, 0, false, 1, 0⟩ } }
          t.sendCtl 0 allMembers ctPrepare (le 6 n ++ [0, 0] ++ (List.zipWith (fun a b => a ++ b) old new).flatten)

/-- PLAN_ARM (R435). -/
def planArmSv (c : Fin 4) (s : State) : State :=
  s.mbTake c svArm (fun s =>
    let hi := s.mbArg c 1
    if 0xFFFF < hi then s.mbEnd c 0x02 []
    else
      let n := s.mbArg c 0 + 2 ^ 32 * hi
      if s.isCrew then (s.planRefuse 0x0A).mbEnd c 0x06 []
      else if s.cascaded then s.modeStart c n
      else s.cox0Write c R.PLAN_CMD id (fun s =>
        let (k, t) := ((s.set F.PLAN_TARGET_LO_N_LO (n % 2 ^ 32)).set F.PLAN_TARGET_HI_N_HI hi).localArm
        if k = 0 then t else t.mbRefuse c k 0x01))

/-- CTLR. -/
def ctlr (h : RingHdr) (code status : BitVec 8) (body : List Byte) (s : State) : State :=
  s.takeFrame h tyCtlr h.tag 0 ([code, status, 0, 0] ++ body) (fun s =>
    match s.txnOf h with
    | none => s
    | some x =>
      let p : Nat := h.src
      if x.typ ≠ tyCtl ∨ byteAt x.body 0 ≠ code.toNat ∨ p = 0 ∨ s.devices ≤ p ∨ bit x.got p = true then s
      else
        let y := { x with got := setBit x.got p }
        let whole := x.dst != allMembers || s.allCrew y.got
        let t : State := { s with ring := { s.ring with txns := s.ring.txns.map (fun e => if e = x then y else e) } }
        let t := if whole then t.dropTxn y else t
        let ok := status == 0
        match code.toNat with
        | 1 =>
          if ok = false ∨ byteAt body 0 ≠ p then t.startFail 5 p (byteAt body 0)
          else
            let t := t.wr (R.CASC_ID p) (bytesWord (body.drop 4))
            if whole = false then t
            else if byteAt x.body 4 = 0 then t.sendCtl 1 allMembers ctEnum [1, 0, 0, 0]
            else t.set F.CASC_STATE_SEEN t.devices
        | 2 => if ok then t else t.startFail 6 p status.toNat
        | 3 => if ok then t.xferStart ⟨2, p, ofLe (body.take 4), 0, 1⟩ else t.startFail 7 p (byteAt body 0)
        | 4 => if ok then (t.setNonce p (body.take 16)).attestAt (p + 1) else t.startFail 7 p status.toNat
        | 5 =>
          if ok = true ∧ byteAt body 0 = 0 then
            let t : State := { t with ring := { t.ring with attested := setBit t.ring.attested p } }
            (t.setFldBit F.CASC_MEMBERS_ATTESTED p).reportTo (p + 1)
          else t.startFail 7 p (byteAt body 0)
        | 6 => if ok then t else t.startFail 10 p status.toNat
        | 7 =>
          if ok = true ∧ byteAt body 0 % 16 = 15 ∧ (t.distOf (16 + p)).map digPrefix = some ((body.drop 4).take 8) then t
          else t.startFail 11 p (byteAt body 0)
        | 9 =>
          if x.body.drop 4 = le 6 t.ring.mode.n ++ [0, 0] ++ (List.zipWith (fun a b => a ++ b) t.ring.mode.oldDig t.ring.mode.newDig).flatten then
            if ok then t.modeReady p body
            else if t.fld F.CASC_MODE_STATE = mdPreparing then t.modeAbort 0x02 p else t
          else t
        | 10 =>
          if ok = true ∧ t.fld F.CASC_MODE_STATE = mdGoSent ∧ x.body.drop 4 = le 6 t.ring.mode.n ++ [0, 0] then
            { t with fab := { t.fab with go := true } }
          else t
        | _ => t)

/-- TXN_TIMEOUT: sent again on the other ring, or failed after the fourth attempt (R486). -/
def txnTimeout (ring : Fin 2) (tag : Fin 128) (s : State) : State :=
  s.onDie (fun s =>
    match s.ring.txns.find? (fun x => x.ring == (ring : Nat) && x.tag == (tag : Nat)) with
    | none => s
    | some x =>
      if x.attempt < 3 then
        let t := s.bump F.LINK_TXN_RETRIES
        { t with ring := { t.ring with txns := t.ring.txns.map (fun y =>
          if y = x then { x with ring := 1 - x.ring, attempt := x.attempt + 1 } else y) } }
      else
        let t := ((s.dropTxn x).bump F.LINK_TXN_FAILS).ev F.LINK_EVENT_TXN_FAIL
        t.txnFailed x 0xF0)

/-! ### Start-up (R489) -/

/-- DELAY_ROUND: a probe on both rings in the same link cycle. -/
def delayRound (txAt : Nat) (s : State) : State :=
  s.onDie (fun s =>
    if s.cascaded && s.role == roleStroke && s.startStep == 6 && decide (s.ring.rounds.length < 64) then
      ({ s with ring := { s.ring with txAt := txAt, half := none } } : State).notice 3 (s.ring.rounds.length % 256) 0
    else s)

/-- The stroke's judgement of the 64 rounds: L goes out, or DELAY fails (R492). -/
def State.delayDone (s : State) : State :=
  let l0 := s.ring.rounds.map (fun e => e.1)
  let l1 := s.ring.rounds.map (fun e => e.2)
  let off := fun (l : List Int) => l.any (fun x => decide (8 * 64 < (64 * x - l.sum).natAbs))
  let (m0, t) := s.roundDiv l0.sum 64
  let (m1, t) := t.roundDiv l1.sum 64
  let t := (t.iset F.LINK_LOOP_L0 m0).iset F.LINK_LOOP_L1 m1
  if 16 * 64 < (l0.sum - l1.sum).natAbs ∨ off l0 = true ∨ off l1 = true ∨ 4352 * 128 < l0.sum + l1.sum then t.startFail 6 0 0
  else
    let (l, t) := t.roundDiv (l0.sum + l1.sum) 128
    ({ t with ring := { t.ring with loop := l.toNat } } : State).sendCtl 0 allMembers ctLoop (le 4 l.toNat)

/-- DLY, and behind the last round the stroke's judgement. -/
def dlyAll (r : Fin 2) (round check : BitVec 8) (arrival : Nat) (s : State) : State :=
  let t := dly r round check arrival s
  if t.role = roleStroke ∧ s.ring.rounds.length = 63 ∧ t.ring.rounds.length = 64 then t.delayDone else t

/-- What a start step needs on this member before it can have ended. -/
def State.stepDone (s : State) (k : Nat) : Bool :=
  let stroke := s.role == roleStroke
  let idle := s.ring.txns.isEmpty
  match k with
  | 1 => s.sup.umpire
  | 2 => s.running
  | 3 => s.fw
  | 4 => s.ring.roleFixed && [0, 1].all (fun r => s.on (F.LINK_STAT_RX_UP r) && s.on (F.LINK_STAT_SRCOK r))
  | 5 => if stroke then s.fld F.CASC_STATE_SEEN == s.devices else s.ring.enumerated
  | 6 => s.ring.loop != 0 && idle
  | 7 => s.ring.trusted
  | 8 => s.liveValid && idle && s.ring.polls.isEmpty && s.ring.dist8 == 0 && s.ring.xfer.isNone &&
      (!stroke || s.crew.all (fun p => (s.distOf (16 + p)).isSome))
  | 9 => s.pllState == pLocked &&
      (stroke || (s.on F.PLL_STATUS_STANDBY_OK && decide (s.fld F.PLL_PHERR_PEAK ≤ s.pll.win)))
  | 10 => idle && (stroke || s.on F.CASC_STATE_ALIGNED)
  | 11 => idle && (if stroke then s.liveValid && !(List.range 4).any s.inSafe && s.exchValid else s.readyFlags == 15)
  | _ => false

/-- The stroke begins a start step. -/
def State.stepStart (s : State) (k : Nat) : State :=
  if s.role ≠ roleStroke then s
  else match k with
    | 5 => (s.wr (R.CASC_ID 0) (bytesWord (s.identity.take 4))).sendCtl 0 allMembers ctEnum [0, 0, 0, 0]
    | 7 => s.attestAt 1
    | 8 =>
      match s.loadStart 2 0 with
      | (none, t) => { t with ring := { t.ring with dist8 := 1 } }
      | (some (c, _), _) => s.startFail 8 0 c
    | 10 => s.sendCtl 0 allMembers ctAlign (le 6 (s.cat.num + 2) ++ [0, 0])
    | 11 => s.sendCtl 0 allMembers ctReadyQ []
    | _ => s

/-- Bound of a start step in µs (R489). -/
def stepBound (k : Nat) : Nat := [6300, 1200, 70000, 3000, 500, 1000, 15000, 40000, 3000, 8000, 2000].getD (k - 1) 0

/-- START_STEP_END, `us` after the step began: it has ended on every member, or has failed or overrun its bound. -/
def startStepEnd (ok : Bool) (us : Nat) (pos : Fin 8) (detail : BitVec 16) (s : State) : State :=
  s.onDie (fun s =>
    let k := s.startStep
    if !s.cascaded || k == 0 then s
    else if !ok || stepBound k < us then s.startFail k pos detail.toNat
    else if !s.stepDone k then s
    else if k = 11 then
      let t := ((s.set F.CASC_STATE_STEP 0).set F.CASC_STATE_READY 1).ev F.CASC_EVENT_START_DONE
      { t with ring := { t.ring with expect := t.crew.filterMap (fun p => (t.distOf (16 + p)).map (fun d => (p, digPrefix d))) } }
    else (s.set F.CASC_STATE_STEP (k + 1)).stepStart (k + 1))

/-- LOCKED, with what waits for it. -/
def lockedAll (errs : List (BitVec 16)) (lost : Bool) (tick : Nat) (offset : Int) (s : State) : State :=
  ((locked errs lost tick offset s).fixRole).autoPlan

/-- FLASH_READ_DONE: the image of this device's own load, or in start step 8 that of the position it goes to, from its own area (R494,
R515). -/
def flashRead (offset : Nat) (bytes : List Byte) (s : State) : State :=
  if s.load.phase = 1 then flashReadDone offset bytes s
  else s.onDie (fun s =>
    if s.startStep = 8 ∧ s.ring.dist8 ≠ 0 ∧ s.ring.xfer = none ∧ s.bufferHeld = false ∧ bytes ≠ [] ∧ offset = planArea s.ring.dist8 then
      let b := bytes.take 262144
      (s.putSram loadBuffer b).xferGo s.ring.dist8 b.length
    else s)

/-- LOAD_VERIFY_END, with what waits for it; a plan that has been verified on a crew member is the one the stroke distributed, since only
RING loads are taken there (R259). -/
def loadVerifyAll (ecc : Bool) (s : State) : State :=
  let t := loadVerifyAuto ecc s
  let t := t.when (t.isCrew && s.load.phase == 4 && t.load.phase == 0 && t.stageState == sVerified) (fun t =>
    { t with ring := { t.ring with mine := wordBytes t.stageDigest } })
  t.tryActivate

/-- SIGNING_DONE: the report of an ATTEST request, of a member's NONCE, or the stroke's own. -/
def signingDone (s : State) : State :=
  s.onDie (fun s =>
    match s.boot.sign with
    | none => s
    | some g =>
      let (k, t) := s.signEnd g
      match g.chan, t.ring.due with
      | some c, _ => if k = 0 then t.mbEnd c 0 [7539, g.num % 2 ^ 32] else t.mbRefuse c k 0x09
      | none, some (src, tag, req) =>
        let a : List Byte := if k = 0 then [BitVec.ofNat 8 ctNonce, 0, 0, 0] ++ le 4 7539
          else [BitVec.ofNat 8 ctNonce, BitVec.ofNat 8 csRefused, 0, 0, BitVec.ofNat 8 k]
        let key := 128 * src + tag
        { t with ring := { t.ring with due := none, answers := (key, req, a) :: t.ring.answers.filter (fun e => e.1 != key) } }
      | none, none =>
        if t.role = roleStroke ∧ t.startStep = 7 then (if k = 0 then t.reportTo 1 else t.startFail 7 0 k) else t)

/-! ### The close of a catch on a member (R502 to R507) -/

/-- Digest and flags of a member's SIG of a catch. -/
def State.sigOf (s : State) (p n : Nat) : Option (List Byte) :=
  (s.ring.sigs.find? (fun e => e.1 == p && e.2.1 == n)).map (fun e => e.2.2.1)

/-- The other members that are not LOST. -/
def State.others (s : State) : List Nat :=
  (List.range s.devices).filter (fun p => p != s.pos' && !bit (s.fld F.CASC_MEMBERS_LOST) p)

/-- The SIG of position `p` for catch `n`: present, or missing; a member without one for three catches is LOST, and if it is the
stroke the crew coast (R503). A member
whose digest no message of the stroke gave is held to the first one it sends (log entry 42). -/
def State.sigCheck (s : State) (n p : Nat) : State :=
  match s.sigOf p n with
  | some d =>
    let t : State := { s with ring := { s.ring with miss := s.ring.miss.set p 0 } }
    match t.ring.expect.find? (fun e => e.1 == p) with
    | some e => if t.ring.mode.phase = 0 ∧ e.2 ≠ d then t.ssn ssnPlan else t
    | none => { t with ring := { t.ring with expect := (p, d) :: t.ring.expect } }
  | none =>
    let k := s.ring.miss.get p + 1
    let t : State := { s with ring := { s.ring with miss := s.ring.miss.set p k } }
    if k < 3 then t
    else
      let t := ((t.setFldBit F.CASC_MEMBERS_LOST p).clearFldBit F.CASC_MEMBERS_ALIVE p).ev F.CASC_EVENT_MEMBER_LOST
      let t := if p = 0 then t.dropLocks 6 else t
      let t := t.when (p == 0 && t.pllState == pLocked) (fun t => t.coast [])
      let t := t.ssn ssnMember
      if t.ring.mode.phase ≠ 0 then t.modeFail 0x07 p else t

/-- Every other member's SIG of catch `n` carries the digest of the list. -/
def State.sigsAre (s : State) (n : Nat) (l : List (List Byte)) : Bool :=
  s.others.all (fun p => s.sigOf p n == some (l.getD p []))

/-- The expected digests from now on. -/
def State.expectAll (s : State) (l : List (List Byte)) : State :=
  { s with ring := { s.ring with expect := s.others.map (fun p => (p, l.getD p [])) } }

/-- Row 7: the revert is not confirmed. -/
def State.revertFailed (s : State) : State := (s.ssn ssnMode).modeFail 0x06 0

/-- The revert of R507: a member that switched at N switches back now. -/
def State.revert (s : State) : State :=
  let m := s.ring.mode
  let t : State := { s with ring := { s.ring with mode := { m with phase := 3, revertAt := m.n + 2 } } }
  let t := if t.role = roleStroke then t.set F.CASC_MODE_STATE mdReverting else t
  if !m.switched then t
  else if !t.switchFits then t.revertFailed
  else
    let t := ({ t with fab := { t.fab with armN := m.n + 2 } } : State).setStage sCommitted
    t.switchSwap

/-- The mode change at the close of catch `c` (R505 to R507). -/
def State.modeClose (s : State) (c : Nat) : State :=
  let m := s.ring.mode
  let stroke := s.role == roleStroke
  let old := m.oldDig
  let new := m.newDig
  if m.phase = 0 then s
  else if m.phase = 1 ∧ c + 2 < m.n ∧ stroke = true ∧ s.switching = false then s.modeAbort 0x02 0
  else if m.phase = 1 ∧ c + 1 = s.modeG ∧ stroke = true ∧ s.fld F.CASC_MODE_STATE = mdPreparing then s.modeAbort 0x03 0
  else if m.phase = 1 ∧ c + 1 = m.n then
    let sw := (wordBytes s.liveDigest).take 8 == new.getD s.pos' [] && s.fld F.PLAN_LAST_CATCH == m.n % 65536 &&
      s.fld F.PLAN_LAST_CODE == 0
    let t : State := { s with ring := { s.ring with mode := { m with switched := sw } } }
    if stroke then t.set F.CASC_MODE_STATE mdConfirming else t
  else if m.phase = 1 ∧ c + 2 = m.n ∧ stroke = true ∧ s.stageState = sCommitted then s.set F.CASC_MODE_STATE mdCommitted
  else if m.phase = 2 ∧ c + 1 = m.revertAt then s.revert
  else if m.phase = 1 ∧ c = m.n + 1 then
    if m.switched && s.sigsAre m.n new then
      let t := (({ s with ring := { s.ring with mode := Mode.init } } : State).expectAll new).ev F.CASC_EVENT_MODE_DONE
      if stroke then
        (((t.set F.CASC_MODE_STATE mdDone).set F.CASC_MODE_CODE 0).distSwap).mbFinish svArm (fun _ => true) 0 []
      else t
    else if !m.switched && s.sigsAre m.n old then s.modeFail 0x04 0
    else (s.notice 2 ((m.n + 2) % 256) s.pos').revert
  else if m.phase = 3 ∧ c = m.n + 3 then
    if s.sigsAre (m.n + 2) old then s.modeFail 0x05 0 else s.revertFailed
  else s

/-- A member's work at the close of a catch, before the next one: the SIG checks, the mode change and the marker watch. -/
def State.ringClose (s : State) : State :=
  if !s.cascaded then s
  else
    let c := s.cat.num
    let t : State := { s with ring := { s.ring with sent := [] } }
    let t := t.when (t.role == roleStroke) (fun t => t.notice 4 ((c + 1) % 2 ^ 24) 0)
    let t := if t.on F.CASC_STATE_READY && !t.cat.first then (t.each t.others (fun p t => t.sigCheck (c - 1) p)).modeClose c else t
    if t.isCrew && !t.cat.first then
      let k := if t.ring.cmSeen then 0 else t.ring.noCm + 1
      let u : State := { t with ring := { t.ring with noCm := k, cmSeen := false } }
      if k = 4 then u.alignLost else u
    else t

/-- A crew member's first catch waits until a marker has placed it (R494, R495). -/
def State.catchPlaced (s : State) : Bool := !s.isCrew || s.ring.placed

/-- The SIG frame of the catch that has closed goes out, and the next catch's EXCH frames begin (R499, R502). -/
def State.ringOpenCatch (s : State) (closed : Option Nat) : State :=
  if !s.cascaded then s
  else { s with ring := { s.ring with exchOut := [], sigOut := match closed with | some n => s.sigPayload n | none => s.ring.sigOut } }

/-- CATCH. -/
def catchCmd (bits : List (Nat × List (Option Bool))) (done : Nat) (s : State) : State :=
  s.onDie (fun s => if s.catchDue && s.catchPlaced then
      ((s.ringClose).catchGo bits done).ringOpenCatch (if s.cat.first then none else some s.cat.num)
    else s)

def execCatch (bits : List (Nat × List (Option Bool))) (done : Nat) (s : State) : Host.Outcome State Fault Refusal :=
  .next (catchCmd bits done s)
def execLocked (errs : List (BitVec 16)) (lost : Bool) (tick : Nat) (offset : Int) (s : State) : Host.Outcome State Fault Refusal :=
  .next (lockedAll errs lost tick offset s)
def execFlashReadDone (offset : Nat) (bytes : List Byte) (s : State) : Host.Outcome State Fault Refusal :=
  .next (flashRead offset bytes s)
def execLoadVerifyEnd (ecc : Bool) (s : State) : Host.Outcome State Fault Refusal := .next (loadVerifyAll ecc s)
def execPlanArm (c : Fin 4) (s : State) : Host.Outcome State Fault Refusal := .next (planArmSv c s)
def execDly (r : Fin 2) (round check : BitVec 8) (arrival : Nat) (s : State) : Host.Outcome State Fault Refusal :=
  .next (dlyAll r round check arrival s)
def execRsp (h : RingHdr) (status err : BitVec 8) (data : List Word) (s : State) : Host.Outcome State Fault Refusal :=
  .next (rsp h status err data s)
def execCtlr (h : RingHdr) (code status : BitVec 8) (body : List Byte) (s : State) : Host.Outcome State Fault Refusal :=
  .next (ctlr h code status body s)
def execTxnTimeout (ring : Fin 2) (tag : Fin 128) (s : State) : Host.Outcome State Fault Refusal := .next (txnTimeout ring tag s)
def execStartStepEnd (ok : Bool) (us : Nat) (pos : Fin 8) (detail : BitVec 16) (s : State) : Host.Outcome State Fault Refusal :=
  .next (startStepEnd ok us pos detail s)
def execDelayRound (txAt : Nat) (s : State) : Host.Outcome State Fault Refusal := .next (delayRound txAt s)
def execSigningDone (s : State) : Host.Outcome State Fault Refusal := .next (signingDone s)

end Sys2Proof.Machine
end

