-- ==== Sys2Proof/Machine/Dispatch.lean ====
section
/-! DEFINITION. The one definition exec: a command's effect on everything but the queue. -/

namespace Sys2Proof.Machine

def exec (i : Instr) (s : State) : Host.Outcome State Fault Refusal :=
  match i with
  | .powerUp => Sys2Proof.Machine.execPowerUp s
  | .railGood r => Sys2Proof.Machine.execRailGood r s
  | .rcQualification counts same => Sys2Proof.Machine.execRcQualification counts same s
  | .rcRetry => Sys2Proof.Machine.execRcRetry s
  | .controlDieRelease rstHigh nowMs => Sys2Proof.Machine.execControlDieRelease rstHigh nowMs s
  | .vsupOvWarn rising => Sys2Proof.Machine.execVsupOvWarn rising s
  | .vsupOv same => Sys2Proof.Machine.execVsupOv same s
  | .brownOut r same => Sys2Proof.Machine.execBrownOut r same s
  | .railOv r same => Sys2Proof.Machine.execRailOv r same s
  | .powerDown => Sys2Proof.Machine.execPowerDown s
  | .extRst widthNs same => Sys2Proof.Machine.execExtRst widthNs same s
  | .rstSwreq m key same => Sys2Proof.Machine.execRstSwreq m key same s
  | .automaticRestart rstHigh nowMs same => Sys2Proof.Machine.execAutomaticRestart rstHigh nowMs same s
  | .rcLadderCheck count same => Sys2Proof.Machine.execRcLadderCheck count same s
  | .rcEdgeLoss same => Sys2Proof.Machine.execRcEdgeLoss same s
  | .rcTrimStep errPpm => Sys2Proof.Machine.execRcTrimStep errPpm s
  | .lockAttempt refp refHz => Sys2Proof.Machine.execLockAttempt refp refHz s
  | .bandSearchStep count count63 lost => Sys2Proof.Machine.execBandSearchStep count count63 lost s
  | .acquireDone errs lost => Sys2Proof.Machine.execAcquireDone errs lost s
  | .acqTimeout errs lost => Sys2Proof.Machine.execAcqTimeout errs lost s
  | .lockTimeout errs lost => Sys2Proof.Machine.execLockTimeout errs lost s
  | .locked errs lost tick offset => Sys2Proof.Machine.execLocked errs lost tick offset s
  | .dividerChange => Sys2Proof.Machine.execDividerChange s
  | .refLoss fines => Sys2Proof.Machine.execRefLoss fines s
  | .lol errs fines => Sys2Proof.Machine.execLol errs fines s
  | .coastExpired same => Sys2Proof.Machine.execCoastExpired same s
  | .tapStop same => Sys2Proof.Machine.execTapStop same s
  | .fastHigh count same => Sys2Proof.Machine.execFastHigh count same s
  | .monitorWindow count full same => Sys2Proof.Machine.execMonitorWindow count full same s
  | .catch bits done => Sys2Proof.Machine.execCatch bits done s
  | .datumArrival b tag => Sys2Proof.Machine.execDatumArrival b tag s
  | .inputDeadline b u => Sys2Proof.Machine.execInputDeadline b u s
  | .catchNumLoRead => Sys2Proof.Machine.execCatchNumLoRead s
  | .sdStuck n bits => Sys2Proof.Machine.execSdStuck n bits s
  | .manchesterLock n bits => Sys2Proof.Machine.execManchesterLock n bits s
  | .manchesterLockLoss n bits => Sys2Proof.Machine.execManchesterLockLoss n bits s
  | .comparatorAssert n bits => Sys2Proof.Machine.execComparatorAssert n bits s
  | .comparatorDeassert n bits => Sys2Proof.Machine.execComparatorDeassert n bits s
  | .sdOfsWrite m sar x v => Sys2Proof.Machine.execSdOfsWrite m sar x v s
  | .calibrationStart u => Sys2Proof.Machine.execCalibrationStart u s
  | .calibrationSettled u => Sys2Proof.Machine.execCalibrationSettled u s
  | .calibrationEnd u => Sys2Proof.Machine.execCalibrationEnd u s
  | .sarEntryStart e at' => Sys2Proof.Machine.execSarEntryStart e at' s
  | .sarConversionDone e codes => Sys2Proof.Machine.execSarConversionDone e codes s
  | .ntcAgeTimeout n => Sys2Proof.Machine.execNtcAgeTimeout n s
  | .rotationTimer => Sys2Proof.Machine.execRotationTimer s
  | .copyStart => Sys2Proof.Machine.execCopyStart s
  | .copyComplete uncorr => Sys2Proof.Machine.execCopyComplete uncorr s
  | .subTakeover => Sys2Proof.Machine.execSubTakeover s
  | .istComplete sig march corrected detected => Sys2Proof.Machine.execIstComplete sig march corrected detected s
  | .xbarCreditReturn x last cycles => Sys2Proof.Machine.execXbarCreditReturn x last cycles s
  | .scrubRead outcome => Sys2Proof.Machine.execScrubRead outcome s
  | .fabricReactivate tick => Sys2Proof.Machine.execFabricReactivate tick s
  | .activate m => Sys2Proof.Machine.execActivate m s
  | .arm m => Sys2Proof.Machine.execArm m s
  | .cancel m => Sys2Proof.Machine.execCancel m s
  | .activationEffect tick => Sys2Proof.Machine.execActivationEffect tick s
  | .switchCommit => Sys2Proof.Machine.execSwitchCommit s
  | .switchSwap => Sys2Proof.Machine.execSwitchSwap s
  | .loadSramPhaseEnd ecc => Sys2Proof.Machine.execLoadSramPhaseEnd ecc s
  | .loadCopyEnd => Sys2Proof.Machine.execLoadCopyEnd s
  | .loadVerifyEnd ecc => Sys2Proof.Machine.execLoadVerifyEnd ecc s
  | .flashReadDone offset bytes => Sys2Proof.Machine.execFlashReadDone offset bytes s
  | .loadSmp r ix err => Sys2Proof.Machine.execLoadSmp r ix err s
  | .emitPwm r ix err atNs => Sys2Proof.Machine.execEmitPwm r ix err atNs s
  | .emitReg r ix err => Sys2Proof.Machine.execEmitReg r ix err s
  | .exch r ix err => Sys2Proof.Machine.execExch r ix err s
  | .capture r ix err => Sys2Proof.Machine.execCapture r ix err s
  | .inject r ix err late => Sys2Proof.Machine.execInject r ix err late s
  | .clarke3 r ix err => Sys2Proof.Machine.execClarke3 r ix err s
  | .clarkeN r ix err => Sys2Proof.Machine.execClarkeN r ix err s
  | .park r ix err => Sys2Proof.Machine.execPark r ix err s
  | .ipark r ix err => Sys2Proof.Machine.execIpark r ix err s
  | .sincos r ix err => Sys2Proof.Machine.execSincos r ix err s
  | .svm3 r ix err => Sys2Proof.Machine.execSvm3 r ix err s
  | .spwmN r ix err => Sys2Proof.Machine.execSpwmN r ix err s
  | .deadcomp r ix err => Sys2Proof.Machine.execDeadcomp r ix err s
  | .pi r ix err => Sys2Proof.Machine.execPi r ix err s
  | .pidFd r ix err => Sys2Proof.Machine.execPidFd r ix err s
  | .ffAdd r ix err => Sys2Proof.Machine.execFfAdd r ix err s
  | .limit r ix err => Sys2Proof.Machine.execLimit r ix err s
  | .rateLim r ix err => Sys2Proof.Machine.execRateLim r ix err s
  | .vlimCirc r ix err => Sys2Proof.Machine.execVlimCirc r ix err s
  | .lpf1 r ix err => Sys2Proof.Machine.execLpf1 r ix err s
  | .notch2 r ix err => Sys2Proof.Machine.execNotch2 r ix err s
  | .lut1 r ix err => Sys2Proof.Machine.execLut1 r ix err s
  | .lut2 r ix err => Sys2Proof.Machine.execLut2 r ix err s
  | .bandSel r ix err => Sys2Proof.Machine.execBandSel r ix err s
  | .obsEmf r ix err => Sys2Proof.Machine.execObsEmf r ix err s
  | .pllTrk r ix err => Sys2Proof.Machine.execPllTrk r ix err s
  | .hfiDemod r ix err => Sys2Proof.Machine.execHfiDemod r ix err s
  | .rslvDemod r ix err => Sys2Proof.Machine.execRslvDemod r ix err s
  | .share r ix err => Sys2Proof.Machine.execShare r ix err s
  | .trqEst r ix err => Sys2Proof.Machine.execTrqEst r ix err s
  | .mul r ix err => Sys2Proof.Machine.execMul r ix err s
  | .mac r ix err => Sys2Proof.Machine.execMac r ix err s
  | .add r ix err => Sys2Proof.Machine.execAdd r ix err s
  | .sub r ix err => Sys2Proof.Machine.execSub r ix err s
  | .abs r ix err => Sys2Proof.Machine.execAbs r ix err s
  | .sat r ix err => Sys2Proof.Machine.execSat r ix err s
  | .sqrt r ix err => Sys2Proof.Machine.execSqrt r ix err s
  | .recip r ix err => Sys2Proof.Machine.execRecip r ix err s
  | .atan2 r ix err => Sys2Proof.Machine.execAtan2 r ix err s
  | .cmp r ix err => Sys2Proof.Machine.execCmp r ix err s
  | .sel r ix err => Sys2Proof.Machine.execSel r ix err s
  | .hold r ix err => Sys2Proof.Machine.execHold r ix err s
  | .check r ix err => Sys2Proof.Machine.execCheck r ix err s
  | .updatePoint l centre atNs => Sys2Proof.Machine.execUpdatePoint l centre atNs s
  | .interlock l => Sys2Proof.Machine.execInterlock l s
  | .umpireInterlockReport l => Sys2Proof.Machine.execUmpireInterlockReport l s
  | .bootRefresh l => Sys2Proof.Machine.execBootRefresh l s
  | .bootUvCheck l periodEnd => Sys2Proof.Machine.execBootUvCheck l periodEnd s
  | .pwmGateEnSet m page mask => Sys2Proof.Machine.execPwmGateEnSet m page mask s
  | .pwmGateEnClear m page mask => Sys2Proof.Machine.execPwmGateEnClear m page mask s
  | .legStart l atNs => Sys2Proof.Machine.execLegStart l atNs s
  | .fsLeak l => Sys2Proof.Machine.execFsLeak l s
  | .legFsClear m l => Sys2Proof.Machine.execLegFsClear m l s
  | .legFaultInput x samples atNs => Sys2Proof.Machine.execLegFaultInput x samples atNs s
  | .blankingEnd l atNs => Sys2Proof.Machine.execBlankingEnd l atNs s
  | .chopperOn b tick => Sys2Proof.Machine.execChopperOn b tick s
  | .chopperOff b tick => Sys2Proof.Machine.execChopperOff b tick s
  | .brkArmWrite m b arm => Sys2Proof.Machine.execBrkArmWrite m b arm s
  | .brakeFaultInput b samples => Sys2Proof.Machine.execBrakeFaultInput b samples s
  | .brkLatchClear m b => Sys2Proof.Machine.execBrkLatchClear m b s
  | .protReq m u cls useCls go => Sys2Proof.Machine.execProtReq m u cls useCls go s
  | .protRelease m u => Sys2Proof.Machine.execProtRelease m u s
  | .hwExit d => Sys2Proof.Machine.execHwExit d s
  | .dischargeStart m => Sys2Proof.Machine.execDischargeStart m s
  | .dischargeStop m => Sys2Proof.Machine.execDischargeStop m s
  | .dischargeCheckpoint => Sys2Proof.Machine.execDischargeCheckpoint s
  | .dischargeDone => Sys2Proof.Machine.execDischargeDone s
  | .dischargeTimeout => Sys2Proof.Machine.execDischargeTimeout s
  | .driverTransaction frames => Sys2Proof.Machine.execDriverTransaction frames s
  | .driverAlert => Sys2Proof.Machine.execDriverAlert s
  | .alertStuck => Sys2Proof.Machine.execAlertStuck s
  | .umpStatusFrame => Sys2Proof.Machine.execUmpStatusFrame s
  | .umpSafetyStatus => Sys2Proof.Machine.execUmpSafetyStatus s
  | .umpWdChallenge x => Sys2Proof.Machine.execUmpWdChallenge x s
  | .umpCheckReport k => Sys2Proof.Machine.execUmpCheckReport k s
  | .umpXval kind => Sys2Proof.Machine.execUmpXval kind s
  | .umpCmd off v => Sys2Proof.Machine.execUmpCmd off v s
  | .umpAns => Sys2Proof.Machine.execUmpAns s
  | .umpMeas ch code usd => Sys2Proof.Machine.execUmpMeas ch code usd s
  | .umpTqFrame => Sys2Proof.Machine.execUmpTqFrame s
  | .umpCtrState closed => Sys2Proof.Machine.execUmpCtrState closed s
  | .gateGrant u atNs => Sys2Proof.Machine.execGateGrant u atNs s
  | .gateValidStop same => Sys2Proof.Machine.execGateValidStop same s
  | .framesMissing nops frames same => Sys2Proof.Machine.execFramesMissing nops frames same s
  | .lockstepMismatch x main checker same => Sys2Proof.Machine.execLockstepMismatch x main checker same s
  | .linkOc usd1 => Sys2Proof.Machine.execLinkOc usd1 s
  | .linkOv usd0 => Sys2Proof.Machine.execLinkOv usd0 s
  | .hwChopperOn usd0 => Sys2Proof.Machine.execHwChopperOn usd0 s
  | .hwChopperOff usd0 onNs => Sys2Proof.Machine.execHwChopperOff usd0 onNs s
  | .tempPath k codes => Sys2Proof.Machine.execTempPath k codes s
  | .xchk => Sys2Proof.Machine.execXchk s
  | .stoInput b high => Sys2Proof.Machine.execStoInput b high s
  | .stoDisc => Sys2Proof.Machine.execStoDisc s
  | .connect m => Sys2Proof.Machine.execConnect m s
  | .disconnect m => Sys2Proof.Machine.execDisconnect m s
  | .emergencyOpen m => Sys2Proof.Machine.execEmergencyOpen m s
  | .auxOn m => Sys2Proof.Machine.execAuxOn m s
  | .auxOff m => Sys2Proof.Machine.execAuxOff m s
  | .contactorStepEnd aux => Sys2Proof.Machine.execContactorStepEnd aux s
  | .breakCurrentWait => Sys2Proof.Machine.execBreakCurrentWait s
  | .contactorDrop k => Sys2Proof.Machine.execContactorDrop k s
  | .contactorWeld k => Sys2Proof.Machine.execContactorWeld k s
  | .umpWdsvc m x resp cycles same => Sys2Proof.Machine.execUmpWdsvc m x resp cycles same s
  | .watchdogTimeout x same => Sys2Proof.Machine.execWatchdogTimeout x same s
  | .checkMissing k => Sys2Proof.Machine.execCheckMissing k s
  | .tqStall d => Sys2Proof.Machine.execTqStall d s
  | .tqPatternTimeout d => Sys2Proof.Machine.execTqPatternTimeout d s
  | .umpRelease m u same => Sys2Proof.Machine.execUmpRelease m u same s
  | .benchHv rising => Sys2Proof.Machine.execBenchHv rising s
  | .lsTest x ended same => Sys2Proof.Machine.execLsTest x ended same s
  | .lsTestWindowExpiry x same => Sys2Proof.Machine.execLsTestWindowExpiry x same s
  | .debugAttach x => Sys2Proof.Machine.execDebugAttach x s
  | .wdHoldWrite m hold pair => Sys2Proof.Machine.execWdHoldWrite m hold pair s
  | .info c => Sys2Proof.Machine.execInfo c s
  | .planLoad c => Sys2Proof.Machine.execPlanLoad c s
  | .planActivate c => Sys2Proof.Machine.execPlanActivate c s
  | .planArm c => Sys2Proof.Machine.execPlanArm c s
  | .planCancel c => Sys2Proof.Machine.execPlanCancel c s
  | .calibrate c => Sys2Proof.Machine.execCalibrate c s
  | .selftest c => Sys2Proof.Machine.execSelftest c s
  | .fsClear c => Sys2Proof.Machine.execFsClear c s
  | .brkClear c => Sys2Proof.Machine.execBrkClear c s
  | .release c => Sys2Proof.Machine.execRelease c s
  | .discharge c => Sys2Proof.Machine.execDischarge c s
  | .contactor c => Sys2Proof.Machine.execContactor c s
  | .attest c => Sys2Proof.Machine.execAttest c s
  | .pairing c => Sys2Proof.Machine.execPairing c s
  | .mbAbort m c => Sys2Proof.Machine.execMbAbort m c s
  | .drvStart d vdc te => Sys2Proof.Machine.execDrvStart d vdc te s
  | .drvStop d te => Sys2Proof.Machine.execDrvStop d te s
  | .drvTrqWrite m d v => Sys2Proof.Machine.execDrvTrqWrite m d v s
  | .catchSpinEnd u vdc tc te sets => Sys2Proof.Machine.execCatchSpinEnd u vdc tc te sets s
  | .startToRun d => Sys2Proof.Machine.execStartToRun d s
  | .reacqEntry d => Sys2Proof.Machine.execReacqEntry d s
  | .reacqOk d => Sys2Proof.Machine.execReacqOk d s
  | .reacqTimeout d => Sys2Proof.Machine.execReacqTimeout d s
  | .easyAllComplete u => Sys2Proof.Machine.execEasyAllComplete u s
  | .easyTimeout d => Sys2Proof.Machine.execEasyTimeout d s
  | .zeroToOff d => Sys2Proof.Machine.execZeroToOff d s
  | .ztwOpen d vdc => Sys2Proof.Machine.execZtwOpen d vdc s
  | .ztwClose d vdc => Sys2Proof.Machine.execZtwClose d vdc s
  | .brakeTimeout d => Sys2Proof.Machine.execBrakeTimeout d s
  | .brakeToStart d => Sys2Proof.Machine.execBrakeToStart d s
  | .shareLim d => Sys2Proof.Machine.execShareLim d s
  | .standstill d => Sys2Proof.Machine.execStandstill d s
  | .torqueSnapshot d => Sys2Proof.Machine.execTorqueSnapshot d s
  | .tqDev d => Sys2Proof.Machine.execTqDev d s
  | .dieSensorSample control safety => Sys2Proof.Machine.execDieSensorSample control safety s
  | .sdGraceExpiry => Sys2Proof.Machine.execSdGraceExpiry s
  | .derateUpdate => Sys2Proof.Machine.execDerateUpdate s
  | .spCtrlWrite m v => Sys2Proof.Machine.execSpCtrlWrite m v s
  | .pinPeriod k changes => Sys2Proof.Machine.execPinPeriod k changes s
  | .pinTimeout k => Sys2Proof.Machine.execPinTimeout k s
  | .injStart m g => Sys2Proof.Machine.execInjStart m g s
  | .injStop m g => Sys2Proof.Machine.execInjStop m g s
  | .injAbort m g => Sys2Proof.Machine.execInjAbort m g s
  | .injAmpWrite m p v => Sys2Proof.Machine.execInjAmpWrite m p v s
  | .capArm m c => Sys2Proof.Machine.execCapArm m c s
  | .capStop m c => Sys2Proof.Machine.execCapStop m c s
  | .frfPoint g io frf k => Sys2Proof.Machine.execFrfPoint g io frf k s
  | .encStep x a b => Sys2Proof.Machine.execEncStep x a b s
  | .encIndex x z => Sys2Proof.Machine.execEncIndex x z s
  | .encZeroTimeout x => Sys2Proof.Machine.execEncZeroTimeout x s
  | .hallChange x u v w => Sys2Proof.Machine.execHallChange x u v w s
  | .hallQual x => Sys2Proof.Machine.execHallQual x s
  | .hallTimeout x => Sys2Proof.Machine.execHallTimeout x s
  | .serialFrameStart x low n tick => Sys2Proof.Machine.execSerialFrameStart x low n tick s
  | .serialFrameEnd x di => Sys2Proof.Machine.execSerialFrameEnd x di s
  | .serialTimeout x => Sys2Proof.Machine.execSerialTimeout x s
  | .hostRead x bad => Sys2Proof.Machine.execHostRead x bad s
  | .hostWrite x => Sys2Proof.Machine.execHostWrite x s
  | .heartbeat x atUs => Sys2Proof.Machine.execHeartbeat x atUs s
  | .sync x => Sys2Proof.Machine.execSync x s
  | .eventAck x => Sys2Proof.Machine.execEventAck x s
  | .spiTransaction mosi => Sys2Proof.Machine.execSpiTransaction mosi s
  | .canSegment x errs f => Sys2Proof.Machine.execCanSegment x errs f s
  | .segTimeout x => Sys2Proof.Machine.execSegTimeout x s
  | .canBusOff x => Sys2Proof.Machine.execCanBusOff x s
  | .canRecover m x => Sys2Proof.Machine.execCanRecover m x s
  | .eventResend x tag => Sys2Proof.Machine.execEventResend x tag s
  | .heartbeatLoss nowUs => Sys2Proof.Machine.execHeartbeatLoss nowUs s
  | .ls r status pos check fines => Sys2Proof.Machine.execLs r status pos check fines s
  | .cm r bits flags check arrival => Sys2Proof.Machine.execCm r bits flags check arrival s
  | .ssn pos reason check => Sys2Proof.Machine.execSsn pos reason check s
  | .rev bits pos check => Sys2Proof.Machine.execRev bits pos check s
  | .dly r round check arrival => Sys2Proof.Machine.execDly r round check arrival s
  | .linkAbort r => Sys2Proof.Machine.execLinkAbort r s
  | .exchFrame h ch num words => Sys2Proof.Machine.execExchFrame h ch num words s
  | .sig h num dig wsig flags => Sys2Proof.Machine.execSig h num dig wsig flags s
  | .rd h addr count bad => Sys2Proof.Machine.execRd h addr count bad s
  | .wr h addr words => Sys2Proof.Machine.execWr h addr words s
  | .rsp h status err data => Sys2Proof.Machine.execRsp h status err data s
  | .ctlr h code status body => Sys2Proof.Machine.execCtlr h code status body s
  | .enum h ring odd => Sys2Proof.Machine.execEnum h ring odd s
  | .loop h l odd => Sys2Proof.Machine.execLoop h l odd s
  | .nonce h nonce => Sys2Proof.Machine.execNonce h nonce s
  | .getNonce h odd => Sys2Proof.Machine.execGetNonce h odd s
  | .verifyStroke h len nonces => Sys2Proof.Machine.execVerifyStroke h len nonces s
  | .align h num odd => Sys2Proof.Machine.execAlign h num odd s
  | .readyQ h odd => Sys2Proof.Machine.execReadyQ h odd s
  | .drive h unit action num d0 d1 d2 odd => Sys2Proof.Machine.execDrive h unit action num d0 d1 d2 odd s
  | .prepare h num old new => Sys2Proof.Machine.execPrepare h num old new s
  | .go h num odd => Sys2Proof.Machine.execGo h num odd s
  | .ctlAbort h num odd => Sys2Proof.Machine.execCtlAbort h num odd s
  | .restart h odd => Sys2Proof.Machine.execRestart h odd s
  | .txnTimeout ring tag => Sys2Proof.Machine.execTxnTimeout ring tag s
  | .laneDown r chars lost fines => Sys2Proof.Machine.execLaneDown r chars lost fines s
  | .cascXfer m v => Sys2Proof.Machine.execCascXfer m v s
  | .cascCmdRestart m => Sys2Proof.Machine.execCascCmdRestart m s
  | .startStepEnd ok us pos detail => Sys2Proof.Machine.execStartStepEnd ok us pos detail s
  | .delayRound txAt => Sys2Proof.Machine.execDelayRound txAt s
  | .bistPhaseEnd e same => Sys2Proof.Machine.execBistPhaseEnd e same s
  | .keygenDone ok => Sys2Proof.Machine.execKeygenDone ok s
  | .fwSlotVerified flash ms => Sys2Proof.Machine.execFwSlotVerified flash ms s
  | .secFcmdGo m => Sys2Proof.Machine.execSecFcmdGo m s
  | .fuseCommandDone ok => Sys2Proof.Machine.execFuseCommandDone ok s
  | .testenEntry => Sys2Proof.Machine.execTestenEntry s
  | .wipeDone ok => Sys2Proof.Machine.execWipeDone ok s
  | .signingDone => Sys2Proof.Machine.execSigningDone s
  | .selftestStart c => Sys2Proof.Machine.execSelftestStart c s
  | .selftestEnd c loops refs gate reads => Sys2Proof.Machine.execSelftestEnd c loops refs gate reads s
  | .registerWrite m size addr v same => Sys2Proof.Machine.execRegisterWrite m size addr v same s
  | .pageEnableClear m page => Sys2Proof.Machine.execPageEnableClear m page s
  | .blockIdle page => Sys2Proof.Machine.execBlockIdle page s
  | .pageSeal m page => Sys2Proof.Machine.execPageSeal m page s
  | .pageLockWrite m page lock => Sys2Proof.Machine.execPageLockWrite m page lock s
  | .pageErrClear m page => Sys2Proof.Machine.execPageErrClear m page s
  | .causeClear c => Sys2Proof.Machine.execCauseClear c s
  | .retentionLoss => Sys2Proof.Machine.execRetentionLoss s
  | .characterLock r offset same => Sys2Proof.Machine.execCharacterLock r offset same s
  | .sdStuckClear n bits => Sys2Proof.Machine.execSdStuckClear n bits s
  | .manchesterViolation n bits => Sys2Proof.Machine.execManchesterViolation n bits s
  | .linkPathDeassert ov usd => Sys2Proof.Machine.execLinkPathDeassert ov usd s
  | .tempPathDeassert k code => Sys2Proof.Machine.execTempPathDeassert k code s
  | .driverAlertRelease => Sys2Proof.Machine.execDriverAlertRelease s
  | .canBusOffRecovered x => Sys2Proof.Machine.execCanBusOffRecovered x s
  | .canFrameSent x errs => Sys2Proof.Machine.execCanFrameSent x errs s
  | .gateReadbackMismatch ball line level => Sys2Proof.Machine.execGateReadbackMismatch ball line level s

end Sys2Proof.Machine
end

