-- ==== Sys2Proof/WellFormed.lean ====
section
/-! DEFINITION. Which commands are well formed: the quantities a command carries have the number and size that the rule of
its row gives them. -/

namespace Sys2Proof

/-- The opcode of R210 that a command of the operation set runs, with its record. -/
def Instr.record : Instr → Option (Nat × OpRec)
  | .loadSmp r _ _ => some (0x01, r) | .emitPwm r _ _ _ => some (0x02, r) | .emitReg r _ _ => some (0x03, r)
  | .exch r _ _ => some (0x04, r) | .capture r _ _ => some (0x05, r) | .inject r _ _ _ => some (0x06, r)
  | .clarke3 r _ _ => some (0x10, r) | .clarkeN r _ _ => some (0x11, r) | .park r _ _ => some (0x12, r)
  | .ipark r _ _ => some (0x13, r) | .sincos r _ _ => some (0x14, r) | .svm3 r _ _ => some (0x15, r)
  | .spwmN r _ _ => some (0x16, r) | .deadcomp r _ _ => some (0x17, r) | .pi r _ _ => some (0x20, r)
  | .pidFd r _ _ => some (0x21, r) | .ffAdd r _ _ => some (0x22, r) | .limit r _ _ => some (0x23, r)
  | .rateLim r _ _ => some (0x24, r) | .vlimCirc r _ _ => some (0x25, r) | .lpf1 r _ _ => some (0x28, r)
  | .notch2 r _ _ => some (0x29, r) | .lut1 r _ _ => some (0x2A, r) | .lut2 r _ _ => some (0x2B, r)
  | .bandSel r _ _ => some (0x2C, r) | .obsEmf r _ _ => some (0x30, r) | .pllTrk r _ _ => some (0x31, r)
  | .hfiDemod r _ _ => some (0x32, r) | .rslvDemod r _ _ => some (0x33, r) | .share r _ _ => some (0x34, r)
  | .trqEst r _ _ => some (0x35, r) | .mul r _ _ => some (0x40, r) | .mac r _ _ => some (0x41, r)
  | .add r _ _ => some (0x42, r) | .sub r _ _ => some (0x43, r) | .abs r _ _ => some (0x44, r)
  | .sat r _ _ => some (0x45, r) | .sqrt r _ _ => some (0x46, r) | .recip r _ _ => some (0x47, r)
  | .atan2 r _ _ => some (0x48, r) | .cmp r _ _ => some (0x49, r) | .sel r _ _ => some (0x4A, r)
  | .hold r _ _ => some (0x50, r) | .check r _ _ => some (0x51, r)
  | _ => none

/-- Data bytes that a frame of the format can hold (R470). -/
def canBytes (fmt : Fin 4) (n : Nat) : Bool :=
  if fmt = 0 then decide (n ≤ 8)
  else if fmt = 3 then decide (1 ≤ n) && decide (n ≤ 2048)
  else decide (n ≤ 8) || [12, 16, 20, 24, 32, 48, 64].contains n

/-- A CTL message that is not of its row's shape: a code that R488 does not list, or the row's own with a body of another length. -/
def ctlOddOk (code len : Nat) (odd : Option CtlOdd) : Bool :=
  match odd with
  | none => true
  | some o => o.code == 0 || decide (12 < o.code.toNat) || (o.code.toNat == code && o.body.length != len)

/-- The sizes of a command's operands besides a schedule record. The code and the body of a CTL message are judged when it is taken (R488), the
LEN of a frame when it is received (R485). -/
def Instr.sizes : Instr → Bool
  | .rcQualification counts _ => decide (counts.length = 8)
  | .sdOfsWrite _ sar i _ => !sar || decide (i.val < 32)
  | .canSegment _ _ f => canBytes f.fmt f.data.length
  | .exchFrame _ _ _ words => decide (1 ≤ words.length) && decide (words.length ≤ 8)
  | .sig _ _ dig _ _ => decide (dig.length = 8)
  | .enum _ _ o => ctlOddOk 1 4 o
  | .loop _ _ o => ctlOddOk 2 4 o
  | .getNonce _ o => ctlOddOk 4 0 o
  | .align _ _ o => ctlOddOk 6 8 o
  | .readyQ _ o => ctlOddOk 7 0 o
  | .drive _ _ _ _ _ _ _ o => ctlOddOk 8 24 o
  | .go _ _ o => ctlOddOk 10 8 o
  | .ctlAbort _ _ o => ctlOddOk 11 8 o
  | .restart _ o => ctlOddOk 12 0 o
  | _ => true

/-- A well-formed command: its record is one that the load check of R263 lets through, and its operands have their sizes. -/
def Instr.wf (i : Instr) : Bool :=
  (match i.record with
   | some (op, r) => r.ok op
   | none => true) && i.sizes

end Sys2Proof
end

