-- ==== Sys2Proof/Safety.lean ====
section
/-! DEFINITION. What counts as a sound state and a safe run, in the terms the statements use. -/

namespace Sys2Proof.Machine

/-- Every register map and memory of the state has its canonical form: keys strictly rising, and no entry equal to what an
unlisted key reads as. -/
def State.mapsWf (s : State) : Bool :=
  mapWf resetWord s.regs && mapWf (fun _ => 0#8) s.sram && mapWf (fun _ => 0#8) s.half0 && mapWf (fun _ => 0#8) s.half1 &&
    mapWf (fun _ => 0#32) s.locals && mapWf (fun _ => 0#8) s.caches

/-- The outcome is a next state of which `p` holds. -/
def Completes (o : Host.Outcome State Fault Refusal) (p : State → Prop) : Prop := ∃ t, o = .next t ∧ p t

/-- `t` is `s` but for the registers at the addresses of the list. -/
def OnlyRegs (l : List Nat) (s t : State) : Prop := { t with regs := s.regs } = s ∧ ∀ a, a ∉ l → t.rd a = s.rd a

/-- `t` with the choppers' own holds of `s`: a switch that is no longer armed is released (R377). -/
def State.choppersOf (t s : State) : State := { t with prot := { t.prot with chopSelf := s.prot.chopSelf } }

/-- System SRAM, the plan store, the seats' local data and the cox caches are the same. -/
def SameMemory (s t : State) : Prop := t.sram = s.sram ∧ t.half0 = s.half0 ∧ t.half1 = s.half1 ∧ t.locals = s.locals ∧
  t.caches = s.caches

/-- No register outside the pages of the list differs. -/
def OnlyPages (l : List Nat) (s t : State) : Prop := ∀ a, pageOf a ∉ l → t.rd a = s.rd a

/-- `t` is `s` but for the `n` local words of a seat from word `lo`, and what they held before is kept for the catch (R186). -/
def OnlyLocals (seat lo n : Nat) (s t : State) : Prop :=
  { t with locals := s.locals, fab := { t.fab with undo := s.fab.undo } } = s ∧ ∀ x w, w < 4096 → (x ≠ seat ∨ w < lo ∨ lo + n ≤ w) → t.localWord x w = s.localWord x w

/-- Neither a safe state nor an easy-all is due for the instance at the next catch boundary (R269). -/
def State.settled (s : State) (d : Nat) : Prop := (s.drive d).safeDue = false ∧ (s.drive d).easyDue = 0

/-- Registers that a change of an instance's state writes: DRV_STATE, DRV_MODE, DRV_TREF and PROT_BRKCTL (R269, R377). -/
def driveRegs (d : Nat) : List Nat :=
  [R.DRV_STATE d, R.DRV_MODE d, R.DRV_TREF d, R.PROT_BRKCTL 0, R.PROT_BRKCTL 1, R.PROT_BRKCTL 2, R.PROT_BRKCTL 3]

/-- The record passes its load checks for some plan, and it runs in this catch. -/
def Issues (op : Nat) (r : OpRec) (s : State) : Prop :=
  r.ok op = true ∧ s.sup.die = .running ∧ s.seatReady r = true ∧ s.recDue r = true

/-- The state at the record's issue, the results of the record before it in its seat written (R205). -/
def State.written (s : State) (r : OpRec) : State := s.flushOwn (s.opSeat r)

/-- The record runs to a state that has the property once its own results are written, in its last cycle (R205). -/
def Runs (r : OpRec) (o : Host.Outcome State Fault Refusal) (p : State → Prop) : Prop := Completes o (fun t => p (t.written r))

/-- The state is one of which `p` holds, with the causes that assert in the same umpire cycle acting behind it (R79). -/
def Beside (same : List ResetCause) (p : State → Prop) (u : State) : Prop := ∃ t, u = t.beside same ∧ p t

/-- COX1 takes the request of channel `c`, which asks for service `sv` (R434). -/
def Takes (c : Fin 4) (sv : Nat) (s : State) : Prop :=
  s.sup.die = .running ∧ s.fw = true ∧ s.mail.order.head? = some c.val ∧ s.mbState c = mbPending ∧ (s.mbReq c).service = sv

/-- COX1 takes the request at the front to a state of which `p` holds before the requests behind it that take no work end (R434). -/
def Serves (o : Host.Outcome State Fault Refusal) (p : State → Prop) : Prop := ∃ u, o = .next u.mbSkip ∧ p u

/-- The state in which the request of channel `c` has been taken. -/
def State.taken (s : State) (c : Nat) : State :=
  ({ s with mail := { s.mail with order := s.mail.order.tail } } : State).set (F.MB_STATE_STATE c) mbAccepted

/-- The request has left the queue and ended with a CODE and results, and nothing outside the MBOX page and the host
interfaces differs (R432, R437). -/
def Answers (c : Fin 4) (code : Nat) (res : List Nat) (s t : State) : Prop :=
  t.mbState c = (if code = 0 then mbDone else mbFailed) ∧ t.fld (F.MB_STATE_CODE c) = code ∧
    (∀ k, k < 4 → t.rd (R.MB_RES c k) = BitVec.ofNat 32 (res.getD k 0)) ∧ bit (t.fld F.MBOX_EVENT_DONE) c = true ∧
    t.mail.order = s.mail.order.tail ∧ SameMemory s t ∧ OnlyPages [0x15, 0x16, 0x17, 0x1D] s t

/-- The first request of an open interface is of interface `i` and opcode `op` (R459). -/
def HostTakes (i : Fin 3) (op : Nat) (f : List Byte) (fmt : Nat) (s : State) : Prop :=
  s.sup.die = .running ∧ s.conv.queue.find? (fun e => s.isOpen e.1) = some (i.val, f, fmt) ∧ byteAt f 0 = op

/-- The state in which that request has been taken. -/
def State.requestTaken (s : State) : State :=
  { s with conv := { s.conv with queue := s.conv.queue.eraseP (fun e => s.isOpen e.1) } }

/-- The frame that a command brings: its header, TYPE, byte 3, bytes 4 to 7 and payload (R483, R484, R488). -/
def frameOf : Instr → Option (RingHdr × Nat × Nat × Nat × List Byte)
  | .exchFrame h ch num words => some (h, tyExch, ch.val, num.toNat, wordBytes words)
  | .sig h num dig wsig flags => some (h, tySig, 0, num.toNat, le 6 num.toNat ++ [0, 0] ++ dig ++ le 4 wsig.toNat ++ le 4 flags.toNat)
  | .rd h addr count _ => some (h, tyRd, h.tag.val, addr.toNat, le 2 count.toNat ++ [0, 0])
  | .wr h addr words => some (h, tyWr, h.tag.val, addr.toNat, wordBytes words)
  | .rsp h st err data => some (h, tyRsp, h.tag.val, 0, [st, err] ++ wordBytes data)
  | .ctlr h code st body => some (h, tyCtlr, h.tag.val, 0, [code, st, 0, 0] ++ body)
  | .enum h r odd => some (h, tyCtl, h.tag.val, 0, ctlSent ctEnum [BitVec.ofNat 8 r, 0, 0, 0] odd)
  | .loop h l odd => some (h, tyCtl, h.tag.val, 0, ctlSent ctLoop (le 4 l.toNat) odd)
  | .nonce h n => some (h, tyCtl, h.tag.val, 0, ctlBody ctNonce n)
  | .getNonce h odd => some (h, tyCtl, h.tag.val, 0, ctlSent ctGetNonce [] odd)
  | .verifyStroke h len ns => some (h, tyCtl, h.tag.val, 0, ctlBody ctVerify (le 4 len.toNat ++ ns.flatten))
  | .align h n odd => some (h, tyCtl, h.tag.val, 0, ctlSent ctAlign (le 6 n.toNat ++ [0, 0]) odd)
  | .readyQ h odd => some (h, tyCtl, h.tag.val, 0, ctlSent ctReadyQ [] odd)
  | .drive h u a n x y z odd =>
    some (h, tyCtl, h.tag.val, 0, ctlSent ctDrive ([u, a, 0, 0] ++ le 6 n.toNat ++ [0, 0] ++ wordBytes [x, y, z]) odd)
  | .prepare h n old new =>
    some (h, tyCtl, h.tag.val, 0, ctlBody ctPrepare (le 6 n.toNat ++ [0, 0] ++ (List.zipWith (fun a b => a ++ b) old new).flatten))
  | .go h n odd => some (h, tyCtl, h.tag.val, 0, ctlSent ctGo (le 6 n.toNat ++ [0, 0]) odd)
  | .ctlAbort h n odd => some (h, tyCtl, h.tag.val, 0, ctlSent ctAbort (le 6 n.toNat ++ [0, 0]) odd)
  | .restart h odd => some (h, tyCtl, h.tag.val, 0, ctlSent ctRestart [] odd)
  | _ => none

/-- A frame of the ring reaches this member over a lane that is not DOWN, and is good (R482, R483, R485). -/
def Reaches (h : RingHdr) (typ b3 addr : Nat) (payload : List Byte) (s : State) : Prop :=
  s.sup.die = .running ∧ s.cascaded = true ∧ bit s.ring.down h.ring = false ∧ ringGood h typ b3 addr payload = true ∧ (h.dst.val = s.pos' ∨ h.dst.val = allMembers)

/-- A crew member takes a request of the stroke, which is no repeat of one it has answered or is to answer (R486). -/
def RingTakes (h : RingHdr) (typ addr : Nat) (body : List Byte) (s : State) : Prop :=
  Reaches h typ h.tag addr body s ∧ s.isCrew = true ∧ h.src = 0 ∧
    s.ring.answers.any (fun e => e.1 == 128 * h.src.val + h.tag.val && e.2.1 == reqKey h typ addr body) = false ∧
    s.ring.due ≠ some (h.src.val, h.tag.val, reqKey h typ addr body)

/-- A CTL message that a crew member executes: its code is open before attestation or attestation has passed, and READY
stands where the code needs it (R487, R488). -/
def CtlTakes (h : RingHdr) (code : Nat) (body : List Byte) (s : State) : Prop :=
  RingTakes h tyCtl 0 (ctlBody code body) s ∧ (s.ring.trusted = true ∨ ctlEarly code = true) ∧
    (ctlReady code = true → s.on F.CASC_STATE_READY = true)

/-- The answer kept for the request; the queue of drive commands and the ring's other state are not spoken of. -/
def Answered (h : RingHdr) (typ addr : Nat) (body ans : List Byte) (t : State) : Prop :=
  t.ring.answers.find? (fun e => e.1 == 128 * h.src.val + h.tag.val) =
    some (128 * h.src.val + h.tag.val, reqKey h typ addr body, ans)

end Sys2Proof.Machine
end

