-- ==== Sys2Proof/Certificates/Slice0/Obligations.lean ====
section
/-! DEFINITION. What is to be proved of the block. -/

open Sys2Proof Sys2Proof.Machine

/-- A step runs exec on the command at the front of the queue with the queue's rest; on an empty queue the block idles
(the model's own queue, log entry 19). -/
def Obligations.StepRunsFrontCommand : Prop :=
  (∀ (s : State) (c : Instr) (rest : List Instr), s.pending = c :: rest → step s = exec c { s with pending := rest }) ∧
  (∀ s : State, s.pending = [] → step s = .next s)

/-- POWER_UP, RAIL_GOOD and CONTROL_DIE_RELEASE each complete: no rail is enabled before the rail above it is good, POR is logged
unless the retention latch holds a cause, and the release shows the cause log in the RST page; nor is the die released before the umpire's own tests; POWER_DOWN, CAUSE_CLEAR and
AUTOMATIC_RESTART complete (from R72, R73, R75, R77, R80, R81, R82, R528). -/
def Obligations.PowerUpSequence : Prop :=
  (∀ s : State, s.sup.vsup = false →
    exec .powerUp s = .next { s with sup := { s.sup with vsup := true, code := s.sup.retained.getD 0x01 } }) ∧
  (∀ s : State, s.sup.vsup = true → exec .powerUp s = .next s) ∧
  (∀ (s : State) (r : Rail), r ≠ .vsup → (r = .v5 → s.sup.vsup = true) → (r = .vcsd ∨ r = .uref → .v5 ∈ s.sup.good) →
    (r = .vio ∨ r = .v18 ∨ r = .vcore ∨ r = .vdda → s.sup.umpire = true ∧ s.sup.umpTest = true) →
    (r = .vcore ∨ r = .vdda → .vio ∈ s.sup.good ∧ .v18 ∈ s.sup.good) →
    Completes (exec (.railGood r) s) (fun t => r ∈ t.sup.good ∧ (∀ q, q ≠ r → (q ∈ t.sup.good ↔ q ∈ s.sup.good)) ∧
      { t with sup := { t.sup with good := s.sup.good } } = s)) ∧
  (∀ (s : State) (r : Rail), r = .vcsd ∨ r = .uref → .v5 ∉ s.sup.good → exec (.railGood r) s = .next s) ∧
  (∀ (s : State) (r : Rail), r = .vcore ∨ r = .vdda → (.vio ∉ s.sup.good ∨ .v18 ∉ s.sup.good) → exec (.railGood r) s = .next s) ∧
  (∀ (s : State) (now : Nat), s.sup.die = .down ∨ (s.sup.die = .held ∧ (s.sup.code = 0x10 ∨ s.sup.code = 0x16)) →
    s.sup.umpire = true → s.sup.umpTest = true → s.sup.gateTest = true → s.sup.rcFailed = false → s.sup.bad = [] →
    (∀ r, r ≠ .vsup → r ∈ s.sup.good) →
    Completes (exec (.controlDieRelease true now) s) (fun t => t.sup = { s.sup.count now with die := .running } ∧
      t.fld F.RST_CAUSE_CODE = s.sup.code % 256 ∧ t.fld F.RST_CAUSE_DETAIL = s.sup.detail % 256 ∧
      t.fld F.RST_CAUSE_RESTARTS = (s.sup.restartTimes.filter (fun x => now < x + 60000)).length % 256 ∧
      t.rd R.RST_ALSO = s.sup.also ∧ t.rd R.RST_HIST = s.sup.hist ∧ SameMemory s t)) ∧
  (∀ (s : State) (now : Nat), exec (.controlDieRelease false now) s = .next s) ∧
  (∀ (s : State) (now : Nat) (rst : Bool), s.sup.umpTest = false ∨ s.sup.gateTest = false →
    exec (.controlDieRelease rst now) s = .next s) ∧
  (∀ s : State, ∃ t, exec .powerDown s = .next t ∧ t.sup.vsup = false ∧ t.sup.die = .down ∧ t.sup.umpire = false ∧ t.sup.good = [] ∧
    t.sup.retained = some 0x02 ∧ t.regs = [] ∧ t.sram = [] ∧ t.half0 = [] ∧ t.half1 = [] ∧ t.locals = [] ∧ t.pending = s.pending) ∧
  (∀ (s : State) (r : Rail), .overVoltage r ∈ s.sup.bad → exec (.causeClear (.overVoltage r)) s =
    .next { s with sup := { s.sup with bad := s.sup.bad.filter (fun x => x != .overVoltage r) } }) ∧
  (∀ (s : State) (r : Rail), .brownOut r ∈ s.sup.bad → r ≠ .vsup → s.sup.umpire = true → ∃ t, exec (.causeClear (.brownOut r)) s = .next t ∧
    .brownOut r ∉ t.sup.bad ∧ r ∈ t.sup.good ∧ (∀ q, q ≠ r → (q ∈ t.sup.good ↔ q ∈ s.sup.good)) ∧
    { t with sup := { t.sup with bad := s.sup.bad, good := s.sup.good } } = s) ∧
  (∀ (s : State) (now : Nat) (same : List ResetCause), s.sup.umpire = true → s.sup.umpTest = true → s.sup.gateTest = true → s.sup.die = .held →
    s.sup.code ≠ 0x10 → s.sup.code ≠ 0x16 → s.sup.bad = [] → s.sup.rcFailed = false → s.sup.restartTimes = [] →
    Completes (exec (.automaticRestart true now same) s) (Beside same (fun t => t.sup.die = .running ∧ t.sup.restartTimes = [now] ∧
      t.sup.code = s.sup.code ∧ t.fld F.RST_CAUSE_RESTARTS = 1 ∧ SameMemory s t)))

/-- RETENTION_LOSS, CAUSE_CLEAR, POWER_DOWN and AUTOMATIC_RESTART: what the cause log, the retention latch and the restart
window keep; no restart is made while RST_N is low, and the fourth within 60 s is not made (from R75, R76, R80, R81). -/
def Obligations.RestartsAndRetention : Prop :=
  (∀ s : State, s.sup.vsup = false → exec .retentionLoss s = .next { s with sup := { s.sup with retained := none } }) ∧
  (∀ (s : State) (c : RailCause), c ∈ s.sup.bad → Completes (exec (.causeClear c) s) (fun t =>
    c ∉ t.sup.bad ∧ (∀ d, d ≠ c → (d ∈ t.sup.bad ↔ d ∈ s.sup.bad)) ∧ { t with sup := s.sup } = s)) ∧
  (∀ (s : State) (c : RailCause), c ∉ s.sup.bad → exec (.causeClear c) s = .next s) ∧
  (∀ s : State, Completes (exec .powerDown s) (fun t => t.sup.retained = some 0x02 ∧ t.sup.vsup = false ∧ t.sup.die = .down ∧
    t.sup.umpire = false ∧ t.sup.good = [])) ∧
  (∀ (s : State) (now : Nat) (same : List ResetCause), s.sup.umpire = true → s.sup.die = .held → s.sup.code ≠ 0x10 → s.sup.code ≠ 0x16 → s.sup.bad = [] →
    s.sup.rcFailed = false → s.sup.umpTest = true → s.sup.gateTest = true → (s.sup.restartTimes.filter (fun x => now < x + 60000)).length < 3 →
    Completes (exec (.automaticRestart true now same) s) (Beside same (fun t => t.sup.die = .running ∧ now ∈ t.sup.restartTimes ∧
      t.sup.code = s.sup.code ∧
      t.fld F.RST_CAUSE_RESTARTS = (s.sup.restartTimes.filter (fun x => now < x + 60000)).length + 1))) ∧
  (∀ (s : State) (now : Nat) (same : List ResetCause), s.sup.umpire = true → s.sup.die = .held → s.sup.code ≠ 0x10 → s.sup.code ≠ 0x16 → s.sup.bad = [] →
    s.sup.rcFailed = false → s.sup.umpTest = true → s.sup.gateTest = true → 3 ≤ (s.sup.restartTimes.filter (fun x => now < x + 60000)).length →
    exec (.automaticRestart true now same) s = .next ({ s with sup := s.sup.count now }.causes .restartLimit same) ∧
    Completes (exec (.automaticRestart true now []) s) (fun t => t.sup.die = .resetHold ∧ t.sup.code = 0x1A ∧ { t with sup := s.sup } = s)) ∧
  (∀ (s : State) (now : Nat) (same : List ResetCause), exec (.automaticRestart false now same) s = .next (s.beside same))

/-- BROWN_OUT, RAIL_OV, VSUP_OV, VSUP_OV_WARN, EXT_RST and RST_SWREQ: the reset of a cause's scope, and the cause that it logs; of
several causes in one umpire cycle the lower code wins and the others stand in RST_ALSO (from R71, R72, R77, R78, R79, R83). -/
def Obligations.ResetCauses : Prop :=
  (∀ (s : State), s.sup.vsup = true → Completes (exec (.brownOut .v5 []) s) (fun t => t.sup.code = 0x02 ∧
    t.sup.retained = some 0x02 ∧ t.sup.die = .down ∧ t.sup.umpire = false ∧ t.regs = [])) ∧
  (∀ (s : State), s.sup.vsup = true → s.sup.die = .running → Completes (exec (.brownOut .vio []) s) (fun t => t.sup.code = 0x07 ∧
    t.sup.die = .held ∧ .vio ∉ t.sup.good ∧ .brownOut .vio ∈ t.sup.bad)) ∧
  (∀ (s : State), s.sup.vsup = true → s.sup.die = .running → Completes (exec (.railOv .vcore []) s) (fun t => t.sup.code = 0x0B ∧
    t.sup.die = .held ∧ t.sup.detail = railNumber .vcore)) ∧
  (∀ (s : State), s.sup.umpire = true → s.sup.die = .running → s.sup.above82 = true → Completes (exec (.vsupOv []) s) (fun t =>
    t.sup.code = 0x06 ∧ t.sup.die = .held)) ∧
  (∀ (s : State) (same : List ResetCause), s.sup.vsup = true → s.sup.die = .running → (∀ x ∈ same, resetScope x = 1) →
    Completes (exec (.brownOut .vcore same) s) (fun t => t.sup.die = .held ∧ t.sup.code ≤ 0x09 ∧
      (∀ x ∈ same, t.sup.code ≤ resetCode x) ∧ (t.sup.code = 0x09 ∨ ∃ x ∈ same, t.sup.code = resetCode x) ∧
      (∀ x ∈ same, resetCode x ≠ t.sup.code → t.sup.also.getLsbD (resetCode x) = true))) ∧
  (∀ (s : State) (up : Bool), s.sup.umpire = true → Completes (exec (.vsupOvWarn up) s) (fun t =>
    t.on F.UMP_STATE_VSUP_OV_WARN = up ∧ t.sup.above82 = up ∧ OnlyRegs [R.UMP_STATE] s { t with sup := s.sup })) ∧
  (∀ (s : State) (w : Nat) (same : List ResetCause), w < 200 → exec (.extRst w same) s = .next (s.beside same)) ∧
  (∀ (s : State) (w : Nat), 1000 ≤ w → s.sup.die = .running → Completes (exec (.extRst w []) s) (fun t =>
    t.sup.code = 0x10 ∧ t.sup.die = .held)) ∧
  (∀ (s : State) (w : Nat), 1000 ≤ w → s.sup.die = .resetHold → s.sup.rcTries ≠ 3 → Completes (exec (.extRst w []) s) (fun t =>
    t.sup.code = 0x10 ∧ t.sup.die = .held ∧ t.sup.restartTimes = s.sup.restartTimes ∧ { t with sup := s.sup } = s)) ∧
  (∀ (s : State) (key : Word), s.sup.die = .running → key.toNat % 65536 = 0xA5C3 → s.anyOn = false →
    Completes (exec (.rstSwreq .root key []) s) (fun t => t.sup.code = 0x16 ∧ t.sup.die = .held)) ∧
  (∀ (s : State) (key : Word) (m : Master), s.sup.die = .running → key.toNat % 65536 = 0xA5C3 → s.anyOn = true → m = .root ∨
      (s.on (F.PAGE_LOCK_LOCK 1) = false) →
    Completes (exec (.rstSwreq m key []) s) (fun t => t.fld (F.PAGE_ERR_INFO_CODE 1) = 5 ∧
      t.rd (R.PAGE_ERR_ADDR 1) = BitVec.ofNat 32 R.RST_SWREQ ∧ t.sup = s.sup)) ∧
  (∀ (s : State) (r : Rail) (same : List ResetCause), s.sup.vsup = true →
    exec (.brownOut r same) s = .next (s.causes (.rail (.brownOut r)) same) ∧
    (r ≠ .vsup → exec (.railOv r same) s = .next (s.causes (.rail (.overVoltage r)) same))) ∧
  (∀ (s : State) (same : List ResetCause), s.sup.umpire = true →
    (s.sup.above82 = true → exec (.vsupOv same) s = .next (s.causes (.rail (.overVoltage .vsup)) same)) ∧
    (s.sup.above82 = false → exec (.vsupOv same) s = .next (s.beside same))) ∧
  (∀ (s : State) (w : Nat) (same : List ResetCause), 1000 ≤ w → s.sup.die = .running →
    exec (.extRst w same) s = .next (s.causes .extRst same)) ∧
  (∀ (s : State) (key : Word) (same : List ResetCause), s.sup.die = .running → key.toNat % 65536 = 0xA5C3 → s.anyOn = false →
    exec (.rstSwreq .root key same) s = .next (s.causes .soft same)) ∧
  (∀ (s t : State) (c : ResetCause) (same : List ResetCause), s.sup.die = .running → (∀ x ∈ c :: same, resetScope x = 1) → t = s.causes c same →
    t.sup.die = .held ∧ ∃ w ∈ c :: same, t.sup.code = resetCode w ∧ t.sup.detail = resetDetail w ∧ ∀ x ∈ c :: same,
      resetCode w ≤ resetCode x ∧ (resetCode x ≠ resetCode w → t.sup.also.getLsbD (resetCode x) = true)) ∧
  (∀ (s : State) (c : ResetCause) (same : List ResetCause), s.sup.die = .running → (∀ x ∈ c :: same, resetScope x ≠ 2) →
    (∃ x ∈ c :: same, resetScope x = 0) → (s.causes c same).sup.die = .resetHold) ∧
  (∀ (s t : State) (c : ResetCause) (same : List ResetCause), (∃ x ∈ c :: same, resetScope x = 2) → t = s.causes c same →
    t.sup.die = .down ∧ t.sup.umpire = false ∧ t.regs = [] ∧ t.sup.restartTimes = [])


/-- The RC oscillator's commands: qualification and its three attempts, the 16 µs ladder, its failure, and the trim while
LOCKED (from R106 to R109). -/
def Obligations.RcOscillator : Prop :=
  (∀ (s : State) (c : List Nat), s.rcTrying = true → rcQualOk c = true →
    ∀ same : List ResetCause, exec (.rcQualification c same) s = .next ({ s with
      sup := { s.sup with umpire := true, umpTest := false, gateTest := false, rcFailed := false, rcTries := 0 }
      ump := { s.ump with rcQual := s.sup.rcTries + 1 } }.beside same)) ∧
  (∀ (s : State) (c : List Nat), s.rcTrying = true → rcQualOk c = false → s.sup.rcTries ≠ 2 →
    ∀ same : List ResetCause, exec (.rcQualification c same) s = .next ({ s with sup := { s.sup with rcTries := s.sup.rcTries + 1, rcStopped := true } }.beside same)) ∧
  (∀ (s : State) (c : List Nat), s.rcTrying = true → rcQualOk c = false → s.sup.rcTries = 2 →
    (∀ same : List ResetCause, exec (.rcQualification c same) s = .next ({ s with sup := { s.sup with rcTries := 3, rcStopped := true } }.causes .clkStart same)) ∧
    Completes (exec (.rcQualification c []) s) (fun t => t.sup.die = .resetHold ∧ t.sup.code = 0x18 ∧ t.sup.umpire = false ∧
      { t with sup := s.sup } = s)) ∧
  (∀ s : State, s.rcTrying = true → s.sup.rcTries ≠ 2 →
    ∀ same : List ResetCause, exec (.rcEdgeLoss same) s = .next ({ s with sup := { s.sup with rcTries := s.sup.rcTries + 1, rcStopped := true } }.beside same)) ∧
  (∀ s : State, s.sup.rcStopped = true → s.sup.rcTries < 3 →
    exec .rcRetry s = .next { s with sup := { s.sup with rcStopped := false } }) ∧
  (∀ (s : State) (c : Nat), s.sup.umpire = true → 240 ≤ c → c ≤ 272 →
    ∀ same : List ResetCause, exec (.rcLadderCheck c same) s = .next ({ s with ump := { s.ump with windows := s.ump.windows + 1 } }.beside same)) ∧
  (∀ (s : State) (c : Nat) (same : List ResetCause), s.sup.umpire = true → c < 240 ∨ 272 < c →
    (∀ x ∈ same, resetScope x = 1 ∧ 0x11 ≤ resetCode x) → Completes (exec (.rcLadderCheck c same) s) (fun t => t.sup.umpire = false ∧ t.sup.rcFailed = true ∧ t.sup.die ≠ .running ∧
      t.sup.code = 0x11 ∧ t.sup.detail = 0x47)) ∧
  (∀ (s : State) (same : List ResetCause), s.sup.umpire = true →
    (∀ x ∈ same, resetScope x = 1 ∧ 0x11 ≤ resetCode x) → Completes (exec (.rcEdgeLoss same) s) (fun t => t.sup.umpire = false ∧ t.sup.rcFailed = true ∧ t.sup.die ≠ .running ∧
      t.sup.code = 0x11 ∧ t.sup.detail = 0x47)) ∧
  (∀ (s : State) (e : Int), s.sup.die = .running → s.pllState = 4 → e ≤ -500 → s.ump.trim < 30 → -30 ≤ s.ump.trim →
    Completes (exec (.rcTrimStep e) s) (fun t => t.ump.trim = s.ump.trim + 1 ∧ t.ump.trimRange = false ∧
      OnlyRegs [R.CLK_RC] s { t with ump := s.ump })) ∧
  (∀ (s : State) (e : Int), s.sup.die = .running → s.pllState = 4 → 500 ≤ e → s.ump.trim ≤ 30 → -30 < s.ump.trim →
    Completes (exec (.rcTrimStep e) s) (fun t => t.ump.trim = s.ump.trim - 1)) ∧
  (∀ (s : State) (e : Int), s.sup.die = .running → s.pllState = 4 → e ≤ -500 → s.ump.trim = 30 → s.ump.trimRange = false →
    Completes (exec (.rcTrimStep e) s) (fun t => t.ump.trim = 30 ∧ t.ump.trimRange = true ∧ t.on F.CLK_EVENT_TRIM_RANGE = true)) ∧
  (∀ (s : State) (e : Int), s.sup.die = .running → s.pllState ≠ 4 → exec (.rcTrimStep e) s = .next s)

/-- A lock attempt from FREE to LOCKED: the settings it takes, the band search, what each step leaves in the PLL page, what
LOCKED starts, and an attempt that loses its reference (from R95 to R99, R102, R103). -/
def Obligations.LockAttempt : Prop :=
  (∀ (s : State) (refp : Bool) (hz src : Nat), s.sup.die = .running → s.pllState = 0 → s.refSource refp = some src → src < 4 →
    Completes (exec (.lockAttempt refp hz) s) (fun t => t.pllState = 1 ∧ t.fld F.PLL_STATUS_SRC = src ∧
      t.fld F.PLL_BAND_BAND = 32 ∧ t.fld F.PLL_STATUS_ATTEMPTS = min (s.fld F.PLL_STATUS_ATTEMPTS + 1) 255 ∧
      t.pll.step = 1 ∧ t.pll.refHz = hz ∧ t.pll.kept = none ∧ t.pll.n = (if src = 1 then s.fld F.PLL_DIV_N else 160) ∧
      t.pll.win = max 1 (s.fld F.PLL_LOCK_WIN) ∧ t.pll.cycles = min 4096 (max 16 (s.fld F.PLL_LOCK_CYCLES)) ∧
      OnlyRegs [R.PLL_STATUS, R.PLL_BAND] s { t with pll := s.pll })) ∧
  (∀ (s : State) (c c63 : Nat), s.sup.die = .running → s.pllState = 1 → s.pll.step < 6 →
    Completes (exec (.bandSearchStep c c63 false) s) (fun t => t.pllState = 1 ∧ t.pll.step = s.pll.step + 1 ∧
      t.fld F.PLL_BAND_BAND = ((if c < s.targetCount then s.fld F.PLL_BAND_BAND
        else s.fld F.PLL_BAND_BAND - 2 ^ (6 - s.pll.step)) + 2 ^ (5 - s.pll.step)) % 64 ∧
      OnlyRegs [R.PLL_BAND] s { t with pll := s.pll })) ∧
  (∀ (s : State) (c c63 : Nat), s.sup.die = .running → s.pllState = 1 → s.pll.step = 6 → c < s.targetCount →
    100 * (s.targetCount - c) ≤ s.targetCount →
    Completes (exec (.bandSearchStep c c63 false) s) (fun t => t.pllState = 2 ∧ t.fld F.PLL_BAND_BAND = s.fld F.PLL_BAND_BAND ∧
      t.fld F.PLL_BAND_FINE = 8192)) ∧
  (∀ (s : State) (c c63 : Nat), s.sup.die = .running → s.pllState = 1 → s.pll.step = 6 → c < s.targetCount →
    s.targetCount < 100 * (s.targetCount - c) →
    Completes (exec (.bandSearchStep c c63 false) s) (fun t => t.pllState = 0 ∧ t.fld F.PLL_STATUS_FAIL = 2 ∧
      t.rd R.PLL_BAND = resetWord R.PLL_BAND)) ∧
  (∀ (s : State) (c c63 : Nat), s.sup.die = .running → s.pllState = 1 → s.pll.step = 6 → s.pll.kept = none → s.targetCount ≤ c →
    c63 < s.targetCount → 100 * (s.targetCount - c63) ≤ s.targetCount →
    Completes (exec (.bandSearchStep c c63 false) s) (fun t => t.pllState = 2 ∧
      t.fld F.PLL_BAND_BAND = s.fld F.PLL_BAND_BAND - 1 ∧ t.fld F.PLL_BAND_FINE = 8192)) ∧
  (∀ (s : State) (errs : List (BitVec 16)), s.sup.die = .running → s.pllState = 2 → errs.length = 16 →
    (∀ e ∈ errs, (s.shifted e).natAbs ≤ s.pll.win) →
    Completes (exec (.acquireDone errs false) s) (fun t => t.pllState = 3 ∧
      OnlyRegs [R.PLL_STATUS, R.PLL_PHERR, R.PLL_BAND] s { t with pll := s.pll, freeCtr := s.freeCtr })) ∧
  (∀ (s : State) (errs : List (BitVec 16)), s.sup.die = .running → s.pllState = 2 → s.runEnds 16 errs = false →
    exec (.acquireDone errs false) s = .next s) ∧
  (∀ (s : State) (errs : List (BitVec 16)), s.sup.die = .running → s.pllState = 2 → s.noRun 16 errs = true →
    Completes (exec (.acqTimeout errs false) s) (fun t => t.pllState = 0 ∧
      t.fld F.PLL_STATUS_FAIL = 3 ∧ t.on F.CLK_EVENT_ATTEMPT_FAIL = true ∧ t.rd R.PLL_BAND = resetWord R.PLL_BAND ∧
      OnlyRegs [R.PLL_STATUS, R.CLK_EVENT, R.PLL_BAND, R.PLL_PHERR] s { t with pll := s.pll, freeCtr := s.freeCtr })) ∧
  (∀ (s : State) (errs : List (BitVec 16)), s.sup.die = .running → s.pllState = 3 → errs.length = 4 * s.pll.cycles →
    s.noRun s.pll.cycles errs = true →
    Completes (exec (.lockTimeout errs false) s) (fun t => t.pllState = 0 ∧
      t.fld F.PLL_STATUS_FAIL = 4 ∧ t.on F.CLK_EVENT_ATTEMPT_FAIL = true ∧ t.rd R.PLL_BAND = resetWord R.PLL_BAND ∧
      OnlyRegs [R.PLL_STATUS, R.CLK_EVENT, R.PLL_BAND, R.PLL_PHERR] s { t with pll := s.pll, freeCtr := s.freeCtr })) ∧
  (∀ (s : State) (c : Instr) (errs : List (BitVec 16)) (n n63 : Nat), s.sup.die = .running →
    (s.pllState = 1 ∧ c = .bandSearchStep n n63 true) ∨ (s.pllState = 2 ∧ (c = .acquireDone errs true ∨ c = .acqTimeout errs true)) ∨
      (s.pllState = 3 ∧ c = .lockTimeout errs true) →
    Completes (exec c s) (fun t => t.pllState = 0 ∧ t.fld F.PLL_STATUS_FAIL = 1 ∧ t.on F.CLK_EVENT_REF_LOSS = true ∧
      t.on F.CLK_EVENT_ATTEMPT_FAIL = true)) ∧
  (∀ s : State, s.sup.die = .running → Completes (exec .dividerChange s) (fun t =>
    t.on F.CLK_ISLANDS_HALF = s.attempting ∧ OnlyRegs [R.CLK_ISLANDS] s t)) ∧
  (∀ (s u : State) (errs : List (BitVec 16)) (tick : Nat) (off : Int), s.sup.die = .running → s.pllState = 3 →
    s.runEnds s.pll.cycles errs = true → u = locked errs false tick off s →
    u.pllState = 4 ∧ u.on F.CLK_EVENT_LOCKED = true ∧ u.fld F.CLK_MON_C = 0 ∧
    u.pll.coastMax = min 10000 (max 1 (s.fld F.PLL_COAST_MAX)) ∧ u.pll.lolWin = max 1 (s.fld F.PLL_LOCK_WIN) ∧ SameMemory s u ∧
    exec (.locked errs false tick off) s = .next (u.fixRole).autoPlan)

/-- Loss of the reference or of lock, the coast, and the clock monitor: an attempt fails, LOCKED passes to COAST or, on a
crew member with STANDBY_OK, to the other lane; the monitor's conditions declare the control die failed (from R92, R98, R101, R102,
R104, R110, R111). -/
def Obligations.ClockSupervision : Prop :=
  (∀ (s : State) (f : List (BitVec 14)), s.sup.die = .running → s.attempting = true →
    Completes (exec (.refLoss f) s) (fun t => t.pllState = 0 ∧ t.fld F.PLL_STATUS_FAIL = 1 ∧ t.on F.CLK_EVENT_REF_LOSS = true)) ∧
  (∀ (s : State) (f : List (BitVec 14)) (r : Fin 2), s.sup.die = .running → s.pllState = 4 → s.fld F.PLL_STATUS_SRC = 2 + r.val →
    s.on F.PLL_STATUS_STANDBY_OK = true →
    Completes (exec (.refLoss f) s) (fun t => t.pllState = 4 ∧ t.fld F.PLL_STATUS_SRC = 3 - r.val ∧
      t.on F.PLL_STATUS_STANDBY_OK = false ∧ t.on F.CLK_EVENT_REF_SWITCH = true ∧ t.on F.CLK_EVENT_REF_LOSS = true ∧
      t.pll.shift = s.pll.offset ∧ OnlyRegs [R.PLL_STATUS, R.CLK_EVENT] s { t with pll := s.pll })) ∧
  (∀ (s : State) (f : List (BitVec 14)), s.sup.die = .running → s.pllState = 4 →
    (s.fld F.PLL_STATUS_SRC < 2 ∨ s.on F.PLL_STATUS_STANDBY_OK = false) →
    exec (.refLoss f) s = .next ((s.dropLane.ev F.CLK_EVENT_REF_LOSS).coast f)) ∧
  (∀ (s : State) (e : List (BitVec 16)) (f : List (BitVec 14)), s.sup.die = .running → s.pllState = 4 → e.length = 4 →
    (∀ x ∈ e, 2 * s.pll.lolWin < (s.shifted x).natAbs) →
    exec (.lol e f) s = .next (((s.loopCycles e).ev F.CLK_EVENT_LOL).coast f)) ∧
  (∀ (s : State) (same : List ResetCause), s.sup.die = .running → s.pllState = 5 →
    (∀ x ∈ same, resetScope x = 1 ∧ 0x11 ≤ resetCode x) → Completes (exec (.coastExpired same) s) (fun t =>
    t.sup.die = .held ∧ t.sup.code = 0x11 ∧ t.sup.detail = 0x45)) ∧
  (∀ (s : State) (same : List ResetCause), s.sup.die = .running → s.sup.umpire = true →
    (∀ x ∈ same, resetScope x = 1 ∧ 0x11 ≤ resetCode x) → Completes (exec (.tapStop same) s) (fun t =>
    t.sup.die = .held ∧ t.sup.code = 0x11 ∧ t.sup.detail = 0x41)) ∧
  (∀ (s : State) (c : Nat) (same : List ResetCause), s.sup.die = .running → (if s.attempting then 41 else 36) < c →
    (∀ x ∈ same, resetScope x = 1 ∧ 0x11 ≤ resetCode x) → Completes (exec (.fastHigh c same) s) (fun t =>
    t.sup.die = .held ∧ t.sup.code = 0x11 ∧ t.sup.detail = 0x42)) ∧
  (∀ (s : State) (c : Nat) (same : List ResetCause), s.sup.die = .running → c ≤ (if s.attempting then 41 else 36) →
    exec (.fastHigh c same) s = .next (s.beside same)) ∧
  (∀ (s : State) (c : BitVec 9), s.sup.die = .running → s.pllState = 4 → s.fld F.CLK_MON_C = 0 → 221 ≤ c.toNat → c.toNat ≤ 254 →
    ∀ same : List ResetCause, Completes (exec (.monitorWindow c true same) s) (Beside same (fun t => t.fld F.CLK_MON_C = c.toNat ∧ t.fld F.CLK_MON_COUNT = c.toNat ∧
      OnlyRegs [R.CLK_MON] s t))) ∧
  (∀ (s : State) (c : BitVec 9), s.sup.die = .running → s.pllState = 0 → 207 ≤ c.toNat → c.toNat ≤ 243 →
    ∀ same : List ResetCause, Completes (exec (.monitorWindow c true same) s) (Beside same (fun t => t.fld F.CLK_MON_COUNT = c.toNat ∧ OnlyRegs [R.CLK_MON] s t))) ∧
  (∀ (s : State) (c : BitVec 9), s.sup.die = .running → s.pllState = 4 → 0 < s.fld F.CLK_MON_C → 103 * s.fld F.CLK_MON_C < 100 * c.toNat →
    ∀ same : List ResetCause, (∀ x ∈ same, resetScope x = 1 ∧ 0x11 ≤ resetCode x) → Completes (exec (.monitorWindow c true same) s) (fun t => t.sup.die = .held ∧ t.sup.code = 0x11 ∧ t.sup.detail = 0x43))

/-- CATCH, DATUM_ARRIVAL, INPUT_DEADLINE and CATCH_NUM_LO_READ: the context of a catch, and a datum that is for this catch,
stale or early by its tag (from R122, R129, R131, R132, R141). -/
def Obligations.CatchAndInputs : Prop :=
  (∀ (s : State) (bits : List (Nat × List (Option Bool))) (done : Nat), s.sup.die = .running → s.catchDue = true →
    s.catchPlaced = true → exec (.catch bits done) s =
      .next (((s.ringClose).catchGo bits done).ringOpenCatch (if s.cat.first then none else some s.cat.num))) ∧
  (∀ s : State, s.context.cat.num = (s.cat.num + 1) % 2 ^ 48 ∧ s.context.rd R.CATCH_NUM_LO = BitVec.ofNat 32 ((s.cat.num + 1) % 2 ^ 48) ∧
    s.context.cat.tick = s.cat.next ∧ s.context.cat.late = 0 ∧ s.context.fab.prev = s.fab.cur ∧ s.context.fab.cur = [] ∧
    SameMemory s s.context) ∧
  (∀ (s : State) (b : Fin 2048) (e : Bind) (w : Word) (v : Bool), s.sup.die = .running → s.live.bind[(b : Nat)]? = some e →
    s.delivers e (s.cat.num % 256) = some (w, v) → (s.input b).fifo = [] → (s.input b).res = none →
    Completes (exec (.datumArrival b ⟨s.cat.num % 256, Nat.mod_lt _ (by decide)⟩) s) (fun t =>
      t.input b = ⟨[], some ([w], v), some ([w], v, false)⟩ ∧ (∀ c, c ≠ (b : Nat) → t.input c = s.input c) ∧ t.regs = s.regs)) ∧
  (∀ (s : State) (b : Fin 2048) (tag : Fin 256) (e : Bind) (w : Word) (v : Bool), s.sup.die = .running →
    s.live.bind[(b : Nat)]? = some e → s.delivers e tag = some (w, v) → (s.input b).fifo = [] → 0 < tagDist tag s.cat.num →
    Completes (exec (.datumArrival b tag) s) (fun t =>
      t.input b = { s.input b with fifo := [((tag : Nat), [w], v)] } ∧ t.regs = s.regs)) ∧
  (∀ (s : State) (b : Fin 2048) (tag : Fin 256) (e : Bind), s.sup.die = .running → s.live.bind[(b : Nat)]? = some e →
    (s.input b).fifo = [] → tagDist tag s.cat.num < 0 →
    Completes (exec (.datumArrival b tag) s) (fun t => t.input b = s.input b ∧ t.on F.CATCH_EVENT_STALE = true ∧
      t.fld F.CATCH_STALE_COUNT_STALE = min (s.fld F.CATCH_STALE_COUNT_STALE + 1) (2 ^ 32 - 1))) ∧
  (∀ (s : State) (b : Fin 2048) (u : Fin 5) (e : Bind), s.sup.die = .running → s.cat.num ≠ 0 → s.on F.CATCH_CTRL_RUN = true →
    s.live.bind[(b : Nat)]? = some e → e.isInput = true → (s.input b).res = none →
    exec (.inputDeadline b u) s = .next (s.resolveLate b e u)) ∧
  (∀ s : State, s.sup.die = .running → Completes (exec .catchNumLoRead s) (fun t =>
    t.fld F.CATCH_NUM_HI_NUM_HI = s.cat.num / 2 ^ 32 % 2 ^ 16 ∧ OnlyRegs [R.CATCH_NUM_HI] s t))

/-- The streams of the sigma-delta inputs: a bit of an external input and 64 equal ones, the Manchester decoder's lock and
violations, and the comparators (from R144 to R147, R152, R153). -/
def Obligations.SigmaDeltaStreams : Prop :=
  (∀ (s : State) (n : SdIx) (bits : List (Option Bool)), s.sup.die = .running → s.clocked (sdPage n) = true →
    exec (.sdStuck n bits) s = .next (s.each bits (fun b t => t.bitIn n b)) ∧
    exec (.sdStuckClear n bits) s = .next (s.each bits (fun b t => t.bitIn n b)) ∧
    exec (.manchesterLock n bits) s = .next (s.each bits (fun b t => t.bitIn n b)) ∧
    exec (.manchesterLockLoss n bits) s = .next (s.each bits (fun b t => t.bitIn n b)) ∧
    exec (.comparatorAssert n bits) s = .next (s.each bits (fun b t => t.bitIn n b)) ∧
    exec (.comparatorDeassert n bits) s = .next (s.each bits (fun b t => t.bitIn n b))) ∧
  (∀ (s : State) (n : SdIx) (b : Bool), s.sup.die = .running → s.clocked (sdPage n) = true → s.fld (F.SD_CFG_MODE n) = 1 →
    s.fld (F.SD_CFG_PORD n) = 0 → Completes (exec (.sdStuckClear n [some b]) s) (fun t =>
      t.sd n = { s.sd n with
        bits := (2 * (s.sd n).bits + (if b then 1 else 0)) % 2 ^ 256
        count := min 256 ((s.sd n).count + 1)
        run := if b = (s.sd n).bits.testBit 0 then min 64 ((s.sd n).run + 1) else 1
        got := (s.sd n).got + 1 } ∧
      (∀ k, k ≠ (n : Nat) → t.sd k = s.sd k) ∧ OnlyRegs [R.SDM_EVENT (n / 20)] s { t with sdIn := s.sdIn })) ∧
  (∀ (s : State) (n : SdIx), s.sup.die = .running → s.clocked (sdPage n) = true → s.fld (F.SD_CFG_MODE n) = 1 →
    s.fld (F.SD_CFG_PORD n) = 0 → (s.sd n).run = 63 →
    Completes (exec (.sdStuck n [some ((s.sd n).bits.testBit 0)]) s) (fun t => (t.sd n).stuck = true ∧
      t.on (F.SDM_EVENT_STUCK (n / 20)) = true ∧ OnlyRegs [R.SDM_EVENT (n / 20)] s { t with sdIn := s.sdIn })) ∧
  (∀ (s : State) (n : SdIx) (b : Bool), s.sup.die = .running → s.clocked (sdPage n) = true → s.fld (F.SD_CFG_MODE n) = 2 →
    s.fld (F.SD_CFG_PORD n) = 0 → s.on (F.SD_STAT_LOCK n) = false → (s.sd n).good = 31 →
    Completes (exec (.manchesterLock n [some b]) s) (fun t => t.on (F.SD_STAT_LOCK n) = true ∧
      OnlyRegs [R.SD_STAT n, R.SDM_EVENT (n / 20)] s { t with sdIn := s.sdIn })) ∧
  (∀ (s : State) (n : SdIx), s.sup.die = .running → s.clocked (sdPage n) = true → s.fld (F.SD_CFG_MODE n) = 2 →
    s.fld (F.SD_CFG_PORD n) = 0 → s.on (F.SD_STAT_LOCK n) = true → 4 ≤ ones32 ((2 * (s.sd n).viols + 1) % 2 ^ 32) →
    Completes (exec (.manchesterLockLoss n [none]) s) (fun t => t.on (F.SD_STAT_LOCK n) = false ∧
      t.on (F.SDM_EVENT_LOCK_LOSS (n / 20)) = true ∧
      OnlyRegs [R.SD_STAT n, R.SDM_EVENT (n / 20)] s { t with sdIn := s.sdIn })) ∧
  (∀ (s : State) (n : SdIx), s.sup.die = .running → s.clocked (sdPage n) = true → s.fld (F.SD_CFG_MODE n) = 2 →
    s.fld (F.SD_CFG_PORD n) = 0 → Completes (exec (.manchesterViolation n []) s) (fun t =>
      t.fld (F.SD_STAT_VIOL n) = min (s.fld (F.SD_STAT_VIOL n) + 1) 255 ∧
      (t.sd n).bits = (2 * (s.sd n).bits + (s.sd n).bits % 2) % 2 ^ 256 ∧
      OnlyRegs [R.SD_STAT n, R.SDM_EVENT (n / 20)] s { t with sdIn := s.sdIn })) ∧
  (∀ (s : State) (n : SdIx) (b hi : Bool) (p : Int), s.sup.die = .running → s.clocked (sdPage n) = true →
    s.fld (F.SD_CFG_MODE n) = 1 → s.fld (F.SD_CFG_PORD n) ≠ 0 →
    s.fld (F.SD_CFG_PORD n) * (s.fld (F.SD_CFG_M n) - 1) + 1 ≤ min 256 ((s.sd n).count + 1) →
    p = weighBits (protWeights (s.fld (F.SD_CFG_PORD n)) (s.fld (F.SD_CFG_M n)))
      ((2 * (s.sd n).bits + (if b then 1 else 0)) % 2 ^ 256) →
    s.pastThr n hi p = true → s.pastThr n (!hi) p = false → s.on (compFld n hi) = false → s.on (compFld n (!hi)) = false →
    s.fld (F.SD_CFG_DEB n) ≤ (if hi then (s.sd n).hiRun else (s.sd n).loRun) →
    s.fld (F.SD_MCFG_KIND n) = 0 ∨ 5 ≤ s.fld (F.SD_MCFG_KIND n) →
    Completes (exec (.comparatorAssert n [some b]) s) (fun t => t.on (compFld n hi) = true ∧ t.on (compFld n (!hi)) = false ∧
      t.fld (F.SD_PROT_P n) = unsigned 18 p ∧ t.on (compEvent n hi) = true ∧
      OnlyRegs [R.SD_PROT n, R.SDM_EVENT (n / 20)] s { t with sdIn := s.sdIn })) ∧
  (∀ (s : State) (n : SdIx) (hi : Bool) (p : Int), s.pastThr n hi p = true → s.on (compFld n hi) = false →
    s.fld (F.SD_CFG_DEB n) ≤ (if hi then (s.sd n).hiRun else (s.sd n).loRun) →
    s.compStep n hi p = ((((s.setSd n (if hi then { s.sd n with hiRun := min 4 ((s.sd n).hiRun + 1) }
      else { s.sd n with loRun := min 4 ((s.sd n).loRun + 1) })).set (compFld n hi) 1).ev (compEvent n hi)).compFault n hi)) ∧
  (∀ (s : State) (n : SdIx) (b hi : Bool) (p : Int), s.sup.die = .running → s.clocked (sdPage n) = true →
    s.fld (F.SD_CFG_MODE n) = 1 → s.fld (F.SD_CFG_PORD n) ≠ 0 →
    s.fld (F.SD_CFG_PORD n) * (s.fld (F.SD_CFG_M n) - 1) + 1 ≤ min 256 ((s.sd n).count + 1) →
    p = weighBits (protWeights (s.fld (F.SD_CFG_PORD n)) (s.fld (F.SD_CFG_M n)))
      ((2 * (s.sd n).bits + (if b then 1 else 0)) % 2 ^ 256) →
    s.on (compFld n hi) = true → s.pastHyst n hi p = true → s.pastThr n (!hi) p = false → s.on (compFld n (!hi)) = false →
    Completes (exec (.comparatorDeassert n [some b]) s) (fun t => t.on (compFld n hi) = false ∧
      OnlyRegs [R.SD_PROT n, R.SDM_EVENT (n / 20)] s { t with sdIn := s.sdIn }))

/-- Offsets, calibration and the SAR sequence: an offset is not written while a gate output of the channel's units is
enabled; a calibration settles, sums and writes every offset or none; a conversion starts at its trigger and in its turn, takes the
offset of its catch and enters with its tag (from R160 to R164). -/
def Obligations.OffsetsAndConversions : Prop :=
  (∀ (s : State) (i : Fin 40) (v : Word), s.sup.die = .running → (∀ u < 4, bit (s.sdUnits i) u = true → s.unitOn u = false) →
    Completes (exec (.sdOfsWrite .root false i v) s) (fun t => t.fld (F.SD_OFS_OFS i) = v.toNat % 2 ^ 25 ∧ OnlyRegs [R.SD_OFS i] s t)) ∧
  (∀ (s : State) (i : Fin 40) (v : Word), s.sup.die = .running → i.val < 32 →
    (∀ u < 4, bit (s.sarUnits i) u = true → s.unitOn u = false) → s.sense.sarOld.get i = 0 →
    Completes (exec (.sdOfsWrite .root true i v) s) (fun t => t.fld (F.SAR_OFS_OFS i) = v.toNat % 2 ^ 12 ∧
      t.sense.sarOld.get i = s.fld (F.SAR_OFS_OFS i) + 1 ∧ OnlyRegs [R.SAR_OFS i] s { t with sense := s.sense })) ∧
  (∀ (s : State) (i : Fin 40) (v : Word) (u : Nat), s.sup.die = .running → u < 4 → bit (s.sdUnits i) u = true → s.unitOn u = true →
    exec (.sdOfsWrite .root false i v) s = .next (s.refuse .root (R.SD_OFS i) eBusy true)) ∧
  (∀ (s : State) (u : UnitIx), s.sup.die = .running → (s.calOf u).1 = .due → s.unitOff u = true → (∀ v < 4, s.calRuns v = false) →
    s.mbWaiting svCalibrate (fun r => r.unit u) = [] →
    Completes (exec (.calibrationStart u) s) (fun t => t.calOf u = (.settling, (s.calOf u).2) ∧ { t with sense := s.sense } = s)) ∧
  (∀ (s : State) (u : UnitIx), s.sup.die = .running → (s.calOf u).1 = .settling →
    Completes (exec (.calibrationSettled u) s) (fun t => t.calOf u = (.summing, (s.calOf u).2) ∧ t.sense.calSum = [] ∧
      { t with sense := s.sense } = s)) ∧
  (∀ (s : State) (u : Nat), s.calRuns u = true → s.calAbort u = s.calFail u 0x3) ∧
  (∀ (s : State) (u key : Nat), (s.calOf u).1 = .summing → (s.calSum key).n < 2 ^ (s.calOf u).2.1 →
    s.calTake u key none = s.calFail u 0x3 ∧
    (∀ w, ((s.calTake u key (some w)).calSum key).sum = (s.calSum key).sum + w)) ∧
  (∀ (s : State) (u : UnitIx) (k c : Nat), s.sup.die = .running → (s.calOf u).1 = .summing → s.calInputs u = [k] →
    (s.calSum k).n = 2 ^ (s.calOf u).2.1 →
    calOne (s.calOf u).2.1 (s.live.nominal k).1 (s.live.nominal k).2 (s.calSum k) = .inl c →
    exec (.calibrationEnd u) s = .next (s.calFail u c)) ∧
  (∀ (s : State) (u : UnitIx) (k : Nat) (v : Int), s.sup.die = .running → (s.calOf u).1 = .summing → k < 40 →
    s.calInputs u = [k] → (s.calSum k).n = 2 ^ (s.calOf u).2.1 →
    calOne (s.calOf u).2.1 (s.live.nominal k).1 (s.live.nominal k).2 (s.calSum k) = .inr v →
    s.mbWaiting svCalibrate (fun r => r.unit u) = [] →
    Completes (exec (.calibrationEnd u) s) (fun t => t.fld (F.SD_OFS_OFS k) = unsigned 25 v ∧
      t.on (F.SDM_EVENT_CAL_DONE (k / 20)) = true ∧ (t.calOf u).1 = .idle)) ∧
  (∀ (s : State) (e : Fin 32) (at' : Nat) (t0 : Int), s.sup.die = .running → s.clocked 0x07 = true → s.sarTrigger e = some t0 →
    t0 + s.fld (F.SAR_SEQ_DELAY e) ≤ at' → s.sarTurn e = true → s.sense.sarAt.get e ≠ s.cat.num →
    Completes (exec (.sarEntryStart e at') s) (fun t => bit t.sense.sarBusy e = true ∧ t.sense.sarAt.get e = s.cat.num ∧
      t.sense.sarOfs.get e = (if s.sense.sarOld.get e = 0 then s.fld (F.SAR_OFS_OFS e) else s.sense.sarOld.get e - 1) ∧
      { t with sense := s.sense } = s)) ∧
  (∀ (s : State) (e : Fin 32) (at' : Nat), s.sup.die = .running → s.clocked 0x07 = true →
    (s.sarTrigger e = none ∨ s.sarTurn e = false) → exec (.sarEntryStart e at') s = .next s) ∧
  (∀ (s : State) (e : Fin 32) (codes : List (BitVec 12)) (code : Nat), s.sup.die = .running → s.clocked 0x07 = true →
    bit s.sense.sarBusy e = true → bit s.sense.sarFailed (sarConv e) = false → s.fld (F.SAR_SEQ_INPUT e) < 8 →
    (∀ n < 6, s.fld (F.THRM_NTC_EN n) = 0) → (∀ u < 4, (s.calOf u).1 ≠ .summing) →
    codes.length = 2 ^ s.fld (F.SAR_SEQ_AVG e) → code = (codes.map (fun c => c.toNat)).sum / codes.length →
    s.sense.sarOfs.get e < 4096 →
    Completes (exec (.sarConversionDone e codes) s) (fun t => t.ifld (F.SAR_RES_VALUE e) = (code : Int) - s.sense.sarOfs.get e ∧
      t.on (F.SAR_RES_VALID e) = true ∧ t.fld (F.SAR_RES_TAG e) = s.sense.sarAt.get e % 256 ∧ bit t.sense.sarBusy e = false ∧
      OnlyRegs [R.SAR_RES e] s { t with sense := s.sense })) ∧
  (∀ (s : State) (n : Fin 6), s.sup.die = .running → s.clocked 0x14 = true → s.on (F.THRM_NTC_EN n) = true →
    exec (.ntcAgeTimeout n) s = .next (s.ntcFault n))

/-- Rotation of the seats, the handover of a seat's local data, the crossbar's deliveries and the store's scrubber (from R171, R174,
R176, R180 to R186, R205). -/
def Obligations.RotationAndScrub : Prop :=
  (∀ s : State, s.sup.die = .running → s.liveValid = true → s.fld F.FAB_ROT_STATE ≠ 3 →
    exec .rotationTimer s = .next { s with fab := { s.fab with timerDue := true } }) ∧
  (∀ s : State, s.sup.die = .running → s.liveValid = true → s.fab.timerDue = true → s.fld F.FAB_ROT_STATE = 0 → s.fab.pool ≠ [] →
    s.stageState ≠ sCommitted → s.cat.num ≠ s.fab.armN → s.cat.num + 1 ≠ s.fab.armN →
    Completes (exec .copyStart s) (fun t => t.fld F.FAB_ROT_STATE = 1 ∧ t.fld F.FAB_ROT_TARGET = s.nextSlot % 16 ∧
      OnlyRegs [R.FAB_ROT] s { t with fab := s.fab })) ∧
  (∀ s : State, s.sup.die = .running → s.fld F.FAB_ROT_STATE = 1 →
    exec (.copyComplete false) s = .next { s with fab := { s.fab with copied := true } }) ∧
  (∀ s : State, s.sup.die = .running → s.fld F.FAB_ROT_STATE = 1 → exec (.copyComplete true) s =
    .next (s.seatFault (s.slotSeat (s.fld F.FAB_ROT_TARGET)) (s.fld F.FAB_ROT_TARGET) 2)) ∧
  (∀ (s : State) (sub : Nat) (rest : List Nat), s.sup.die = .running → s.fab.pool = sub :: rest → sub < 16 →
    s.fld F.FAB_ROT_TARGET < 15 → s.fld F.FAB_ROT_STATE = 1 → s.fab.copied = true →
    Completes (exec .subTakeover s) (fun t => t.slotSeat (s.fld F.FAB_ROT_TARGET) = sub ∧ t.fab.pool = rest ∧
      t.fab.testing = some (s.slotSeat (s.fld F.FAB_ROT_TARGET)) ∧ t.fld F.FAB_ROT_STATE = 2)) ∧
  (∀ (s : State) (k : Nat), s.fab.taken = some k → 0 < s.slots → s.nextSlot = (k + 1) % s.slots) ∧
  (∀ s : State, s.fab.taken = none → s.nextSlot = 0) ∧
  (∀ (s : State) (seat : Nat) (sig : Word), s.sup.die = .running → s.fab.testing = some seat → s.fld F.FAB_ROT_STATE = 2 →
    sig.toNat = s.fuses.sigs.get (16 + seat) →
    Completes (exec (.istComplete sig [] true true) s) (fun t => t.fab.pool = s.fab.pool ++ [seat] ∧ t.fab.testing = none ∧
      t.fld F.FAB_ROT_STATE = 0 ∧ t.on F.FAB_EVENT_ROT_DONE = true ∧ t.on F.BIST_IST_PASS = true)) ∧
  (∀ (s : State) (seat : Nat) (sig : Word) (march : List Nat) (c d : Bool), s.sup.die = .running → s.fab.testing = some seat →
    seat < 16 → sig.toNat ≠ s.fuses.sigs.get (16 + seat) ∨ march ≠ [] ∨ c = false ∨ d = false →
    Completes (exec (.istComplete sig march c d) s) (fun t => t.fab.pool = s.fab.pool ∧ t.fab.noSub = true ∧ t.fab.testing = none)) ∧
  (∀ (s : State) (i : Nat) (last : Bool) (c slot : Nat) (l : List Nat), s.sup.die = .running → s.fab.flight[i]? = none →
    s.fab.stalled = slot :: l →
    Completes (exec (.xbarCreditReturn i last c) s) (fun t => t.fab = { s.fab with stalled := l } ∧
      t.fld F.FAB_XBAR_STALL_CYC = min (s.fld F.FAB_XBAR_STALL_CYC + c) (2 ^ F.FAB_XBAR_STALL_CYC.width - 1) ∧
      OnlyRegs [R.FAB_XBAR] s { t with fab := s.fab })) ∧
  (∀ (s : State) (i : Nat) (last : Bool) (c : Nat), s.sup.die = .running → s.fab.flight[i]? = none → s.fab.stalled = [] →
    exec (.xbarCreditReturn i last c) s = .next { s with fab := { s.fab with credits := s.fab.credits - 1 } }) ∧
  (∀ (s : State) (i : Nat) (c seat w slot : Nat) (v : Word), s.sup.die = .running → s.fab.flight[i]? = some (seat, w, [v], slot) →
    w < 4096 → s.fab.stalled = [] → Completes (exec (.xbarCreditReturn i false c) s) (fun t => t.localWord seat w = v ∧
      t.fab = { s.fab with flight := s.fab.flight.eraseIdx i, credits := s.fab.credits - 1,
                           undo := (slot, .word (4096 * seat + w) (s.wordAt (4096 * seat + w))) :: s.fab.undo } ∧
      OnlyLocals seat w 1 s { t with fab := s.fab })) ∧
  (∀ (s : State) (i : Nat) (c seat w slot : Nat) (v : Word), s.sup.die = .running → s.fab.flight[i]? = some (seat, w, [v], slot) →
    w < 4096 → Completes (exec (.xbarCreditReturn i true c) s) (fun t => t.localWord seat w = v)) ∧
  (∀ s : State, s.sup.die = .running → s.fab.scrubStage = false → s.fab.scrubAt ≠ 16383 → exec (.scrubRead 0) s =
    .next { s with fab := { s.fab with scrubStage := true, scrubAt := (s.fab.scrubAt + 1) % 16384 } }) ∧
  (∀ s : State, s.sup.die = .running → s.fab.scrubStage = false → s.fab.scrubAt ≠ 16383 →
    Completes (exec (.scrubRead 1) s) (fun t => t.fld F.PLAN_SCRUB_CORR =
        min (s.fld F.PLAN_SCRUB_CORR + 1) (2 ^ F.PLAN_SCRUB_CORR.width - 1) ∧ OnlyRegs [R.PLAN_SCRUB] s { t with fab := s.fab })) ∧
  (∀ (s : State) (src dst : Nat), mapWf (fun _ => 0#32) s.locals = true →
    (∀ w < 4096, (s.copySeat src dst).localWord dst w = s.localWord src w) ∧
    (∀ seat w, seat ≠ dst → w < 4096 → (s.copySeat src dst).localWord seat w = s.localWord seat w) ∧
    { s.copySeat src dst with locals := s.locals } = s)

/-- ACTIVATE, ARM and CANCEL, when they take effect, and the change of the halves; an ARM is refused with the code of the
first check that fails, in the model's order (log entry 99) (from R177, R189 to R195, R282, R577). -/
def Obligations.PlanCommands : Prop :=
  (∀ s : State, s.sup.die = .running → s.pageOn 0x0A = true → s.on (F.PAGE_LOCK_LOCK 0x0A) = false → 4 ≤ s.pllState →
    s.stage.dcoMin * 1000000 ≤ s.pll.n * s.pll.refHz → s.fab.waiting = false → s.stageState = sVerified → s.stage.fits = true →
    s.seatsFit s.stage = true → (s.liveValid = false ∨ s.outputsOff = true) → (∀ d < 2, s.stage.catchLow d = false) →
    s.load.phase = 0 →
    exec (.activate .cox0) s = .next { s with fab := { s.fab with waiting := true } }) ∧
  (∀ s : State, s.sup.die = .running → s.pageOn 0x0A = true → 4 ≤ s.pllState → s.fab.waiting = false →
    s.stageState ≠ sVerified → exec (.activate .cox0) s = .next (s.planRefuse 0x01)) ∧
  (∀ s : State, s.sup.die = .running → s.pageOn 0x0A = true → 4 ≤ s.pllState →
    s.stage.dcoMin * 1000000 ≤ s.pll.n * s.pll.refHz → s.fab.waiting = false → s.stageState = sVerified → s.stage.fits = true →
    s.seatsFit s.stage = true → s.liveValid = true → s.outputsOff = false →
    exec (.activate .cox0) s = .next (s.planRefuse 0x09)) ∧
  (∀ s : State, s.sup.die = .running → s.pageOn 0x0A = true → s.cascaded = false → 4 ≤ s.pllState →
    s.armCode s.planTarget false (decide (s.stage.dcoMin * 1000000 ≤ s.pll.n * s.pll.refHz)) = 0 → s.load.phase = 0 →
    Completes (exec (.arm .cox0) s) (fun t => t.stageState = sArmed ∧ t.fab = { s.fab with armN := s.planTarget, go := false } ∧
      t.fld F.CATCH_MINPER_MINPER = max s.live.minPer s.stage.minPer % 2 ^ F.CATCH_MINPER_MINPER.width ∧
      OnlyRegs [R.PLAN_STATUS, R.CATCH_MINPER] s { t with fab := s.fab })) ∧
  (∀ s : State, s.sup.die = .running → s.pageOn 0x0A = true → s.cascaded = true →
    exec (.arm .cox0) s = .next (s.planRefuse 0x0A)) ∧
  (∀ s : State, s.sup.die = .running → s.pageOn 0x0A = true → s.stageState = sArmed → s.cat.num + 2 < s.fab.armN →
    exec (.cancel .cox0) s = .next (s.dropSwitch 0x00)) ∧
  (∀ s : State, s.sup.die = .running → s.pageOn 0x0A = true → s.stageState = sCommitted ∨
      (s.stageState = sArmed ∧ s.fab.armN ≤ s.cat.num + 2) →
    exec (.cancel .cox0) s = .next (s.planRefuse 0x08)) ∧
  (∀ (s : State) (m : Master), s.sup.die = .running → m ≠ .cox0 → s.pageOn 0x0A = true →
    exec (.activate m) s = .next (s.refuse m R.PLAN_CMD eAuth true) ∧ exec (.arm m) s = .next (s.refuse m R.PLAN_CMD eAuth true) ∧
    exec (.cancel m) s = .next (s.refuse m R.PLAN_CMD eAuth true)) ∧
  (∀ (s : State) (tick : Nat), s.sup.die = .running → s.fab.waiting = true → exec (.activationEffect tick) s =
    .next (((s.closeRun.swapHalves).startRun (s.effectTick tick)).mbFinish svActivate (fun _ => true) 0 [])) ∧
  (∀ (s : State) (tick : Nat), s.sup.die = .running → s.reactivateDue = true →
    exec (.fabricReactivate tick) s = .next (s.closeRun.startRun (s.effectTick tick))) ∧
  (∀ s : State, s.sup.die = .running → s.stageState = sArmed → s.cat.num + 2 = s.fab.armN → s.cascaded = false →
    s.switchFits = true → Completes (exec .switchCommit s) (fun t => t.stageState = sCommitted ∧ OnlyRegs [R.PLAN_STATUS] s t)) ∧
  (∀ s : State, s.sup.die = .running → s.stageState = sCommitted → s.cat.num + 1 = s.fab.armN →
    exec .switchSwap s = .next s.switchSwap) ∧
  (∀ s : State, s.swapHalves.liveHalf = 1 - s.liveHalf ∧ s.swapHalves.liveValid = true ∧ s.swapHalves.live = s.stage ∧
    SameMemory s s.swapHalves ∧ (∀ x, s.swapHalves.liveByte x = s.stageByte x) ∧ (∀ x, s.swapHalves.stageByte x = s.liveByte x) ∧
    (s.liveValid = true → s.swapHalves.stage = s.live ∧ s.swapHalves.stageState = sVerified) ∧
    (s.liveValid = false → s.swapHalves.stage = PlanInfo.empty ∧ s.swapHalves.stageState = sEmpty) ∧
    (∀ k < 16, s.swapHalves.rd (R.PLAN_LIVE_DIG k) = s.rd (R.PLAN_STAGE_DIG k)))

/-- A plan load: flash, SRAM phase, copy and store phase; a plan is LIVE or VERIFIED only after its checks (from R178, R259 to
R263, R265). -/
def Obligations.PlanLoads : Prop :=
  (∀ (s : State) (o : Nat) (l : List Byte), s.sup.die = .running → s.load.phase = 1 →
    o ≠ planArea (if s.cascaded then s.fld F.CASC_STATE_POS else 0) → exec (.flashReadDone o l) s = .next s) ∧
  (∀ (s : State) (l : List Byte), s.sup.die = .running → s.load.phase = 1 →
    Completes (exec (.flashReadDone (planArea (if s.cascaded then s.fld F.CASC_STATE_POS else 0)) l) s) (fun t =>
    t.load = { s.load with phase := 2 } ∧ (∀ k, k < min l.length 262144 → t.byte (loadBuffer + k) = l.getD k 0) ∧
    (∀ a, (a < loadBuffer ∨ loadBuffer + min l.length 262144 ≤ a) → t.byte a = s.byte a) ∧
    { t with sram := s.sram, load := s.load } = s)) ∧
  (∀ (s : State) (ecc : Bool), s.sup.die = .running → s.load.phase = 2 → (s.sramCode ecc = 0 →
    Completes (exec (.loadSramPhaseEnd ecc) s) (fun t => t.load.phase = 3 ∧ t.stageState = sLoading ∧ t.stage = PlanInfo.empty ∧
      SameMemory s t ∧ OnlyRegs [R.PLAN_STATUS] s { t with load := s.load, stage := s.stage }))) ∧
  (∀ (s : State) (ecc : Bool), s.sup.die = .running → s.load.phase = 2 → s.sramCode ecc ≠ 0 →
    exec (.loadSramPhaseEnd ecc) s =
      .next (((s.set F.PLAN_STATUS_FAIL (s.sramCode ecc)).planEv F.PLAN_EVENT_LOAD_FAIL).loadEnd (s.sramCode ecc))) ∧
  (∀ s : State, s.sup.die = .running → s.load.phase = 3 → Completes (exec .loadCopyEnd s) (fun t => t.load.phase = 4 ∧
    t.stageState = sVerifying ∧ (∀ x < s.load.stored, t.stageByte x = s.bufByte 262144 x) ∧
    (∀ x, s.load.stored ≤ x → t.stageByte x = s.stageByte x) ∧ t.sram = s.sram ∧ t.half s.liveHalf = s.half s.liveHalf ∧
    t.locals = s.locals)) ∧
  (∀ (s : State) (ecc : Bool), s.sup.die = .running → s.load.phase = 4 →
    ((loadVerifyAuto ecc s).isCrew = false ∨ s.storePhase ecc ≠ 0 →
      exec (.loadVerifyEnd ecc) s = .next (loadVerifyAuto ecc s).tryActivate) ∧
    ((loadVerifyAuto ecc s).isCrew = true → (loadVerifyAuto ecc s).load.phase = 0 →
      (loadVerifyAuto ecc s).stageState = sVerified → exec (.loadVerifyEnd ecc) s =
        .next (State.tryActivate { loadVerifyAuto ecc s with
          ring := { (loadVerifyAuto ecc s).ring with mine := wordBytes (loadVerifyAuto ecc s).stageDigest } })) ∧
    (s.storePhase ecc ≠ 0 → loadVerifyEnd ecc s = (s.stageFail (s.storePhase ecc)).loadEnd (s.storePhase ecc) ∧
      (s.stageFail (s.storePhase ecc)).stageState = sFailed))

/-- A record runs only where its seat runs its schedule, its rate and its predicate hold, and no error of the seat stops it;
a record that no load check lets through faults; results wait for the record's last cycle, transfers for their delivery; where flags
go (from R126, R174, R176, R180, R186, R204 to R206, R209, R244, R248, R263). -/
def Obligations.RecordIssue : Prop :=
  (∀ (s : State) (i : Instr) (op : Nat) (r : OpRec), i.record = some (op, r) → r.ok op = false → exec i s = .fault .illFormed) ∧
  (∀ (s : State) (i : Instr) (op : Nat) (r : OpRec), i.record = some (op, r) → r.ok op = true → s.sup.die = .running →
    s.seatReady r = false → exec i s = .next s) ∧
  (∀ (s : State) (r : OpRec) (ix : Fin 8192), r.ok 0x42 = true → s.sup.die = .running → s.seatReady r = true →
    (s.written r).recDue r = false → exec (.add r ix .none) s = .next (s.written r)) ∧
  (∀ (s : State) (r : OpRec) (ix : Fin 8192), r.ok 0x42 = true → s.sup.die = .running → s.seatReady r = true → r.slot.val < 15 →
    exec (.add r ix .localEcc) s = .next ((s.written r).seatFault (s.slotSeat r.slot) r.slot 2) ∧
    exec (.add r ix .fetchParity) s = .next ((s.written r).seatFault (s.slotSeat r.slot) r.slot 3) ∧
    exec (.add r ix .decodeParity) s = .next ((s.written r).seatFault (s.slotSeat r.slot) r.slot 4)) ∧
  (∀ (s : State) (r : OpRec) (ix : Fin 8192), r.ok 0x42 = true → s.sup.die = .running → s.seatReady r = true →
    exec (.add r ix .storeUncorr) s = .next (s.written r).uncorrLive) ∧
  (∀ (s : State) (r : OpRec) (ref : Fin 16384) (ws : List Word), refKind ref = 0 → refIx ref + ws.length ≤ 4096 →
    (∀ e ∈ s.fab.own, e.1 ≠ s.opSeat r) → SameMemory s (s.putRef r ref ws) ∧
    (∀ j, j < ws.length → ((s.putRef r ref ws).written r).localWord (s.opSeat r) (refIx ref + j) = ws.getD j 0) ∧
    OnlyLocals (s.opSeat r) (refIx ref) ws.length s ((s.putRef r ref ws).written r)) ∧
  (∀ (s : State) (r : OpRec) (ref : Fin 16384) (ws : List Word), refKind ref ≠ 0 → SameMemory s (s.putRef r ref ws) ∧
    (s.putRef r ref ws).fab.credits = (s.xfer r.slot 1).fab.credits ∧
    (s.putRef r ref ws).fab.flight = s.fab.flight ++ [(s.routeSeat (s.routeEntry (refIx ref)), s.routeEntry (refIx ref) / 256 % 4096,
      ws.take (s.routeEntry (refIx ref) / 2 ^ 20 % 4), r.slot.val)]) ∧
  (∀ (s : State) (i seat w slot : Nat) (ws : List Word), s.fab.flight[i]? = some (seat, w, ws, slot) → w + ws.length ≤ 4096 →
    (∀ j, j < ws.length → (s.deliver i).localWord seat (w + j) = ws.getD j 0) ∧ (s.deliver i).fab.flight = s.fab.flight.eraseIdx i ∧
    OnlyLocals seat w ws.length s { s.deliver i with fab := s.fab }) ∧
  (∀ (s : State) (slot n : Nat), (s.xfer slot n).fab.credits = min 128 (s.fab.credits + n) ∧
    (s.xfer slot n).fab.stalled.count slot = s.fab.stalled.count slot + (s.fab.credits + n - 128) ∧ SameMemory s (s.xfer slot n)) ∧
  (∀ (s : State) (r : OpRec) (fl : Nat) (u : Nat), r.unit.val < 4 → (s.raise r fl).fab.cur.get u =
    if u = r.unit.val then s.fab.cur.get u ||| fl else s.fab.cur.get u)

/-- Integer and logical records: the result of the operation on two's-complement operands, saturated except for Q0.32
angles, whose sum and difference wrap; the seat's other local words and everything else stay (from R199, R202, R233 to R236). -/
def Obligations.IntegerRecords : Prop :=
  (∀ (s0 s : State) (r : OpRec) (ix : Fin 8192), s = s0.written r → Issues 0x42 r s → r.t = 3 → refKind r.f0 = 0 →
    Runs r (exec (.add r ix .none) s0) (fun t => t.localWord (s.opSeat r) (refIx r.f0) = s.refWord r r.f1 0 + s.refWord r r.f2 0 ∧
      OnlyLocals (s.opSeat r) (refIx r.f0) 1 s t)) ∧
  (∀ (s0 s : State) (r : OpRec) (ix : Fin 8192), s = s0.written r → Issues 0x43 r s → r.t = 3 → refKind r.f0 = 0 →
    Runs r (exec (.sub r ix .none) s0) (fun t => t.localWord (s.opSeat r) (refIx r.f0) = s.refWord r r.f1 0 - s.refWord r r.f2 0 ∧
      OnlyLocals (s.opSeat r) (refIx r.f0) 1 s t)) ∧
  (∀ (s0 s : State) (r : OpRec) (ix : Fin 8192), s = s0.written r → Issues 0x42 r s → r.t = 1 → refKind r.f0 = 0 →
    Runs r (exec (.add r ix .none) s0) (fun t => (t.localWord (s.opSeat r) (refIx r.f0)).toInt =
        max (-2147483648) (min 2147483647 ((s.refWord r r.f1 0).toInt + (s.refWord r r.f2 0).toInt)) ∧
      OnlyLocals (s.opSeat r) (refIx r.f0) 1 s { t with fab := s.fab })) ∧
  (∀ (s0 s : State) (r : OpRec) (ix : Fin 8192), s = s0.written r → Issues 0x43 r s → r.t = 1 → refKind r.f0 = 0 →
    Runs r (exec (.sub r ix .none) s0) (fun t => (t.localWord (s.opSeat r) (refIx r.f0)).toInt =
        max (-2147483648) (min 2147483647 ((s.refWord r r.f1 0).toInt - (s.refWord r r.f2 0).toInt)) ∧
      OnlyLocals (s.opSeat r) (refIx r.f0) 1 s { t with fab := s.fab })) ∧
  (∀ (s0 s : State) (r : OpRec) (ix : Fin 8192), s = s0.written r → Issues 0x40 r s → r.t = 1 → refKind r.f0 = 0 →
    Runs r (exec (.mul r ix .none) s0) (fun t => (t.localWord (s.opSeat r) (refIx r.f0)).toInt =
        max (-2147483648) (min 2147483647 ((s.refWord r r.f1 0).toInt * (s.refWord r r.f2 0).toInt)) ∧
      OnlyLocals (s.opSeat r) (refIx r.f0) 1 s { t with fab := s.fab })) ∧
  (∀ (s0 s : State) (r : OpRec) (ix : Fin 8192), s = s0.written r → Issues 0x41 r s → r.t = 1 → refKind r.f0 = 0 →
    Runs r (exec (.mac r ix .none) s0) (fun t => (t.localWord (s.opSeat r) (refIx r.f0)).toInt =
        max (-2147483648) (min 2147483647
          ((s.refWord r r.f1 0).toInt * (s.refWord r r.f2 0).toInt + (s.refWord r r.f3 0).toInt)) ∧
      OnlyLocals (s.opSeat r) (refIx r.f0) 1 s { t with fab := s.fab })) ∧
  (∀ (s0 s : State) (r : OpRec) (ix : Fin 8192), s = s0.written r → Issues 0x44 r s → r.t = 1 → refKind r.f0 = 0 →
    Runs r (exec (.abs r ix .none) s0) (fun t => (t.localWord (s.opSeat r) (refIx r.f0)).toInt =
        min 2147483647 ((s.refWord r r.f1 0).toInt.natAbs : Int) ∧
      OnlyLocals (s.opSeat r) (refIx r.f0) 1 s { t with fab := s.fab })) ∧
  (∀ (s0 s : State) (r : OpRec) (ix : Fin 8192), s = s0.written r → Issues 0x49 r s → r.t = 3 → r.mode = 2 → refKind r.f0 = 0 →
    Runs r (exec (.cmp r ix .none) s0) (fun t => t.localWord (s.opSeat r) (refIx r.f0) =
        (if (s.refWord r r.f1 0 - s.refWord r r.f2 0).toInt < 0 then 1 else 0) ∧ OnlyLocals (s.opSeat r) (refIx r.f0) 1 s t)) ∧
  (∀ (s0 s : State) (r : OpRec) (ix : Fin 8192), s = s0.written r → Issues 0x4A r s → r.t ≠ 2 → refKind r.f0 = 0 →
    Runs r (exec (.sel r ix .none) s0) (fun t => t.localWord (s.opSeat r) (refIx r.f0) =
        (if s.refWord r r.f1 0 = 0 then s.refWord r r.f3 0 else s.refWord r r.f2 0) ∧
      OnlyLocals (s.opSeat r) (refIx r.f0) 1 s t)) ∧
  (∀ (s0 s : State) (r : OpRec) (ix : Fin 8192), s = s0.written r → Issues 0x50 r s → r.t ≠ 2 → refKind r.f0 = 0 → r.unit.val < 4 →
    bit (s.fab.cur.get r.unit) 1 = false →
    Runs r (exec (.hold r ix .none) s0) (fun t => t.localWord (s.opSeat r) (refIx r.f3) =
        (if s.refWord r r.f2 0 = 0 then s.refWord r r.f3 0 else s.refWord r r.f1 0) ∧
      t.localWord (s.opSeat r) (refIx r.f3 + 1) = 1 ∧ { t with locals := s.locals, fab := { t.fab with undo := s.fab.undo } } = s ∧
      ∀ x w, w < 4096 → (x ≠ s.opSeat r ∨ (w ≠ refIx r.f0 ∧ w ≠ refIx r.f3 ∧ w ≠ refIx r.f3 + 1)) →
        t.localWord x w = s.localWord x w)) ∧
  (∀ (s0 s : State) (r : OpRec) (ix : Fin 8192), s = s0.written r → Issues 0x45 r s → r.t = 1 → r.mode = 2 → refKind r.f0 = 0 →
    Runs r (exec (.sat r ix .none) s0) (fun t => t.localWord (s.opSeat r) (refIx r.f0) = s.refWord r r.f1 0 ∧
      t.localWord (s.opSeat r) (refIx r.f0 + 1) = (if (s.refWord r r.f1 0).toInt < 0 then 0xFFFFFFFF else 0) ∧
      OnlyLocals (s.opSeat r) (refIx r.f0) 2 s { t with fab := s.fab }))

/-- Binary32 records: one binary32 operation each, with the flags of their operands; SAT rounds to nearest, ATAN2 of two
zeros is 0 with DOM (from R200, R201, R209, R223, R233 to R236). -/
def Obligations.FloatRecords : Prop :=
  (∀ (s0 s : State) (r : OpRec) (ix : Fin 8192), s = s0.written r → Issues 0x40 r s → r.t = 0 → exec (.mul r ix .none) s0 =
    .next (s.putFl r r.f0 [fmul (s.fop r r.f1) (s.fop r r.f2)])) ∧
  (∀ (s0 s : State) (r : OpRec) (ix : Fin 8192), s = s0.written r → Issues 0x41 r s → r.t = 0 → exec (.mac r ix .none) s0 =
    .next (s.putFl r r.f0 [ffma (s.fop r r.f1) (s.fop r r.f2) (s.fop r r.f3)])) ∧
  (∀ (s0 s : State) (r : OpRec) (ix : Fin 8192), s = s0.written r → Issues 0x42 r s → r.t = 0 → exec (.add r ix .none) s0 =
    .next (s.putFl r r.f0 [fadd (s.fop r r.f1) (s.fop r r.f2)])) ∧
  (∀ (s0 s : State) (r : OpRec) (ix : Fin 8192), s = s0.written r → Issues 0x43 r s → r.t = 0 → exec (.sub r ix .none) s0 =
    .next (s.putFl r r.f0 [fadd (s.fop r r.f1) (fneg (s.fop r r.f2))])) ∧
  (∀ (s0 s : State) (r : OpRec) (ix : Fin 8192), s = s0.written r → Issues 0x44 r s → r.t = 0 → exec (.abs r ix .none) s0 =
    .next (s.putFl r r.f0 [⟨(s.fop r r.f1).w &&& 0x7FFFFFFF, (s.fop r r.f1).fl⟩])) ∧
  (∀ (s0 s : State) (r : OpRec) (ix : Fin 8192), s = s0.written r → Issues 0x46 r s → exec (.sqrt r ix .none) s0 =
    .next (s.putFl r r.f0 [fsqrt (s.fop r r.f1)])) ∧
  (∀ (s0 s : State) (r : OpRec) (ix : Fin 8192), s = s0.written r → Issues 0x47 r s → exec (.recip r ix .none) s0 =
    .next (s.putFl r r.f0 [frecip (s.fop r r.f1)])) ∧
  (∀ (s0 s : State) (r : OpRec) (ix : Fin 8192), s = s0.written r → Issues 0x48 r s → (s.fop r r.f1).v.mant = 0 → (s.fop r r.f2).v.mant = 0 → exec (.atan2 r ix .none) s0 =
    .next ((s.putRef r r.f0 [0]).raise r (((s.fop r r.f1).fl ||| (s.fop r r.f2).fl) ||| flagDom))) ∧
  (∀ (s0 s : State) (r : OpRec) (ix : Fin 8192), s = s0.written r → Issues 0x48 r s → (s.fop r r.f1).v.mant ≠ 0 → exec (.atan2 r ix .none) s0 =
    .next ((s.putRef r r.f0 [BitVec.ofNat 32 (atan2Turn (s.fop r r.f1).v (s.fop r r.f2).v)]).raise r ((s.fop r r.f1).fl ||| (s.fop r r.f2).fl))) ∧
  (∀ (s0 s : State) (r : OpRec) (ix : Fin 8192), s = s0.written r → Issues 0x45 r s → r.t = 0 → r.mode = 1 → exec (.sat r ix .none) s0 =
    .next ((s.raise r (s.fop r r.f1).fl).putInt r r.f0 false (rneFl (s.fop r r.f1).v 0))) ∧
  (∀ (s0 s : State) (r : OpRec) (ix : Fin 8192), s = s0.written r → Issues 0x45 r s → r.t = 0 → r.mode = 3 → exec (.sat r ix .none) s0 =
    .next ((s.putRef r r.f0 [BitVec.ofInt 32 (rneFl (s.fop r r.f1).v 32)]).raise r (s.fop r r.f1).fl)) ∧
  (∀ (s0 s : State) (r : OpRec) (ix : Fin 8192), s = s0.written r → Issues 0x49 r s → r.t = 0 → r.mode = 2 → exec (.cmp r ix .none) s0 =
    .next ((s.putRef r r.f0 [if flt (s.fop r r.f1) (s.fop r r.f2) then 1 else 0]).raise r ((s.fop r r.f1).fl ||| (s.fop r r.f2).fl))) ∧
  (∀ (s0 s : State) (r : OpRec) (ix : Fin 8192), s = s0.written r → Issues 0x22 r s → exec (.ffAdd r ix .none) s0 =
    .next (s.putFl r r.f0 [ffma (s.fop r r.f2) (s.fop r r.f3) (s.fop r r.f1)]))

/-- Clarke, Park, sine and modulation records (from R214 to R220). -/
def Obligations.TransformRecords : Prop :=
  (∀ (s0 s : State) (r : OpRec) (ix : Fin 8192) (ph : Nat → FV), s = s0.written r → Issues 0x10 r s →
    (∀ p, ph p = fsumL ((List.range r.n).map (fun j => s.fop r r.f1 (p * r.n + j)))) → exec (.clarke3 r ix .none) s0 =
    .next (s.putFl r r.f0 [fmul (fsub (fsub (fadd (ph 0) (ph 0)) (ph 1)) (ph 2)) cK3, fmul (fsub (ph 1) (ph 2)) cKS3,
      fmul (fadd (fadd (ph 0) (ph 1)) (ph 2)) cK3])) ∧
  (∀ (s0 s : State) (r : OpRec) (ix : Fin 8192), s = s0.written r → Issues 0x11 r s → exec (.clarkeN r ix .none) s0 =
    .next (s.putFl r r.f0 ((List.range r.m).map (fun j => (List.range r.n).foldl
      (fun a i => ffma (s.fop r r.f2 (j * r.n + i)) (s.fop r r.f1 i) a) fzero)))) ∧
  (∀ (s0 s : State) (r : OpRec) (ix : Fin 8192), s = s0.written r → Issues 0x12 r s → exec (.park r ix .none) s0 =
    .next (s.putFl r r.f0 [ffma (s.fop r r.f1) (s.fop r r.f2 1) (fmul (s.fop r r.f1 1) (s.fop r r.f2)),
      ffma (s.fop r r.f1 1) (s.fop r r.f2 1) (fneg (fmul (s.fop r r.f1) (s.fop r r.f2)))])) ∧
  (∀ (s0 s : State) (r : OpRec) (ix : Fin 8192), s = s0.written r → Issues 0x13 r s → exec (.ipark r ix .none) s0 =
    .next (s.putFl r r.f0 [ffma (s.fop r r.f1) (s.fop r r.f2 1) (fneg (fmul (s.fop r r.f1 1) (s.fop r r.f2))),
      ffma (s.fop r r.f1) (s.fop r r.f2) (fmul (s.fop r r.f1 1) (s.fop r r.f2 1))])) ∧
  (∀ (s0 s : State) (r : OpRec) (ix : Fin 8192) (th : Nat), s = s0.written r → Issues 0x14 r s → r.f2 = 0x3000 → th = (s.refWord r r.f1 0).toNat →
    exec (.sincos r ix .none) s0 = .next (s.putRef r r.f0 [sinWith (s.tableRaw (tableOf r.f3)) th,
      sinWith (s.tableRaw (tableOf r.f3)) ((th + 2 ^ 30) % 2 ^ 32), s.refWord r r.f1 0])) ∧
  (∀ (s0 s : State) (r : OpRec) (ix : Fin 8192) (vb vc : FV), s = s0.written r → Issues 0x15 r s →
    vb = ffma cKH (s.fop r r.f1 1) (fneg (fmul fhalf (s.fop r r.f1))) → vc = ffma (fneg cKH) (s.fop r r.f1 1) (fneg (fmul fhalf (s.fop r r.f1))) →
    (r.mode = 0 → exec (.svm3 r ix .none) s0 = .next (s.putFl r r.f0 [duty (s.fop r r.f1) fzero (s.fop r r.f2), duty vb fzero (s.fop r r.f2),
      duty vc fzero (s.fop r r.f2)])) ∧
    (r.mode = 2 → exec (.svm3 r ix .none) s0 = .next (s.putFl r r.f0 [duty (s.fop r r.f1) (s.fop r r.f3) (s.fop r r.f2), duty vb (s.fop r r.f3) (s.fop r r.f2),
      duty vc (s.fop r r.f3) (s.fop r r.f2)])) ∧
    (r.mode = 1 → ∀ v0, v0 = fmul (fneg (fadd (fmax (fmax (s.fop r r.f1) vb) vc) (fmin (fmin (s.fop r r.f1) vb) vc))) fhalf →
      exec (.svm3 r ix .none) s0 = .next (s.putFl r r.f0 [duty (s.fop r r.f1) v0 (s.fop r r.f2), duty vb v0 (s.fop r r.f2), duty vc v0 (s.fop r r.f2)]))) ∧
  (∀ (s0 s : State) (r : OpRec) (ix : Fin 8192), s = s0.written r → Issues 0x16 r s → exec (.spwmN r ix .none) s0 =
    .next (s.putFl r r.f0 ((List.range r.n).map (fun k => duty (s.fop r r.f1 k) (s.fop r r.f2) (s.fop r r.f3))))) ∧
  (∀ (s0 s : State) (r : OpRec) (ix : Fin 8192) (d : Nat → FV), s = s0.written r → Issues 0x17 r s → flt fzero (s.fop r r.f3) = true →
    (∀ k, d k = ffma (fclamp (fmul (s.fop r r.f2 k) (s.fop r r.f3)) (fneg fone) fone) (s.fop r r.f4) (s.fop r r.f1 k)) →
    (∀ k < 3, fclamped (d k) fzero fone = false) → exec (.deadcomp r ix .none) s0 =
    .next (s.putFl r r.f0 [fclamp (d 0) fzero fone, fclamp (d 1) fzero fone, fclamp (d 2) fzero fone])) ∧
  (∀ v off g : FV, (duty v off g).w = (fclamp (ffma (fadd v off) g fhalf) fzero fone).w ∧
    (fclamped (ffma (fadd v off) g fhalf) fzero fone = true → bit (duty v off g).fl 2 = true))

/-- PI, PID_FD, LIMIT, RATE_LIM and VLIM_CIRC: the sum, its clamp, and what the integrator keeps (from R221 to R224). -/
def Obligations.ControlRecords : Prop :=
  (∀ (s0 s : State) (r : OpRec) (ix : Fin 8192) (e itry u out i : FV) (sat : Bool), s = s0.written r → Issues 0x20 r s →
    flt (s.fop r r.f3 3) (s.fop r r.f3 2) = false → e = fsub (s.fop r r.f1) (s.fop r r.f2) →
    itry = ffma (s.fop r r.f3 1) e (s.fop r r.f4) → u = fadd (fmul (s.fop r r.f3) e) itry →
    (out, i, sat) = piClamp u e (s.fop r r.f4) itry (s.fop r r.f3 2) (s.fop r r.f3 3) → exec (.pi r ix .none) s0 =
    .next ((s.putFl r r.f0 [out] (u.fl ||| i.fl ||| (s.fop r r.f3 2).fl ||| (s.fop r r.f3 3).fl ||| (if sat then flagSat else 0))).putState
      r r.f4 [i.w] (s.stValid r r.f4 1) sat)) ∧
  (∀ u e i itry lo hi : FV, flt hi u = true → (piClamp u e i itry lo hi).1 = hi ∧ (piClamp u e i itry lo hi).2.2 = true ∧
    (piClamp u e i itry lo hi).2.1 = fclamp (if flt fzero e then i else itry) lo hi) ∧
  (∀ u e i itry lo hi : FV, flt hi u = false → flt u lo = true → (piClamp u e i itry lo hi).1 = lo ∧
    (piClamp u e i itry lo hi).2.2 = true ∧ (piClamp u e i itry lo hi).2.1 = fclamp (if flt e fzero then i else itry) lo hi) ∧
  (∀ u e i itry lo hi : FV, flt hi u = false → flt u lo = false → (piClamp u e i itry lo hi).1 = u ∧
    (piClamp u e i itry lo hi).2.2 = false ∧ (piClamp u e i itry lo hi).2.1 = fclamp itry lo hi) ∧
  (∀ (s0 s : State) (r : OpRec) (ix : Fin 8192) (e d itry u out i : FV) (sat : Bool), s = s0.written r → Issues 0x21 r s →
    flt (s.fop r r.f3 5) (s.fop r r.f3 4) = false → s.refWord r r.f3 6 ≠ 0 → s.stValid r r.f4 3 = true →
    e = fsub (s.fop r r.f1) (s.fop r r.f2) →
    d = ffma (s.fop r r.f3 3) (s.fop r r.f4 1) (fmul (s.fop r r.f3 2) (fsub e (s.fop r r.f4 2))) →
    itry = ffma (s.fop r r.f3 1) e (s.fop r r.f4) → u = fadd (fadd (fmul (s.fop r r.f3) e) itry) d →
    (out, i, sat) = piClamp u e (s.fop r r.f4) itry (s.fop r r.f3 4) (s.fop r r.f3 5) → ∃ fl, exec (.pidFd r ix .none) s0 =
    .next ((s.putFl r r.f0 [out] fl).putState r r.f4 [i.w, d.w, e.w] true sat)) ∧
  (∀ (s0 s : State) (r : OpRec) (ix : Fin 8192), s = s0.written r → Issues 0x23 r s → r.t = 0 →
    flt (s.fop r r.f2 1) (s.fop r r.f2) = false → exec (.limit r ix .none) s0 =
    .next (s.putFl r r.f0 [(fclamp (s.fop r r.f1) (s.fop r r.f2) (s.fop r r.f2 1)).raiseIf
      (fclamped (s.fop r r.f1) (s.fop r r.f2) (s.fop r r.f2 1)) flagSat])) ∧
  (∀ (s0 s : State) (r : OpRec) (ix : Fin 8192), s = s0.written r → Issues 0x23 r s → r.t = 1 →
    (s.refWord r r.f2 1).toInt < (s.refWord r r.f2 0).toInt → exec (.limit r ix .none) s0 =
    .next ((s.putRef r r.f0 [s.refWord r r.f2 1]).raise r flagDom)) ∧
  (∀ (s0 s : State) (r : OpRec) (ix : Fin 8192) (y d : FV), s = s0.written r → Issues 0x24 r s → r.mode = 0 → flt (s.fop r r.f2) fzero = false →
    flt (s.fop r r.f2 1) fzero = false → d = fsub (s.fop r r.f1) (s.fop r r.f3) →
    y = fadd (s.fop r r.f3) (fclamp d (fneg (s.fop r r.f2 1)) (s.fop r r.f2)) → exec (.rateLim r ix .none) s0 =
    .next ((s.putFl r r.f0 [y] (if fclamped d (fneg (s.fop r r.f2 1)) (s.fop r r.f2) then flagSat else 0)).putState r r.f3 [y.w]
      (s.stValid r r.f3 1) (fclamped d (fneg (s.fop r r.f2 1)) (s.fop r r.f2)))) ∧
  (∀ (s0 s : State) (r : OpRec) (ix : Fin 8192), s = s0.written r → Issues 0x25 r s → r.mode = 0 → flt (s.fop r r.f2) fzero = false →
    fle (ffma (s.fop r r.f1) (s.fop r r.f1) (fmul (s.fop r r.f1 1) (s.fop r r.f1 1))) (fmul (s.fop r r.f2) (s.fop r r.f2)) = true →
    ∃ fl, exec (.vlimCirc r ix .none) s0 = .next (s.putFl r r.f0 [s.fop r r.f1, s.fop r r.f1 1] fl)) ∧
  (∀ (s0 s : State) (r : OpRec) (ix : Fin 8192) (vd q : FV), s = s0.written r → Issues 0x25 r s → r.mode = 1 → flt (s.fop r r.f2) fzero = false →
    vd = fclamp (s.fop r r.f1) (fneg (s.fop r r.f2)) (s.fop r r.f2) →
    q = fsqrt (fmax (ffma (fneg vd) vd (fmul (s.fop r r.f2) (s.fop r r.f2))) fzero) →
    ∃ fl, exec (.vlimCirc r ix .none) s0 = .next (s.putFl r r.f0 [vd, fclamp (s.fop r r.f1 1) (fneg q) q] fl))

/-- LPF1, NOTCH2, LUT1 and LUT2 (from R225 to R227). -/
def Obligations.FilterAndTableRecords : Prop :=
  (∀ (s0 s : State) (r : OpRec) (ix : Fin 8192) (y : FV), s = s0.written r → Issues 0x28 r s → r.mode = 0 →
    y = ffma (s.fop r r.f2) (fsub (s.fop r r.f1) (s.fop r r.f3)) (s.fop r r.f3) → exec (.lpf1 r ix .none) s0 =
    .next ((s.putFl r r.f0 [y]).putState r r.f3 [y.w] (s.stValid r r.f3 1) false)) ∧
  (∀ (s0 s : State) (r : OpRec) (ix : Fin 8192), s = s0.written r → Issues 0x28 r s → r.mode = 1 → s.stValid r r.f3 1 = false →
    exec (.lpf1 r ix .none) s0 = .next ((s.putFl r r.f0 [s.fop r r.f1]).putState r r.f3 [(s.fop r r.f1).w] false false)) ∧
  (∀ (s0 s : State) (r : OpRec) (ix : Fin 8192) (y s1 s2 : FV), s = s0.written r → Issues 0x29 r s →
    y = ffma (s.fop r r.f2) (s.fop r r.f1) (s.fop r r.f3) →
    s1 = ffma (s.fop r r.f2 1) (s.fop r r.f1) (ffma (fneg (s.fop r r.f2 3)) y (s.fop r r.f3 1)) →
    s2 = ffma (s.fop r r.f2 2) (s.fop r r.f1) (fneg (fmul (s.fop r r.f2 4) y)) → exec (.notch2 r ix .none) s0 =
    .next ((s.putFl r r.f0 [y] (s1.fl ||| s2.fl)).putState r r.f3 [s1.w, s2.w] (s.stValid r r.f3 2) false)) ∧
  (∀ (s0 s : State) (r : OpRec) (ix : Fin 8192) (t i : Nat) (f : FV), s = s0.written r → Issues 0x2A r s → t = tableOf r.f2 →
    (i, f) = locate (s.fop r r.f1) (s.tableF t 2) (s.tableF t 3) (s.tableNx t) → exec (.lut1 r ix .none) s0 =
    .next (s.putFl r r.f0 [ffma f (fsub (s.entry t (i + 1)) (s.entry t i)) (s.entry t i)])) ∧
  (∀ (s0 s : State) (r : OpRec) (ix : Fin 8192) (t i j nx : Nat) (fx fy r0 r1 : FV), s = s0.written r → Issues 0x2B r s → t = tableOf r.f2 →
    nx = s.tableNx t → (i, fx) = locate (s.fop r r.f1) (s.tableF t 2) (s.tableF t 3) nx →
    (j, fy) = locate (s.fop r r.f1 1) (s.tableF t 4) (s.tableF t 5) (s.tableNy t) →
    r0 = ffma fx (fsub (s.entry t (j * nx + (i + 1))) (s.entry t (j * nx + i))) (s.entry t (j * nx + i)) →
    r1 = ffma fx (fsub (s.entry t ((j + 1) * nx + (i + 1))) (s.entry t ((j + 1) * nx + i))) (s.entry t ((j + 1) * nx + i)) →
    exec (.lut2 r ix .none) s0 = .next (s.putFl r r.f0 [ffma fy (fsub r1 r0) r0]))

/-- OBS_EMF, PLL_TRK, HFI_DEMOD, RSLV_DEMOD and SHARE (from R229 to R232). -/
def Obligations.EstimationRecords : Prop :=
  (∀ (s0 s : State) (r : OpRec) (ix : Fin 8192) (ra iha eha rb ihb ehb q qf : FV), s = s0.written r → Issues 0x30 r s →
    (ra, iha, eha) = obsAxis (s.fop r r.f3) (s.fop r r.f3 1) (s.fop r r.f3 2) (s.fop r r.f3 3) (s.fop r r.f1) (s.fop r r.f2)
      (s.fop r r.f4) (s.fop r r.f4 2) →
    (rb, ihb, ehb) = obsAxis (s.fop r r.f3) (s.fop r r.f3 1) (s.fop r r.f3 2) (s.fop r r.f3 3) (s.fop r r.f1 1) (s.fop r r.f2 1)
      (s.fop r r.f4 1) (s.fop r r.f4 3) → q = ffma ra ra (fmul rb rb) → qf = ffma (s.fop r r.f3 4) (fsub q (s.fop r r.f4 4)) (s.fop r r.f4 4) →
    ∃ conf, exec (.obsEmf r ix .none) s0 = .next ((s.putFl r r.f0 [eha, ehb, conf] (iha.fl ||| ihb.fl ||| qf.fl)).putState r r.f4
      [iha.w, ihb.w, eha.w, ehb.w, qf.w] (s.stValid r r.f4 5) false)) ∧
  (∀ kt rs l1 l2 i v ih eh : FV, obsAxis kt rs l1 l2 i v ih eh = (fsub i ih,
    ffma l1 (fsub i ih) (ffma kt (fsub v (ffma rs ih eh)) ih), ffma (fneg l2) (fsub i ih) eh)) ∧
  (∀ (s0 s : State) (r : OpRec) (ix : Fin 8192) (x w delta : FV) (th : Word), s = s0.written r → Issues 0x31 r s → r.mode = 0 →
    x = ffma (s.fop r r.f2 1) (s.fop r r.f1) (s.fop r r.f3 1) → w = fclamp x (fneg (s.fop r r.f2 2)) (s.fop r r.f2 2) →
    delta = ffma (s.fop r r.f2) (s.fop r r.f1) w →
    th = s.refWord r r.f3 0 + BitVec.ofInt 32 (max (-2147483648) (min 2147483647 (rneFl delta.v 32))) →
    ∃ fl sat, exec (.pllTrk r ix .none) s0 =
      .next (((s.putRef r r.f0 [th, w.w]).raise r fl).putState r r.f3 [th, w.w] (s.stValid r r.f3 2) sat)) ∧
  (∀ (s0 s : State) (r : OpRec) (ix : Fin 8192) (e : FV), s = s0.written r → Issues 0x32 r s → s.stValid r r.f3 3 = true →
    s.refWord r r.f3 1 = 0x3F800000 →
    e = ffma (s.fop r r.f2 1) (fsub (fmul (fmul fone (fsub (s.fop r r.f1) (s.fop r r.f3))) (s.fop r r.f2 2)) (s.fop r r.f3 2))
      (s.fop r r.f3 2) → exec (.hfiDemod r ix .none) s0 =
    .next ((s.putFl r r.f0 [e, fmul (fneg fone) (s.fop r r.f2)] (s.fop r r.f1).fl).putState r r.f3
      [(s.fop r r.f1).w, (fneg fone).w, e.w] true false)) ∧
  (∀ (s0 s : State) (r : OpRec) (ix : Fin 8192) (rho sd cd : FV), s = s0.written r → Issues 0x33 r s →
    rho = (s.sinCos s.live.sineTable ((s.refWord r r.f2 0).toNat + (s.refWord r r.f3 0).toNat)).1 →
    sd = ffma (s.fop r r.f3 1) (fsub (fmul (s.fop r r.f1) rho) (s.fop r r.f4)) (s.fop r r.f4) →
    cd = ffma (s.fop r r.f3 1) (fsub (fmul (s.fop r r.f1 1) rho) (s.fop r r.f4 1)) (s.fop r r.f4 1) →
    ∃ fl, exec (.rslvDemod r ix .none) s0 = .next ((s.putFl r r.f0 [sd, cd, ffma sd sd (fmul cd cd)] fl).putState r r.f4
      [sd.w, cd.w] (s.stValid r r.f4 2) false)) ∧
  (∀ (s0 s : State) (r : OpRec) (ix : Fin 8192) (ts : List FV), s = s0.written r → Issues 0x34 r s →
    fle (s.fop r r.f3 2) (fabs (fsumL ((List.range r.n).map (fun j => s.fop r r.f2 j)))) = false →
    ts = (List.range r.n).map (fun j => s.fop r r.f4 j) →
    ∃ fl sat, exec (.share r ix .none) s0 = .next ((s.putFl r r.f0 (ts.map (fun t => fclamp (fadd (s.fop r r.f1) t) fzero fone))
      fl).putState r r.f4 ((List.range r.n).map (fun j => s.refWord r r.f4 j)) (s.stValid r r.f4 r.n) sat))

/-- LOAD_SMP, BAND_SEL, EMIT_PWM, EMIT_REG, EXCH, CAPTURE, INJECT, TRQ_EST and CHECK: what enters, leaves and is signed
(from R131, R132, R140, R206, R209, R211 to R213, R228, R231, R238, R499). -/
def Obligations.TransferRecords : Prop :=
  (∀ (s0 s : State) (r : OpRec) (ix : Fin 8192) (t : State) (w : Word) (v late : Bool), s = s0.written r → Issues 0x01 r s →
    r.t = 3 → t = (s.deadline (bindIx r.f1) r.unit).xfer r.slot 1 → (t.input (bindIx r.f1)).res = some ([w], v, late) →
    exec (.loadSmp r ix .none) s0 =
      .next ((t.putRef r r.f0 [w]).raise r ((if late then flagLate else 0) ||| (if v then 0 else flagNv)))) ∧
  (∀ (s0 s : State) (r : OpRec) (ix : Fin 8192) (t : State) (w : Word) (n c m o : Nat) (h : List (Nat × Nat)),
    s = s0.written r → Issues 0x01 r s → r.t = 0 →
    s.live.bind[bindIx r.f1]? = some (.sd n c m o 0 h) → t = (s.deadline (bindIx r.f1) r.unit).xfer r.slot 1 →
    (t.input (bindIx r.f1)).res = some ([w], true, false) →
    exec (.loadSmp r ix .none) s0 = .next (t.putFl r r.f0 [ffma (fofInt w.toInt) (t.fop r r.f2) (t.fop r r.f2 1)])) ∧
  (∀ (s0 s : State) (r : OpRec) (ix : Fin 8192) (t : State) (w : Word) (b : Nat), s = s0.written r → Issues 0x2C r s → r.t = 0 →
    t = (s.deadline (bindIx r.f1) r.unit).xfer r.slot 1 → (t.input (bindIx r.f1)).res = some ([w], true, false) →
    b = w.toNat % 8 → exec (.bandSel r ix .none) s0 = .next (t.putFl r r.f0
      ((List.range r.n).map (fun k => t.entry (tableOf r.f2) (b * t.tableNx (tableOf r.f2) + k))))) ∧
  (∀ (s0 s : State) (r : OpRec) (ix : Fin 8192) (cs : List Nat) (ds : List FV), s = s0.written r → Issues 0x02 r s → r.mode = 0 →
    ds = (List.range (s.groupLegs r.f2).length).map (fun j => s.fop r r.f0 j) →
    (∀ d ∈ ds, fclamped d fzero fone = false ∧ d.fl = 0) →
    cs = ((s.groupLegs r.f2).zip ds).map (fun e => compareOf e.2 (s.emitPeriod e.1 none)) → ∀ atNs,
    exec (.emitPwm r ix .none atNs) s0 = .next (((s.raise r 0).sendWords r ix (cs.map (fun c => BitVec.ofNat 32 c))).each
      ((s.groupLegs r.f2).zip cs) (fun e t => t.seatWrite r.slot (R.LEG_CMP_SH e.1) (fun t => t.set (F.LEG_CMP_SH_CMP e.1) e.2)))) ∧
  (∀ (d : FV) (p : Nat), compareOf d p ≤ 32 * p) ∧
  (∀ (s : State) (l p : Nat), s.emitPeriod l (some p) = p) ∧
  (∀ (s0 s : State) (r : OpRec) (ix : Fin 8192) (p o : Nat), s = s0.written r → Issues 0x03 r s →
    s.live.bind[bindIx r.f1]? = some (.regOut p o) →
    (planOut (pageBase p + o) = true → exec (.emitReg r ix .none) s0 =
      .next (((s.xfer r.slot 1).sign ix [s.refWord r r.f0 0]).seatWrite r.slot (pageBase p + o)
        (fun t => t.regOutput (pageBase p + o) (s.refWord r r.f0 0)))) ∧
    (planOut (pageBase p + o) = false → exec (.emitReg r ix .none) s0 =
      .next ((((s.xfer r.slot 1).sign ix [s.refWord r r.f0 0]).keepWord r.slot (pageBase p + o)).busWrite .seat (pageBase p + o)
        (s.refWord r r.f0 0)).2)) ∧
  (∀ (s0 s : State) (r : OpRec) (ix : Fin 8192) (c : Nat) (body : List Nat), s = s0.written r → Issues 0x04 r s →
    s.live.bind[bindIx r.f1]? = some (.exch c body) → ∃ ws : List Word, ws.length = r.n ∧
    (∀ i, i < r.n.val → ws.getD i 0 = s.refWord r r.f0 i) ∧
    (s.cascaded = false → exec (.exch r ix .none) s0 = .next ((s.xfer r.slot r.n).sign ix ws)) ∧
    (s.cascaded = true → exec (.exch r ix .none) s0 = .next { (s.xfer r.slot r.n).sign ix ws with
      ring := { s.ring with exchOut := s.ring.exchOut ++ [(c, body.getD 0 0 / 2 % 16, ws)] } })) ∧
  (∀ (s0 s : State) (r : OpRec) (ix : Fin 8192) (c : Nat) (body : List Nat), s = s0.written r → Issues 0x05 r s →
    s.live.bind[bindIx r.f1]? = some (.capture c body) → ∃ ws : List Word, ws.length = r.n ∧
    (∀ i, i < r.n.val → ws.getD i 0 = s.refWord r r.f0 i) ∧
    exec (.capture r ix .none) s0 = .next ((((s.xfer r.slot r.n).sign ix ws).keepCapture r.slot c (r.n + 1)).capWrite c ws)) ∧
  (∀ (s0 s : State) (r : OpRec) (ix : Fin 8192) (p : Nat) (body : List Nat), s = s0.written r → Issues 0x06 r s →
    s.live.bind[bindIx r.f2]? = some (.inject p body) → s.on (F.INJ_PTCTL_EN p) = false → (s.input (bindIx r.f2)).res = none →
    refKind r.f0 = 0 → Runs r (exec (.inject r ix .none false) s0) (fun t =>
      t.localWord (s.opSeat r) (refIx r.f0) = s.refWord r r.f1 0 ∧ (t.input (bindIx r.f2)).res = some ([], true, false) ∧
      OnlyLocals (s.opSeat r) (refIx r.f0) 1 (s.xfer r.slot 1) { t with cat := s.cat, fab := (s.xfer r.slot 1).fab })) ∧
  (∀ (s0 s : State) (r : OpRec) (ix : Fin 8192) (p : Nat) (body : List Nat) (g : FV), s = s0.written r → Issues 0x06 r s →
    s.live.bind[bindIx r.f2]? = some (.inject p body) → s.pointSample p = some g → (s.input (bindIx r.f2)).res = none →
    exec (.inject r ix .none false) s0 = .next (((s.setInput (bindIx r.f2) { s.input (bindIx r.f2) with
        held := some ([g.w], true), res := some ([g.w], true, false) }).xfer r.slot 1).putFl r r.f0
      [fadd (fin (s.refWord r r.f1 0)) (fconst g.w)] 0)) ∧
  (∀ (s0 s : State) (r : OpRec) (ix : Fin 8192) (p : Nat) (body : List Nat) (t : State) (g : Word) (v late : Bool),
    s = s0.written r → Issues 0x06 r s → s.live.bind[bindIx r.f2]? = some (.inject p body) →
    t = (s.deadline (bindIx r.f2) r.unit).xfer r.slot 1 → (t.input (bindIx r.f2)).res = some ([g], v, late) →
    exec (.inject r ix .none true) s0 = .next (t.putFl r r.f0 [fadd (fin (s.refWord r r.f1 0)) (fconst g)]
      ((if late then flagLate else 0) ||| (if v then 0 else flagNv)))) ∧
  (∀ (s0 s : State) (r : OpRec) (ix : Fin 8192), s = s0.written r → Issues 0x35 r s → ∃ ws : List Word, ws.length = r.n ∧
    (∀ i, i < r.n.val → ws.getD i 0 = s.refWord r r.f0 i) ∧ Completes (exec (.trqEst r ix .none) s0) (fun t =>
      (bindIx r.f1, s.cat.num, ws) ∈ t.fab.snap ∧ SameMemory s t ∧ t.cat = s.cat ∧ OnlyRegs [R.FAB_XBAR] s { t with fab := s.fab })) ∧
  (∀ (s0 s : State) (r : OpRec) (ix : Fin 8192) (x lo hi : Word) (ok : Bool), s = s0.written r → Issues 0x51 r s → r.t = 1 →
    r.unit.val < 4 → refKind r.f0 = 0 →
    x = s.refWord r r.f1 0 → lo = s.refWord r r.f2 0 → hi = s.refWord r r.f2 1 →
    ok = (decide (lo.toInt ≤ x.toInt) && decide (x.toInt ≤ hi.toInt) && (r.mode == 1 || !bit (s.fab.cur.get r.unit) 1)) →
    Runs r (exec (.check r ix .none) s0) (fun t => t.localWord (s.opSeat r) (refIx r.f0) = (if ok then 1 else 0) ∧
      t.checks.runs.get r.n = s.checks.runs.get r.n + 1 ∧
      t.checks.fails.get r.n = s.checks.fails.get r.n + (if ok then 0 else 1) ∧
      t.fab.cur.get r.unit = s.fab.cur.get r.unit ||| (if ok then 0 else flagRange) ∧
      (∀ y w, w < 4096 → (y ≠ s.opSeat r ∨ w ≠ refIx r.f0) → t.localWord y w = s.localWord y w) ∧
      OnlyRegs [R.FAB_XBAR] s { t with fab := s.fab, checks := s.checks, cat := s.cat, locals := s.locals }))

/-- A commit waits until an update point at least 32 ns after it; a period applies only at a boundary, its compares with
it, unless the limits then in force forbid it; a dropped period leaves the period and marks the compares stale; how a pulse is judged
and the carry follows (from R323, R326 to R330, R334, R335). -/
def Obligations.PwmUpdatePoints : Prop :=
  (∀ (s : State) (l : LegIx) (c : Bool) (n : Nat), s.sup.die = .running → s.unitOf l = none → exec (.updatePoint l c n) s = .next s) ∧
  (∀ (s : State) (l : LegIx) (n : Nat), s.sup.die = .running → (s.unitOf l).isSome = true → s.on (F.LEG_STAT_EN l) = false →
    (s.leg l).cfgNew = none → s.refLeg ≠ some l.val → s.band = s.fld (F.LEG_MINP_BAND l) → s.pend l = true →
    (s.leg l).latchAt + 32 ≤ n → (s.leg l).shStale = false →
    ((s.leg l).pendPer = none ∨ s.periodDropped (s.leg l).group (s.fld (F.LEG_PER_SH_PER l)) = false) →
    Completes (exec (.updatePoint l false n) s) (fun t =>
      t.fld (F.LEG_CMP_CMP l) = s.fld (F.LEG_CMP_SH_CMP l) ∧ t.pend l = false ∧ (t.leg l).pendPer = none ∧
      t.per l = (if (s.leg l).pendPer = none then s.per l else s.fld (F.LEG_PER_SH_PER l)) ∧
      OnlyRegs [R.LEG_PER l, R.LEG_CMP l, R.PWM_PENDING (legPage l)] s { t with legs := s.legs })) ∧
  (∀ (s : State) (l : LegIx) (n : Nat), s.sup.die = .running → (s.unitOf l).isSome = true → s.on (F.LEG_STAT_EN l) = false →
    (s.leg l).cfgNew = none → s.refLeg ≠ some l.val → s.band = s.fld (F.LEG_MINP_BAND l) → s.pend l = true →
    (s.leg l).latchAt + 32 ≤ n → (s.leg l).pendPer ≠ none →
    s.periodDropped (s.leg l).group (s.fld (F.LEG_PER_SH_PER l)) = true →
    Completes (exec (.updatePoint l false n) s) (fun t => t.per l = s.per l ∧ t.on (F.PWM_STATUS_PER_REFUSED (legPage l)) = true ∧
      t.on (F.LEG_CMP_STALE l) = true ∧ t.pend l = false)) ∧
  (∀ (s : State) (l : LegIx) (n : Nat), s.sup.die = .running → (s.unitOf l).isSome = true → s.on (F.LEG_STAT_EN l) = false →
    (s.leg l).cfgNew = none → s.refLeg ≠ some l.val → s.band = s.fld (F.LEG_MINP_BAND l) → s.on (F.LEG_CMP_STALE l) = false →
    n < (s.leg l).latchAt + 32 → Completes (exec (.updatePoint l false n) s) (fun t =>
      t.fld (F.LEG_CMP_CMP l) = (s.leg l).cmp % 2 ^ 23 ∧ t.pend l = s.pend l ∧ OnlyRegs [R.LEG_CMP l] s { t with legs := s.legs })) ∧
  (∀ (s : State) (l : LegIx) (n : Nat), s.sup.die = .running → s.on (F.LEG_CFG_UPD l) = false →
    exec (.updatePoint l true n) s = .next s) ∧
  (∀ (s : State) (l : LegIx) (n : Nat), s.sup.die = .running → (s.unitOf l).isSome = true → s.on (F.LEG_CFG_UPD l) = true →
    s.on (F.LEG_CFG_MODE l) = false → s.pend l = true → (s.leg l).latchAt + 32 ≤ n → (s.leg l).pendPer.isSome = true →
    s.on (F.LEG_CMP_STALE l) = false → Completes (exec (.updatePoint l true n) s) (fun t =>
      t.fld (F.LEG_CMP_CMP l) = (s.leg l).cmp % 2 ^ 23 ∧ t.pend l = true ∧ OnlyRegs [R.LEG_CMP l] s t)) ∧
  (∀ (s : State) (l : LegIx) (n : Nat), s.sup.die = .running → (s.unitOf l).isSome = true → s.on (F.LEG_CFG_UPD l) = true →
    s.on (F.LEG_CFG_MODE l) = false → s.on (F.LEG_STAT_EN l) = false → s.pend l = true → (s.leg l).latchAt + 32 ≤ n →
    (s.leg l).pendPer = none → (s.leg l).shStale = false → Completes (exec (.updatePoint l true n) s) (fun t =>
      t.fld (F.LEG_CMP_CMP l) = s.fld (F.LEG_CMP_SH_CMP l) ∧ t.pend l = false ∧
      OnlyRegs [R.LEG_CMP l, R.PWM_PENDING (legPage l)] s { t with legs := s.legs })) ∧
  (∀ (s : State) (page : Nat) (legs : List Nat) (per : Option Nat) (n : Nat), (∀ l ∈ legs, l < 24) → ∀ l ∈ legs, legPage l = page →
    (s.commit page legs per n).pend l = true ∧ ((s.commit page legs per n).leg l).latchAt = n ∧
    (∀ p, per = some p → s.periodDropped legs p = false → ((s.commit page legs per n).leg l).pendPer = some p)) ∧
  (∀ (s : State) (page : Nat) (legs : List Nat) (p n l : Nat), s.periodDropped legs p = true → l ∈ legs → legPage l = page →
    ((s.commit page legs (some p) n).leg l).pendPer = (s.leg l).pendPer ∧ ((s.commit page legs (some p) n).leg l).shStale = true) ∧
  (∀ minp dth rise fall : Nat, (judgeHigh minp dth rise fall).1 = false → rise + dth + minp ≤ (judgeHigh minp dth rise fall).2 ∧
    fall ≤ (judgeHigh minp dth rise fall).2) ∧
  (∀ minp dth rise fall : Nat, (judgeHigh minp dth rise fall).1 = true ↔ 2 * ((fall : Int) - rise - dth) < minp) ∧
  (∀ (k : Int) (h i m : Nat), -(m : Int) ≤ nextCarry k h i m ∧ nextCarry k h i m ≤ m ∧
    (-(m : Int) ≤ k + h - i → k + h - i ≤ m → nextCarry k h i m = k + h - i)) ∧
  (∀ (p t : Nat), t ≤ 32 * p → (edges 0 p t).2 - (edges 0 p t).1 = t ∧ (edges 0 p t).2 ≤ 32 * p ∧ edges 1 p t = (0, t)) ∧
  (∀ (c : Nat) (k : Int) (lim : Nat), onTime c k lim ≤ lim ∧ (0 ≤ (c : Int) - k → (c : Int) - k ≤ lim → (onTime c k lim : Int) = c - k))

/-- Trips, the false-start counter and its clear, and the aux bootstrap (from R333, R337, R338, R344, R345). -/
def Obligations.TripsAndBootstrap : Prop :=
  (∀ (s : State) (l : LegIx), s.sup.die = .running → s.unitOf l = none →
    exec (.interlock l) s = .next s ∧ exec (.umpireInterlockReport l) s = .next s) ∧
  (∀ (s : State) (l : LegIx), s.sup.die = .running → (s.unitOf l).isSome = true →
    s.fld (F.LEG_FS_COUNT l) + 1 < s.fsLimit (legPage l) → Completes (exec (.interlock l) s) (fun t =>
      t.fld (F.LEG_FS_COUNT l) = s.fld (F.LEG_FS_COUNT l) + 1 ∧ t.on (F.PWM_STATUS_INTERLOCK (legPage l)) = true ∧
      (t.leg l).offUntil = true ∧ (∀ high, t.gateBall l high ≠ .pwm) ∧ t.on (F.LEG_FS_LATCH l) = s.on (F.LEG_FS_LATCH l) ∧
      exec (.umpireInterlockReport l) s = .next t ∧
      OnlyRegs [R.LEG_FS l, R.PWM_STATUS (legPage l)] s { t with legs := s.legs })) ∧
  (∀ (s : State) (l : LegIx) (u : Nat), s.sup.die = .running → s.unitOf l = some u → s.on (F.LEG_FS_LATCH l) = false →
    s.fld (F.LEG_FS_COUNT l) + 1 = s.fsLimit (legPage l) → ∃ t : State, exec (.interlock l) s =
      .next (t.fault u fFsLatch ⟨sideLoc (s.leg l).side, l, (s.leg l).side, none, none⟩) ∧ t.on (F.LEG_FS_LATCH l) = true ∧
      t.on (F.PWM_STATUS_FS_LATCH (legPage l)) = true ∧ t.on (F.LEG_STAT_EN l) = false) ∧
  (∀ (s : State) (l : LegIx), s.sup.die = .running → Completes (exec (.fsLeak l) s) (fun t =>
      t.fld (F.LEG_FS_COUNT l) = s.fld (F.LEG_FS_COUNT l) - 1 ∧ OnlyRegs [R.LEG_FS l] s t)) ∧
  (∀ (s : State) (l : LegIx) (u : Nat), s.sup.die = .running → s.pageOn (legPage l) = true → s.unitOf l = some u →
    s.unitOff u = true → Completes (exec (.legFsClear .cox0 l) s) (fun t => t.on (F.LEG_FS_LATCH l) = false ∧
      t.fld (F.LEG_FS_COUNT l) = 0 ∧ OnlyRegs [R.LEG_FS l] s t)) ∧
  (∀ (s : State) (l : LegIx) (u : Nat), s.sup.die = .running → s.pageOn (legPage l) = true → s.unitOf l = some u →
    s.unitOff u = false → exec (.legFsClear .cox0 l) s = .next (s.refuse .cox0 (R.LEG_FS l) eBusy true)) ∧
  (∀ (s : State) (l : LegIx) (m : Master), s.sup.die = .running → m ≠ .cox0 → s.pageOn (legPage l) = true →
    exec (.legFsClear m l) s = .next (s.refuse m (R.LEG_FS l) eAuth true)) ∧
  (∀ (s : State) (l : LegIx), s.sup.die = .running → 18 ≤ l.val → s.on (F.LEG_STAT_EN l) = true →
    s.fld (F.AUX_CFG_MAXON (auxOf l)) ≤ ((s.endPeriod l).leg l).noLow → Completes (exec (.bootRefresh l) s) (fun t =>
      t.on (F.PWM_STATUS_BOOT_REFRESH 0x0D) = true ∧ t.leg l = { s.leg l with refresh := true } ∧
      OnlyRegs [R.PWM_STATUS 0x0D] s { t with legs := s.legs })) ∧
  (∀ (s : State) (l : LegIx), s.sup.die = .running → 18 ≤ l.val →
    ((s.endPeriod l).leg l).noLow < s.fld (F.AUX_CFG_MAXON (auxOf l)) → exec (.bootRefresh l) s = .next s) ∧
  (∀ (s : State) (l : LegIx) (e : Bool) (n : Nat), s.sup.die = .running → (s.leg l).refreshEnd ≠ none →
    (s.leg l).refreshTag = some n →
    s.on (F.SAR_RES_VALID (s.bootEntry l)) = true → (s.fld (F.SAR_RES_TAG (s.bootEntry l)) + 256 - n) % 256 < 128 →
    ((s.fld (F.AUX_BOOT_UVTH (auxOf l)) : Int) ≤ s.ifld (F.SAR_RES_VALUE (s.bootEntry l)) →
      Completes (exec (.bootUvCheck l e) s) (fun t => t.leg l = { s.leg l with refreshEnd := none, refreshTag := none } ∧
        { t with legs := s.legs } = s)) ∧
    (s.ifld (F.SAR_RES_VALUE (s.bootEntry l)) < s.fld (F.AUX_BOOT_UVTH (auxOf l)) →
      exec (.bootUvCheck l e) s = .next (s.bootUv l))) ∧
  (∀ (s : State) (l : LegIx), s.sup.die = .running → (s.leg l).refreshEnd ≠ none →
    s.on (F.SAR_RES_VALID (s.bootEntry l)) = false → exec (.bootUvCheck l true) s = .next (s.bootUv l) ∧
    exec (.bootUvCheck l false) s = .next s) ∧
  (∀ (s : State) (l : LegIx) (e : Bool), s.sup.die = .running → (s.leg l).refreshEnd = none →
    exec (.bootUvCheck l e) s = .next s)

/-- Enable bits are COX0's, judged unit by unit; the umpire grants, and a leg starts no earlier than its grant lets it; the grant ends
with the last output of its unit; what decides a gate ball, and that a leg's two balls are never both on (from R29, R30, R32, R339 to
R341, R415). -/
def Obligations.GateEnableAndGrant : Prop :=
  (∀ (s : State) (l : LegIx) (k : Fin 3) (u : Nat), s.sup.die = .running → s.pageOn (legPage l) = true → legPage l = pwmPage k → s.liveValid = true →
    s.unitOf l = some u → s.enableRefusal u = none → s.calRuns u = false →
    Completes (exec (.pwmGateEnSet .cox0 k (BitVec.ofNat 9 (2 ^ legBit l))) s) (fun t =>
      t.gateEn l = true ∧ (∀ j : LegIx, j ≠ l → t.gateEn j = s.gateEn j) ∧ OnlyRegs [R.PWM_GATE_EN (legPage l)] s { t with ump := s.ump })) ∧
  (∀ (s : State) (l : LegIx) (k : Fin 3) (u c x : Nat), s.sup.die = .running → s.pageOn (legPage l) = true → legPage l = pwmPage k → s.liveValid = true →
    s.unitOf l = some u → s.enableRefusal u = some (c, x) →
    exec (.pwmGateEnSet .cox0 k (BitVec.ofNat 9 (2 ^ legBit l))) s = .next (s.enRefused (legPage l) x c)) ∧
  (∀ (s : State) (l : LegIx) (k : Fin 3), s.sup.die = .running → s.pageOn (legPage l) = true → legPage l = pwmPage k → s.unitOf l = none →
    exec (.pwmGateEnSet .cox0 k (BitVec.ofNat 9 (2 ^ legBit l))) s = .next (s.enRefused (legPage l) l 0x06)) ∧
  (∀ (s : State) (m : Master) (k : Fin 3) (x : BitVec 9), s.sup.die = .running → m ≠ .cox0 → s.pageOn (pwmPage k) = true →
    exec (.pwmGateEnSet m k x) s = .next (s.refuse m (R.PWM_GATE_EN (pwmPage k)) eAuth true) ∧
    exec (.pwmGateEnClear m k x) s = .next (s.refuse m (R.PWM_GATE_EN (pwmPage k)) eAuth true)) ∧
  (∀ (s : State) (l : LegIx) (k : Fin 3), s.sup.die = .running → s.pageOn (legPage l) = true → legPage l = pwmPage k → l.val < 18 →
    Completes (exec (.pwmGateEnClear .cox0 k (BitVec.ofNat 9 (2 ^ legBit l))) s) (fun t => t.gateEn l = false ∧
      (∀ j : LegIx, j ≠ l → t.gateEn j = s.gateEn j) ∧ (∀ u, s.unitOf l = some u → bit t.ump.requests u = false) ∧
      (∀ u, s.unitOf l = some u → t.unitOn u = false → t.granted u = false) ∧
      OnlyRegs [R.PWM_GATE_EN (legPage l), R.UMP_STATE] s { t with ump := s.ump, inj := s.inj })) ∧
  (∀ (s : State) (u : UnitIx) (n : Nat) (w : State), s.sup.umpire = true → bit s.ump.requests u = true →
    w = { s with ump := { s.ump with requests := clearBit s.ump.requests u } } → (w.grantCode u = 0 ∧ w.chainOk u = true ∧ w.gatesOpen = true →
      Completes (exec (.gateGrant u n) s) (fun t => t.granted u = true ∧ bit t.ump.requests u = false ∧
        (∀ l ∈ s.legsOf u, (t.leg l).granted = true ∧ (t.leg l).startAt = (w.startFrom n).1) ∧
        OnlyRegs [R.UMP_STATE] s { t with ump := s.ump, legs := s.legs })) ∧
      (w.grantCode u = 0 → w.chainOk u = false ∨ w.gatesOpen = false → exec (.gateGrant u n) s = .next (w.requestRefused u)) ∧
      (w.grantCode u ≠ 0 → exec (.gateGrant u n) s = .next ((w.umpRefuse (w.grantCode u) u).requestRefused u))) ∧
  (∀ (s : State) (n : Nat), (s.liveToggles = true → s.startFrom n = (n, s)) ∧
    (s.liveToggles = false → (∃ u < 4, s.granted u = true) → s.startFrom n = (max n (s.ump.liveAt + 8000), s)) ∧
    (s.liveToggles = false → (∀ u < 4, s.granted u = false) →
      s.startFrom n = (n + 8000, { s with ump := { s.ump with liveAt := n } }))) ∧
  (∀ (s : State) (u : UnitIx) (n : Nat), s.sup.umpire = true → s.granted u = false → bit s.ump.requests u = false →
    exec (.gateGrant u n) s = .next s) ∧
  (∀ (s : State) (l : LegIx) (u n : Nat), s.sup.die = .running → (s.leg l).granted = true → (s.leg l).startAt ≤ n → s.unitOf l = some u →
    (∀ j ∈ s.legsOf u, s.gateEn j = true) → s.on (F.LEG_STAT_EN l) = false → s.on (F.LEG_FS_LATCH l) = false →
    s.on (F.LEG_STAT_BOOT_UV l) = false → Completes (exec (.legStart l n) s) (fun t =>
      t.on (F.LEG_STAT_EN l) = true ∧ (t.leg l).granted = false ∧ SameMemory s t)) ∧
  (∀ (s : State) (l : LegIx) (n : Nat), s.sup.die = .running →
    (s.leg l).granted = false ∨ n < (s.leg l).startAt ∨ s.unitOf l = none ∨ (∃ u, s.unitOf l = some u ∧ ∃ j ∈ s.legsOf u, s.gateEn j = false) ∨
      s.on (F.LEG_STAT_EN l) = true ∨ s.on (F.LEG_FS_LATCH l) = true ∨ s.on (F.LEG_STAT_BOOT_UV l) = true →
    exec (.legStart l n) s = .next s) ∧
  (∀ (s : State) (l : LegIx) (high : Bool), s.sup.umpire = false → s.gateBall l high = .low) ∧
  (∀ (s : State) (l : LegIx) (high : Bool) (p : Nat), s.sup.umpire = true → s.overrideOf l = some p → s.gateBall l high = patternBall p high) ∧
  (∀ (s : State) (l : LegIx) (high : Bool), s.sup.umpire = true → s.overrideOf l = none → s.sup.die ≠ .running ∨ s.ump.failed = true →
    s.gateBall l high = .low) ∧
  (∀ (s : State) (l : LegIx) (high : Bool), (s.leg l).offUntil = true → s.gateBall l high ≠ .pwm) ∧
  (∀ (s : State) (l : LegIx), ¬ (s.gateBall l true = .high ∧ s.gateBall l false = .high))

/-- A leg's fault input: a level is accepted after FILT + 1 equal samples; a rise within a blanking window waits for the window's end,
a fall before it drops it, and any other rise trips at once (from R372 to R375). -/
def Obligations.LegFaultInputs : Prop :=
  (∀ (s : State) (i : FltIx) (h : Bool) (n : Nat), s.sup.die = .running → s.clocked 0x0E = true →
    (s.leg ((fltLegs i).headD 0)).flt = h → exec (.legFaultInput i [h] n) s = .next (s.setFltRun i 0)) ∧
  (∀ (s : State) (i : FltIx) (h : Bool) (n : Nat), s.sup.die = .running → s.clocked 0x0E = true →
    (s.leg ((fltLegs i).headD 0)).flt ≠ h → s.prot.fltRun.get i + 1 < s.fltNeed →
    exec (.legFaultInput i [h] n) s = .next (s.setFltRun i (s.prot.fltRun.get i + 1))) ∧
  (∀ (s : State) (i : FltIx) (h : Bool) (n : Nat), s.sup.die = .running → s.clocked 0x0E = true →
    (s.leg ((fltLegs i).headD 0)).flt ≠ h → s.fltNeed ≤ s.prot.fltRun.get i + 1 →
    exec (.legFaultInput i [h] n) s = .next ((s.setFltRun i 0).each (fltLegs i) (fun l t => t.legLevel l h n))) ∧
  (∀ (s : State) (l : Nat) (h : Bool) (n : Nat), s.unitOf l = none →
    ((s.legLevel l h n).leg l).flt = h ∧ { s.legLevel l h n with legs := s.legs } = s) ∧
  (∀ (s : State) (i : FltIx) (n u : Nat) (side : Bool), s.sup.die = .running → s.clocked 0x0E = true → i.val < 18 →
    s.unitOf i = some u → (s.leg i).flt = false → s.fltNeed ≤ s.prot.fltRun.get i + 1 →
    s.pendBit u i < 18 → s.blanked u i (s.stepAt i n) = some side → Completes (exec (.legFaultInput i [true] n) s) (fun t =>
      (t.leg i).flt = true ∧ (t.leg i).pendSide = side ∧ bit (t.fld (F.PROT_PEND_PEND u)) (s.pendBit u i) = true ∧
      OnlyRegs [R.PROT_PEND u] s { t with legs := s.legs, prot := s.prot })) ∧
  (∀ (s : State) (i : FltIx) (n u : Nat), s.sup.die = .running → s.clocked 0x0E = true → i.val < 18 → s.unitOf i = some u →
    (s.leg i).flt = true → s.fltNeed ≤ s.prot.fltRun.get i + 1 →
    s.pendBit u i < 18 → bit (s.fld (F.PROT_PEND_PEND u)) (s.pendBit u i) = true →
    Completes (exec (.legFaultInput i [false] n) s) (fun t => (t.leg i).flt = false ∧
      bit (t.fld (F.PROT_PEND_PEND u)) (s.pendBit u i) = false ∧
      t.fld (F.PROT_PDROP_COUNT u) = min (s.fld (F.PROT_PDROP_COUNT u) + 1) (2 ^ 32 - 1) ∧
      OnlyRegs [R.PROT_PEND u, R.PROT_PDROP u] s { t with legs := s.legs, prot := s.prot })) ∧
  (∀ (s t : State) (i : FltIx) (n u : Nat), s.sup.die = .running → s.clocked 0x0E = true → i.val < 18 → s.unitOf i = some u →
    (s.leg i).flt = false → s.fltNeed ≤ s.prot.fltRun.get i + 1 →
    t = (s.setFltRun i 0).modLeg i (fun x => { x with flt := true }) → t.blanked u i (t.stepAt i n) = none →
    exec (.legFaultInput i [true] n) s = .next (t.legTrip u i (t.lastSide u i (t.stepAt i n)) n)) ∧
  (∀ (s : State) (l : LegIx) (n u : Nat), s.sup.die = .running → s.clocked 0x0E = true → s.unitOf l = some u →
    s.pendBit u l < 18 → (s.leg l).flt = false → s.blanked u l (s.stepAt l n) = none →
    bit (s.fld (F.PROT_PEND_PEND u)) (s.pendBit u l) = true → Completes (exec (.blankingEnd l n) s) (fun t =>
      bit (t.fld (F.PROT_PEND_PEND u)) (s.pendBit u l) = false ∧ OnlyRegs [R.PROT_PEND u] s t)) ∧
  (∀ (s : State) (l : LegIx) (n u : Nat), s.sup.die = .running → s.clocked 0x0E = true → s.unitOf l = some u → (s.leg l).flt = true →
    s.blanked u l (s.stepAt l n) = none → bit (s.fld (F.PROT_PEND_PEND u)) (s.pendBit u l) = true → exec (.blankingEnd l n) s =
      .next ((s.clearFldBit (F.PROT_PEND_PEND u) (s.pendBit u l)).legTrip u l (s.leg l).pendSide n)) ∧
  (∀ (s : State) (l : LegIx) (n u : Nat), s.sup.die = .running → s.unitOf l = some u →
    bit (s.fld (F.PROT_PEND_PEND u)) (s.pendBit u l) = false → exec (.blankingEnd l n) s = .next s)

/-- Choppers, arming and the brake-switch latch (from R372, R377, R378). -/
def Obligations.ChoppersAndBrakes : Prop :=
  (∀ (s : State) (b : BrkIx) (n : Nat), s.sup.die = .running → s.clocked 0x0E = true → s.chopAble b = true →
    bit s.prot.chopSelf b = false → s.ifld (F.PROT_CHON_ON b) ≤ s.ifld (F.SD_PROT_P (s.fld (F.PROT_CHON_SD b))) →
    Completes (exec (.chopperOn b n) s) (fun t => t.on (F.PROT_BRKCTL_ON b) = true ∧ bit t.prot.chopSelf b = true ∧
      t.prot.chopOn.get b = n ∧ OnlyRegs [R.PROT_BRKCTL b] s { t with prot := s.prot })) ∧
  (∀ (s : State) (b : BrkIx) (n : Nat), s.sup.die = .running → s.chopAble b = false ∨ s.chopP b < s.ifld (F.PROT_CHON_ON b) →
    exec (.chopperOn b n) s = .next s) ∧
  (∀ (s : State) (b : BrkIx) (n : Nat), s.sup.die = .running → s.clocked 0x0E = true → bit s.prot.chopSelf b = true → s.chopP b ≤ s.ifld (F.PROT_CHOFF_OFF b) →
    s.prot.chopOn.get b + s.fld (F.PROT_CHOFF_MINON b) ≤ n →
    Completes (exec (.chopperOff b n) s) (fun t => t.on (F.PROT_BRKCTL_ON b) = bit s.prot.disArm b ∧
      bit t.prot.chopSelf b = false ∧ OnlyRegs [R.PROT_BRKCTL b] s { t with prot := s.prot })) ∧
  (∀ (s : State) (b : BrkIx) (n : Nat), s.sup.die = .running →
    n < s.prot.chopOn.get b + s.fld (F.PROT_CHOFF_MINON b) ∨ bit s.prot.chopSelf b = false →
    exec (.chopperOff b n) s = .next s) ∧
  (∀ (s : State) (b : BrkIx) (arm : Bool), s.sup.die = .running → s.pageOn 0x0E = true → Completes (exec (.brkArmWrite .cox0 b arm) s) (fun t =>
      t.on (F.PROT_BRKCTL_ARM b) = arm ∧ (t.chopArmed b = false → bit t.prot.chopSelf b = false ∧
        (bit s.prot.disArm b = false → t.on (F.PROT_BRKCTL_ON b) = false)) ∧
      OnlyRegs [R.PROT_BRKCTL 0, R.PROT_BRKCTL 1, R.PROT_BRKCTL 2, R.PROT_BRKCTL 3] s { t with prot := s.prot })) ∧
  (∀ (s : State) (b : BrkIx), s.sup.die = .running → s.clocked 0x0E = true → s.live.brakeMask b = none →
    bit s.prot.brkFlt b = false → s.fltNeed ≤ s.prot.fltRun.get (20 + b) + 1 →
    Completes (exec (.brakeFaultInput b [true]) s) (fun t => bit t.prot.brkFlt b = true ∧ { t with prot := s.prot } = s)) ∧
  (∀ (s : State) (b : BrkIx) (m : Nat), s.sup.die = .running → s.clocked 0x0E = true → s.live.brakeMask b = some m →
    bit s.prot.brkFlt b = false → s.fltNeed ≤ s.prot.fltRun.get (20 + b) + 1 →
    ∃ t : State, exec (.brakeFaultInput b [true]) s = .next (t.faultUnits m fBrake FaultInfo.plain) ∧
      t.on (F.PROT_BRKCTL_LATCH b) = true ∧ t.on (F.PROT_BRKCTL_ON b) = false ∧ t.on F.PROT_EVENT_BRK_LATCH = true ∧
      bit t.prot.disArm b = false) ∧
  (∀ (s : State) (b : BrkIx), s.sup.die = .running → s.clocked 0x0E = true → bit s.prot.brkFlt b = true →
    s.fltNeed ≤ s.prot.fltRun.get (20 + b) + 1 → Completes (exec (.brakeFaultInput b [false]) s) (fun t =>
      bit t.prot.brkFlt b = false ∧ { t with prot := s.prot } = s)) ∧
  (∀ (s : State) (b : BrkIx) (h : Bool), s.sup.die = .running → s.clocked 0x0E = true → bit s.prot.brkFlt b ≠ h →
    s.prot.fltRun.get (20 + b) + 1 < s.fltNeed →
    exec (.brakeFaultInput b [h]) s = .next (s.setFltRun (20 + b) (s.prot.fltRun.get (20 + b) + 1))) ∧
  (∀ (s : State) (b : BrkIx), s.sup.die = .running → s.pageOn 0x0E = true → bit s.prot.brkFlt b = false →
    Completes (exec (.brkLatchClear .cox0 b) s) (fun t => t.on (F.PROT_BRKCTL_LATCH b) = false ∧ OnlyRegs [R.PROT_BRKCTL b] s t)) ∧
  (∀ (s : State) (b : BrkIx), s.sup.die = .running → s.pageOn 0x0E = true → bit s.prot.brkFlt b = true →
    exec (.brkLatchClear .cox0 b) s = .next (s.refuse .cox0 (R.PROT_BRKCTL b) eBusy true))

/-- Requests, releases and exits of a safe state, and which pattern is chosen: outside class 0, never all-off without a chopper
but for a phase-to-phase fault; a unit that holds a pattern goes on holding it (from R370, R380, R383 to R385, R392). -/
def Obligations.SafeStateRules : Prop :=
  (∀ (s : State) (u : UnitIx) (c : Fin 4), s.sup.die = .running → s.pageOn 0x0E = true → exec (.protReq .cox0 u c true true) s =
      .next (s.fault u fReq ⟨locNone, 0, false, some c.val, none⟩) ∧
    exec (.protReq .cox0 u c false true) s = .next (s.fault u fReq ⟨locNone, 0, false, none, none⟩) ∧
    exec (.protReq .cox0 u c true false) s = .next s) ∧
  (∀ (s : State) (u : UnitIx) (c : Fin 4) (a b : Bool) (m : Master), s.sup.die = .running → s.pageOn 0x0E = true → m ≠ .cox0 →
    exec (.protReq m u c a b) s = .next (s.refuse m R.PROT_REQ eAuth true) ∧
    exec (.protRelease m u) s = .next (s.refuse m (R.PROT_CLR u) eAuth true)) ∧
  (∀ (s : State) (u : UnitIx), s.sup.die = .running → s.pageOn 0x0E = true → 2 ≤ u.val → s.ready u = true →
    Completes (exec (.protRelease .cox0 u) s) (fun t => t.protPattern u = patNone ∧ t.on (F.PROT_STATE_HELD u) = false ∧
      OnlyRegs [R.PROT_STATE u, R.PROT_BRKCTL 0, R.PROT_BRKCTL 1, R.PROT_BRKCTL 2, R.PROT_BRKCTL 3] s (t.choppersOf s))) ∧
  (∀ (s : State) (d : UnitIx), s.sup.die = .running → s.pageOn 0x0E = true → d.val < 2 → s.ready d = true → s.driveState d = dSafe →
    s.umpHeld d = false → Completes (exec (.protRelease .cox0 d) s) (fun t => t.protPattern d = patNone ∧ t.driveState d = dOff)) ∧
  (∀ (s : State) (u : UnitIx), s.sup.die = .running → s.pageOn 0x0E = true → s.ready u = false →
    exec (.protRelease .cox0 u) s = .next (s.refuse .cox0 (R.PROT_CLR u) eBusy true)) ∧
  (∀ (s : State) (d : DriveIx), s.sup.die = .running → isHoldWater (s.protPattern d) = true → s.spdClass d = 0 →
    Completes (exec (.hwExit d) s) (fun t => t.protPattern d = patOff ∧ t.on F.PROT_EVENT_HW_EXIT = true ∧
      OnlyRegs [R.PROT_STATE d, R.PROT_EVENT] s t)) ∧
  (∀ (s : State) (d : DriveIx), s.sup.die = .running → isHoldWater (s.protPattern d) = false ∨ s.spdClass d ≠ 0 → exec (.hwExit d) s = .next s) ∧
  (∀ (s : State) (u f loc cls : Nat), s.choose u f loc cls = patOff → f = fP2p ∨ cls = 0 ∨ s.chopperAvail u = true) ∧
  (∀ (s : State) (u f loc cls : Nat), s.choose u fP2p loc cls = patOff ∧ (s.choose u f loc cls = patOff ∨
    s.choose u f loc cls = patLow ∨ s.choose u f loc cls = patHigh)) ∧
  (∀ (s : State) (u f : Nat) (i : FaultInfo), s.live.bound u = false → s.fault1 u f i = s) ∧
  (∀ (s : State) (u f : Nat) (i : FaultInfo), u < 2 → s.live.bound u = true → s.protPattern u = patOff →
    s.fault1 u f i = s.setFldBit (F.PROT_FAULT_FAULT u) f) ∧
  (∀ (s : State) (u f : Nat) (i : FaultInfo), u < 2 → s.live.bound u = true → isHoldWater (s.protPattern u) = true → f < 16 →
    (f ≠ fP2p → (s.fault1 u f i).protPattern u = s.protPattern u) ∧ (f = fP2p → (s.fault1 u f i).protPattern u = patOff) ∧
    bit ((s.fault1 u f i).fld (F.PROT_FAULT_FAULT u)) f = true)

/-- The active discharge: refusals, checkpoints and ends (from R386, R387). -/
def Obligations.ActiveDischarge : Prop :=
  (∀ (s : State) (c : Nat), s.sup.die = .running → s.pageOn 0x0E = true → s.dischargeRefusal = c → c ≠ 0 →
    Completes (exec (.dischargeStart .cox0) s) (fun t => t.fld F.PROT_DISSTAT_STATE = 4 ∧ t.fld F.PROT_DISSTAT_CODE = c ∧
      t.prot.disch = false ∧ t.prot.disArm = 0 ∧
      OnlyRegs [R.PROT_DISSTAT, R.PROT_BRKCTL 0, R.PROT_BRKCTL 1, R.PROT_BRKCTL 2, R.PROT_BRKCTL 3] s { t with prot := s.prot })) ∧
  (∀ (s : State), s.sup.die = .running → s.pageOn 0x0E = true → s.dischargeRefusal = 0 → s.on F.PROT_DISCFG_PATH = true →
    Completes (exec (.dischargeStart .cox0) s) (fun t => t.fld F.PROT_DISSTAT_STATE = 1 ∧ t.fld F.PROT_DISSTAT_CODE = 0 ∧
      t.fld F.PROT_DISSTAT_ELAPSED = 0 ∧ t.prot.disch = true ∧ t.prot.disArm = 0 ∧
      OnlyRegs [R.PROT_DISSTAT, R.PROT_BRKCTL 0, R.PROT_BRKCTL 1, R.PROT_BRKCTL 2, R.PROT_BRKCTL 3] s { t with prot := s.prot })) ∧
  (∀ (s : State) (u : Nat), u < 4 → bit (s.fld F.UMP_LINKCFG_UNITS) u = true → s.unitOn u = true → s.dischargeRefusal = 1) ∧
  (∀ (s : State), s.sup.die = .running → s.pageOn 0x0E = true → s.discharging = false → exec (.dischargeStop .cox0) s = .next s ∧
    exec .dischargeCheckpoint s = .next s ∧ exec .dischargeDone s = .next s ∧ exec .dischargeTimeout s = .next s) ∧
  (∀ (s : State), s.sup.die = .running → s.pageOn 0x0E = true → s.discharging = true →
    exec (.dischargeStop .cox0) s = .next (s.dischargeEnd 3 (some 0x06))) ∧
  (∀ (s : State), s.sup.die = .running → s.clocked 0x0E = true → s.discharging = true →
    s.sdVal (s.fld F.PROT_DISCFG_SD) ≤ s.ifld F.PROT_DISTGT_TARGET →
    Completes (exec .dischargeCheckpoint s) (fun t => t.prot.disPrev = s.sdVal (s.fld F.PROT_DISCFG_SD) ∧
      t.prot.disChk = s.prot.disChk + 1 ∧ t.fld F.PROT_DISSTAT_CODE = s.fld F.PROT_DISSTAT_CODE ∧ t.discharging = true ∧
      t.fld F.PROT_DISSTAT_ELAPSED = min 65535 (max (s.fld F.PROT_DISSTAT_ELAPSED)
        (10 * max 1 (s.fld F.PROT_DISCHK_STEP) * (s.prot.disChk + 1))) ∧
      OnlyRegs [R.PROT_DISSTAT] s { t with prot := s.prot })) ∧
  (∀ (s : State), s.sup.die = .running → s.clocked 0x0E = true → s.discharging = true →
    s.ifld F.PROT_DISTGT_TARGET < s.sdVal (s.fld F.PROT_DISCFG_SD) →
    s.prot.disPrev * s.fld F.PROT_DISCHK_RATIO < 256 * s.sdVal (s.fld F.PROT_DISCFG_SD) →
    Completes (exec .dischargeCheckpoint s) (fun t => t.fld F.PROT_DISSTAT_CODE = 4 ∧ t.discharging = true)) ∧
  (∀ (s : State), s.sup.die = .running → s.clocked 0x0E = true → s.discharging = true →
    (s.prot.disBelow < 10 → exec .dischargeDone s = .next s) ∧
    (10 ≤ s.prot.disBelow → exec .dischargeDone s = .next (s.dischargeEnd 2 none)) ∧
    exec .dischargeTimeout s = .next ((s.disElapsed (s.fld F.PROT_DISCFG_TMAX)).dischargeEnd 3 (some 0x05))) ∧
  (∀ (s : State) (st : Nat) (c : Option Nat), s.mbWaiting svDischarge (fun r => r.unit 1) = [] → st < 8 →
    (s.dischargeEnd st c).fld F.PROT_DISSTAT_STATE = st ∧ (s.dischargeEnd st c).prot.disch = false ∧
    (s.dischargeEnd st c).prot.disArm = 0)

/-- The driver chain: alerts, good and failed responses (from R388 to R391, R394, R395). -/
def Obligations.DriverChain : Prop :=
  (∀ (s : State), s.sup.die = .running → s.clocked 0x0F = true → s.chainBus.ignore = false → Completes (exec .driverAlert s) (fun t => t.on F.DRVC_EVENT_ALERT = true ∧
      t.chainBus = { s.chainBus with alert := true, low := true } ∧ OnlyRegs [R.DRVC_EVENT] s { t with chainBus := s.chainBus })) ∧
  (∀ (s : State), s.sup.die = .running → s.clocked 0x0F = true → s.chainBus.low = true → (∀ p < 40, s.fld (F.DRVC_DSTAT_STATUS p) / 2 % 64 = 0) → s.fld F.DRVC_CFG_NDRV ≤ 40 →
    Completes (exec .alertStuck s) (fun t => t.on F.DRVC_EVENT_ALERT_STUCK = true ∧ t.fld F.DRVC_LAST_CODE = 0x0A ∧
      t.chainBus.ignore = true ∧ t.chainBus.alert = false ∧ OnlyRegs [R.DRVC_EVENT, R.DRVC_LAST] s { t with chainBus := s.chainBus })) ∧
  (∀ (s : State), s.sup.die = .running → s.clocked 0x0F = true → exec .driverAlertRelease s =
    .next { s with chainBus := { s.chainBus with low := false, ignore := false } }) ∧
  (∀ (s : State) (f : BitVec 40) (r v q : Nat), s.sup.die = .running → s.clocked 0x0F = true → s.liveValid = true → s.fld F.DRVC_CFG_NDRV = 1 →
    (s.chainAt 0).sent = some (.write r v, q) → frameBad f (.write r v) q = 0 → f.extractLsb' 38 2 ≠ 2#2 → s.chainPos 0 = pOk →
    exec (.driverTransaction [f]) s = .next ((s.bump F.DRVC_TXN_COUNT).set (F.DRVC_DSTAT_FAILS 0) 0).chainSendAll) ∧
  (∀ (s : State) (c : ChainCmd) (q : Nat), s.sup.die = .running → s.clocked 0x0F = true → s.liveValid = true → s.fld F.DRVC_CFG_NDRV = 1 →
    (s.chainAt 0).sent = some (c, q) → s.chainPos 0 = pOk → s.fld (F.DRVC_DSTAT_FAILS 0) + 1 < s.chainRetry →
    Completes (exec (.driverTransaction []) s) (fun t => t.on F.DRVC_EVENT_CHAIN_BROKEN = true ∧ t.fld F.DRVC_STAT_STATE = 3 ∧
      t.fld F.DRVC_LAST_CODE = 0x0B ∧ t.fld (F.DRVC_DSTAT_FAILS 0) = s.fld (F.DRVC_DSTAT_FAILS 0) + 1 ∧
      (t.chainAt 0).out = (if s.chainBus.alert then (t.chainAt 0).out else some (c, q)))) ∧
  (∀ (f : BitVec 40) (c : ChainCmd) (q : Nat), frameBad f c q = 0 → (f.extractLsb' 0 8).toNat = (crc8 32 (f.toNat / 256)).toNat ∧
    f.toNat / 2 ^ 34 % 16 = q ∧ f.toNat / 2 ^ 38 ≠ 1)

/-- The slots of the umpire channel, and its configuration: a value that fails a check is replaced by its fused value (from R396,
R397, R412, R414, R417). Rounding to 2 V and fresh challenges are free values (log entry 1). -/
def Obligations.UmpireChannel : Prop :=
  (∀ (c : Channel) (slots : List Nat) (urg typ : BitVec 4) (data : BitVec 12), c.slot < 8 → (∃ x ∈ slots, x < 8) →
      (c.send slots urg typ data).slot ∈ slots ∧ (c.send slots urg typ data).seq < 16 ∧
      ((c.send slots urg typ data).seq + 16 - c.seq % 16) % 8 = ((c.send slots urg typ data).slot + 8 - c.slot) % 8 ∧
      frameGood (BitVec.ofNat 4 (c.send slots urg typ data).seq) (c.send slots urg typ data).frame = true) ∧
  (∀ s t u : State, u.sup.die = .running → s = u.sendDown [0] 0 (BitVec.ofNat 12 (u.fld F.PLL_STATUS_STATE +
        8 * (u.cat.lateEsc ||| u.lateUnits) + (if u.fld F.PLL_STATUS_STATE = 5 then 128 else 0) + (if u.liveValid then 256 else 0))) →
      u.cat.lateEsc = 0 → t.ump.pll = s.fld F.PLL_STATUS_STATE → t.ump.coast = (t.ump.pll == 5) →
      t.ump.liveValid = s.liveValid → t.ump.lateEsc = s.lateUnits → t.ump.lockedSince = (s.ump.lockedSince || t.ump.pll == 4) →
      { t with ump :=
        { t.ump with pll := s.ump.pll, coast := s.ump.coast, liveValid := s.ump.liveValid, lateEsc := s.ump.lateEsc, lockedSince := s.ump.lockedSince } } = s → exec .umpStatusFrame u = .next t.recheck) ∧
  (∀ s : State, s.sup.die = .running → s.cat.lateEsc ≠ 0 → ∃ t : State, exec .umpStatusFrame s = .next (t.umpFault uLateEsc s.cat.lateEsc) ∧
      t.ump.lateEsc = s.cat.lateEsc ||| s.lateUnits ∧ t.cat.lateEsc = 0 ∧ { t with ump := s.ump, cat := s.cat } = s) ∧
  (∀ s : State, s.sup.die = .running → (∀ d < 2, s.umpHeld d = true → s.driveState d = dSafe) →
      exec .umpSafetyStatus s = .next (s.sendUpFree [0] 8)) ∧
  (∀ s : State, s.sup.die = .running → s.umpHeld 0 = true → s.driveState 0 ≠ dSafe → (s.umpHeld 1 = true → s.driveState 1 = dSafe) →
      exec .umpSafetyStatus s = .next ((s.sendUpFree [0] 8).driveSafe 0)) ∧
  (∀ (s : State) (x : Fin 2), s.sup.die = .running → bit s.ump.wdDue x = false → s.ump.wdCh.get x < 4096 →
      Completes (exec (.umpWdChallenge x) s) (fun t => t.fld (F.UMP_WDCH_CH x) = s.ump.wdCh.get x ∧
        OnlyRegs [R.UMP_WDCH x] s { t with ump := { t.ump with up := s.ump.up } })) ∧
  (∀ (s : State) (x : Fin 2), s.sup.die = .running → bit s.ump.wdDue x = true → Completes (exec (.umpWdChallenge x) s) (fun t =>
      bit t.ump.wdDue x = false ∧ t.fld (F.UMP_WDCH_CH x) = t.ump.wdCh.get x ∧ t.freeCtr = s.freeCtr + 1 ∧
      OnlyRegs [R.UMP_WDCH x] s { t with ump := s.ump, freeCtr := s.freeCtr })) ∧
  (∀ (s : State) (k : Fin 3), s.sup.die = .running → bit s.checks.xval k = false →
      exec (.umpXval k) s = .next (s.nopDown [4])) ∧
  (∀ (s : State) (k : Fin 3), s.sup.die = .running → bit s.checks.xval k = true → ∃ v, v ≤ 1023 ∧ Completes (exec (.umpXval k) s) (fun t =>
      (k = 0 → t.ump.emfA = some (v, s.ump.windows)) ∧ (k = 1 → t.ump.emfB = some (v, s.ump.windows)) ∧
      (k = 2 → t.ump.linkV = some (v, s.ump.windows)) ∧ bit t.checks.xval k = false ∧
      { t with ump := s.ump, checks := s.checks, freeCtr := s.freeCtr } = s)) ∧
  (∀ (s : State) (v : BitVec 10) (w : BitVec 64), s.sup.umpire = true →
      (s.ump.meas = 0 → Completes (exec (.umpMeas 0 v w) s) (fun t => t.fld F.UMP_MEAS0_UAIN0 = v.toNat ∧ t.ump.meas = 1 ∧
        OnlyRegs [R.UMP_MEAS0] s { t with ump := s.ump, freeCtr := s.freeCtr })) ∧
      (s.ump.meas = 5 → Completes (exec (.umpMeas 5 v w) s) (fun t =>
        t.fld F.UMP_USD_USD1 = unsigned 16 (sincSum 64 w.toNat) ∧ t.ump.meas = 0 ∧
        OnlyRegs [R.UMP_USD] s { t with ump := s.ump, freeCtr := s.freeCtr })) ∧
      (∀ ch : Fin 6, s.ump.meas ≠ ch.val → exec (.umpMeas ch v w) s = .next s)) ∧
  (∀ s : State, s.sup.die = .running → (s.drive 0).verdict ≠ 2 → (s.drive 1).verdict ≠ 2 → Completes (exec .umpTqFrame s) (fun t =>
      (∀ d < 2, t.ump.verdict.get d = (if s.driveState d = dOff ∨ s.driveState d = dSafe then 0 else (s.drive d).verdict)) ∧
      t.ump.alive = s.checks.alive ∧ t.ump.aliveAt = (if s.checks.alive = s.ump.alive then s.ump.aliveAt else s.ump.windows) ∧
      { t with ump := s.ump, drives := s.drives } = s)) ∧
  (∀ (s : State) (c : BitVec 4), s.sup.umpire = true → s.discharging = false → Completes (exec (.umpCtrState c) s) (fun t =>
      t.fld F.UMP_CTRSTAT_SENSED = c.toNat ∧ OnlyRegs [R.UMP_CTRSTAT] s { t with ump := s.ump, freeCtr := s.freeCtr })) ∧
  (∀ (s : State) (off : Fin 4096) (v : Word), s.sup.die = .running → umpRws off = true → umpCfgOk off v.toNat = true →
      s.on (F.PAGE_CTRL_SEAL 0x1E) = false → s.on F.UMP_CFGSTAT_REJECT = false → Completes (exec (.umpCmd off v) s) (fun t => t.rd (pageBase 0x1E + off) =
        (s.rd (pageBase 0x1E + off) &&& ~~~ (umpMask (pageBase 0x1E + off))) ||| (v &&& umpMask (pageBase 0x1E + off)) ∧
      (t.on F.UMP_CFGSTAT_ACCEPTED = true ↔ s.on F.UMP_CFGSTAT_ACCEPTED = true ∨
        ∀ o ∈ umpRwsAll, o = off.val ∨ o ∈ s.ump.cfgPassed) ∧ t.ump.ans = true ∧
      OnlyRegs [pageBase 0x1E + off, R.UMP_CFGSTAT] s { t with ump := s.ump, freeCtr := s.freeCtr })) ∧
  (∀ (s : State) (off : Fin 4096) (v : Word), s.sup.die = .running → umpRws off = true → s.on (F.PAGE_CTRL_SEAL 0x1E) = true →
      Completes (exec (.umpCmd off v) s) (fun t => t.ump.ans = true ∧ { t with ump := s.ump, freeCtr := s.freeCtr } = s)) ∧
  (∀ (s : State) (off : Fin 4096) (v : Word), s.sup.die = .running → umpRws off = true → umpCfgOk off v.toNat = false →
      s.on (F.PAGE_CTRL_SEAL 0x1E) = false →
      ∃ t : State, exec (.umpCmd off v) s = .next { t.recheck with ump := { t.recheck.ump with ans := true } } ∧
      t.rd (pageBase 0x1E + off) = (s.rd (pageBase 0x1E + off) &&& ~~~ (umpMask (pageBase 0x1E + off))) |||
        (resetWord (pageBase 0x1E + off) &&& umpMask (pageBase 0x1E + off)) ∧ t.on F.UMP_CFGSTAT_REJECT = true ∧
      t.on F.UMP_CFGSTAT_ACCEPTED = false) ∧
  (∀ s : State, s.sup.umpire = true → s.ump.ans = true → Completes (exec .umpAns s) (fun t => t.ump.ans = false ∧
      { t with ump := { s.ump with up := t.ump.up, ans := false }, freeCtr := s.freeCtr } = { s with ump := t.ump })) ∧
  (∀ s : State, s.sup.umpire = true → s.ump.ans = false → exec .umpAns s = .next s)

/-- Checks, the torque monitor, the control die's loss and the gate readback (from R28, R400, R413, R414, R417, R418, R535, R536). -/
def Obligations.UmpireChecks : Prop :=
  (∀ (s : State) (k : Fin 32), s.sup.die = .running → s.checkDue = none → exec (.umpCheckReport k) s = .next (s.nopDown [2, 3])) ∧
  (∀ (s : State) (k : Fin 32), s.sup.die = .running → s.checkDue ≠ none → s.checkDue ≠ some k.val →
      exec (.umpCheckReport k) s = .next s) ∧
  (∀ s : State, s.checkDue = none ↔ ∀ k < 32, s.checks.runs.get k = 0) ∧
  (∀ (s : State) (k : Nat), s.checkDue = some k → k < 32 ∧ s.checks.runs.get k ≠ 0) ∧
  (∀ (s : State) (k j : Nat), s.checkDue = some k → j < 32 → s.checks.runs.get j ≠ 0 →
      (k + 31 - s.checks.last % 32) % 32 ≤ (j + 31 - s.checks.last % 32) % 32) ∧
  (∀ (s : State) (k : Fin 32), s.sup.die = .running → s.checkDue = some k.val → s.fld (F.UMP_CKCFG_LIM k) ≠ 0 → s.checks.fails.get k = 0 →
      Completes (exec (.umpCheckReport k) s) (fun t => t.fld (F.UMP_CKCNT_COUNT k) = s.fld (F.UMP_CKCNT_COUNT k) - 1 ∧
        t.checks.runs.get k = 0 ∧ t.ump.ckAt.get k = s.ump.windows ∧
        OnlyRegs [R.UMP_CKCNT k] s { t with checks := s.checks, ump := s.ump })) ∧
  (∀ (s : State) (k : Fin 32) (n : Nat), s.sup.die = .running → s.checkDue = some k.val → s.checks.fails.get k = n → 0 < n → n ≤ 7 →
      s.fld (F.UMP_CKCNT_COUNT k) + n < s.fld (F.UMP_CKCFG_LIM k) → Completes (exec (.umpCheckReport k) s) (fun t =>
        t.fld (F.UMP_CKCNT_COUNT k) = s.fld (F.UMP_CKCNT_COUNT k) + n ∧ t.checks.fails.get k = 0 ∧
        OnlyRegs [R.UMP_CKCNT k] s { t with checks := s.checks, ump := s.ump })) ∧
  (∀ (s : State) (k : Fin 32), s.sup.die = .running → s.checkDue = some k.val → s.checks.fails.get k ≠ 0 → s.fld (F.UMP_CKCFG_LIM k) ≠ 0 →
      s.fld (F.UMP_CKCFG_LIM k) ≤ s.fld (F.UMP_CKCNT_COUNT k) + 1 → ∃ t : State,
      exec (.umpCheckReport k) s = .next (t.umpFault uCheck (unitMask (s.fld (F.UMP_CKCFG_UNIT k)))) ∧ t.checks.runs.get k = 0 ∧
      t.checks.last = k ∧ OnlyRegs [R.UMP_CKCNT k] s { t with checks := s.checks, ump := s.ump }) ∧
  (∀ (s : State) (k : Fin 32), s.sup.umpire = true → s.fld (F.UMP_CKCFG_TMO k) ≠ 0 → s.fld (F.UMP_CKCFG_LIM k) ≠ 0 →
      (∃ u < 4, bit (s.checkUnits k) u = true ∧ s.granted u = true ∧
        s.elapsed (max (s.ump.ckAt.get k) (s.ump.grantAt.get u)) (s.fld (F.UMP_CKCFG_TMO k)) = true) → exec (.checkMissing k) s = .next (s.umpFault uCheckMissing (s.checkUnits k))) ∧
  (∀ (s : State) (k : Fin 32), s.sup.umpire = true → (∀ u < 4, s.granted u = false) → exec (.checkMissing k) s = .next s) ∧
  (∀ (s : State) (d : DriveIx), s.sup.umpire = true → (s.granted d = true →
        s.elapsed (max s.ump.aliveAt (s.ump.grantAt.get d)) (s.fld F.UMP_TQ_ALIVE) = true →
        exec (.tqStall d) s = .next (s.umpFault uTqStall (2 ^ d.val))) ∧
      (s.granted d = false → exec (.tqStall d) s = .next s) ∧
      (s.elapsed (max s.ump.aliveAt (s.ump.grantAt.get d)) (s.fld F.UMP_TQ_ALIVE) = false → exec (.tqStall d) s = .next s)) ∧
  (∀ (s : State) (d : DriveIx), s.sup.umpire = true → bit s.ump.tqWait d = true → s.protPattern d ≠ patNone →
      Completes (exec (.tqPatternTimeout d) s) (fun t => bit t.ump.tqWait d = false ∧ { t with ump := s.ump } = s)) ∧
  (∀ (s : State) (d : DriveIx), s.sup.umpire = true → bit s.ump.tqWait d = true → s.protPattern d = patNone → exec (.tqPatternTimeout d) s =
      .next ({ s with ump := { s.ump with tqWait := clearBit s.ump.tqWait d } }.overrides false (2 ^ d.val)).recheck) ∧
  (∀ (s : State) (same : List ResetCause), s.sup.umpire = true → s.sup.die = .running →
      exec (.gateValidStop same) s = .next (s.causes (.umpire 1) same) ∧
      ∀ nops, exec (.framesMissing nops [] same) s = .next (s.causes (.umpire 2) same)) ∧
  (∀ s : State, s.sup.die = .running → ∀ d : Fin 256, (s.causes (.umpire d) []).sup.die = .held ∧
      (s.causes (.umpire d) []).sup.code = 0x11 ∧ (s.causes (.umpire d) []).sup.detail = d) ∧
  (∀ (s : State) (nops : Nat) (l : List (Option Word)) (i : Nat) (w : Word), i < 3 → l.getD i none = some w →
      frameGood (BitVec.ofNat 4 (s.ump.down.seq + nops + i + 1)) w = true →
      ∀ same : List ResetCause, s.sup.umpire = true → Completes (exec (.framesMissing nops l same) s)
        (Beside same (fun t => { t with ump := { t.ump with down := s.ump.down } } = s))) ∧
  (∀ (seq urg typ : BitVec 4) (data : BitVec 12), frameGood seq (umpFrame seq urg typ data) = true) ∧
  (∀ (s : State) (b : Fin 52) (line : Bool), s.sup.umpire = true →
      exec (.gateReadbackMismatch b line (s.outputLevel b line)) s = .next s) ∧
  (∀ (s : State) (b : Fin 52) (line level : Bool), s.sup.umpire = true → level ≠ s.outputLevel b line →
      ∃ t : State, exec (.gateReadbackMismatch b line level) s =
        .next (((t.overrides true 15).recheck).when t.running (fun t => t.ev F.BIST_EVENT_GATE_FAIL)) ∧
      t.ump.grbLatched = true ∧ (s.ump.grbLatched = false → t.fld F.BIST_GRB_BALL = b ∧ t.on F.BIST_GRB_LATCH = true) ∧
      OnlyRegs [R.BIST_GRB] s { t with ump := s.ump }) ∧
  (∀ (s : State) (b : Nat) (line : Bool), (s.sup.umpire = false → s.outputLevel b line = false) ∧
      (48 ≤ b → s.outputLevel b line = (s.sup.umpire && s.brkDriven (b - 48))) ∧
      (b < 48 → s.gateBall (b / 2) (b % 2 == 0) = .low → s.outputLevel b line = false)) ∧
  (∀ (s : State) (f m : Nat), f < 16 → bit ((s.umpLatch f m).fld F.UMP_FAULT_FAULT) f = true ∧
      bit ((s.umpLatch f m).fld F.UMP_EVENT_FAULT_SET) f = true ∧ (s.umpLatch f m).ump.faultUnits.get f = s.ump.faultUnits.get f ||| m ∧
      OnlyRegs [R.UMP_FAULT, R.UMP_EVENT] s { s.umpLatch f m with ump := s.ump })

/-- The umpire's link and temperature paths, safe torque off and the bench voltage (from R403 to R407, R415, R428). -/
def Obligations.UmpirePaths : Prop :=
  (∀ (s : State) (b : BitVec 7), s.sup.umpire = true →
      (s.ifld F.UMP_LINK_OC_HI ≤ sinc2 b.toNat 0 ∨ sinc2 b.toNat 0 ≤ s.ifld F.UMP_LINK_OC_LO) → exec (.linkOc b) s =
      .next ({ s with ump := { s.ump with linkOc := true } }.umpFault uLinkOc (s.fld F.UMP_LINKCFG_UNITS))) ∧
  (∀ (s : State) (b : BitVec 7), s.sup.umpire = true → s.ifld F.UMP_LINK_OC_LO < sinc2 b.toNat 0 →
      sinc2 b.toNat 0 < s.ifld F.UMP_LINK_OC_HI → exec (.linkOc b) s = .next s) ∧
  (∀ (s : State) (b : BitVec 9), s.sup.umpire = true → (∀ k < 3, s.ifld F.UMP_LINK_OV ≤ sinc2 b.toNat k) → exec (.linkOv b) s =
      .next ({ s with ump := { s.ump with linkOv := true } }.umpFault uLinkOv (s.fld F.UMP_LINKCFG_UNITS))) ∧
  (∀ (s : State) (b : BitVec 9), s.sup.umpire = true → (∃ k < 3, sinc2 b.toNat k < s.ifld F.UMP_LINK_OV) →
      exec (.linkOv b) s = .next s) ∧
  (∀ (s : State) (b : BitVec 7) (p : Int), s.sup.umpire = true → p = sinc2 b.toNat 0 →
      (p ≤ s.ifld F.UMP_LINK_OV - 2 → exec (.linkPathDeassert true b) s = .next { s with ump := { s.ump with linkOv := false } }) ∧
      (p ≤ s.ifld F.UMP_LINK_OC_HI - 2 → s.ifld F.UMP_LINK_OC_LO + 2 ≤ p → exec (.linkPathDeassert false b) s =
      .next { s with ump := { s.ump with linkOc := false } }) ∧
      (s.ifld F.UMP_LINK_OV - 2 < p → exec (.linkPathDeassert true b) s = .next s)) ∧
  (∀ (s : State) (b : BitVec 8), s.sup.umpire = true →
      ((∀ k < 2, s.ifld F.UMP_LINK_CH_ON ≤ sinc2 b.toNat k) → exec (.hwChopperOn b) s =
        .next { s with ump := { s.ump with chopper := true } }) ∧
      ((∃ k < 2, sinc2 b.toNat k < s.ifld F.UMP_LINK_CH_ON) → exec (.hwChopperOn b) s = .next s)) ∧
  (∀ (s : State) (b : BitVec 7) (ns : Nat), s.sup.umpire = true →
      (sinc2 b.toNat 0 ≤ s.ifld F.UMP_LINK_CH_OFF → 2000 ≤ ns → exec (.hwChopperOff b ns) s =
        .next { s with ump := { s.ump with chopper := false } }) ∧
      ((s.ifld F.UMP_LINK_CH_OFF < sinc2 b.toNat 0 ∨ ns < 2000) → exec (.hwChopperOff b ns) s = .next s)) ∧
  (∀ (s : State) (k c : Nat), (s.on (F.UMP_TEMP_POL k) = true → (s.tempHot k c = true ↔ s.fld (F.UMP_TEMP_TH k) < c)) ∧
      (s.on (F.UMP_TEMP_POL k) = false → (s.tempHot k c = true ↔ c < s.fld (F.UMP_TEMP_TH k)))) ∧
  (∀ (s : State) (k : Fin 3) (l : List (BitVec 10)), s.sup.umpire = true →
      (l.length < 4 ∨ ∃ c ∈ l.drop (l.length - 4), s.tempHot k c.toNat = false) → exec (.tempPath k l) s = .next s) ∧
  (∀ (s : State) (k : Fin 3) (l : List (BitVec 10)), s.sup.umpire = true → 4 ≤ l.length →
      (∀ c ∈ l.drop (l.length - 4), s.tempHot k c.toNat = true) → k ≠ 2 →
      exec (.tempPath k l) s = .next ({ s with ump := { s.ump with hot := setBit s.ump.hot k } }.umpFault uModHot
        (s.fld (F.UMP_TEMP_UNITS k)))) ∧
  (∀ (s : State) (l : List (BitVec 10)), s.sup.umpire = true → 4 ≤ l.length →
      (∀ c ∈ l.drop (l.length - 4), s.tempHot 2 c.toNat = true) → Completes (exec (.tempPath 2 l) s) (fun t =>
      bit t.ump.hot 2 = true ∧ bit (t.fld F.UMP_FAULT_FAULT) uBrkHot = true ∧ OnlyRegs [R.UMP_FAULT, R.UMP_EVENT] s { t with ump := s.ump })) ∧
  (∀ (s : State) (k : Fin 3) (c : BitVec 10), s.sup.umpire = true → s.tempBack k c.toNat = true → Completes (exec (.tempPathDeassert k c) s) (fun t =>
      bit t.ump.hot k = false ∧ { t with ump := s.ump } = s)) ∧
  (∀ s : State, s.sup.umpire = true → s.xchkOff (flMul (flInt (s.ifld F.UMP_USD_USD0)) (flOf (s.rd R.UMP_USCALE))) = true →
      exec .xchk s = .next (s.umpFault uXchk (s.fld F.UMP_LINKCFG_UNITS))) ∧
  (∀ (s : State) (v w : Nat), s.sup.umpire = true → s.ump.linkV = some (v, w) →
      (s.ump.windows - w) * 16 ≤ 1000 * s.fld F.UMP_CLS_AGE → s.xchkOff ⟨false, 2 * v, 0⟩ = true →
      exec .xchk s = .next (s.umpFault uXchk (s.fld F.UMP_LINKCFG_UNITS))) ∧
  (∀ s : State, s.sup.umpire = true → s.xchkOff (flMul (flInt (s.ifld F.UMP_USD_USD0)) (flOf (s.rd R.UMP_USCALE))) = false →
      (∀ v w, s.ump.linkV = some (v, w) → 1000 * s.fld F.UMP_CLS_AGE < (s.ump.windows - w) * 16 ∨
        s.xchkOff ⟨false, 2 * v, 0⟩ = false) → exec .xchk s = .next s) ∧
  (∀ (s : State) (b : Bool), s.sup.umpire = true → s.fld F.UMP_STO_LEVEL = (if b then 1 else 2) → s.on F.UMP_STO_DISC = false →
      Completes (exec (.stoInput b true) s) (fun t => t.fld F.UMP_STO_LEVEL = 3 ∧ t.stoActive = false ∧
        OnlyRegs [R.UMP_STO] s { t with ump := s.ump })) ∧
  (∀ (s : State) (b : Bool), s.sup.umpire = true → ∃ t : State, exec (.stoInput b false) s = .next t.stoImpose ∧
      bit (t.fld F.UMP_STO_LEVEL) (if b then 1 else 0) = false ∧ OnlyRegs [R.UMP_STO] s { t with ump := s.ump }) ∧
  (∀ s : State, s.sup.umpire = true → (s.fld F.UMP_STO_LEVEL = 1 ∨ s.fld F.UMP_STO_LEVEL = 2) → ∃ t : State, exec .stoDisc s = .next t.stoImpose ∧
      t.on F.UMP_STO_DISC = true ∧ bit (t.fld F.UMP_FAULT_FAULT) uStoDisc = true ∧ t.ump.stoA = ⟨false, false⟩ ∧ t.ump.stoB = ⟨false, false⟩) ∧
  (∀ s : State, s.sup.umpire = true → (s.fld F.UMP_STO_LEVEL = 0 ∨ s.fld F.UMP_STO_LEVEL = 3) → exec .stoDisc s = .next s) ∧
  (∀ s : State, s.sup.umpire = true → Completes (exec (.benchHv false) s) (fun t => t.ump.benchHv = false ∧ { t with ump := s.ump } = s)) ∧
  (∀ s : State, s.sup.umpire = true → s.ump.lockstepBroken = false → s.ump.wdHold = 0 → Completes (exec (.benchHv true) s) (fun t =>
      t.ump.benchHv = true ∧ { t with ump := s.ump } = s))

/-- The window watchdog, and the release of an override (from R401, R402, R412). -/
def Obligations.WatchdogAndRelease : Prop :=
  (∀ (s : State) (m : Master) (x : Fin 2) (n : Nat), s.sup.die = .running → s.blockStops m (R.UMP_WDSVC x) (s.wdWriter m x) = none →
      bit s.ump.wdHold x = false → bit s.ump.wdFirst x = false →
      64 * s.fld F.UMP_WDCFG_WMIN ≤ n → n ≤ 64 * s.fld F.UMP_WDCFG_WMAX → Completes
      (exec (.umpWdsvc m x (wdResponse (BitVec.ofNat 12 (s.ump.wdCh.get x))) n []) s) (fun t =>
        bit t.ump.wdDue x = true ∧ { t with ump := s.ump } = s)) ∧
  (∀ (s : State) (m : Master) (x : Fin 2) (r : BitVec 12) (n : Nat) (same : List ResetCause), s.sup.die = .running →
      s.blockStops m (R.UMP_WDSVC x) (s.wdWriter m x) = none → bit s.ump.wdHold x = false →
      r ≠ wdResponse (BitVec.ofNat 12 (s.ump.wdCh.get x)) →
      exec (.umpWdsvc m x r n same) s = .next ((s.sendDown [1 + 4 * x] 1 r).wdFail x same)) ∧
  (∀ (s : State) (m : Master) (x : Fin 2) (r : BitVec 12) (n : Nat) (same : List ResetCause), s.sup.die = .running →
      s.blockStops m (R.UMP_WDSVC x) (s.wdWriter m x) = none → bit s.ump.wdHold x = false → bit s.ump.wdFirst x = false →
      (n < 64 * s.fld F.UMP_WDCFG_WMIN ∨ 64 * s.fld F.UMP_WDCFG_WMAX < n) →
      exec (.umpWdsvc m x r n same) s = .next ((s.sendDown [1 + 4 * x] 1 r).wdFail x same)) ∧
  (∀ (s : State) (x : Fin 2) (r : BitVec 12) (n : Nat), s.sup.die = .running → s.pageOn 0x1E = true →
      (s.boot.step ≠ 7 → exec (.umpWdsvc .root x r n []) s = .next (s.refuse .root (R.UMP_WDSVC x) eAuth true)) ∧
      (x = 0 → exec (.umpWdsvc .cox1 x r n []) s = .next (s.refuse .cox1 (R.UMP_WDSVC x) eAuth true)) ∧
      exec (.umpWdsvc .hspi x r n []) s = .next (s.refuse .hspi (R.UMP_WDSVC x) eAuth true)) ∧
  (∀ (s : State) (x : Fin 2), s.sup.die = .running → (bit s.ump.wdHold x = true → exec (.watchdogTimeout x []) s = .next s) ∧
      (bit s.ump.wdHold x = false → ∀ same : List ResetCause, exec (.watchdogTimeout x same) s = .next (s.wdFail x same))) ∧
  (∀ (s : State) (x : Fin 2), s.sup.die = .running → (s.wdFail x).sup.die ≠ .running) ∧
  (∀ (s : State) (u : UnitIx), s.sup.die = .running → s.releaseCode u ≠ 0 → s.releaseCode u < 256 →
      Completes (exec (.umpRelease .cox0 u 0) s) (fun t =>
      t.fld F.UMP_REFUSE_CODE = s.releaseCode u ∧ t.fld F.UMP_REFUSE_UNIT = u ∧ t.on F.UMP_EVENT_REFUSED = true ∧
      t.umpHeld u = s.umpHeld u ∧ OnlyRegs [R.UMP_REFUSE, R.UMP_EVENT] s t)) ∧
  (∀ (s : State) (u : UnitIx), s.sup.die = .running → s.releaseCode u = 0 → Completes (exec (.umpRelease .cox0 u 0) s) (fun t =>
      t.umpHeld u = false ∧ t.umpPattern u = patNone ∧ SameMemory s t ∧
      (∀ b < 16, bit (t.ump.faultUnits.get b) u = true → bit (s.fld F.UMP_FAULT_FAULT) b = false) ∧
      (∀ k < 32, bit (unitMask (s.fld (F.UMP_CKCFG_UNIT k))) u = true → t.fld (F.UMP_CKCNT_COUNT k) = 0))) ∧
  (∀ (s : State) (u : UnitIx) (same : BitVec 16), s.sup.die = .running → same ≠ 0 → exec (.umpRelease .cox0 u same) s =
      .next ((s.each ((List.range 16).filter same.getLsbD) (fun b t => t.umpFault b (2 ^ u.val))).umpRefuse 0x01 u)) ∧
  (∀ (s : State) (u : Nat), (∃ l ∈ s.legsOf u, bit s.prot.heldOff l = true) → s.takenOver u = false) ∧
  (∀ (s : State) (u : UnitIx) (m : Master) (same : BitVec 16), s.sup.die = .running → m ≠ .cox0 →
      exec (.umpRelease m u same) s = .next (s.refuse m R.UMP_RELEASE eAuth true))

/-- The contactor sequence: MP closes only on a precharged link, a failed step opens every main contactor, and CTR clears when the
sequence passes to OPEN (from R408 to R411). -/
def Obligations.Contactors : Prop :=
  (∀ s : State, s.sup.die = .running → s.mbWaiting svContactor (fun _ => true) = [] → s.ctrState = ctOpen → s.linkDead = false → Completes (exec (.connect .cox0) s) (fun t =>
      t.ctrState = ctOpen ∧ t.fld F.UMP_CTRSTAT_CODE = 0x01 ∧ t.fld F.UMP_CTRSTAT_CMDED = s.fld F.UMP_CTRSTAT_CMDED ∧
      OnlyRegs [R.UMP_CTRSTAT] s t)) ∧
  (∀ s : State, s.sup.die = .running → s.mbWaiting svContactor (fun _ => true) = [] → s.ctrState = ctOpen → s.linkDead = true → s.ctrUsed cMn = true → Completes (exec (.connect .cox0) s)
      (fun t => t.ctrState = ctConnecting ∧ t.fld F.UMP_CTRSTAT_STEP = 1 ∧ t.ctrCmd cMn = true ∧ t.ctrCmd cMp = s.ctrCmd cMp ∧
        OnlyRegs [R.UMP_CTRSTAT] s t)) ∧
  (∀ s : State, s.sup.die = .running → s.mbWaiting svContactor (fun _ => true) = [] → s.ctrState ≠ ctOpen → exec (.connect .cox0) s = .next s) ∧
  (∀ s : State, s.sup.die = .running → s.mbWaiting svContactor (fun _ => true) = [] → (s.ctrState = ctClosed ∨ s.ctrState = ctConnecting) → Completes (exec (.disconnect .cox0) s) (fun t =>
      t.ctrState = ctDisconnecting ∧ t.ump.ctrPhase = 0 ∧ t.fld F.UMP_CTRSTAT_CMDED = s.fld F.UMP_CTRSTAT_CMDED ∧
      OnlyRegs [R.UMP_CTRSTAT] s { t with ump := s.ump })) ∧
  (∀ s : State, s.sup.die = .running → s.mbWaiting svContactor (fun _ => true) = [] → Completes (exec (.emergencyOpen .cox0) s) (fun t => t.ctrCmd cPre = false ∧ t.ctrCmd cMp = false ∧
      t.ctrCmd cMn = false ∧ t.ctrCmd cAux = s.ctrCmd cAux ∧ OnlyRegs [R.UMP_CTRSTAT] s { t with ump := s.ump })) ∧
  (∀ s : State, s.sup.die = .running → s.mbWaiting svContactor (fun _ => true) = [] → s.ctrUsed cAux = true → Completes (exec (.auxOn .cox0) s) (fun t => t.ctrCmd cAux = true ∧
      (∀ k < 3, t.ctrCmd k = s.ctrCmd k) ∧ OnlyRegs [R.UMP_CTRSTAT] s t)) ∧
  (∀ s : State, s.sup.die = .running → s.mbWaiting svContactor (fun _ => true) = [] → Completes (exec (.auxOff .cox0) s) (fun t => t.ctrCmd cAux = false ∧
      (∀ k < 3, t.ctrCmd k = s.ctrCmd k) ∧ OnlyRegs [R.UMP_CTRSTAT] s t)) ∧
  (∀ s : State, s.sup.die = .running → ∀ m, m ≠ .cox0 → exec (.connect m) s = .next (s.refuse m R.UMP_CTRCMD eAuth true) ∧
      exec (.disconnect m) s = .next (s.refuse m R.UMP_CTRCMD eAuth true) ∧ exec (.emergencyOpen m) s = .next (s.refuse m R.UMP_CTRCMD eAuth true) ∧
      exec (.auxOn m) s = .next (s.refuse m R.UMP_CTRCMD eAuth true) ∧ exec (.auxOff m) s = .next (s.refuse m R.UMP_CTRCMD eAuth true)) ∧
  (∀ s : State, s.sup.umpire = true → s.mbWaiting svContactor (fun _ => true) = [] → s.ctrState = ctConnecting → s.fld F.UMP_CTRSTAT_STEP = 1 → s.linkDead = true → s.ctrIsClosed cMn = false →
      Completes (exec (.contactorStepEnd false) s) (fun t => t.ctrState = ctFault ∧ t.fld F.UMP_CTRSTAT_CODE = 0x02 ∧
        t.ctrCmd cPre = false ∧ t.ctrCmd cMp = false ∧ t.ctrCmd cMn = false ∧ bit (t.fld F.UMP_FAULT_FAULT) uCtr = true)) ∧
  (∀ s : State, s.sup.umpire = true → s.mbWaiting svContactor (fun _ => true) = [] → s.ctrState = ctConnecting → s.fld F.UMP_CTRSTAT_STEP = 3 → s.ctrUsed cMp = true →
      Completes (exec (.contactorStepEnd false) s) (fun t => (s.fld F.UMP_PRE_V_PRE ≤ s.fld F.UMP_MEAS0_UAIN0 → t.ctrCmd cMp = true ∧
        t.fld F.UMP_CTRSTAT_STEP = 4) ∧ (s.fld F.UMP_MEAS0_UAIN0 < s.fld F.UMP_PRE_V_PRE → t.ctrState = ctFault ∧ t.ctrCmd cMp = false ∧
        t.fld F.UMP_CTRSTAT_CODE = 0x04))) ∧
  (∀ s : State, s.sup.umpire = true → s.mbWaiting svContactor (fun _ => true) = [] → s.ctrState = ctConnecting → s.fld F.UMP_CTRSTAT_STEP = 5 → s.ctrIsOpen cPre = true →
      Completes (exec (.contactorStepEnd false) s) (fun t => t.ctrState = ctClosed ∧ OnlyRegs [R.UMP_CTRSTAT] s t)) ∧
  (∀ s : State, s.sup.umpire = true → s.mbWaiting svContactor (fun _ => true) = [] → s.ctrState = ctDisconnecting → s.ump.ctrPhase = 2 → s.ctrIsOpen cMn = true →
      Completes (exec (.contactorStepEnd false) s) (fun t => t.ctrState = ctOpen ∧
        (s.ump.ctrAux = 0 → bit (t.fld F.UMP_FAULT_FAULT) uCtr = false))) ∧
  (∀ s : State, s.sup.umpire = true → s.ctrState = ctDisconnecting → s.ump.ctrPhase = 0 → (s.ifld F.UMP_USD_USD1).natAbs < s.fld F.UMP_IBREAK_I_BREAK →
      Completes (exec .breakCurrentWait s) (fun t => t.ctrCmd cPre = false ∧ t.ctrCmd cMp = false ∧ t.ctrCmd cMn = s.ctrCmd cMn ∧
        t.ump.ctrPhase = 1 ∧ OnlyRegs [R.UMP_CTRSTAT] s { t with ump := s.ump })) ∧
  (∀ (s : State) (k : Fin 4), s.sup.umpire = true → s.ctrUsed k = true → s.ctrCmd k = true → s.ctrSensed k = false → k ≠ 3 →
      exec (.contactorDrop k) s = .next (((s.ctrFail 0x09).umpFault uCtr (s.fld F.UMP_LINKCFG_UNITS)).ctrSettle)) ∧
  (∀ (s : State) (k : Fin 4), s.sup.umpire = true → s.ctrCmd k = true ∨ s.ctrSensed k = false → exec (.contactorWeld k) s = .next s) ∧
  (∀ (s : State) (k : Fin 4), s.sup.umpire = true → s.ctrUsed k = true → s.ctrCmd k = false → s.ctrSensed k = true → k ≠ 3 →
      exec (.contactorWeld k) s = .next (s.ctrFail (0x06 + k)).ctrSettle) ∧
  (∀ (s : State), s.sup.umpire = true → s.ctrUsed cAux = true → s.ctrCmd cAux = false → s.ctrSensed cAux = true → Completes (exec (.contactorWeld 3) s)
      (fun t => t.ump.ctrAux = 0x0B ∧ t.fld F.UMP_CTRSTAT_CODE = 0x0B ∧ bit (t.fld F.UMP_FAULT_FAULT) uCtr = true ∧
        OnlyRegs [R.UMP_CTRSTAT, R.UMP_FAULT, R.UMP_EVENT] s { t with ump := s.ump }))

/-- Lockstep mismatches, comparator tests and the watchdog hold (from R423, R425 to R428). -/
def Obligations.Lockstep : Prop :=
  (∀ (s : State) (m c : List Nat), s.sup.die = .running → s.on F.LSTP_STATUS_CMP_EN0 = false →
      exec (.lockstepMismatch 0 m c []) s = .next s) ∧
  (∀ (s : State) (x : Fin 2) (m c : List Nat), s.sup.die = .running → lockstepGroup m c = none →
      exec (.lockstepMismatch x m c []) s = .next s) ∧
  (∀ (m c : List Nat) (g : Fin 8), lockstepGroup m c = some g → (getElem? m g.val ≠ getElem? c g.val ∧ ∀ k : Fin 8, k < g → getElem? m k.val = getElem? c k.val)) ∧
  (∀ (s : State) (x : Fin 2) (m c : List Nat) (g : Fin 8), s.sup.die = .running → lockstepGroup m c = some g →
      s.on (if x.val = 0 then F.LSTP_STATUS_CMP_EN0 else F.LSTP_STATUS_CMP_EN1) = true → s.ump.lsWindow = some x.val →
      ∀ same : List ResetCause, exec (.lockstepMismatch x m c same) s = .next ({ s with ump := { s.ump with lsSeen := s.ump.lsSeen ++ [g] } }.beside same)) ∧
  (∀ (s : State) (x : Fin 2) (m c : List Nat) (g : Fin 8) (k : Fin 16) (same : List ResetCause), s.sup.die = .running →
      lockstepGroup m c = some g → k.val = g.val →
      s.on (if x.val = 0 then F.LSTP_STATUS_CMP_EN0 else F.LSTP_STATUS_CMP_EN1) = true → s.ump.lsWindow ≠ some x.val →
      exec (.lockstepMismatch x m c same) s = .next (s.causes (.lockstep x k) same)) ∧
  (∀ (s : State) (x : Fin 2) (k : Fin 16), s.sup.die = .running → (s.causes (.lockstep x k) []).sup.die = .held ∧
      (s.causes (.lockstep x k) []).sup.code = 0x12 + x ∧ (s.causes (.lockstep x k) []).sup.detail = 0) ∧
  (∀ (s : State) (x k : Nat), k < 16 → x < 2 → (s.lockstepLast x k).fld F.LSTP_LAST_GROUP = k ∧ (s.lockstepLast x k).fld F.LSTP_LAST_PAIR = x ∧
      (s.lockstepLast x k).fld F.LSTP_LAST_RESETS = min (s.fld F.LSTP_LAST_RESETS + 1) 255 ∧ OnlyRegs [R.LSTP_LAST] s (s.lockstepLast x k)) ∧
  (∀ s : State, s.sup.die = .running → s.boot.step = 5 → s.lsOver 0 = false → ∀ same : List ResetCause, exec (.lsTest 0 false same) s =
      .next ({ s with ump := { s.ump with lsWindow := some 0, lsSeen := [] } }.beside same)) ∧
  (∀ s : State, s.sup.die = .running → s.boot.step = 5 → s.lsOver 0 = true → s.lsOver 1 = false → ∀ same : List ResetCause, exec (.lsTest 1 false same) s =
      .next ({ s with ump := { s.ump with lsWindow := some 1, lsSeen := [] } }.beside same)) ∧
  (∀ (s : State) (ended : Bool), s.lsOver 0 = false ∨ s.boot.step ≠ 5 → exec (.lsTest 1 ended []) s = .next s) ∧
  (∀ (s : State) (x : Fin 2) (ended : Bool), s.lsOver x = true ∧ s.lsOver (1 - x.val) = false ∨ s.boot.step ≠ 5 →
      exec (.lsTest x ended []) s = .next s) ∧
  (∀ s : State, s.sup.die = .running → s.boot.step = 5 → s.lsOver 0 = false → s.lsOver 1 = false → s.ump.lsWindow = some 0 →
      s.ump.lsSeen = lsInjected → ∀ same : List ResetCause, Completes (exec (.lsTest 0 true same) s) (Beside same (fun t =>
        t.on F.LSTP_STATUS_CTEST_OK0 = true ∧ t.ump.lsWindow = none ∧ OnlyRegs [R.LSTP_STATUS] s { t with ump := s.ump }))) ∧
  (∀ (s : State) (g : Fin 8) (k : Fin 16) (same : List ResetCause), s.sup.die = .running → s.boot.step = 5 → s.lsOver 0 = true →
      s.lsOver 1 = false → s.ump.lsWindow = some 1 → lsBad s.ump.lsSeen = some g → k.val = g.val →
      exec (.lsTest 1 true same) s = .next (s.causes (.lockstep 1 k) same)) ∧
  (∀ l : List (Fin 8), lsBad l = none ↔ l = lsInjected) ∧
  (∀ (l : List (Fin 8)) (j : Nat) (g : Fin 8), 16 ≤ l.length → (∀ i < j, l[i]? = lsInjected[i]?) → l[j]? = some g →
      lsInjected[j]? ≠ some g → lsBad l = some g) ∧
  (∀ (s : State) (x : Fin 2) (same : List ResetCause), s.sup.die = .running → s.ump.lsWindow = some x.val →
      exec (.lsTestWindowExpiry x same) s = .next (s.causes (.lockstep x 0xF) same)) ∧
  (∀ (s : State) (x : Fin 2), s.sup.die = .running → s.ump.lsWindow = none → exec (.lsTestWindowExpiry x []) s = .next s) ∧
  (∀ (s : State) (m : Master), s.sup.die = .running → external m = false → s.on F.LSTP_STATUS_BROKEN1 = true → s.deviceOff = true → s.ump.benchHv = false →
      Completes (exec (.wdHoldWrite m true 1) s) (fun t => bit t.ump.wdHold 1 = true ∧ t.on F.LSTP_DBG_WD_HOLD = true ∧
        OnlyRegs [R.LSTP_DBG] s { t with ump := s.ump })) ∧
  (∀ (s : State) (m : Master), s.sup.die = .running → external m = false → s.on F.LSTP_STATUS_BROKEN1 = false →
      Completes (exec (.wdHoldWrite m true 1) s) (fun t => t.on F.LSTP_DBG_WD_HOLD = s.on F.LSTP_DBG_WD_HOLD ∧ t.on F.LSTP_DBG_HOLD_REFUSED = true ∧
        OnlyRegs [R.LSTP_DBG] s t)) ∧
  (∀ (s : State) (m : Master) (k : Fin 2), s.sup.die = .running → external m = false → s.on F.LSTP_DBG_WD_HOLD = true →
      s.ump.wdHold ≠ 0 → Completes (exec (.wdHoldWrite m false k) s) (fun t => t.ump.wdHold = 0 ∧ t.on F.LSTP_DBG_WD_HOLD = false ∧
        t.on F.LSTP_EVENT_HOLD_END = true ∧ OnlyRegs [R.LSTP_DBG, R.LSTP_EVENT] s { t with ump := s.ump })) ∧
  (∀ s : State, s.sup.die = .running → s.boot.step = 5 → s.lsOver 0 = true → s.lsOver 1 = false → s.ump.lsWindow = some 1 →
      s.ump.lsSeen = lsInjected → Completes (exec (.lsTest 1 true []) s) (fun t => t.on F.LSTP_STATUS_CTEST_OK1 = true ∧
        t.boot.step = 6 ∧ t.on (F.PAGE_CTRL_SEAL 0x03) = true)) ∧
  (∀ s : State, s.sup.die = .running → s.boot.step = 5 → s.lsOver 0 = false → s.lsOver 1 = true → s.ump.lsWindow = some 0 →
      s.ump.lsSeen = lsInjected → Completes (exec (.lsTest 0 true []) s) (fun t => t.on F.LSTP_STATUS_CTEST_OK0 = true ∧
        t.boot.step = 6 ∧ t.on (F.PAGE_CTRL_SEAL 0x03) = true))

/-- START and STOP are taken once; what a START finds, and where a catch-spin leads (from R270, R278, R279, R282, R286, R289, R294). -/
def Obligations.DriveStartAndStop : Prop :=
  (∀ (s : State) (d : DriveIx) (vdc te : Word), s.sup.die = .running → (s.drive d).cmd = none → exec (.drvStart d vdc te) s = .next s ∧
      exec (.drvStop d te) s = .next s) ∧
  (∀ (s t : State) (d : DriveIx) (vdc te : Word) (c : BitVec 6), s.sup.die = .running → s.selfRuns d = false → (s.drive d).cmd = some c →
      c.toNat % 16 = 1 → s.settled d → s.driveState d = dSafe → t = (s.modDrive d (fun x => { x with cmd := none })).setTe d te →
      exec (.drvStart d vdc te) s = .next (t.startRefused d 0x08)) ∧
  (∀ (s : State) (d : DriveIx) (vdc te : Word) (c : BitVec 6), s.sup.die = .running → s.selfRuns d = false → (s.drive d).cmd = some c →
      c.toNat % 16 = 1 → s.settled d → s.driveState d = dOff → s.planDrives d = true → s.on F.THRM_STATUS_SHUTDOWN = false → s.grantCode d = 0 →
      s.ownBlock d = false → s.sarFailedFor d = false → s.cascadeOk = true → s.hbSupervised = false → (s.drive d).spun = false →
      Completes (exec (.drvStart d vdc te) s) (fun t => t.driveState d = dSpin ∧ (t.drive d).want = c ∧ (t.drive d).cmd = none ∧
        (t.drive d).te = te ∧ t.rd (R.DRV_TREF d) = 0 ∧ SameMemory s t ∧ OnlyRegs (driveRegs d) s ({ t with drives := s.drives }.choppersOf s))) ∧
  (∀ (s t : State) (d : DriveIx) (vdc te : Word) (c : BitVec 6), s.sup.die = .running → s.selfRuns d = false → (s.drive d).cmd = some c →
      c.toNat % 16 = 1 → s.settled d → s.driveState d = dOff → s.planDrives d = false →
      t = ((s.modDrive d (fun x => { x with cmd := none })).setTe d te).modDrive d (fun x => { x with want := c, trqHeld := false }) →
      exec (.drvStart d vdc te) s = .next (t.startRefused d 0x01)) ∧
  (∀ (s t : State) (d : DriveIx) (vdc te : Word) (c : BitVec 6), s.sup.die = .running → s.selfRuns d = false → (s.drive d).cmd = some c →
      c.toNat % 16 = 1 → s.settled d → s.driveState d ≠ dSafe → s.driveState d ≠ dOff → s.planDrives d = false →
      t = (s.modDrive d (fun x => { x with cmd := none })).setTe d te → exec (.drvStart d vdc te) s = .next (t.startRefused d 0x01)) ∧
  (∀ (s : State) (d : DriveIx) (vdc te : Word) (c : BitVec 6), s.sup.die = .running → s.selfRuns d = false → (s.drive d).cmd = some c →
      c.toNat % 16 = 1 → s.settled d → s.driveState d = dSpin → s.planDrives d = true → (s.drive d).want.toNat / 16 % 2 = c.toNat / 16 % 2 →
      Completes (exec (.drvStart d vdc te) s) (fun t => (t.drive d).want = (s.drive d).want ∧ (t.drive d).cmd = none ∧ { t with drives := s.drives } = s)) ∧
  (∀ (s : State) (d : DriveIx) (te : Word) (c : BitVec 6), s.sup.die = .running → (s.drive d).cmd = some c → c.toNat % 16 = 2 →
      s.settled d → s.on (F.DRV_PSTAT_OBS_LOSS d) = false → s.driveState d = dSpin → Completes (exec (.drvStop d te) s) (fun t => t.driveState d = dOff ∧ (t.drive d).cmd = none ∧
        t.rd (R.DRV_TREF d) = 0 ∧ OnlyRegs (driveRegs d) s ({ t with drives := s.drives }.choppersOf s))) ∧
  (∀ (s : State) (d : DriveIx) (te : Word) (c : BitVec 6), s.sup.die = .running → (s.drive d).cmd = some c → c.toNat % 16 = 2 →
      s.settled d → s.on (F.DRV_PSTAT_OBS_LOSS d) = false → s.driveState d = dRun → Completes (exec (.drvStop d te) s) (fun t => t.driveState d = dEasy ∧ t.rd (R.DRV_TREF d) = 0 ∧
        (t.drive d).easyState = dRun ∧ (t.drive d).easyCause = 1 ∧
        t.rd (R.DRV_TRATE d) = (fmul (fin (s.rd (R.DRV_EASY d))) (fin te)).w ∧
        OnlyRegs (R.DRV_TRATE d :: driveRegs d) s ({ t with drives := s.drives }.choppersOf s))) ∧
  (∀ (s : State) (d : DriveIx) (te : Word) (c : BitVec 6), s.sup.die = .running → (s.drive d).cmd = some c → c.toNat % 16 = 2 →
      s.settled d → s.on (F.DRV_PSTAT_OBS_LOSS d) = true → s.driveState d = dRun → Completes (exec (.drvStop d te) s) (fun t =>
        t.driveState d = dReacq ∧ (t.drive d).heldState = dRun ∧ t.rd (R.DRV_TREF d) = 0)) ∧
  (∀ (s : State) (u : UnitIx) (vdc tc te : Word) (l : List SpinSet), s.sup.die = .running → u.val < 2 → s.settled u →
      s.driveState u ≠ dSpin → exec (.catchSpinEnd u vdc tc te l) s = .next s) ∧
  (∀ (s : State) (u : UnitIx) (vdc tc te : Word) (l : List SpinSet) (dir : Nat), s.sup.die = .running → u.val < 2 → s.settled u →
      s.driveState u = dSpin → s.isCrew = false → dir = (s.drive u).want.toNat / 16 % 2 →
      (overLinkV (fval vdc) (fval (s.rd (R.DRV_SPIN_V u))) = true ∨ (∃ x ∈ l, overLinkV (fval vdc) (fval x.v) = true) →
        exec (.catchSpinEnd u vdc tc te l) s = .next ((s.setTe u te).decideRow u 1 dir none)) ∧
      (overLinkV (fval vdc) (fval (s.rd (R.DRV_SPIN_V u))) = false → (∀ x ∈ l, overLinkV (fval vdc) (fval x.v) = false) →
        (spinFails l = true → exec (.catchSpinEnd u vdc tc te l) s = .next ((s.setTe u te).decideRow u 2 dir none)) ∧
        (spinFails l = false → s.sensorOk u = false → s.on (F.DRV_SPIN_VALID u) = false → (∀ x ∈ l, x.valid = false) →
          s.fld (F.DRV_SPIN_COUNT u) ≠ 0 → exec (.catchSpinEnd u vdc tc te l) s = .next ((s.setTe u te).decideRow u 4 dir none)) ∧
        (spinFails l = false → s.sensorOk u = false → s.on (F.DRV_SPIN_VALID u) = true →
          flLt (flAbs (fval (s.rd (R.DRV_SPIN_F u)))) (fval (s.rd (R.DRV_NCATCH u))) = false → ∃ w,
          exec (.catchSpinEnd u vdc tc te l) s = .next ((s.setTe u te).decideRow u (spinRow (fval (s.rd (R.DRV_SPIN_F u)))
            (fval (s.rd (R.DRV_NREV u))) dir ((s.drive u).want.toNat / 32 = 1)) dir (some (s.rd (R.DRV_SPIN_A u) +
            BitVec.ofInt 32 (rneFl (flMul (fval (s.rd (R.DRV_SPIN_F u))) (fval tc)) 32), w))))))  ∧
  (∀ (s : State) (u : UnitIx) (vdc tc te : Word) (l : List SpinSet), s.sup.die = .running → 2 ≤ u.val → bit s.inj.auxSpin u = false →
      exec (.catchSpinEnd u vdc tc te l) s = .next s) ∧
  (∀ (s : State) (u : UnitIx) (vdc tc te : Word), s.sup.die = .running → 2 ≤ u.val → bit s.inj.auxSpin u = true →
      exec (.catchSpinEnd u vdc tc te []) s = .next (s.auxRow u 4)) ∧
  (∀ (s : State) (u : Nat), bit (s.auxRow u 4).inj.auxGo u = true ∧ bit (s.auxRow u 4).inj.auxSpin u = false ∧
      { s.auxRow u 4 with inj := s.inj } = s) ∧
  (∀ (s : State) (d row dir : Nat) (seed : Option (Word × Word)), (s.relays = false → s.decideRow d row dir seed = s.takeRow d row dir seed) ∧
      (s.relays = true → (s.decideRow d row dir seed).driveState d = s.driveState d ∧ ∃ m ∈ (s.decideRow d row dir seed).ring.drive,
        m.unit = d ∧ m.action = 5 ∧ m.data[2]? = some (BitVec.ofNat 32 row))) ∧
  (∀ (s : State) (d : Nat), s.overLink d = ((s.startRefused d 0x05).setDriveState d dSafe).protReq d (some 2)) ∧
  (∀ (s : State) (d dir : Nat) (seed : Option (Word × Word)), s.takeRow d 1 dir seed = s.overLink d ∧
      s.takeRow d 2 dir seed = s.startOff d 0x06 ∧ s.takeRow d 3 dir seed = s.startOff d 0x07 ∧
      s.takeRow d 8 dir seed = s.startOff d 0x04 ∧ s.takeRow d 7 dir seed = s.enterStart d dBrake dir seed ∧
      (∀ row, row = 4 ∨ row = 5 ∨ row = 6 → s.takeRow d row dir seed = s.enterStart d dStart dir seed)) ∧
  (∀ (f nrev : Fl) (dir : Nat) (brk : Bool), (against f dir = false → spinRow f nrev dir brk = 5) ∧
      (against f dir = true → flLt (flAbs f) nrev = true → spinRow f nrev dir brk = 6) ∧
      (against f dir = true → flLt (flAbs f) nrev = false → spinRow f nrev dir brk = (if brk then 7 else 8))) ∧
  (∀ (a b : SpinSet) (l : List SpinSet), a ∈ l → b ∈ l → (fval a.f).mant ≠ 0 → (fval b.f).mant ≠ 0 → (fval a.f).neg ≠ (fval b.f).neg →
      spinFails l = true) ∧
  (∀ (a : SpinSet) (l : List SpinSet), a ∈ l → a.inSeq = false → spinFails l = true)

/-- The changes of a drive's state: RUN, REACQ, EASY, ZERO, BRAKE and the zero-torque window; a safe state and an easy-all take effect at a
catch boundary (from R269, R270, R285, R287 to R291, R307). -/
def Obligations.DriveStates : Prop :=
  (∀ (s : State) (d : DriveIx), s.sup.die = .running → s.settled d → s.driveState d = dStart → Completes (exec (.startToRun d) s) (fun t => t.driveState d = dRun ∧
      t.fld (F.DRV_MODE_STATE d) = dRun ∧ t.on (F.DRV_EVENT_STARTED d) = true ∧ t.rd (R.DRV_TREF d) = s.rd (R.DRV_TREF d) ∧
      OnlyRegs (R.DRV_EVENT d :: driveRegs d) s (t.choppersOf s))) ∧
  (∀ (s : State) (d : DriveIx), s.sup.die = .running → s.settled d → s.on (F.DRV_PSTAT_OBS_LOSS d) = true → s.driveState d = dRun →
      Completes (exec (.reacqEntry d) s) (fun t => t.driveState d = dReacq ∧ t.rd (R.DRV_TREF d) = 0 ∧ (t.drive d).heldState = dRun ∧
        (t.drive d).lastSpeed = s.rd (R.DRV_SPEED d) ∧ OnlyRegs (driveRegs d) s ({ t with drives := s.drives }.choppersOf s))) ∧
  (∀ (s : State) (d : DriveIx), s.sup.die = .running → s.settled d → s.on (F.DRV_PSTAT_OBS_LOSS d) = false → exec (.reacqEntry d) s = .next s) ∧
  (∀ (s : State) (d : DriveIx), s.sup.die = .running → s.settled d → s.driveState d = dReacq → s.on (F.DRV_PSTAT_REACQ_OK d) = true → (s.drive d).heldState = dRun →
      (s.drive d).rampDue = false → Completes (exec (.reacqOk d) s) (fun t => t.driveState d = dRun ∧ t.on (F.DRV_EVENT_OBS_REGAINED d) = true ∧
        t.on (F.DRV_EVENT_STARTED d) = true ∧ t.rd (R.DRV_TREF d) = (s.torqueWanted d).w ∧
        OnlyRegs ([R.DRV_TRATE d, R.DRV_EVENT d] ++ driveRegs d) s (t.choppersOf s))) ∧
  (∀ (s : State) (d : DriveIx), s.sup.die = .running → s.settled d → s.driveState d = dReacq → s.on (F.DRV_PSTAT_REACQ_OK d) = false →
      (fval (s.drive d).lastSpeed).mant = 0 → exec (.reacqTimeout d) s =
      .next (((s.ev (F.DRV_EVENT_OBS_LOST d)).drvLast d 0x0A).protReq d (some 0))) ∧
  (∀ (s : State) (d : DriveIx), s.sup.die = .running → s.settled d → s.on (F.DRV_PSTAT_REACQ_OK d) = true → exec (.reacqTimeout d) s = .next s) ∧
  (∀ (s : State) (d : Nat) (f : Word), (fval f).mant ≠ 0 →
      flLe (flInt s.linkVolts) (flScale 256 (flMul (fval (s.rd (R.DRV_KE d))) (flAbs (fval f)))) = true → s.classFor d f = (2, s)) ∧
  (∀ (s : State) (u : UnitIx), s.sup.die = .running → s.settled u → u.val < 2 → s.driveState u = dEasy → 4 ≤ (s.drive u).tzero → (s.drive u).easyCause ≤ 2 →
      Completes (exec (.easyAllComplete u) s) (fun t => t.driveState u = dZero ∧ t.on (F.DRV_EVENT_EASY_DONE u) = true ∧
        OnlyRegs (R.DRV_EVENT u :: driveRegs u) s ({ t with drives := s.drives }.choppersOf s))) ∧
  (∀ (s : State) (u : UnitIx), s.sup.die = .running → s.settled u → u.val < 2 → s.driveState u = dEasy → 4 ≤ (s.drive u).tzero → 2 < (s.drive u).easyCause →
      exec (.easyAllComplete u) s = .next ((s.ev (F.DRV_EVENT_EASY_DONE u)).protReq u none)) ∧
  (∀ (s : State) (u : UnitIx), s.sup.die = .running → s.settled u → u.val < 2 → (s.drive u).tzero < 4 → exec (.easyAllComplete u) s = .next s) ∧
  (∀ (s : State) (u : UnitIx), s.sup.die = .running → 2 ≤ u.val → s.inj.auxEasy.get u = 1 →
      exec (.easyAllComplete u) s = .next ((s.auxSettle u).gatesOff u)) ∧
  (∀ (s : State) (u : UnitIx), s.sup.die = .running → 2 ≤ u.val → 2 < s.inj.auxEasy.get u →
      exec (.easyAllComplete u) s = .next ((s.auxSettle u).protReq u none)) ∧
  (∀ (s : State) (d : DriveIx), s.sup.die = .running → s.settled d → s.driveState d = dEasy → exec (.easyTimeout d) s =
      .next (((s.ev (F.DRV_EVENT_EASY_TIMEOUT d)).drvLast d 0x0B).protReq d none)) ∧
  (∀ (s : State) (d : DriveIx), s.sup.die = .running → s.on (F.DRV_PSTAT_OBS_LOSS d) = false → s.settled d → s.driveState d = dZero → Completes (exec (.zeroToOff d) s) (fun t => t.driveState d = dOff ∧
      (∀ l ∈ s.legsOf d, l < 18 → t.gateEn l = false))) ∧
  (∀ (s : State) (d : DriveIx), s.sup.die = .running → s.on (F.DRV_PSTAT_OBS_LOSS d) = false → s.settled d → s.driveState d ≠ dZero → exec (.zeroToOff d) s = .next s) ∧
  (∀ (s : State) (d : DriveIx) (vdc : Word), s.sup.die = .running → s.on (F.DRV_PSTAT_OBS_LOSS d) = false → s.settled d → s.driveState d = dRun → (fval (s.rd (R.DRV_TRQ d))).mant = 0 →
      s.windowWork d = true →
      flLt (flScale 10 (flMul (fval (s.rd (R.DRV_KE d))) (flAbs (fval (s.rd (R.DRV_SPEED d)))))) (flScale 9 (fval vdc)) = true →
      Completes (exec (.ztwOpen d vdc) s) (fun t => t.driveState d = dZtw ∧ t.on (F.DRV_EVENT_ZTW d) = true)) ∧
  (∀ (s : State) (d : DriveIx) (vdc : Word), s.sup.die = .running → s.on (F.DRV_PSTAT_OBS_LOSS d) = false → s.settled d → (fval (s.rd (R.DRV_TRQ d))).mant ≠ 0 ∨ s.windowWork d = false →
      exec (.ztwOpen d vdc) s = .next s) ∧
  (∀ (s : State) (d : DriveIx) (vdc : Word), s.sup.die = .running → s.settled d → s.driveState d = dZtw → (s.drive d).trqHeld = false →
      exec (.ztwClose d vdc) s = .next ((s.windowEnds d).setDriveState d dOff)) ∧
  (∀ (s : State) (d : DriveIx) (vdc : Word), s.sup.die = .running → s.settled d → s.driveState d = dZtw → (s.drive d).trqHeld = true →
      exec (.ztwClose d vdc) s = .next (((s.windowEnds d).setDriveState d dOff).startFromOff d (s.drive d).want vdc)) ∧
  (∀ (s : State) (d : DriveIx) (vdc : Word), s.sup.die = .running → s.settled d → s.driveState d ≠ dZtw → exec (.ztwClose d vdc) s = .next s) ∧
  (∀ (s : State) (d : DriveIx), s.sup.die = .running → s.on (F.DRV_PSTAT_OBS_LOSS d) = false → s.settled d → s.driveState d = dBrake → Completes (exec (.brakeTimeout d) s) (fun t => t.driveState d = dEasy ∧
      t.fld (F.DRV_LAST_CODE d) = 0x09 ∧ t.rd (R.DRV_TREF d) = 0 ∧ (t.drive d).easyCause = 2 ∧
      OnlyRegs ([R.DRV_LAST d, R.DRV_TRATE d] ++ driveRegs d) s ({ t with drives := s.drives }.choppersOf s))) ∧
  (∀ (s : State) (d : DriveIx), s.sup.die = .running → s.settled d → s.driveState d = dBrake → Completes (exec (.brakeToStart d) s) (fun t => t.driveState d = dStart ∧
      t.on (F.DRV_EVENT_STARTED d) = true ∧ OnlyRegs (R.DRV_EVENT d :: driveRegs d) s (t.choppersOf s))) ∧
  (∀ (s : State) (d : DriveIx), s.sup.die = .running → s.on (F.DRV_PSTAT_OBS_LOSS d) = false → s.settled d → s.driveState d ≠ dBrake → exec (.brakeTimeout d) s = .next s ∧ exec (.brakeToStart d) s = .next s) ∧
  (∀ (s : State) (d : DriveIx), s.sup.die = .running → s.on (F.DRV_PSTAT_SHARE_LIM d) = true → Completes (exec (.shareLim d) s) (fun t =>
      t.on (F.DRV_EVENT_SHARE_LIM d) = true ∧ OnlyRegs [R.DRV_EVENT d] s t)) ∧
  (∀ (s : State) (d : DriveIx), s.sup.die = .running → s.fld (F.DRV_PSTAT_SRC d) ≠ 3 → (fval (s.rd (R.DRV_SPEED d))).mant = 0 →
      Completes (exec (.standstill d) s) (fun t => t.on (F.DRV_STATE_STANDSTILL d) = true ∧ t.driveState d = s.driveState d ∧
        OnlyRegs [R.DRV_STATE d] s t)) ∧
  (∀ (s : State) (d : DriveIx) (vdc : Word), s.sup.die = .running → s.settled d → s.on (F.DRV_PSTAT_OBS_LOSS d) = true →
      (s.driveState d = dZero → exec (.zeroToOff d) s = .next (s.loseObserver d [dZero])) ∧
      (s.driveState d = dBrake → exec (.brakeTimeout d) s = .next (s.loseObserver d [dBrake])) ∧
      (s.driveState d = dRun → exec (.ztwOpen d vdc) s = .next (s.loseObserver d [dRun]))) ∧
  (∀ (s : State) (d : DriveIx) (c : Instr), s.sup.die = .running → (s.drive d).safeDue = true → (s.drive d).easyDue = 0 →
      c ∈ [.startToRun d, .reacqEntry d, .reacqOk d, .reacqTimeout d, .easyTimeout d, .zeroToOff d, .brakeTimeout d, .brakeToStart d] →
      Completes (exec c s) (fun t => t.driveState d = dSafe ∧ (t.drive d).safeDue = false)) ∧
  (∀ (s : State) (d : DriveIx), s.on F.CATCH_CTRL_RUN = true → s.driveState d ≠ dOff → s.driveState d ≠ dSafe →
      (s.driveSafe d).driveState d = s.driveState d ∧ ((s.driveSafe d).drive d).safeDue = true ∧
      ((s.driveSafe d).settleSafe d).driveState d = dSafe) ∧
  (∀ (s : State) (d : DriveIx), s.on F.CATCH_CTRL_RUN = false → s.driveState d ≠ dOff → (s.driveSafe d).driveState d = dSafe) ∧
  (∀ (s : State) (d : DriveIx) (c : Nat), s.on F.CATCH_CTRL_RUN = true → s.easyDue d c =
      s.modDrive d (fun x => { x with easyDue := max x.easyDue c })) ∧
  (∀ (s : State) (d : DriveIx) (c : Nat), (s.drive d).safeDue = false → (s.drive d).easyDue = c → 1 < c →
      s.on (F.DRV_PSTAT_OBS_LOSS d) = false → s.driveState d = dRun → (s.settleDrive d).driveState d = dEasy ∧
      ((s.settleDrive d).drive d).easyCause = c ∧ ((s.settleDrive d).drive d).easyDue = 0)

/-- Torque requests, speed mode, the torque snapshot and the monitor's deviation (from R285, R293, R294, R297, R299, R414). -/
def Obligations.DriveTorque : Prop :=
  (∀ (s : State) (d : DriveIx), s.sup.die = .running → s.snapshots ≠ [] → Completes (exec (.torqueSnapshot d) s)
      (fun t => t.rd (R.DRV_TQ d) = (((Config.snapshotSets d s.snapshots).map setTorque).foldl fadd fzero).w ∧
        t.rd (R.DRV_SPEED d) = Config.snapshotSpeed d s.snapshots ∧ t.checks.alive = (s.checks.alive + 1) % 256 ∧
        t.driveState d = s.driveState d ∧
        OnlyRegs [R.DRV_TQ d, R.DRV_SPEED d, R.DRV_STATE d] s { t with drives := s.drives, checks := s.checks })) ∧
  (∀ id iq p psi ld lq : Word, setTorque (id, iq, p, psi, ld, lq) = fmul (fmul (fconst 0x3FC00000) (fin p)) (fadd (fmul (fin psi) (fin iq))
      (fmul (fmul (fsub (fin ld) (fin lq)) (fin id)) (fin iq)))) ∧
  (∀ (s : State) (d : DriveIx), s.sup.die = .running → s.snapshots = [] → exec (.torqueSnapshot d) s = .next s) ∧
  (∀ (s : State) (d : DriveIx), s.sup.die = .running → s.torqueDeviates d = true → exec (.tqDev d) s =
      .next (((s.protReq d none).drvLast d 0x0C).modDrive d (fun x => { x with verdict := 2 }))) ∧
  (∀ (s : State) (d : DriveIx), s.sup.die = .running → s.torqueDeviates d = false → exec (.tqDev d) s = .next s) ∧
  (∀ (s : State) (d : Nat), s.driveState d = dBrake → d < 2 → s.speedMode d = false → (s.on (F.DRV_STATE_DIR d) = false →
      s.torqueTarget d = (fmax (s.torqueRequest d) fzero).w) ∧ (s.on (F.DRV_STATE_DIR d) = true →
      s.torqueTarget d = (fmin (s.torqueRequest d) fzero).w)) ∧
  (∀ (s : State) (d : Nat), d < 2 → s.speedMode d = true → (s.driveState d ≠ dBrake → s.torqueTarget d = (s.torqueLimit d).w) ∧
      (s.driveState d = dBrake → s.on (F.DRV_STATE_DIR d) = false → s.torqueTarget d = (fmax (s.torqueLimit d) fzero).w) ∧
      (s.driveState d = dBrake → s.on (F.DRV_STATE_DIR d) = true → s.torqueTarget d = (fmin (fneg (s.torqueLimit d)) fzero).w)) ∧
  (∀ (s : State) (d : Nat) (v : Word), d < 2 → s.driveState d = dRun → s.speedMode d = false → (s.drive d).rampDue = false → f32Bad v = false →
      (s.trqWrite d v).rd (R.DRV_TREF d) = (fclamp (fin v) (fneg (s.torqueLimit d)) (s.torqueLimit d)).w ∧
      (s.trqWrite d v).rd (R.DRV_TRQ d) = v ∧ OnlyRegs [R.DRV_TREF d, R.DRV_TRQ d] s (s.trqWrite d v)) ∧
  (∀ (s : State) (d : Nat) (v : Word), d < 2 → s.driveState d = dOff → (s.trqWrite d v).rd (R.DRV_TREF d) = s.rd (R.DRV_TREF d))

/-- Die sensors, persistence of the flags, derating, NTC curves and the band: no valid band reads as 7 (from R228, R440 to R446). -/
def Obligations.ThermalRules : Prop :=
  (∀ (s : State) (v : BitVec 16), s.sup.die = .running → (∀ i < 16, s.excluded i = false) → (∀ k < 4, s.therm.count.get k < 3) → s.therm.hard = false →
      Completes (exec (.dieSensorSample (List.replicate 12 v) (some (List.replicate 4 v))) s) (fun t =>
        (∀ i < 16, t.sensor i = v.toInt ∧ t.excluded i = false) ∧ t.therm.age = 0 ∧
        t.ifld F.THRM_DIE_TCD = v.toInt ∧ t.ifld F.THRM_DIE_TSD = v.toInt ∧ t.on F.THRM_STATUS_DIE_SENSE = false ∧
        t.on F.THRM_STATUS_WARN = s.on F.THRM_STATUS_WARN ∧ t.on F.THRM_STATUS_THROTTLE = s.on F.THRM_STATUS_THROTTLE ∧
        t.on F.THRM_STATUS_SHUTDOWN = s.on F.THRM_STATUS_SHUTDOWN ∧ OnlyPages [0x14] s t ∧ SameMemory s t)) ∧
  (∀ (s : State) (k : Nat) (was up dn : Bool), (s.thermFlag k was up dn).1 ≠ was ↔
      3 ≤ s.therm.count.get k ∧ (if was then dn else up) = true) ∧
  (∀ s : State, s.sup.die = .running → (s.therm.grace = false → exec .sdGraceExpiry s = .next s) ∧ (s.therm.grace = true → exec .sdGraceExpiry s =
      .next ({ s with therm := { s.therm with grace := false } } : State).sdHard)) ∧
  (∀ s : State, s.sup.die = .running → s.on F.THRM_STATUS_THROTTLE = false → s.driveState 0 = dOff → s.driveState 1 = dOff →
      Completes (exec .derateUpdate s) (fun t => t.fld F.THRM_DERATE_KTH = 256 ∧ OnlyRegs [R.THRM_DERATE] s t)) ∧
  (∀ s : State, s.sup.die = .running → s.on F.THRM_STATUS_THROTTLE = true → s.driveState 0 = dOff → s.driveState 1 = dOff →
      Completes (exec .derateUpdate s) (fun t => (t.fld F.THRM_DERATE_KTH : Int) = max (s.fld F.THRM_CFG_KMIN : Int) (min 256
        (256 - rneDivPow ((max (s.ifld F.THRM_DIE_TCD) (s.ifld F.THRM_DIE_TSD) - 2400) * s.fld F.THRM_CFG_DSLOPE) 4)) ∧
        OnlyRegs [R.THRM_DERATE] s t)) ∧
  (∀ (s : State) (n : Nat) (v : Int), n < 6 → (v < 0 → s.fld (F.THRM_NTC_CODE_LO n) ≠ 0 → s.ntcResult n true v =
      (s.iset (F.THRM_NTCT_T n) (s.ntcTemp (s.fld (F.THRM_NTC_CURVE n)) v)).ntcFault n)) ∧
  (∀ (s : State) (n : Fin 6), s.sup.die = .running → s.clocked 0x14 = true → s.on (F.THRM_NTC_EN n) = true →
      exec (.ntcAgeTimeout n) s = .next (s.ntcFault n)) ∧
  (∀ (s : State) (n : Nat), n < 6 → (s.ntcFault n).on (F.THRM_NTCT_FAULT n) = true ∧ (s.ntcFault n).on F.THRM_EVENT_NTC_FAULT = true ∧
      bit ((s.ntcFault n).fld F.THRM_MOD_GOOD) n = false ∧ OnlyRegs [R.THRM_NTCT n, R.THRM_EVENT, R.THRM_MOD] s { s.ntcFault n with therm := s.therm }) ∧
  (∀ (s : State) (c : Nat), s.ntcTemp c 0 = s.ifld (F.THRM_CURVE_T c 0) ∧ s.ntcTemp c 256 = s.ifld (F.THRM_CURVE_T c 1)) ∧
  (∀ s : State, (∀ n < 6, s.on (F.THRM_NTC_EN n) = false) → s.bandCatch.fld F.THRM_STATUS_BAND = 7 ∧
      s.bandCatch.on F.THRM_STATUS_BAND_VALID = false)

/-- Setpoint control, pulse inputs, generators and injection amplitudes (from R297, R300, R305, R308, R310, R311, R313). -/
def Obligations.TuningCommands : Prop :=
  (∀ (s : State) (m : Master) (v : Word), s.sup.die = .running → s.blockStops m R.SP_CTRL true = none → (∀ u < 4, s.unitOn u = false) →
      Completes (exec (.spCtrlWrite m v) s) (fun t => t.rd R.SP_CTRL = v &&& 0x0B0B0F0F ∧ OnlyRegs [R.SP_CTRL] s t)) ∧
  (∀ (s : State) (m : Master) (v : Word), s.sup.die = .running → s.blockStops m R.SP_CTRL true = none → s.unitOn 0 = true →
      (F.SP_CTRL_SRC 0).get v ≠ s.fld (F.SP_CTRL_SRC 0) → exec (.spCtrlWrite m v) s = .next (s.refuse m R.SP_CTRL eBusy true)) ∧
  (∀ (s : State) (k : Fin 2) (a b c g : Nat), s.sup.die = .running → s.clocked 0x13 = true → g = s.fld (F.PIN_CFG_GLITCH k) →
      (s.pin k).level = s.on (F.PIN_CFG_POL k) → a + g ≤ b → b + g ≤ c →
      Completes (exec (.pinPeriod k [(a, !s.on (F.PIN_CFG_POL k)), (b, s.on (F.PIN_CFG_POL k)), (c, !s.on (F.PIN_CFG_POL k))]) s) (fun t =>
        (t.pin k).last = some (c - a, b - a, c + g) ∧ (t.pin k).level = !s.on (F.PIN_CFG_POL k) ∧ t.pin (1 - k) = s.pin (1 - k) ∧
        { t with inj := s.inj } = s)) ∧
  (∀ (s : State) (k : Fin 2) (a b : Nat), s.sup.die = .running → s.clocked 0x13 = true → b < a + s.fld (F.PIN_CFG_GLITCH k) →
      Completes (exec (.pinPeriod k [(a, !(s.pin k).level), (b, (s.pin k).level)]) s) (fun t => t.pin k = s.pin k ∧ { t with inj := s.inj } = s)) ∧
  (∀ (s : State) (k : Fin 2), s.sup.die = .running → s.clocked 0x13 = true → s.on (F.PIN_PER_VALID k) = true → Completes (exec (.pinTimeout k) s) (fun t =>
      t.on (F.PIN_PER_VALID k) = false ∧ t.on F.INJ_EVENT_PIN_LOST = true ∧ (t.pin k).last = none ∧
      OnlyRegs [R.PIN_PER k, R.INJ_EVENT] s { t with inj := s.inj })) ∧
  (∀ (s : State) (m : Master) (g : Fin 2) (st c : Nat), s.sup.die = .running → s.blockStops m (R.INJ_CMD g) true = none →
      st = s.num48 (F.INJ_START_LO_S_LO g) (F.INJ_START_HI_S_HI g) → c = s.startCode g st → c ≠ 0 →
      Completes (exec (.injStart m g) s) (fun t => t.fld (F.INJ_STATUS_CODE g) = c ∧ OnlyRegs [R.INJ_STATUS g] s t)) ∧
  (∀ (s : State) (m : Master) (g : Fin 2) (st : Nat), s.sup.die = .running → s.blockStops m (R.INJ_CMD g) true = none →
      st = s.num48 (F.INJ_START_LO_S_LO g) (F.INJ_START_HI_S_HI g) → s.startCode g st = 0 →
      Completes (exec (.injStart m g) s) (fun t => t.fld (F.INJ_STATUS_STATE g) = 1 ∧ t.rd (R.INJ_POS g) = 0 ∧
        (t.gen g).start = (if st = 0 then s.cat.num + 2 else st) ∧ (t.gen g).len = s.genLen g ∧ (t.gen g).lfsr ≠ 0 ∧
        OnlyRegs [R.INJ_STATUS g, R.INJ_POS g] s { t with inj := s.inj })) ∧
  (∀ (s : State) (m : Master) (g : Fin 2), s.sup.die = .running → s.blockStops m (R.INJ_CMD g) true = none → s.fld (F.INJ_STATUS_STATE g) = 2 →
      Completes (exec (.injStop m g) s) (fun t => t.fld (F.INJ_STATUS_STATE g) = 3 ∧
        (t.gen g).len = s.cat.num - (s.gen g).start + max 1 (s.fld (F.INJ_TAPER_TAPER g)) ∧
        OnlyRegs [R.INJ_STATUS g] s { t with inj := s.inj })) ∧
  (∀ (s : State) (m : Master) (g : Fin 2), s.sup.die = .running → s.blockStops m (R.INJ_CMD g) true = none → s.fld (F.INJ_STATUS_STATE g) ≠ 2 →
      exec (.injStop m g) s = .next s) ∧
  (∀ (s : State) (m : Master) (g : Fin 2), s.sup.die = .running → s.blockStops m (R.INJ_CMD g) true = none → s.genBusy g = true → (s.gen g).abort = 0 →
      Completes (exec (.injAbort m g) s) (fun t => (t.gen g).abort = 0x10 ∧ (t.gen (1 - g)) = s.gen (1 - g) ∧ { t with inj := s.inj } = s)) ∧
  (∀ (s : State) (m : Master) (g : Fin 2), s.sup.die = .running → s.blockStops m (R.INJ_CMD g) true = none → s.genBusy g = false →
      exec (.injAbort m g) s = .next s) ∧
  (∀ (s : State) (m : Master) (p : Fin 8) (v : Word), s.sup.die = .running → s.blockStops m (R.INJ_AMP p) true = none →
      s.genBusy (s.fld (F.INJ_PTCTL_GEN p)) = true → exec (.injAmpWrite m p v) s = .next (s.refuse m (R.INJ_AMP p) eBusy true)) ∧
  (∀ (s : State) (m : Master) (p : Fin 8) (v : Word) (u k a : Nat), s.sup.die = .running → s.blockStops m (R.INJ_AMP p) true = none →
      s.genBusy (s.fld (F.INJ_PTCTL_GEN p)) = false → s.live.point p = some (u, k, a) →
      (f32Bad v = true ∨ flLt (flOf (BitVec.ofNat 32 a)) (flAbs (flOf v)) = true → Completes (exec (.injAmpWrite m p v) s) (fun t =>
        t.rd (R.INJ_AMP p) = BitVec.ofNat 32 a ∧ t.on F.INJ_EVENT_AMP_LIM = true ∧ OnlyRegs [R.INJ_AMP p, R.INJ_EVENT] s t)) ∧
      (f32Bad v = false → flLt (flOf (BitVec.ofNat 32 a)) (flAbs (flOf v)) = false → Completes (exec (.injAmpWrite m p v) s) (fun t =>
        t.rd (R.INJ_AMP p) = v ∧ OnlyRegs [R.INJ_AMP p] s t)))

/-- Capture channels: a running channel writes its entry in SRAM and no byte beside it; a full one counts what it loses (from R315
to R317, R320). -/
def Obligations.CaptureChannels : Prop :=
  (∀ (s : State) (m : Master) (c : Fin 8), s.sup.die = .running → s.blockStops m (R.CAP_CMD c) true = none → (s.capState c = capArmed ∨ s.capState c = capRun) →
      exec (.capArm m c) s = .next (s.refuse m (R.CAP_CMD c) eBusy true) ∧ Completes (exec (.capStop m c) s) (fun t =>
        bit t.inj.capStop c = true ∧ { t with inj := s.inj } = s)) ∧
  (∀ (s : State) (m : Master) (c : Fin 8), s.sup.die = .running → s.blockStops m (R.CAP_CMD c) true = none → s.capState c ≠ capArmed → s.capState c ≠ capRun →
      exec (.capStop m c) s = .next s ∧ Completes (exec (.capArm m c) s) (fun t => t.capState c = capArmed ∧ t.fld (F.CAP_WIDX_WIDX c) = 0 ∧
        t.fld (F.CAP_LOST_LOST c) = 0 ∧ t.on (F.CAP_STAT_WRAPPED c) = false ∧ bit t.inj.capStop c = false ∧
        (s.fld (F.CAP_CFG_TRIG c) ≠ 1 → t.inj.capAt.get c = s.cat.num + 1) ∧
        OnlyRegs [R.CAP_STAT c, R.CAP_WIDX c, R.CAP_LOST c] s { t with inj := s.inj })) ∧
  (∀ (s : State) (c : Nat) (ws : List Word), c < 8 → s.capState c = capFull ∨ s.capState c = capFrozen →
      (s.capWrite c ws).fld (F.CAP_LOST_LOST c) = min (s.fld (F.CAP_LOST_LOST c) + 1) (2 ^ 32 - 1) ∧ SameMemory s (s.capWrite c ws) ∧
      OnlyRegs [R.CAP_LOST c] s (s.capWrite c ws)) ∧
  (∀ (s : State) (c a n : Nat) (ws : List Word), c < 8 → s.capState c = capRun → n = s.fld (F.CAP_WIDX_WIDX c) → n + 1 < s.capSize c →
      n + 1 < 2 ^ 32 → s.inj.post = [] → a = s.capAddr c n →
      (s.capWrite c ws).sramWord a = BitVec.ofNat 32 s.cat.num ∧
      (∀ i, i < ws.length → (s.capWrite c ws).sramWord (a + 4 * (i + 1)) = ws.getD i 0) ∧
      (∀ x, x < a ∨ a + 4 * (ws.length + 1) ≤ x → (s.capWrite c ws).byte x = s.byte x) ∧
      (s.capWrite c ws).fld (F.CAP_WIDX_WIDX c) = n + 1 ∧
      OnlyRegs [R.CAP_WIDX c] s { s.capWrite c ws with sram := s.sram }) ∧
  (∀ (s : State) (g : Fin 2) (io frf : Fin 8) (k : Fin 32), s.sup.die = .running → s.fld F.FAB_ROT_STATE = 0 ∨ s.fld F.FAB_ROT_STATE = 2 →
      s.fab.pool ≠ [] → ∃ (fl : Nat) (ws : List Word), ws.length = 8 ∧ ws.getD 0 0 = BitVec.ofNat 32 k ∧
        exec (.frfPoint g io frf k) s = .next ((s.raiseUnits [0, 1, 2, 3] fl).capWrite frf ws)) ∧
  (∀ (s : State) (g : Fin 2) (io frf : Fin 8) (k : Fin 32), s.sup.die = .running → s.fld F.FAB_ROT_STATE = 1 ∨ s.fld F.FAB_ROT_STATE = 3 →
      exec (.frfPoint g io frf k) s = .next s)

/-- Encoders: what the filter passes, a step counts by one, a turn of direction does not count, an illegal sample ends the alignment
(from R353 to R356, R365; that A before B counts up with INV clear is the model's choice, log entry 112). -/
def Obligations.EncoderFeedback : Prop :=
  (∀ (s : State) (x : Fin 2) (a b z : List (Nat × Bool)), s.sup.die = .running → s.live.hasPos x = false → exec (.encStep x a b) s = .next s ∧
      exec (.encIndex x z) s = .next s ∧ exec (.encZeroTimeout x) s = .next s) ∧
  (∀ (s : State) (x : Fin 2) (n m : Nat), s.sup.die = .running → s.clocked (0x10 + x) = true → s.live.hasPos x = true →
      m ≤ n + s.fld (F.ENC_CFG_FILT x) → exec (.encStep x [(n, !(s.enc x).a), (m, (s.enc x).a)] []) s = .next s) ∧
  (∀ (s : State) (x : Fin 2) (n : Nat), s.sup.die = .running → s.clocked (0x10 + x) = true → s.live.hasPos x = true → (s.enc x).rev = false →
      (s.enc x).a = ((s.enc x).b != s.on (F.ENC_CFG_INV x)) → Completes (exec (.encStep x [(n, !(s.enc x).a)] []) s) (fun t =>
        (t.enc x).c = ((s.enc x).c + 1) % 2 ^ 32 ∧ (t.enc x).step = some (((s.enc x).c + 1) % 2 ^ 32, n + s.fld (F.ENC_CFG_FILT x)) ∧
        (t.enc x).a = !(s.enc x).a ∧ (t.enc x).b = (s.enc x).b ∧ { t with pos := s.pos } = s)) ∧
  (∀ (s : State) (x : Fin 2) (n : Nat), s.sup.die = .running → s.clocked (0x10 + x) = true → s.live.hasPos x = true → (s.enc x).rev = true →
      (s.enc x).a = ((s.enc x).b != s.on (F.ENC_CFG_INV x)) → Completes (exec (.encStep x [] [(n, !(s.enc x).b)]) s) (fun t =>
        (t.enc x).c = ((s.enc x).c + 2 ^ 32 - 1) % 2 ^ 32 ∧ (t.enc x).b = !(s.enc x).b ∧ { t with pos := s.pos } = s)) ∧
  (∀ (s : State) (x : Fin 2) (n : Nat), s.sup.die = .running → s.clocked (0x10 + x) = true → s.live.hasPos x = true →
      (s.enc x).rev = ((s.enc x).a == ((s.enc x).b != s.on (F.ENC_CFG_INV x))) → Completes (exec (.encStep x [(n, !(s.enc x).a)] []) s) (fun t =>
        (t.enc x).c = (s.enc x).c ∧ (t.enc x).rev = !(s.enc x).rev ∧ OnlyRegs [R.ENC_STAT x] s { t with pos := s.pos })) ∧
  (∀ (s : State) (x : Fin 2) (n : Nat), s.sup.die = .running → s.clocked (0x10 + x) = true → s.live.hasPos x = true →
      Completes (exec (.encStep x [(n, !(s.enc x).a)] [(n, !(s.enc x).b)]) s) (fun t =>
        t.fld (F.ENC_STAT_ILLEGAL x) = min (s.fld (F.ENC_STAT_ILLEGAL x) + 1) 255 ∧ t.on (F.POS_EVENT_ENC_ILLEGAL x) = true ∧
        t.encQual x = false ∧ (t.enc x).c = (s.enc x).c ∧ OnlyRegs [R.ENC_STAT x, R.POS_EVENT x] s { t with pos := s.pos })) ∧
  (∀ (s : State) (x : Fin 2) (n : Nat), s.sup.die = .running → s.clocked (0x10 + x) = true → s.live.hasPos x = true →
      (s.fld (F.ENC_CFG_ZMODE x) = 1 ∨ s.fld (F.ENC_CFG_ZMODE x) = 2) → (s.enc x).z = false → (s.enc x).src = 0 → (s.enc x).indexSeen = false →
      (s.enc x).c < 2 ^ 32 → Completes (exec (.encIndex x [(n, true)]) s) (fun t =>
        t.fld (F.ENC_CREF_CREF x) = (s.enc x).c ∧ (t.enc x).src = 1 ∧ (t.enc x).indexSeen = true ∧ (t.enc x).z = true ∧
        t.on (F.POS_EVENT_ENC_ALIGNED x) = true ∧ t.encQual x = true ∧
        OnlyRegs [R.ENC_CREF x, R.ENC_STAT x, R.POS_EVENT x] s { t with pos := s.pos })) ∧
  (∀ (s : State) (x : Fin 2) (n : Nat), s.sup.die = .running → s.clocked (0x10 + x) = true → s.live.hasPos x = true →
      s.fld (F.ENC_CFG_ZMODE x) = 0 → (s.enc x).z = false → Completes (exec (.encIndex x [(n, true)]) s) (fun t =>
        t.enc x = { s.enc x with z := true } ∧ { t with pos := s.pos } = s)) ∧
  (∀ (s : State) (x : Fin 2), s.sup.die = .running → s.clocked (0x10 + x) = true → s.live.hasPos x = true →
      Completes (exec (.encZeroTimeout x) s) (fun t => t.rd (R.ENC_SPD x) = 0 ∧
        (t.enc x).slow = true ∧ OnlyRegs [R.ENC_SPD x, R.ENC_STAT x] s { t with pos := s.pos }))

/-- Hall sets and serial sensors (from R357 to R363). -/
def Obligations.HallAndSerialFeedback : Prop :=
  (∀ (s : State) (x : Fin 2) (u v w : List (Nat × Bool)), s.sup.die = .running → s.live.hasPos (2 + x) = false →
      exec (.hallChange x u v w) s = .next s) ∧
  (∀ (s : State) (x : Fin 2) (k : Fin 3) (n lev : Nat) (v : Bool) (ch : Fin 3 → List (Nat × Bool)), s.sup.die = .running →
      s.clocked (0x10 + x) = true → s.live.hasPos (2 + x) = true → v ≠ bit (s.hall x).level k →
      (s.hall x).code ≠ none ∨ n < (s.hall x).since + 64 * s.fld (F.HALL_CFG_HFILT x) → ch = (fun i => if i = k then [(n, v)] else []) →
      lev = (if v then setBit (s.hall x).level k else clearBit (s.hall x).level k) → exec (.hallChange x (ch 0) (ch 1) (ch 2)) s =
        .next ((s.setHall x { s.hall x with level := lev }).hallState x lev (n + 64 * s.fld (F.HALL_CFG_HFILT x)))) ∧
  (∀ (s : State) (x : Fin 2) (k : Fin 3) (n m : Nat) (ch : Fin 3 → List (Nat × Bool)), s.sup.die = .running →
      s.clocked (0x10 + x) = true → s.live.hasPos (2 + x) = true → n ≤ m → m < n + 64 * s.fld (F.HALL_CFG_HFILT x) →
      (s.hall x).code ≠ none ∨ n < (s.hall x).since + 64 * s.fld (F.HALL_CFG_HFILT x) →
      ch = (fun i => if i = k then [(n, !bit (s.hall x).level k), (m, bit (s.hall x).level k)] else []) →
      exec (.hallChange x (ch 0) (ch 1) (ch 2)) s = .next s) ∧
  (∀ (s : State) (x : Fin 2) (n m : Nat), s.sup.die = .running → s.clocked (0x10 + x) = true → s.live.hasPos (2 + x) = true →
      (s.hall x).code = none → m = (s.hall x).since + 64 * s.fld (F.HALL_CFG_HFILT x) → m ≤ n →
      exec (.hallChange x [(n, bit (s.hall x).level 0)] [] []) s = .next (s.hallState x (s.hall x).level m)) ∧
  (∀ (s t : State) (x : Fin 2) (c : Fin 8) (n : Nat), (c = 0 ∨ c = 7) → t = s.hallState x c n →
      t.on (F.HALL_STATE_BAD x) = true ∧ (t.hall x).qual = false ∧ t.on (F.POS_EVENT_HALL_BAD x) = true ∧ t.fld (F.HALL_STATE_CODE x) = c ∧
        OnlyRegs [R.HALL_STATE x, R.POS_EVENT x] s { t with pos := s.pos }) ∧
  (∀ (s t : State) (x : Fin 2) (p c : Fin 8) (n j : Nat), s.live.hasPos x = false →
      (s.hall x).code = some p.val → j < 6 → p.val = (hallSeq (s.on (F.HALL_CFG_ORDER x))).getD j 0 →
      c.val = (hallSeq (s.on (F.HALL_CFG_ORDER x))).getD ((j + 1) % 6) 0 → t = s.hallState x c n →
        (t.hall x).code = some c.val ∧ (t.hall x).rev = false ∧ (t.hall x).trans = some ((j + 1) % 6, n) ∧ (t.hall x).abs = true ∧
        OnlyRegs [R.HALL_STATE x] s { t with pos := s.pos }) ∧
  (∀ (s t : State) (x : Fin 2) (p c : Fin 8) (n j k : Nat),
      (s.hall x).code = some p.val → j < 6 → k < 6 → k ≠ j → k ≠ (j + 1) % 6 → j ≠ (k + 1) % 6 →
      p.val = (hallSeq (s.on (F.HALL_CFG_ORDER x))).getD j 0 → c.val = (hallSeq (s.on (F.HALL_CFG_ORDER x))).getD k 0 →
      t = s.hallState x c n → (t.hall x).qual = false ∧ t.on (F.POS_EVENT_HALL_SEQ x) = true ∧
        (t.hall x).speed = none ∧ OnlyRegs [R.HALL_STATE x, R.POS_EVENT x] s { t with pos := s.pos }) ∧
  (∀ (s : State) (x : Fin 2) (c : Nat), s.sup.die = .running → s.clocked (0x10 + x) = true → (s.hall x).code = some c → c ≠ 0 → c ≠ 7 →
      Completes (exec (.hallQual x) s) (fun t =>
        (t.hall x).qual = true ∧ t.on (F.HALL_STATE_BAD x) = false ∧ OnlyRegs [R.HALL_STATE x] s { t with pos := s.pos })) ∧
  (∀ (s : State) (x : Fin 2), s.sup.die = .running → s.clocked (0x10 + x) = true → s.live.hasPos (2 + x) = true →
      Completes (exec (.hallTimeout x) s) (fun t => (t.hall x).speed = none ∧ { t with pos := s.pos } = s)) ∧
  (∀ (s : State) (x : Fin 2) (n tick : Nat), s.sup.die = .running → s.clocked (0x10 + x) = true → s.live.hasPos (4 + x) = true →
      n % 2 ^ s.fld (F.SER_CFG_K x) = 0 → (s.ser x).busy = false →
      Completes (exec (.serialFrameStart x false n tick) s) (fun t => (t.ser x).busy = true ∧ (t.ser x).frame = (n, tick) ∧
        { t with pos := s.pos } = s)) ∧
  (∀ (s : State) (x : Fin 2) (low : Bool) (n tick : Nat), s.sup.die = .running → s.clocked (0x10 + x) = true → s.live.hasPos (4 + x) = true →
      n % 2 ^ s.fld (F.SER_CFG_K x) = 0 → (s.ser x).busy = true ∨ low = true → exec (.serialFrameStart x low n tick) s = .next (s.serEnd x n 1 none)) ∧
  (∀ (s : State) (x : Fin 2) (low : Bool) (n tick : Nat), s.sup.die = .running → n % 2 ^ s.fld (F.SER_CFG_K x) ≠ 0 →
      exec (.serialFrameStart x low n tick) s = .next s) ∧
  (∀ (s t : State) (x : Fin 2) (di : List (Nat × Bool)) (t0 : Nat), s.sup.die = .running → s.clocked (0x10 + x) = true → (s.ser x).busy = true →
      t0 = (s.ser x).frame.2 + s.fld (F.SER_TIME_TRIG x) → t = s.setSer x { s.ser x with busy := false } →
      (t.serTicks x t0 di = none → exec (.serialFrameEnd x di) s = .next (t.serEnd x (s.ser x).frame.1 2 none)) ∧
      (∀ (ts : List Nat) (mt raw : Nat) (err warn ok : Bool), t.serTicks x t0 di = some ts → (∀ u ∈ ts, u ≤ t0 + 16 * s.fld (F.SER_TIME_WTMO x)) →
        t.serRead x (ts.map (levelAt di)) = (mt, raw, err, warn, ok) →
        (ok = false → exec (.serialFrameEnd x di) s = .next (t.serEnd x (s.ser x).frame.1 4 none)) ∧
        (ok = true → err = true → exec (.serialFrameEnd x di) s = .next (t.serEnd x (s.ser x).frame.1 5 none)) ∧
        (ok = true → err = false → exec (.serialFrameEnd x di) s = .next ((t.set (F.SER_STAT_WARN x) warn.toNat).serGood x raw mt)))) ∧
  (∀ (s : State) (x : Fin 2) (t0 : Nat) (di : List (Nat × Bool)), s.on (F.SER_CFG_PROTO x) = false → s.serTicks x t0 di =
      some ((List.range (s.fld (F.SER_FMT_MT x) + s.fld (F.SER_FMT_ST x) + s.fld (F.SER_FMT_ERRB x) + s.fld (F.SER_FMT_CRCLEN x))).map
        (fun k => t0 + 2 * k * s.fld (F.SER_CFG_DIV x) + s.fld (F.SER_CFG_DLY x)))) ∧
  (∀ (s : State) (x : Fin 2) (di : List (Nat × Bool)), s.sup.die = .running → (s.ser x).busy = false → exec (.serialTimeout x) s = .next s ∧
      exec (.serialFrameEnd x di) s = .next s) ∧
  (∀ (s : State) (x : Fin 2), s.sup.die = .running → s.clocked (0x10 + x) = true → (s.ser x).busy = true → (s.ser x).codes = [] →
      1 < s.fld (F.SER_QCFG_QLOSS x) → (s.ser x).qual = false → Completes (exec (.serialTimeout x) s) (fun t =>
        (t.ser x).busy = false ∧ (t.ser x).code = 3 ∧ (t.ser x).run = 0 ∧
        (t.ser x).lastErr = 3 ∧ t.fld (F.SER_STAT_ERRCNT x) = min (s.fld (F.SER_STAT_ERRCNT x) + 1) 65535 ∧
        t.on (F.POS_EVENT_SER_ERR x) = true ∧ OnlyRegs [R.SER_STAT x, R.POS_EVENT x] s { t with pos := s.pos }))

/-- The self-test at start, keys, firmware slots, tests on request and the end of a signature (from R511, R512, R516 to R520, R530 to R541). -/
def Obligations.SelfTestAndBoot : Prop :=
  (∀ (s : State) (sig : Word), s.sup.umpire = true → (s.sup.die = .down ∨ s.sup.die = .held) → s.sup.umpTest = false →
      (s.sigMatches 5 sig = true → Completes (exec (.bistPhaseEnd (.umpire sig) []) s) (fun t => t.fld (F.BIST_LBIST_PASS 5) = 1 ∧
        t.sup = { s.sup with umpTest := true } ∧ OnlyRegs [R.BIST_LBIST 5] s { t with sup := s.sup })) ∧
      (s.sigMatches 5 sig = false → Completes (exec (.bistPhaseEnd (.umpire sig) []) s) (fun t => t.sup.die = .resetHold ∧ t.sup.code = 0x19 ∧
        t.sec.island = some 5 ∧ t.fld (F.BIST_LBIST_PASS 5) = 0 ∧ t.sup.umpire = false ∧ t.sup.rcStopped = true ∧
        t.fld F.UMP_CTRSTAT_CMDED = 0 ∧ SameMemory s t))) ∧
  (∀ (s : State) (reads : List GateRead), s.sup.umpire = true → s.gateTestDue = true →
      (gateFails reads = none → exec (.bistPhaseEnd (.gateOff reads) []) s = .next { s with sup := { s.sup with gateTest := true } }) ∧
      (∀ b, gateFails reads = some b → Completes (exec (.bistPhaseEnd (.gateOff reads) []) s) (fun t => t.sup.gateTest = true ∧
        t.ump.grbLatched = true ∧ (s.ump.grbLatched = false → t.fld F.BIST_GRB_BALL = b.val ∧ t.on F.BIST_GRB_LATCH = true) ∧
        (∀ u < 4, t.umpHeld u = true)))) ∧
  (∀ (reads : List GateRead), (gateFails reads = none ↔ ∀ b : Fin 52, ∃ r ∈ reads, r.ball = b ∧ gateReadOk r = true) ∧
      ∀ r : GateRead, gateReadOk r = true ↔ r.ballHigh = false ∧ (∃ k ≤ 100, r.onNs = some k) ∧ ∃ k ≤ 100, r.offNs = some k) ∧
  (∀ (s : State) (fails : List MemLine) (again : List (Fin 88)) (ms : Nat) (m : MemTest), s.sup.die = .running → s.boot.step = 0 →
      m = memTest s.fuses.repairs fails again → m.fatal = none →
      Completes (exec (.bistPhaseEnd (.memory false fails again ms) []) s) (fun t => t.boot = { s.boot with step := 1, soft := m.soft } ∧
        t.on F.BIST_RESULT_MEM_OK = true ∧ t.fld F.BIST_MEM_FUSED = min s.fuses.repairs.length 255 ∧
        t.fld F.BIST_MEM_SOFT = min m.soft.length 255 ∧ t.on F.BIST_RESULT_REPAIRED = !m.soft.isEmpty ∧
        t.sram = [] ∧ t.half0 = [] ∧ t.half1 = [] ∧ t.locals = [] ∧ t.caches = [] ∧
        (∀ x < 16, bit (t.fld F.FAB_SEATS_HEALTHY) x = (bit (s.fld F.FAB_SEATS_HEALTHY) x && !m.seats.contains x)) ∧
        (m.seats ≠ [] → t.on F.BIST_RESULT_SEAT_RETIRED = true) ∧
        ∀ a, a ∉ [R.BIST_MEM, R.BIST_RESULT, R.FAB_SEATS] → t.rd a = s.rd a)) ∧
  (∀ (s : State) (fails : List MemLine) (again : List (Fin 88)) (ms : Nat), s.sup.die = .running → s.boot.step = 0 →
      Completes (exec (.bistPhaseEnd (.memory true fails again ms) []) s) (fun t => t.boot.step = 7 ∧
        t.fld F.SEC_BOOT_CODE = 0x10 ∧ t.fld F.SEC_BOOT_MS = min ms 255 ∧ OnlyRegs [R.SEC_BOOT] s { t with boot := s.boot })) ∧
  (∀ (s : State) (fails : List MemLine) (again : List (Fin 88)) (ms a : Nat), s.sup.die = .running → s.boot.step = 0 →
      (memTest s.fuses.repairs fails again).fatal = some a →
      Completes (exec (.bistPhaseEnd (.memory false fails again ms) []) s) (fun t => t.boot.step = 7 ∧
        t.fld F.BIST_RESULT_CODE = 1 ∧ t.fld F.BIST_RESULT_UNIT = a ∧ t.on F.BIST_RESULT_MEM_OK = s.on F.BIST_RESULT_MEM_OK ∧
        t.fld F.SEC_BOOT_CODE = s.fld F.SEC_BOOT_CODE ∧ t.fld F.SEC_BOOT_MS = min ms 255 ∧ t.sram = [] ∧ t.half0 = [] ∧ t.half1 = [] ∧
        ∀ a, a ∉ [R.BIST_MEM, R.BIST_RESULT, R.FAB_SEATS, R.SEC_BOOT] → t.rd a = s.rd a)) ∧
  (∀ (repairs fails : List MemLine) (again : List (Fin 88)) (x : MemLine) (a : Fin 88) (short : Fin 88 → Prop),
      (∀ a, short a ↔ ∃ c : Bool, spares a c < sparesOf repairs a c + sparesOf (fails.eraseDups.filter (fun x => !repairs.contains x)) a c) →
      (x ∈ (memTest repairs fails again).soft ↔ x ∈ fails ∧ x ∉ repairs ∧ ¬ short x.array) ∧
      (a ∈ (memTest repairs fails again).dead ↔ short a ∨ (a ∈ again ∧ ∃ x ∈ (memTest repairs fails again).soft, x.array = a))) ∧
  (∀ (s : State) (x y : Word) (a b : Nat), s.sup.die = .running → s.boot.step = 1 →
      (s.sigMatches 0 x = true → s.sigMatches 3 y = true → Completes (exec (.bistPhaseEnd (.logicA x y a b) []) s) (fun t => t.boot.step = 2 ∧
        t.fld (F.BIST_LBIST_PASS 0) = 1 ∧ t.fld (F.BIST_LBIST_PASS 3) = 1 ∧ t.fld (F.BIST_LBIST_MS 0) = min a 255 ∧
        t.fld (F.BIST_LBIST_MS 3) = min b 255 ∧ OnlyRegs [R.BIST_LBIST 0, R.BIST_LBIST 3] s { t with boot := s.boot })) ∧
      (s.sigMatches 0 x = false → Completes (exec (.bistPhaseEnd (.logicA x y a b) []) s) (fun t =>
        t.sup.die = .resetHold ∧ t.sup.code = 0x19 ∧ t.sec.island = some 0)) ∧
      (s.sigMatches 0 x = true → s.sigMatches 3 y = false → Completes (exec (.bistPhaseEnd (.logicA x y a b) []) s) (fun t =>
        t.sup.die = .resetHold ∧ t.sup.code = 0x19 ∧ t.sec.island = some 3))) ∧
  (∀ (s : State) (x y z : Word) (a b c : Nat), s.sup.die = .running → s.boot.step = 2 → s.sigMatches 1 x = true → s.sigMatches 2 y = true →
      s.sigMatches 4 z = true → Completes (exec (.bistPhaseEnd (.logicB x y z a b c) []) s) (fun t =>
        t.on F.BIST_RESULT_LBIST_OK = true ∧ t.boot = { s.boot with
          step := 3
          latch := if s.on F.SEC_LC_SEED_OK = true ∧ s.fld F.SEC_LC_STATE ≠ 3 ∧ s.sec.wiped = false then some Config.fusedSeed
            else s.boot.latch } ∧
        (s.sec.island = none → t.fld (F.BIST_LBIST_PASS 1) = 1 ∧ t.fld (F.BIST_LBIST_PASS 2) = 1 ∧ t.fld (F.BIST_LBIST_PASS 4) = 1 ∧
          OnlyRegs [R.BIST_LBIST 1, R.BIST_LBIST 2, R.BIST_LBIST 4, R.BIST_RESULT] s { t with boot := s.boot }) ∧
        (∀ i, s.sec.island = some i → t.sec.island = none ∧ t.fld F.BIST_RESULT_UNIT = i ∧ t.fld F.BIST_RESULT_CODE = 2 ∧
          t.fld (F.BIST_LBIST_PASS i) = 0))) ∧
  (∀ (s : State) (x y z : Word) (a b c : Nat) (i : Fin 8), s.sup.die = .running → s.boot.step = 2 →
      [(1, x), (2, y), (4, z)].find? (fun e : Fin 8 × Word => !s.sigMatches e.1 e.2) = some (i, [x, y, z].getD (i.val / 2) 0) →
      Completes (exec (.bistPhaseEnd (.logicB x y z a b c) []) s) (fun t => t.sup.die = .resetHold ∧ t.sup.code = 0x19 ∧ t.sec.island = some i)) ∧
  (∀ (s : State) (same : List ResetCause), s.sup.die = .running →
      (∀ (f : Bool) (l : List MemLine) (g : List (Fin 88)) (ms : Nat), s.boot.step ≠ 0 →
        exec (.bistPhaseEnd (.memory f l g ms) same) s = .next (s.beside same)) ∧
      (∀ (x y : Word) (a b : Nat), s.boot.step ≠ 1 → exec (.bistPhaseEnd (.logicA x y a b) same) s = .next (s.beside same)) ∧
      (∀ (x y z : Word) (a b c : Nat), s.boot.step ≠ 2 → exec (.bistPhaseEnd (.logicB x y z a b c) same) s = .next (s.beside same)) ∧
      (∀ (l : List Loopback) (f : List SarRefs) (g : List (List (BitVec 16))) (ms : Nat), s.boot.step ≠ 3 →
        exec (.bistPhaseEnd (.analogue l f g ms) same) s = .next (s.beside same)) ∧
      (∀ (f : Bool) (l : List MemLine) (g : List (Fin 88)) (ms : Nat), s.boot.step = 0 → Completes (exec (.bistPhaseEnd (.memory f l g ms) []) s)
        (fun t => exec (.bistPhaseEnd (.memory f l g ms) same) s = .next (t.beside same))) ∧
      (∀ (l : List Loopback) (f : List SarRefs) (g : List (List (BitVec 16))) (ms : Nat), s.boot.step = 3 →
        Completes (exec (.bistPhaseEnd (.analogue l f g ms) []) s) (fun t => exec (.bistPhaseEnd (.analogue l f g ms) same) s =
          .next (t.beside same)))) ∧
  (∀ (s : State) (ms : Nat), s.sup.die = .running → s.boot.step = 3 → Completes (exec (.bistPhaseEnd (.analogue [] [] [] ms) []) s) (fun t => t.boot.step = 4 ∧
      t.on F.BIST_RESULT_ANA_OK = true ∧ t.fld F.BIST_RESULT_MS = min ms 255 ∧
      OnlyRegs [R.BIST_SD0, R.BIST_SD1, R.BIST_SAR, R.BIST_RESULT] s { t with boot := s.boot })) ∧
  (∀ (s : State) (loops : List Loopback) (x : Loopback) (ms : Nat), s.sup.die = .running → s.boot.step = 3 → x ∈ loops → loopOk x 10648 64 8192 = false →
      Completes (exec (.bistPhaseEnd (.analogue loops [] [] ms) []) s) (fun t => bit t.sense.sdFailed x.input = true ∧ t.on F.BIST_EVENT_SD_FAIL = true ∧
        t.on F.BIST_RESULT_ANA_OK = false ∧ t.boot.step = 4)) ∧
  (∀ x : Loopback, loopOk x 10648 64 8192 = true ↔ (x.hiS - 5324).natAbs ≤ 8 ∧ (x.loS + 5324).natAbs ≤ 8 ∧ (x.hiP - 32).natAbs ≤ 1 ∧
      (x.loP + 32).natAbs ≤ 1) ∧
  (∀ (s : State) (seed : List Byte), s.sup.die = .running → s.boot.latch = some seed →
      Completes (exec (.keygenDone true) s) (fun t => t.on F.SEC_LC_KEYS_VALID = true ∧
        t.boot = { s.boot with latch := none, keys := (List.range 4896).map (Config.mldsaPrivateKey seed) } ∧
        (∀ k, k < 648 → t.rd (R.SEC_PK k) = bytesWord (publicKey.drop (4 * k))) ∧
        (∀ k, k < 16 → t.rd (R.SEC_ID k) = bytesWord ((digestOf publicKey).drop (4 * k))) ∧ OnlyPages [0x1A] s t ∧ SameMemory s t) ∧
      exec (.keygenDone false) s = .next { s with boot := { s.boot with latch := none } }) ∧
  (∀ (s : State) (ok : Bool), s.sup.die = .running → s.boot.latch = none → exec (.keygenDone ok) s = .next s) ∧
  (∀ (s u : State) (slot : Nat) (image : List Byte) (rest flash : List (Nat × List Byte)) (ms : Nat), s.sup.die = .running →
      s.boot.step = 4 → u = s.set F.SEC_BOOT_MS (min ms 255) → s.fwSlots (flashSlot flash 0) (flashSlot flash 1) = (slot, image) :: rest →
      (u.fwCode image = 0 → s.lsOver 0 = false ∨ s.lsOver 1 = false →
        Completes (exec (.fwSlotVerified flash ms) s) (fun t => t.boot.step = 5 ∧ t.boot.umpRec = flashRecord flash 1 ∧
        t.boot.ifRec = flashRecord flash 2 ∧ t.boot.pairRec = flashRecord flash 3 ∧
        t.fld F.SEC_BOOT_SLOT = slot ∧ t.fld F.SEC_BOOT_CODE = 0 ∧ t.fld F.SEC_BOOT_MS = min ms 255 ∧
        t.fld F.SEC_SVN_FW_SVN = u32 (fun i => image.getD i 0) 8 ∧ t.fld F.SEC_SVN_FW_MIN = s.fld F.SEC_SVN_FW_MIN ∧
        (∀ i, i < u32 (fun i => image.getD i 0) 12 → i < image.length → t.byte (0x20000000 + i) = image.getD i 0) ∧
        (∀ x, x < 0x20000000 ∨ 0x20040000 ≤ x → t.byte x = s.byte x) ∧ OnlyPages [0x1A] s t)) ∧
      (u.fwCode image = 0 → s.lsOver 0 = true → s.lsOver 1 = true → Completes (exec (.fwSlotVerified flash ms) s) (fun t => t.boot.step = 6 ∧
        t.fw = true ∧ t.fld F.SEC_BOOT_SLOT = slot ∧ ∀ p < 32, t.on (F.PAGE_CTRL_SEAL p) = true)) ∧
      (u.fwCode image ≠ 0 → rest ≠ [] → Completes (exec (.fwSlotVerified flash ms) s) (fun t => t.boot.step = 4 ∧
        t.boot.tried = (slot, u.fwCode image) :: s.boot.tried ∧ OnlyRegs [R.SEC_BOOT] s { t with boot := s.boot })) ∧
      (u.fwCode image ≠ 0 → rest = [] → Completes (exec (.fwSlotVerified flash ms) s) (fun t => t.boot.step = 7 ∧
        t.fld F.SEC_BOOT_CODE = u.fwCode image ∧ OnlyRegs [R.SEC_BOOT] s { t with boot := s.boot }))) ∧
  (∀ (s : State) (flash : List (Nat × List Byte)) (ms : Nat), s.sup.die = .running → s.boot.step = 4 → s.fwSlots (flashSlot flash 0) (flashSlot flash 1) = [] → s.boot.tried = [] →
      Completes (exec (.fwSlotVerified flash ms) s) (fun t => t.boot.step = 7 ∧ t.fld F.SEC_BOOT_CODE = 0x20 ∧
        OnlyRegs [R.SEC_BOOT] s { t with boot := s.boot })) ∧
  (∀ (s : State) (a b : List Byte), fwCandidate a = true → fwCandidate b = true → s.boot.tried = [] → s.fwSlots a b =
      if u32 (fun i => a.getD i 0) 8 < u32 (fun i => b.getD i 0) 8 then [(1, b), (0, a)] else [(0, a), (1, b)]) ∧
  (∀ (flash : List (Nat × List Byte)) (k : Nat) (e : Nat × List Byte), (flash.find? (fun e => e.1 == 0x80000 * k) = some e → flashSlot flash k = e.2.take 0x80000) ∧
      (flash.find? (fun e => e.1 == 0x80000 * k) = none → flashSlot flash k = []) ∧
      (flash.find? (fun e => e.1 == 0x100000 + 0x2000 * (k - 1)) = some e → (∃ n, flashRecord flash k = e.2.take n) ∧
        (flashRecord flash k).length ≤ 0x2000)) ∧
  (∀ (s : State) (c : Fin 4), s.sup.die = .running → s.self.reqs.find? (fun r => r.chan == c.val && s.testDue r) = none → exec (.selftestStart c) s = .next s) ∧
  (∀ (s : State) (c : Fin 4) (r : SelfReq), s.sup.die = .running → s.self.reqs.find? (fun r => r.chan == c.val && s.testDue r) = some r →
      (r.kind = 1 → Completes (exec (.selftestStart c) s) (fun t => t.sup.die = .held ∧ t.sup.code = 0x16)) ∧
      (r.kind ≠ 1 → Completes (exec (.selftestStart c) s) (fun t => t.mbState c = mbAccepted ∧ (∀ k, k < 4 → t.rd (R.MB_RES c k) = 0) ∧
        { r with phase := 4, sd := if r.kind = 2 then s.testSd r.unit else [], sar := if r.kind = 2 then s.testSar r.unit else 0 } ∈ t.self.reqs ∧
        OnlyRegs [R.MB_STATE c, R.MB_RES c 0, R.MB_RES c 1, R.MB_RES c 2, R.MB_RES c 3] s { t with self := s.self }))) ∧
  (∀ (s : State) (c : Fin 4) (r : SelfReq) (loops : List Loopback) (refs : List SarRefs) (g : List GateRead), s.sup.die = .running →
      s.self.reqs.find? (fun r => r.chan == c.val && r.phase == 4) = some r → r.kind = 4 → r.sd = [] → r.sar = 0 →
      Completes (exec (.selftestEnd c loops refs g []) s) (fun t => t.mbState c = mbDone ∧ t.fld (F.MB_STATE_CODE c) = 0 ∧
        (∀ k, k < 4 → t.rd (R.MB_RES c k) = 0) ∧ r ∉ t.self.reqs ∧ t.on F.BIST_EVENT_REQ_DONE = true ∧
        OnlyPages [0x15, 0x16, 0x17, 0x1B, 0x1D] s t ∧ SameMemory s t)) ∧
  (∀ (s : State) (c : Fin 4) (r : SelfReq) (reads : List (List (BitVec 16))) (i : Nat), s.sup.die = .running →
      s.self.reqs.find? (fun r => r.chan == c.val && r.phase == 4) = some r → r.kind = 4 → i < 16 → bit (s.sensorFails reads) i = true →
      s.excluded i = false → Completes (exec (.selftestEnd c [] [] [] reads) s) (fun t => t.excluded i = true ∧
        t.on F.THRM_EVENT_SENS_FAULT = true ∧ t.mbState c = mbDone ∧ (t.rd (R.MB_RES c 2)).getLsbD i = true)) ∧
  (∀ (s : State) (c : Fin 4) (r : SelfReq) (x : Loopback) (n g p : Nat), s.sup.die = .running →
      s.self.reqs.find? (fun r => r.chan == c.val && r.phase == 4) = some r → r.kind = 2 → r.sd = [(n, g, p)] → x.input = n →
      loopOk x g p (g + 2048) = false → Completes (exec (.selftestEnd c [x] [] [] []) s) (fun t => bit t.sense.sdFailed n = true ∧
        t.on F.BIST_EVENT_SD_FAIL = true ∧ t.mbState c = mbDone)) ∧
  (∀ (s : State) (c : Fin 4) (r : SelfReq) (gates : List GateRead) (b : Fin 52), s.sup.die = .running →
      s.self.reqs.find? (fun r => r.chan == c.val && r.phase == 4) = some r → r.kind = 3 → r.sd = [] → r.sar = 0 → gateFails gates = some b →
      Completes (exec (.selftestEnd c [] [] gates []) s) (fun t => t.ump.grbLatched = true ∧ t.on F.BIST_EVENT_GATE_FAIL = true ∧
        (∀ u < 4, t.umpHeld u = true) ∧ t.mbState c = mbDone ∧ t.rd (R.MB_RES c 1) = BitVec.ofNat 32 ((b.val + 1) * 2 ^ 16))) ∧
  (∀ (s : State) (c : Nat) (g : Signing), s.sup.die = .running → s.boot.sign = some g → g.chan = some c → c < 4 → s.bufferHeld = false →
      (Config.mldsaSignEnds Config.fusedSeed ctxAtt (digestOf g.body) = true → Completes (exec .signingDone s) (fun t =>
        t.boot.sign = none ∧ t.mbState c = mbDone ∧ t.rd (R.MB_RES c 0) = 7539 ∧ t.rd (R.MB_RES c 1) = BitVec.ofNat 32 g.num ∧
        ∀ i, i < g.body.length → t.byte (loadBuffer + i) = g.body.getD i 0)) ∧
      (Config.mldsaSignEnds Config.fusedSeed ctxAtt (digestOf g.body) = false → Completes (exec .signingDone s) (fun t =>
        t.boot.sign = none ∧ t.mbState c = mbFailed ∧ t.fld (F.MB_STATE_CODE c) = 0x04 ∧ t.rd (R.MB_RES c 0) = 0x0C ∧
        t.rd (R.MB_RES c 1) = 9 ∧ t.sram = s.sram))) ∧
  (∀ s : State, s.sup.die = .running → s.boot.sign = none → exec .signingDone s = .next s)

/-- Fuse commands, and debug and scan entry with the wipe (from R427, R513, R521, R525). -/
def Obligations.FusesAndEntry : Prop :=
  (∀ (s : State) (m : Master), s.sup.die = .running → s.fw = true → s.blockStops m R.SEC_FCMD true = none → s.boot.fuse ≠ none →
      Completes (exec (.secFcmdGo m) s) (fun t => t.fld F.SEC_FSTAT_CODE = 1 ∧ t.fld F.SEC_FSTAT_STATE = s.fld F.SEC_FSTAT_STATE ∧
        t.on F.SEC_EVENT_FUSE_FAIL = true ∧ OnlyRegs [R.SEC_FSTAT, R.SEC_EVENT] s t)) ∧
  (∀ (s : State) (m : Master) (o : List Byte), s.sup.die = .running → s.fw = true → s.blockStops m R.SEC_FCMD true = none → s.boot.fuse = none →
      o = s.bufBytes 7443 → s.fuses.done.contains o = false →
      (s.fuseCode o = 0 → Completes (exec (.secFcmdGo m) s) (fun t => t.fld F.SEC_FSTAT_STATE = 1 ∧ t.fld F.SEC_FSTAT_CODE = 0 ∧
        t.boot.fuse = some o ∧ OnlyRegs [R.SEC_FSTAT] s { t with boot := s.boot })) ∧
      (s.fuseCode o ≠ 0 → Completes (exec (.secFcmdGo m) s) (fun t => t.fld F.SEC_FSTAT_STATE = 3 ∧ t.fld F.SEC_FSTAT_CODE = s.fuseCode o ∧
        t.on F.SEC_EVENT_FUSE_FAIL = true ∧ OnlyRegs [R.SEC_FSTAT, R.SEC_EVENT] s t))) ∧
  (∀ (s : State) (m : Master) (c : Nat) (b : Bool), s.sup.die = .running → s.blockStops m R.SEC_FCMD true = some (c, b) →
      exec (.secFcmdGo m) s = .next (s.refuse m R.SEC_FCMD c true)) ∧
  (∀ (s : State) (o : List Byte), s.sup.die = .running → s.boot.fuse = some o → Completes (exec (.fuseCommandDone true) s) (fun t =>
      t.boot.fuse = none ∧ o ∈ t.fuses.done ∧ t.fld F.SEC_FSTAT_STATE = 2 ∧ t.fld F.SEC_FSTAT_CODE = 0 ∧ t.on F.SEC_EVENT_FUSE_DONE = true ∧
      (byteAt o 6 = 1 → byteAt o 7 < 2 → s.slotState (byteAt o 7) = 0 → t.slotState (byteAt o 7) = 1 ∧
        t.slotState (1 - byteAt o 7) = s.slotState (1 - byteAt o 7) ∧ t.slotDig (byteAt o 7) = digestWords (bytesOf (fun i => o.getD i 0) 80 64)) ∧
      (byteAt o 6 = 2 → byteAt o 7 < 2 → s.slotState (byteAt o 7) ≤ 2 → t.slotState (byteAt o 7) = 2) ∧
      (byteAt o 6 = 3 → byteAt o 7 < 2 → t.rd (R.SEC_PMIN (byteAt o 7)) = BitVec.ofNat 32 (u32 (fun i => o.getD i 0) 8)) ∧
      (byteAt o 6 = 4 → t.fld F.SEC_SVN_FW_MIN = u32 (fun i => o.getD i 0) 8 % 64 ∧ t.fld F.SEC_SVN_FW_SVN = s.fld F.SEC_SVN_FW_SVN) ∧
      (byteAt o 6 = 5 → t.fuses.stage = max s.fuses.stage 2 ∧ t.fld F.SEC_LC_STATE = s.fld F.SEC_LC_STATE) ∧
      (byteAt o 6 = 6 → t.fuses.stage = 3 ∧ t.fld F.SEC_LC_STATE = s.fld F.SEC_LC_STATE))) ∧
  (∀ (s : State) (o : List Byte), s.sup.die = .running → s.boot.fuse = some o → Completes (exec (.fuseCommandDone false) s) (fun t =>
      t.boot.fuse = none ∧ t.fld F.SEC_FSTAT_STATE = 3 ∧ t.fld F.SEC_FSTAT_CODE = 0x0A ∧ t.on F.SEC_EVENT_FUSE_FAIL = true)) ∧
  (∀ (s : State) (ok : Bool), s.sup.die = .running → s.boot.fuse = none → exec (.fuseCommandDone ok) s = .next s) ∧
  (∀ (s : State) (x : Fin 2), s.sup.die = .running → s.boot.step = 9 → exec (.debugAttach x) s = .next (s.ev F.DBG_EVENT_ENTRY_REQ)) ∧
  (∀ (s : State) (x : Fin 2), s.sup.die = .running → s.boot.step ≠ 9 → s.fld F.SEC_LC_STATE = 2 → Completes (exec (.debugAttach x) s) (fun t =>
      t.on F.SEC_EVENT_DEBUG_REFUSED = true ∧ t.on F.DBG_EVENT_ENTRY_REQ = true ∧ OnlyRegs [R.SEC_EVENT, R.DBG_EVENT] s t)) ∧
  (∀ (s : State) (x : Fin 2), s.sup.die = .running → s.boot.step ≠ 9 → s.fld F.SEC_LC_STATE ≠ 2 → Completes (exec (.debugAttach x) s) (fun t =>
      t.boot.entry = (if s.boot.entry = 0 then 1 + x.val else s.boot.entry) ∧ bit t.boot.want x = true ∧
      (s.boot.entry = 0 → t.boot.step = 8 ∧ t.on F.DBG_STAT_WIPE_RUN = true ∧ t.boot.back =
        if s.boot.step = 8 then s.boot.back else if s.boot.step < 4 ∨ s.boot.step = 7 then s.boot.step else 4) ∧
      (s.boot.entry = 0 → ∀ u < 4, t.umpHeld u = true ∧ bit (t.fld F.UMP_STATE_GRANT) u = false) ∧
      t.on F.DBG_EVENT_ENTRY_REQ = true ∧
      t.fld F.DBG_COUNT_ATTACHES = min (s.fld F.DBG_COUNT_ATTACHES + 1) 255 ∧ t.on F.LSTP_STATUS_LOCKSTEP_BROKEN = true ∧
      t.on (if x = 0 then F.LSTP_STATUS_BROKEN0 else F.LSTP_STATUS_BROKEN1) = true ∧ t.on F.LSTP_EVENT_ATTACH = true ∧
      t.ump.lockstepBroken = true)) ∧
  (∀ (s : State) (x : Fin 2), s.sup.umpire = true → s.sup.die = .held ∨ s.sup.die = .resetHold → s.fuses.lc ≠ 2 →
      Completes (exec (.debugAttach x) s) (fun t => t.ump.lockstepBroken = true ∧ t.sup = s.sup)) ∧
  (∀ s : State, s.sup.die = .running → s.boot.entry = 0 → s.boot.step ≠ 9 → (s.fld F.SEC_LC_STATE = 0 ∨ s.fld F.SEC_LC_STATE = 3) →
      Completes (exec .testenEntry s) (fun t => t.boot.entry = 3 ∧ t.boot.step = 8 ∧ t.on F.DBG_STAT_WIPE_RUN = true ∧
        ∀ u < 4, t.umpHeld u = true ∧ bit (t.fld F.UMP_STATE_GRANT) u = false)) ∧
  (∀ s : State, s.sup.die = .running → s.boot.entry = 0 → s.boot.step ≠ 9 → (s.fld F.SEC_LC_STATE = 1 ∨ s.fld F.SEC_LC_STATE = 2) →
      Completes (exec .testenEntry s) (fun t => t.on F.SEC_EVENT_TESTEN = true ∧ OnlyRegs [R.SEC_EVENT, R.DBG_EVENT] s t)) ∧
  (∀ s : State, s.sup.die = .running → s.boot.entry ≠ 0 ∨ s.boot.step = 9 → exec .testenEntry s = .next (s.ev F.DBG_EVENT_ENTRY_REQ)) ∧
  (∀ s : State, s.sup.die = .running → s.boot.entry = 3 → Completes (exec (.wipeDone true) s) (fun t => t.sram = [] ∧ t.locals = [] ∧
      t.caches = [] ∧ t.boot.latch = none ∧ t.boot.keys = [] ∧
      (∀ k, k < 648 → t.rd (R.SEC_PK k) = 0) ∧ (∀ k, k < 16 → t.rd (R.SEC_ID k) = 0) ∧ t.on F.SEC_LC_KEYS_VALID = false ∧
      t.on F.SEC_LC_WIPED = true ∧ t.on F.DBG_STAT_SCAN = true ∧ t.on F.DBG_STAT_WIPE_RUN = false ∧ t.on F.SEC_EVENT_WIPE_DONE = true ∧
      t.on F.DBG_EVENT_ENTRY_OPEN = true ∧ t.boot.entry = 0 ∧ t.boot.step = 9 ∧ t.boot.ports = s.boot.ports ||| s.boot.want ∧ t.boot.want = 0 ∧
      OnlyPages [0x1A, 0x1F] s t)) ∧
  (∀ s : State, s.sup.die = .running → (s.boot.entry = 1 ∨ s.boot.entry = 2) → Completes (exec (.wipeDone true) s) (fun t => t.sram = [] ∧ t.locals = [] ∧
      t.caches = [] ∧ t.boot.latch = none ∧ t.boot.keys = [] ∧
      t.on F.DBG_STAT_PORT_EN = true ∧ t.on F.DBG_STAT_WIPE_RUN = false ∧ t.boot.step = s.boot.back ∧ t.boot.entry = 0 ∧
      t.boot.ports = s.boot.ports ||| s.boot.want ∧ t.boot.want = 0 ∧
      (s.boot.back ≠ 7 → t.on F.LSTP_STATUS_CTEST_OK0 = false ∧ t.on F.LSTP_STATUS_CTEST_OK1 = false ∧ t.boot.tried = [] ∧ t.boot.auto = 0 ∧
        t.on F.SEC_BOOT_CFG_UMP_OK = false ∧ t.on F.SEC_BOOT_CFG_IF_OK = false ∧ t.boot.pairOk = false) ∧
      (s.boot.back = 7 → OnlyPages [0x1A, 0x1F] s t) ∧
      ∀ a, pageOf a ≠ 0x1A → pageOf a ≠ 0x1F → a ≠ R.LSTP_STATUS → t.rd a = s.rd a)) ∧
  (∀ s : State, s.sup.die = .running → s.boot.entry ≠ 0 → Completes (exec (.wipeDone false) s) (fun t => t.sram = [] ∧ t.locals = [] ∧
      t.on F.SEC_EVENT_WIPE_FAIL = true ∧ t.fld F.DBG_STAT_PORT_EN = s.fld F.DBG_STAT_PORT_EN ∧ t.fld F.DBG_STAT_SCAN = s.fld F.DBG_STAT_SCAN ∧
      t.on F.DBG_STAT_WIPE_RUN = false ∧ t.boot.entry = 0 ∧ t.boot.want = 0 ∧ t.boot.step = s.boot.step ∧ t.boot.ports = s.boot.ports ∧
      OnlyPages [0x1A, 0x1F] s t)) ∧
  (∀ (s : State) (ok : Bool), s.sup.die = .running → s.boot.entry = 0 → exec (.wipeDone ok) s = .next s)

/-- The services of the mailbox: which requests are refused, what each one starts and how it is answered, and ABORT (from R161, R432 to R438, R522, R524, R539). -/
def Obligations.MailboxServices : Prop :=
  (∀ (s : State) (c : Fin 4), s.mail.order.head? ≠ some c.val → exec (.info c) s = .next s ∧
      exec (.planLoad c) s = .next s ∧
      exec (.planActivate c) s = .next s ∧
      exec (.planArm c) s = .next s ∧
      exec (.planCancel c) s = .next s ∧
      exec (.calibrate c) s = .next s ∧
      exec (.selftest c) s = .next s ∧
      exec (.fsClear c) s = .next s ∧
      exec (.brkClear c) s = .next s ∧
      exec (.release c) s = .next s ∧
      exec (.discharge c) s = .next s ∧
      exec (.contactor c) s = .next s ∧
      exec (.attest c) s = .next s ∧
      exec (.pairing c) s = .next s) ∧
  (∀ (s : State) (c : Fin 4), Takes c svInfo s → Serves (exec (.info c) s)
      (Answers c 0 [(s.rd R.MBOX_FW).toNat, s.fld F.SEC_SVN_FW_SVN, 0x00A1] s)) ∧
  (∀ (s : State) (c : Fin 4), Takes c svLoad s → 2 < s.mbArg c 0 → Serves (exec (.planLoad c) s) (Answers c 0x02 [] s)) ∧
  (∀ (s : State) (c : Fin 4), Takes c svLoad s → s.mbArg c 0 ≤ 2 → s.takesPlans = false → Serves (exec (.planLoad c) s) (Answers c 0x05 [] s)) ∧
  (∀ (s : State) (c : Fin 4), Takes c svLoad s → s.mbArg c 0 ≤ 2 → s.takesPlans = true → s.fld F.CASC_STATE_ROLE ≠ 2 → s.load.phase ≠ 0 → Serves (exec (.planLoad c) s) (Answers c 0x04 [5, 7] s)) ∧
  (∀ (s : State) (c : Fin 4), Takes c svLoad s → s.mbArg c 0 ≤ 2 → s.takesPlans = true → s.fld F.CASC_STATE_ROLE ≠ 2 → s.load.phase = 0 →
      s.switching = false → s.fab.waiting = false → Serves (exec (.planLoad c) s) (fun t =>
        t.load.phase = (if s.mbArg c 0 = 2 then 1 else 2) ∧ t.load.len = (if s.mbArg c 0 = 2 then none else some (s.mbArg c 1)) ∧
        t.mbState c = mbAccepted ∧ OnlyRegs [R.MB_STATE c] s { t with load := s.load, mail := s.mail })) ∧
  (∀ (s : State) (c : Fin 4), Takes c svActivate s → (s.taken c).blockStops .cox0 R.PLAN_CMD true = none → s.fab.waiting = false → s.stageState = sVerified → s.stage.fits = true →
      s.seatsFit s.stage = true → ((s.taken c).dcoMeets s.stage).1 = true → s.liveValid = false →
      (∀ d < 2, s.stage.catchLow d = false) →
      Serves (exec (.planActivate c) s) (fun t => t.fab.waiting = true ∧ t.mbState c = mbAccepted ∧ SameMemory s t)) ∧
  (∀ (s t : State) (c : Fin 4) (k : Nat), Takes c svActivate s → (s.taken c).blockStops .cox0 R.PLAN_CMD true = none → (s.taken c).planActivate = (k, t) → k ≠ 0 →
      exec (.planActivate c) s = .next (t.mbRefuse c k 0x01).mbSkip) ∧
  (∀ (s : State) (c : Fin 4), Takes c svArm s → 0xFFFF < s.mbArg c 1 → Serves (exec (.planArm c) s) (Answers c 0x02 [] s)) ∧
  (∀ (s u t : State) (c : Fin 4) (k : Nat), Takes c svArm s → s.mbArg c 1 ≤ 0xFFFF → s.isCrew = false → s.cascaded = false →
      (s.taken c).blockStops .cox0 R.PLAN_CMD true = none →
      u = ((s.taken c).set F.PLAN_TARGET_LO_N_LO (s.mbArg c 0)).set F.PLAN_TARGET_HI_N_HI (s.mbArg c 1) → u.localArm = (k, t) →
      s.mbArg c 0 < 2 ^ 32 → exec (.planArm c) s = .next (if k = 0 then t else t.mbRefuse c k 0x01).mbSkip) ∧
  (∀ (s : State) (c : Fin 4), Takes c svArm s → s.mbArg c 1 ≤ 0xFFFF → s.isCrew = true → Serves (exec (.planArm c) s) (fun t =>
      t.mbState c = mbFailed ∧ t.fld (F.MB_STATE_CODE c) = 0x06 ∧ t.fld F.PLAN_LAST_CODE = 0x0A ∧ SameMemory s t)) ∧
  (∀ (s t : State) (c : Fin 4) (k : Nat), Takes c svCancel s → (s.taken c).blockStops .cox0 R.PLAN_CMD true = none → (s.taken c).planCancel = (k, t) →
      exec (.planCancel c) s = .next (if k = 0 then t.mbEnd c 0 [] else t.mbRefuse c k 0x01).mbSkip) ∧
  (∀ (s : State) (c : Fin 4), Takes c svCancel s → (s.taken c).blockStops .cox0 R.PLAN_CMD true = none → s.stageState ≠ sArmed → s.stageState ≠ sCommitted → Serves (exec (.planCancel c) s) (Answers c 0 [] s)) ∧
  (∀ (s : State) (c : Fin 4), Takes c svCalibrate s → 3 < s.mbArg c 0 ∨ s.mbArg c 1 < 6 ∨ 10 < s.mbArg c 1 → Serves (exec (.calibrate c) s) (Answers c 0x02 [] s)) ∧
  (∀ (s : State) (c : Fin 4), Takes c svCalibrate s → s.mbArg c 0 ≤ 3 → 6 ≤ s.mbArg c 1 → s.mbArg c 1 ≤ 10 → (s.calOf (s.mbArg c 0)).1 = .idle →
      s.unitOff (s.mbArg c 0) = true → Serves (exec (.calibrate c) s) (fun t => t.calOf (s.mbArg c 0) = (.due, s.mbArg c 1, 0) ∧
        t.mbState c = mbAccepted ∧ OnlyRegs [R.MB_STATE c] s { t with sense := s.sense, mail := s.mail })) ∧
  (∀ (s : State) (c : Fin 4), Takes c svCalibrate s → s.mbArg c 0 ≤ 3 → 6 ≤ s.mbArg c 1 → s.mbArg c 1 ≤ 10 → (s.calOf (s.mbArg c 0)).1 = .idle →
      s.unitOff (s.mbArg c 0) = false → bit (s.mbArg c 2) 0 = false → Serves (exec (.calibrate c) s) (Answers c 0x03 [] s)) ∧
  (∀ (s : State) (c : Fin 4) (b : Bool), Takes c svCalibrate s → s.mbArg c 0 ≤ 3 → 6 ≤ s.mbArg c 1 → s.mbArg c 1 ≤ 10 →
      (s.calOf (s.mbArg c 0)).1 = .idle → s.unitOff (s.mbArg c 0) = false → bit (s.mbArg c 2) 0 = true → 4 ≤ s.pllState →
      s.calFits (s.mbArg c 0) (s.mbArg c 1) = (b, s) → Serves (exec (.calibrate c) s) (fun t =>
        t.calOf (s.mbArg c 0) = (if b then .queuedWindow else .queuedStandstill, s.mbArg c 1, 0) ∧
        t.mbState c = mbQueued ∧ t.rd (R.MB_RES c 0) = (if b then 1 else 2) ∧ bit (t.fld F.MBOX_EVENT_QUEUED) c = true)) ∧
  (∀ (s : State) (u log : Nat), 4 ≤ s.pllState → s.calFits u log = (s.windowFits u && decide (32000 * (2 ^ log *
      catchPeriod (s.fld F.CATCH_CTRL_MODE) (s.fld F.CATCH_PERIOD_CARRIER)) ≤ 9 * (s.pll.n * s.pll.refHz)), s)) ∧
  (∀ (s : State) (c : Fin 4), Takes c svSelftest s → s.mbArg c 0 < 1 ∨ 4 < s.mbArg c 0 → Serves (exec (.selftest c) s) (Answers c 0x02 [] s)) ∧
  (∀ (s : State) (c : Fin 4) (k u : Nat), Takes c svSelftest s → k = s.mbArg c 0 → u = (if k = 2 then s.mbArg c 1 else 0) → 1 ≤ k → k ≤ 4 → u ≤ 3 →
      (∀ r ∈ s.self.reqs, r.kind ≠ k ∨ r.unit ≠ u) → s.testNeeds k u = true → Serves (exec (.selftest c) s) (fun t =>
        t.self.reqs = s.self.reqs ++ [⟨k, u, c, 0, [], 0⟩] ∧ t.mbState c = mbAccepted ∧
        OnlyRegs [R.MB_STATE c] s { t with self := s.self, mail := s.mail })) ∧
  (∀ (s : State) (c : Fin 4) (k u : Nat), Takes c svSelftest s → k = s.mbArg c 0 → u = (if k = 2 then s.mbArg c 1 else 0) → 1 ≤ k → k ≤ 4 → u ≤ 3 →
      (∀ r ∈ s.self.reqs, r.kind ≠ k ∨ r.unit ≠ u) → s.testNeeds k u = false →
      (bit (s.mbArg c 2) 0 = false → Serves (exec (.selftest c) s) (Answers c 0x03 [] s)) ∧
      (bit (s.mbArg c 2) 0 = true → k ≠ 2 → Serves (exec (.selftest c) s) (fun t => t.mbState c = mbQueued ∧ t.rd (R.MB_RES c 0) = 2 ∧
        t.self.reqs = s.self.reqs ++ [⟨k, u, c, 3, [], 0⟩]))) ∧
  (∀ (s : State) (c : Fin 4), Takes c svFsClear s → svLeg (s.mbArg c 0) (s.mbArg c 1) = none → Serves (exec (.fsClear c) s) (Answers c 0x02 [] s)) ∧
  (∀ (s t : State) (c : Fin 4) (l k : Nat), Takes c svFsClear s → svLeg (s.mbArg c 0) (s.mbArg c 1) = some l →
      (s.taken c).blockStops .cox0 (R.LEG_FS l) true = none → (s.taken c).fsClear l = (k, t) →
      exec (.fsClear c) s = .next (if k = 0 then t.mbEnd c 0 [] else ((s.taken c).refuse .cox0 (R.LEG_FS l) k true).mbRefuse c k 0x07).mbSkip) ∧
  (∀ (s : State) (c : Fin 4), Takes c svBrkClear s → 3 < s.mbArg c 0 → Serves (exec (.brkClear c) s) (Answers c 0x02 [] s)) ∧
  (∀ (s t : State) (c : Fin 4) (k : Nat), Takes c svBrkClear s → s.mbArg c 0 ≤ 3 →
      (s.taken c).blockStops .cox0 (R.PROT_BRKCTL (s.mbArg c 0)) true = none → (s.taken c).brkClear (s.mbArg c 0) = (k, t) →
      exec (.brkClear c) s = .next (if k = 0 then t.mbEnd c 0 []
        else ((s.taken c).refuse .cox0 (R.PROT_BRKCTL (s.mbArg c 0)) k true).mbRefuse c k 0x07).mbSkip) ∧
  (∀ (s : State) (c : Fin 4), Takes c svRelease s → 3 < s.mbArg c 0 → Serves (exec (.release c) s) (Answers c 0x02 [] s)) ∧
  (∀ (s : State) (c : Fin 4), Takes c svRelease s → s.mbArg c 0 ≤ 3 → s.on F.THRM_STATUS_SHUTDOWN = true → Serves (exec (.release c) s) (Answers c 0x04 [1, 8] s)) ∧
  (∀ (s : State) (c : Fin 4), Takes c svRelease s → s.mbArg c 0 ≤ 3 → s.on F.THRM_STATUS_SHUTDOWN = false → s.umpHolds (s.mbArg c 0) = false →
      s.on (F.PROT_STATE_HELD (s.mbArg c 0)) = false → Serves (exec (.release c) s) (Answers c 0 [] s)) ∧
  (∀ (s t : State) (c : Fin 4) (k : Nat), Takes c svRelease s → s.mbArg c 0 ≤ 3 → s.on F.THRM_STATUS_SHUTDOWN = false →
      s.umpHolds (s.mbArg c 0) = true → (s.taken c).blockStops .cox0 R.UMP_RELEASE true = none → (s.taken c).umpRelease (s.mbArg c 0) = (k, t) →
      exec (.release c) s = .next (if k = 0 then t.releaseDieStep c (s.mbArg c 0) else t.mbRefuse c k 0x04).mbSkip) ∧
  (∀ (s t : State) (c : Fin 4) (u k : Nat), s.on (F.PROT_STATE_HELD u) = true → s.blockStops .cox0 (R.PROT_CLR u) true = none →
      s.protRelease u = (k, t) → s.releaseDieStep c u =
        if k = 0 then t.mbEnd c 0 [] else (s.refuse .cox0 (R.PROT_CLR u) k true).mbRefuse c k 0x07) ∧
  (∀ (s : State) (c : Fin 4), Takes c svDischarge s → s.mbArg c 0 ≠ 1 → s.mbArg c 0 ≠ 2 → Serves (exec (.discharge c) s) (Answers c 0x02 [] s)) ∧
  (∀ (s t : State) (c : Fin 4), Takes c svDischarge s → (s.taken c).blockStops .cox0 R.PROT_DISCMD true = none →
      (s.mbArg c 0 = 1 → t = (s.taken c).dischargeStart →
        exec (.discharge c) s = .next (if t.discharging then t else t.mbRefuse c (t.fld F.PROT_DISSTAT_CODE) 0x05).mbSkip) ∧
      (s.mbArg c 0 = 2 → exec (.discharge c) s = .next ((s.taken c).dischargeAbort.mbEnd c 0 []).mbSkip)) ∧
  (∀ (s : State) (c : Fin 4), Takes c svContactor s → s.mbArg c 0 < 1 ∨ 5 < s.mbArg c 0 → Serves (exec (.contactor c) s) (Answers c 0x02 [] s)) ∧
  (∀ (s : State) (c : Fin 4), Takes c svContactor s → 1 ≤ s.mbArg c 0 → s.mbArg c 0 ≤ 3 →
      (s.taken c).blockStops .cox0 R.UMP_CTRCMD true = none → exec (.contactor c) s = .next (((s.taken c).ctrCommand (s.mbArg c 0)).ctrSettle).mbSkip) ∧
  (∀ (s w : State) (c : Fin 4) (a k : Nat) (quiet : Bool), w = (s.taken c).refuse .cox0 a k true → (s.taken c).blockStops .cox0 a true = some (k, quiet) →
      (Takes c svActivate s → a = R.PLAN_CMD → exec (.planActivate c) s = .next (if quiet then w else w.mbRefuse c k 0x07).mbSkip) ∧
      (Takes c svCancel s → a = R.PLAN_CMD → exec (.planCancel c) s = .next (if quiet then w.mbEnd c 0 [] else w.mbRefuse c k 0x07).mbSkip) ∧
      (Takes c svArm s → a = R.PLAN_CMD → s.mbArg c 1 ≤ 0xFFFF → s.isCrew = false → s.cascaded = false →
        exec (.planArm c) s = .next (if quiet then w else w.mbRefuse c k 0x07).mbSkip) ∧
      (Takes c svDischarge s → a = R.PROT_DISCMD → s.mbArg c 0 = 1 →
        exec (.discharge c) s = .next (if quiet then w else w.mbRefuse c k 0x07).mbSkip) ∧
      (Takes c svContactor s → a = R.UMP_CTRCMD → 1 ≤ s.mbArg c 0 → s.mbArg c 0 ≤ 5 →
        exec (.contactor c) s = .next (if quiet then w else w.mbRefuse c k 0x07).mbSkip) ∧
      (∀ l, Takes c svFsClear s → svLeg (s.mbArg c 0) (s.mbArg c 1) = some l → a = R.LEG_FS l →
        exec (.fsClear c) s = .next (if quiet then w.mbEnd c 0 [] else w.mbRefuse c k 0x07).mbSkip) ∧
      (Takes c svBrkClear s → s.mbArg c 0 ≤ 3 → a = R.PROT_BRKCTL (s.mbArg c 0) →
        exec (.brkClear c) s = .next (if quiet then w.mbEnd c 0 [] else w.mbRefuse c k 0x07).mbSkip)) ∧
  (∀ s : State, s.boot.step ≠ 6 → s.mbSkip = s) ∧
  (∀ s : State, s.mail.order = [] → s.mbSkip = s) ∧
  (∀ (s : State) (c : Nat) (l : List Nat), s.boot.step = 6 → s.mail.order = c :: l →
      (mbNoWork (s.mbReq c).service = none → s.mbSkip = s) ∧
      (∀ k, mbNoWork (s.mbReq c).service = some k →
        s.mbSkip = ({ s with mail := { s.mail with order := l } }.mbEnd c k []).mbSkip)) ∧
  mbNoWork svAbort = some 0 ∧
  (∀ k ∈ [svInfo, svLoad, svActivate, svArm, svCancel, svCalibrate, svSelftest, svFsClear, svBrkClear, svRelease,
      svDischarge, svContactor, svAttest, svPairing], mbNoWork k = none) ∧
  (∀ k : Nat, k ∉ [svInfo, svLoad, svActivate, svArm, svCancel, svCalibrate, svSelftest, svFsClear, svBrkClear, svRelease,
      svDischarge, svContactor, svAttest, svPairing, svAbort] → mbNoWork k = some 1) ∧
  (∀ (s : State) (c : Fin 4), Takes c svAttest s → s.bufferHeld = true → Serves (exec (.attest c) s) (Answers c 0x04 [1, 9] s)) ∧
  (∀ (s : State) (c : Fin 4), Takes c svAttest s → s.bufferHeld = false → s.boot.sign = none → s.on F.SEC_LC_KEYS_VALID = false → Serves (exec (.attest c) s) (Answers c 0x04 [0x0B, 9] s)) ∧
  (∀ (s : State) (c : Fin 4), Takes c svAttest s → s.bufferHeld = false → s.boot.sign = none → s.on F.SEC_LC_KEYS_VALID = true →
      Serves (exec (.attest c) s) (fun t => t.boot.sign = some ⟨some c.val, s.report (wordBytes (s.mbReq c).args), s.cat.num⟩ ∧
        t.mbState c = mbAccepted ∧ OnlyRegs [R.MB_STATE c] s { t with boot := s.boot, mail := s.mail })) ∧
  (∀ (s : State) (c : Fin 4), Takes c svPairing s → s.mbArg c 0 = 1 → Serves (exec (.pairing c) s) (Answers c 0 s.pairCheck s)) ∧
  (∀ (s : State) (c : Fin 4), Takes c svPairing s → s.mbArg c 0 ≠ 1 → s.mbArg c 0 ≠ 2 → Serves (exec (.pairing c) s) (Answers c 0x02 [] s)) ∧
  (∀ (s : State) (c : Fin 4), Takes c svPairing s → s.mbArg c 0 = 2 → s.takesPlans = false → Serves (exec (.pairing c) s) (Answers c 0x05 [] s)) ∧
  (∀ (s : State) (c : Fin 4) (o : List Byte), Takes c svPairing s → s.mbArg c 0 = 2 → s.takesPlans = true → s.mbArg c 1 ≤ 262144 →
      o = s.bufBytes (s.mbArg c 1) → (s.pairCode o = 0 → Serves (exec (.pairing c) s) (fun t => t.boot.pairRec = o ∧
        t.boot.pairNext = (s.pairing o).getD [] ∧ Answers c 0 [] s t))) ∧
  (∀ (s : State) (m : Master) (c : Fin 4), s.sup.die = .running → s.blockStops m (R.MB_REQ c) true = none → s.mbState c = mbQueued →
      Completes (exec (.mbAbort m c) s) (fun t => t.mbState c = mbFailed ∧ t.fld (F.MB_STATE_CODE c) = 0x07 ∧
        bit (t.fld F.MBOX_EVENT_DONE) c = true ∧ SameMemory s t ∧ OnlyPages [0x15, 0x16, 0x17, 0x1D] s t)) ∧
  (∀ (s : State) (m : Master) (c : Fin 4) (r : SelfReq), s.sup.die = .running → s.blockStops m (R.MB_REQ c) true = none → s.mbState c = mbAccepted →
      s.runningTest c = some r → exec (.mbAbort m c) s = .next (s.stopTest r.unit)) ∧
  (∀ (s : State) (m : Master) (c : Fin 4), s.sup.die = .running → s.blockStops m (R.MB_REQ c) true = none → (s.runningTest c).isSome = false →
      (s.mbState c = mbPending ∨ s.mbState c = mbAccepted) → exec (.mbAbort m c) s = .next (s.refuse m (R.MB_REQ c) eBusy true))

/-- Writes to the address space: the order of the checks, what a refusal logs, memory and its owners, plain registers, seals, locks, page enables, the writes with a command of their own, and fields that other state gives (from R18, R115, R141, R393, R472, R474, R490, R543 to R551). -/
def Obligations.RegisterAccess : Prop :=
  (∀ (s : State) (m : Master) (a v : Word) (c : Nat) (b : Bool), s.sup.die = .running → s.judge m a.toNat (some v) = some (c, b) →
      exec (.registerWrite m .word a v 0) s = .next ((s.refuse m a.toNat c true).setBeside a.toNat 0)) ∧
  (∀ (s : State) (m : Master) (a v same : Word) (z : AccessSize), s.sup.die = .running → z ≠ .word →
      exec (.registerWrite m z a v same) s = .next ((s.refuse m a.toNat 3 true).setBeside a.toNat same)) ∧
  (∀ (s : State) (m : Master) (a v same : Word), s.sup.die = .running → (s.busWrite m a.toNat v).2.sup.die = .running →
      exec (.registerWrite m .word a v same) s = .next ((s.busWrite m a.toNat v).2.setBeside a.toNat same)) ∧
  (∀ (s : State) (a : Nat) (same : Word) (r : RegRow), regRow a = some r →
      (s.setBeside a same).rd a = s.rd a ||| (same &&& BitVec.ofNat 32 r.w1c) ∧ OnlyRegs [a] s (s.setBeside a same)) ∧
  (∀ (s : State) (m : Master) (a c p : Nat) (w : Bool), p = logPage a → a < 2 ^ 32 → c < 16 → (s.refuse m a c w).rd (R.PAGE_ERR_ADDR p) = BitVec.ofNat 32 a ∧
      (s.refuse m a c w).fld (F.PAGE_ERR_INFO_CODE p) = c ∧ (s.refuse m a c w).fld (F.PAGE_ERR_INFO_MASTER p) = masterId m ∧
      (s.refuse m a c w).on (F.PAGE_ERR_INFO_WRITE p) = w ∧ (s.refuse m a c w).fld (F.PAGE_ERR_INFO_CATCH p) = s.stamp ∧
      (s.refuse m a c w).fld (F.PAGE_ERR_COUNT_COUNT p) = min (s.fld (F.PAGE_ERR_COUNT_COUNT p) + 1) 65535 ∧
      OnlyRegs [R.PAGE_ERR_ADDR p, R.PAGE_ERR_INFO p, R.PAGE_ERR_COUNT p, R.SYS_EVENT] s (s.refuse m a c w)) ∧
  (∀ (s : State) (m : Master) (a : Nat) (w : Option Word), a % 4 ≠ 0 → s.judge m a w = some (3, false)) ∧
  (∀ (s : State) (m : Master) (a : Nat) (w : Option Word), a % 4 = 0 → regionOf a = .unmapped ∨ (regionOf a = .pages ∧ hasReg a = false) →
      s.judge m a w = some (4, false)) ∧
  (∀ (s : State) (m : Master) (a : Nat) (w : Option Word), a % 4 = 0 → regionOf a = .pages → hasReg a = true → inHeader a = false →
      s.pageOn (pageOf a) = false → m ≠ .root → s.judge m a w = some (1, s.on (F.PAGE_CTRL_GATE_POLICY (pageOf a)))) ∧
  (∀ (s : State) (m : Master) (a : Nat) (v : Word), a % 4 = 0 → regionOf a = .pages → hasReg a = true → (inHeader a = true ∨ s.pageOn (pageOf a) = true) →
      (s.writeAuth m a v = false → s.judge m a (some v) = some (6, false)) ∧
      (s.writeAuth m a v = true → s.sealStops a v = true → s.judge m a (some v) = some (2, false)) ∧
      (s.writeAuth m a v = true → s.sealStops a v = false → s.judge m a (some v) = none) ∧ s.judge m a none = none) ∧
  (∀ (s : State) (m : Master) (a v : Word), s.sup.die = .running → a.toNat % 4 = 0 → (regionOf a.toNat = .live ∨ regionOf a.toNat = .stage) →
      Completes (exec (.registerWrite m .word a v 0) s) (fun t => SameMemory s t ∧ t.fld (F.PAGE_ERR_INFO_CODE 0x0A) = 2)) ∧
  (∀ (s : State) (m : Master) (a v : Word), s.sup.die = .running → a.toNat % 4 = 0 → (regionOf a.toNat = .capture ∨ (regionOf a.toNat = .working ∧ internal m = true) ∨
        (regionOf a.toNat = .buffer ∧ s.bufferHeld = false) ∨ (regionOf a.toNat = .firmware ∧ m = .root)) →
      Completes (exec (.registerWrite m .word a v 0) s) (fun t => t.sramWord a.toNat = v ∧ (∀ x, x < a.toNat ∨ a.toNat + 4 ≤ x → t.byte x = s.byte x) ∧
        { t with sram := s.sram } = s)) ∧
  (∀ (s : State) (m : Master) (a v : Word), s.sup.die = .running → a.toNat % 4 = 0 → ((regionOf a.toNat = .working ∧ internal m = false) ∨
        (regionOf a.toNat = .firmware ∧ m ≠ .root)) → Completes (exec (.registerWrite m .word a v 0) s) (fun t => t.sram = s.sram ∧
        t.fld (F.PAGE_ERR_INFO_CODE 0) = 6 ∧ t.on F.SYS_EVENT_ERR_OUTSIDE = true)) ∧
  (∀ (s : State) (m : Master) (a v : Word), s.sup.die = .running → a.toNat % 4 = 0 → regionOf a.toNat = .buffer → s.bufferHeld = true →
      Completes (exec (.registerWrite m .word a v 0) s) (fun t => t.sram = s.sram ∧ t.fld (F.PAGE_ERR_INFO_CODE 0) = 5)) ∧
  (∀ (s : State) (m : Master) (a v : Word) (r : RegRow), s.sup.die = .running → regionOf a.toNat = .pages → inHeader a.toNat = false →
      pageOf a.toNat = 0x0F ∨ pageOf a.toNat = 0x10 ∨ pageOf a.toNat = 0x11 ∨ pageOf a.toNat = 0x14 → s.judge m a.toNat (some v) = none → regRow a.toNat = some r →
      Completes (exec (.registerWrite m .word a v 0) s) (fun t => t.rd a.toNat = ((s.rd a.toNat &&& ~~~ BitVec.ofNat 32 (r.rw ||| r.rws)) |||
        (v &&& BitVec.ofNat 32 (r.rw ||| r.rws))) &&& ~~~ (v &&& BitVec.ofNat 32 r.w1c) ∧ OnlyRegs [a.toNat] s t)) ∧
  (∀ (s : State) (m : Master) (a v : Word) (r : RegRow), s.sup.die = .running → regionOf a.toNat = .pages → regRow a.toNat = some r →
      s.on (F.PAGE_CTRL_SEAL (pageOf a.toNat)) = true → ((s.rd a.toNat ^^^ v) &&& BitVec.ofNat 32 r.rws) ≠ 0 →
      Completes (exec (.registerWrite m .word a v 0) s) (fun t => t.rd a.toNat = s.rd a.toNat ∧ SameMemory s t)) ∧
  (∀ (s : State) (m : Master) (a v : Word) (p : Nat), s.sup.die = .running → p = pageOf a.toNat → regionOf a.toNat = .pages → inHeader a.toNat = false → external m = true →
      s.on (F.PAGE_LOCK_LOCK p) = true → s.fld (F.PAGE_LOCK_OWNER p) ≠ masterId m →
      Completes (exec (.registerWrite m .word a v 0) s) (fun t => OnlyRegs [R.PAGE_ERR_ADDR p, R.PAGE_ERR_INFO p, R.PAGE_ERR_COUNT p] s t)) ∧
  (∀ (s : State) (m : Master) (p : Fin 32) (b : Bool), s.sup.die = .running →
      exec (.pageEnableClear m p) s = .next (s.busWrite m (R.PAGE_CTRL p) (s.rd (R.PAGE_CTRL p) &&& ~~~ 1#32)).2 ∧
      exec (.pageSeal m p) s = .next (s.busWrite m (R.PAGE_CTRL p) (s.rd (R.PAGE_CTRL p) ||| 0x80000000#32)).2 ∧
      exec (.pageLockWrite m p b) s = .next (s.busWrite m (R.PAGE_LOCK p) (if b then 0x100 else 0)).2 ∧
      exec (.pageErrClear m p) s = .next (s.busWrite m (R.PAGE_ERR_COUNT p) 0x80000000#32).2) ∧
  (∀ (s : State) (m : Master) (i : Fin 2) (d : DriveIx) (v : Word), s.sup.die = .running →
      exec (.canRecover m i) s = .next (s.busWrite m (R.CAN_CTRL (ifPage (1 + i))) (s.rd (R.CAN_CTRL (ifPage (1 + i))) ||| 0x100)).2 ∧
      exec (.drvTrqWrite m d v) s = .next (s.busWrite m (R.DRV_TRQ d) v).2 ∧
      exec (.cascXfer m v) s = .next (s.busWrite m R.CASC_XFER v).2 ∧
      exec (.cascCmdRestart m) s = .next (s.busWrite m R.CASC_CMD 1).2) ∧
  (∀ (s : State) (m : Master) (p : Fin 32), s.sup.die = .running → Completes (exec (.pageSeal m p) s) (fun t => t.on (F.PAGE_CTRL_SEAL p) = true ∧
      t.on (F.PAGE_STATUS_SEALED p) = true ∧ t.on (F.PAGE_CTRL_ENABLE p) = s.on (F.PAGE_CTRL_ENABLE p) ∧
      OnlyRegs [R.PAGE_CTRL p, R.PAGE_STATUS p] s t)) ∧
  (∀ (s : State) (m : Master) (p : Fin 32), s.sup.die = .running → pageFixed p = false → p ≠ 0x0B → p ≠ 0x0C → p ≠ 0x0D → s.on (F.PAGE_CTRL_ENABLE p) = true →
      s.on (F.PAGE_CTRL_SEAL p) = false → s.pageBound p = false → Completes (exec (.pageEnableClear m p) s) (fun t =>
        t.on (F.PAGE_CTRL_ENABLE p) = false ∧ t.on (F.PAGE_STATUS_CLR_PEND p) = true ∧ t.on (F.PAGE_CTRL_SEAL p) = false ∧
        OnlyRegs [R.PAGE_CTRL p, R.PAGE_STATUS p] s t)) ∧
  (∀ (s : State) (m : Master) (p : Fin 32) (u : Nat), s.sup.die = .running → pageFixed p = false → p ≠ 0x0B → p ≠ 0x0C → p ≠ 0x0D → s.on (F.PAGE_CTRL_ENABLE p) = true →
      s.pageBound p = true → u < 4 → bit (s.pageUnits p) u = true → s.unitOn u = true →
      exec (.pageEnableClear m p) s = .next (s.refuse m (R.PAGE_CTRL p) eBusy true)) ∧
  (∀ (s : State) (p : Fin 32), s.sup.die = .running → Completes (exec (.blockIdle p) s) (fun t => t.on (F.PAGE_STATUS_CLR_PEND p) = false ∧
      OnlyRegs [R.PAGE_STATUS p] s t)) ∧
  (∀ (s : State) (m : Master) (p : Fin 32), s.sup.die = .running → s.fld (F.PAGE_LOCK_OWNER p) = 0xF → Completes (exec (.pageLockWrite m p true) s) (fun t =>
      t.on (F.PAGE_LOCK_LOCK p) = true ∧ t.fld (F.PAGE_LOCK_OWNER p) = masterId m ∧ t.on (F.PAGE_STATUS_LOCKED p) = true ∧
      OnlyRegs [R.PAGE_LOCK p, R.PAGE_STATUS p] s t)) ∧
  (∀ (s : State) (m : Master) (p : Fin 32) (b : Bool), s.sup.die = .running → s.fld (F.PAGE_LOCK_OWNER p) ≠ 0xF → s.fld (F.PAGE_LOCK_OWNER p) ≠ masterId m →
      external m = true → exec (.pageLockWrite m p b) s = .next (s.refuse m (R.PAGE_LOCK p) eAuth true)) ∧
  (∀ (s : State) (m : Master) (p : Fin 32), s.sup.die = .running → (s.fld (F.PAGE_LOCK_OWNER p) = masterId m ∨ m = .cox0 ∨ m = .cox1) →
      Completes (exec (.pageLockWrite m p false) s) (fun t => t.on (F.PAGE_LOCK_LOCK p) = false ∧ t.fld (F.PAGE_LOCK_OWNER p) = 0xF ∧
        t.on (F.PAGE_STATUS_LOCKED p) = false ∧ OnlyRegs [R.PAGE_LOCK p, R.PAGE_STATUS p] s t)) ∧
  (∀ (s : State) (m : Master) (p : Fin 32), s.sup.die = .running → Completes (exec (.pageErrClear m p) s) (fun t => t.rd (R.PAGE_ERR_ADDR p) = 0 ∧
      t.rd (R.PAGE_ERR_INFO p) = 0 ∧ t.rd (R.PAGE_ERR_COUNT p) = 0 ∧
      OnlyRegs [R.PAGE_ERR_ADDR p, R.PAGE_ERR_INFO p, R.PAGE_ERR_COUNT p] s t)) ∧
  (∀ (s : State) (m : Master) (i : Fin 2) (a : Nat), s.sup.die = .running → a = R.CAN_CTRL (ifPage (1 + i)) → s.judge m a (some (s.rd a ||| 0x100)) = none →
      Completes (exec (.canRecover m i) s) (fun t => ((t.hostIf (1 + i)).recov = true ∨ s.fld (F.CAN_ERR_STATE (ifPage (1 + i))) ≠ 2) ∧
        OnlyRegs [a] s { t with conv := s.conv })) ∧
  (∀ (s : State) (m : Master) (d : DriveIx) (v : Word), s.sup.die = .running → s.judge m (R.DRV_TRQ d) (some v) = none →
      exec (.drvTrqWrite m d v) s = .next (s.trqWriteAll d v)) ∧
  (∀ (s : State) (m : Master) (v : Word), s.sup.die = .running → s.judge m R.CASC_XFER (some v) = none →
      (s.fld F.CASC_XSTAT_STATE = 1 → exec (.cascXfer m v) s = .next (s.refuse m R.CASC_XFER eBusy true)) ∧
      (s.fld F.CASC_XSTAT_STATE ≠ 1 → s.cascaded = true → s.role = roleStroke →
        exec (.cascXfer m v) s = .next (s.xferGo (F.CASC_XFER_POS.get v) (F.CASC_XFER_LEN.get v)))) ∧
  (∀ (s : State) (m : Master), s.sup.die = .running → s.judge m R.CASC_CMD (some 1) = none → s.cascaded = true → s.role = roleStroke →
      s.on F.CASC_STATE_READY = false →
      (s.anyOn = true → exec (.cascCmdRestart m) s = .next (s.refuse m R.CASC_CMD eBusy true)) ∧
      (s.anyOn = false → exec (.cascCmdRestart m) s = .next ((s.toStep4).sendCtl 0 allMembers ctRestart []))) ∧
  (∀ (s : State) (p : Nat), p < 32 → s.readWord (R.PAGE_ID p) = (BitVec.ofNat 32 (0x96400100 + p), s)) ∧
  (∀ s : State, F.CATCH_CTRL_LATE_LIMIT.get (s.readWord R.CATCH_CTRL).1 = (if s.fld F.CATCH_CTRL_LATE_LIMIT = 0 then 1 else s.fld F.CATCH_CTRL_LATE_LIMIT) ∧
      (s.readWord R.CATCH_CTRL).2 = s) ∧
  (∀ (s : State) (i : Fin 3), (F.CONV_STAT_HB_ALIVE (ifPage i)).get (s.readWord (R.CONV_STAT (ifPage i))).1 = s.hbAlive.toNat ∧
      (F.CONV_STAT_OPEN (ifPage i)).get (s.readWord (R.CONV_STAT (ifPage i))).1 = (s.isOpen i).toNat ∧ (s.readWord (R.CONV_STAT (ifPage i))).2 = s) ∧
  (∀ (s : State) (u : UnitIx), (F.PROT_STATE_READY u).get (s.readWord (R.PROT_STATE u)).1 = (s.ready u).toNat ∧
      (s.readWord (R.PROT_STATE u)).2 = s)

/-- READ, WRITE, HEARTBEAT, SYNC and EVENT_ACK: a request that is not first waits, a failing check is answered, and what each one does and answers (from R453, R455 to R465, R473, R520). -/
def Obligations.HostRequests : Prop :=
  (∀ (s : State) (i : Fin 3) (n : Nat) (bad : List (Nat × MemErr)), (∀ f fmt, s.conv.queue.find? (fun e => s.isOpen e.1) ≠ some (i.val, f, fmt)) →
      exec (.hostRead i bad) s = .next s ∧ exec (.hostWrite i) s = .next s ∧ exec (.heartbeat i n) s = .next s ∧
      exec (.sync i) s = .next s ∧ exec (.eventAck i) s = .next s) ∧
  (∀ (s u : State) (i : Fin 3) (bad : List (Nat × MemErr)) (f : List Byte) (fmt c n : Nat), u = s.requestTaken → u.checkCode i f = c → c ≠ 0 →
      (HostTakes i 1 f fmt s → exec (.hostRead i bad) s = .next (u.respond i f fmt c 0 [])) ∧
      (HostTakes i 2 f fmt s → exec (.hostWrite i) s = .next (u.respond i f fmt c 0 [])) ∧
      (HostTakes i 3 f fmt s → exec (.heartbeat i n) s = .next (u.respond i f fmt c 0 [])) ∧
      (HostTakes i 4 f fmt s → exec (.sync i) s = .next (u.respond i f fmt c 0 [])) ∧
      (HostTakes i 5 f fmt s → exec (.eventAck i) s = .next (u.respond i f fmt c 0 []))) ∧
  (∀ (s u : State) (i : Fin 3) (f : List Byte) (fmt n : Nat), u = s.requestTaken → u.checkCode i f = 0 → s.fw = false →
      (HostTakes i 2 f fmt s → exec (.hostWrite i) s = .next (u.respond i f fmt 0x01 6 [0, 0, 0, 0])) ∧
      (HostTakes i 3 f fmt s → exec (.heartbeat i n) s = .next (u.respond i f fmt 0x01 6 [0, 0, 0, 0])) ∧
      (HostTakes i 4 f fmt s → exec (.sync i) s = .next (u.respond i f fmt 0x01 6 [0, 0, 0, 0])) ∧
      (HostTakes i 5 f fmt s → exec (.eventAck i) s = .next (u.respond i f fmt 0x01 6 [0, 0, 0, 0]))) ∧
  (∀ (s u : State) (i : Fin 3) (f : List Byte) (fmt : Nat), HostTakes i 1 f fmt s → u = s.requestTaken → u.checkCode i f = 0 → s.fw = true →
      reqWords f = 1 → reqAddr f % 4 = 0 → regionOf (reqAddr f) = .capture →
      exec (.hostRead i []) s = .next (u.respond i f fmt 0 0 (le 4 (s.sramWord (reqAddr f)).toNat))) ∧
  (∀ (s u t : State) (i : Fin 3) (bad : List (Nat × MemErr)) (f : List Byte) (fmt k c : Nat) (ws : List Word), HostTakes i 1 f fmt s → u = s.requestTaken →
      u.checkCode i f = 0 → s.fw = true → readLoop (s.hostMaster i) bad (reqWords f) 0 (reqAddr f) [] u = ((some (k, c), ws), t) →
      exec (.hostRead i bad) s = .next (t.respond i f fmt 0x01 c (le 4 k))) ∧
  (∀ (s u : State) (i : Fin 3) (f : List Byte) (fmt : Nat), HostTakes i 2 f fmt s → u = s.requestTaken → u.checkCode i f = 0 → s.fw = true →
      reqWords f = 1 → reqAddr f % 4 = 0 → regionOf (reqAddr f) = .capture → s.liveValid = false →
      exec (.hostWrite i) s = .next ((u.setSramWord (reqAddr f) (bytesWord (reqPayload f))).respond i f fmt 0 0 (List.replicate 8 0))) ∧
  (∀ (s u t : State) (i : Fin 3) (f : List Byte) (fmt k c : Nat), HostTakes i 2 f fmt s → u = s.requestTaken → u.checkCode i f = 0 → s.fw = true →
      writeLoop (s.hostMaster i) (payloadWords (reqWords f) (reqPayload f)) 0 (reqAddr f) u = (some (k, c), t) →
      exec (.hostWrite i) s = .next (t.respond i f fmt 0x01 c (le 4 k))) ∧
  (∀ (s u t : State) (i : Fin 3) (f : List Byte) (fmt c n : Nat), HostTakes i 3 f fmt s → u = s.requestTaken → u.checkCode i f = 0 → s.fw = true →
      c = ofLe (reqPayload f) → t = u.renew i c n → exec (.heartbeat i n) s = .next (t.respond i f fmt 0 0 (le 4 c ++ le 4 t.hbWord))) ∧
  (∀ (s : State) (i : Fin 3) (c n : Nat), c < 2 ^ 32 → s.on (F.HB_CFG_HB_EN (ifPage i)) = true → c ≠ s.fld (F.HB_LAST_COUNTER (ifPage i)) →
      (s.renew i c n).fld (F.HB_LAST_COUNTER (ifPage i)) = c ∧ (s.renew i c n).hbAlive = true ∧ (s.renew i c n).conv.hbLast = c ∧ ((s.renew i c n).hostIf i).hb = some n ∧
      (s.renew i c n).conv.hbLive = true ∧
      (c = (s.fld (F.HB_LAST_COUNTER (ifPage i)) + 1) % 2 ^ 32 → (s.renew i c n).rd (R.HB_JUMP (ifPage i)) = s.rd (R.HB_JUMP (ifPage i)))) ∧
  (∀ (s : State) (i : Fin 3) (c n : Nat), s.on (F.HB_CFG_HB_EN (ifPage i)) = false ∨ c = s.fld (F.HB_LAST_COUNTER (ifPage i)) → s.renew i c n = s) ∧
  (∀ (s : State) (i : Fin 3) (f : List Byte) (fmt : Nat), HostTakes i 4 f fmt s → s.requestTaken.checkCode i f = 0 → s.fw = true →
      (s.hostIf i).dropped = 0 → Completes (exec (.sync i) s) (fun t => (t.hostIf i).cache = [] ∧ (t.hostIf i).events = [] ∧
        t.fld (F.CONV_STAT_NEXT_TAG (ifPage i)) = (reqTag f + 1) % 128 ∧ t.fld (F.CONV_STAT_EVT_PEND (ifPage i)) = 0 ∧
        (∀ p, p < 32 → s.on (F.PAGE_LOCK_LOCK p) = true → s.fld (F.PAGE_LOCK_OWNER p) = 3 + i →
          t.on (F.PAGE_LOCK_LOCK p) = false ∧ t.fld (F.PAGE_LOCK_OWNER p) = 0xF ∧ t.on (F.PAGE_STATUS_LOCKED p) = false) ∧
        t.conv.queue = s.requestTaken.conv.queue ∧ (t.hostIf i).out = ((s.hostIf i).out.filter (fun o => !(o.first && o.event))) ++
          [⟨answerFrame 0x84 (reqTag f) 0 0 s.sec.session (le 4 ((reqTag f + 1) % 128)), fmt, true, 0, false, false⟩] ∧ SameMemory s t)) ∧
  (∀ (s : State) (i : Fin 3) (f : List Byte) (fmt : Nat), HostTakes i 5 f fmt s → s.requestTaken.checkCode i f = 0 → s.fw = true →
      (s.hostIf i).dropped = 0 → (s.hostIf i).events.any (fun e => e.tag == reqAddr f) = true →
      Completes (exec (.eventAck i) s) (fun t => (t.hostIf i).events = (s.hostIf i).events.filter (fun e => e.tag != reqAddr f) ∧
        OnlyPages [0x15, 0x16, 0x17] s t ∧ SameMemory s t)) ∧
  (∀ (s u : State) (i : Fin 3) (f : List Byte) (fmt : Nat), HostTakes i 5 f fmt s → u = s.requestTaken → u.checkCode i f = 0 → s.fw = true →
      (s.hostIf i).events.any (fun e => e.tag == reqAddr f) = false → exec (.eventAck i) s = .next (u.respond i f fmt 0x09 0 [])) ∧
  (∀ (s : State) (i : Fin 3) (f pl : List Byte) (fmt err : Nat), byteAt f 0 ≠ 4 → ((s.respond i f fmt 0 err pl).hostIf i).out =
        ((s.hostIf i).put (answerFrame (byteAt f 0 % 128 + 128) (reqTag f) 0 err s.sec.session pl) fmt (pl.length == 0) false).out ∧
      ((s.respond i f fmt 0 err pl).hostIf i).cache.find? (fun e => e.1 == reqTag f) =
        some (reqTag f, reqBody f, answerFrame (byteAt f 0 % 128 + 128) (reqTag f) 0 err s.sec.session pl) ∧
      (∀ e ∈ ((s.respond i f fmt 0 err pl).hostIf i).busy, e.1 ≠ reqTag f) ∧ OnlyPages [ifPage i] s (s.respond i f fmt 0 err pl)) ∧
  (∀ (op tag st err session : Nat) (pl : List Byte), pl.length ≤ 1024 → frameCode (answerFrame op tag st err session pl) = 0 ∧
      (answerFrame op tag st err session pl).length = pl.length + 10 ∧ reqPayload (answerFrame op tag st err session pl) = pl)

/-- Frames on host SPI and CAN: reception, retries, segments, bus-off, events sent again, and the loss of the heartbeat (from R457 to R472, R475). -/
def Obligations.CanAndSpi : Prop :=
  (∀ (s : State) (l : List Byte), s.sup.die = .running → s.isOpen 0 = false → exec (.spiTransaction l) s = .next s) ∧
  (∀ (s w : State) (l sent : List Byte), s.sup.die = .running → s.isOpen 0 = true →
      sent = (s.spiPreamble ++ ((s.hostIf 0).out.head?.map (fun f => f.bytes)).getD []).take l.length →
      w = { s with conv := { s.conv with hmiso := sent ++ List.replicate (l.length - sent.length) 0 } } →
      ((s.hostIf 0).out = [] → (l = [] ∨ byteAt l 0 = 0) → exec (.spiTransaction l) s = .next w) ∧
      ((s.hostIf 0).out = [] → byteAt l 0 ≠ 0 → 10 ≤ l.length →
        exec (.spiTransaction l) s = .next (w.hostFrame 0 (l.take (reqLen l + 10)) 0)) ∧
      (∀ (n : Nat) (f : OutFrame) (rest : List OutFrame), (s.hostIf 0).out = f :: rest → l = List.replicate n 0 → 4 + f.bytes.length ≤ n →
        (∀ e ∈ (s.hostIf 0).events, e.sent = true) →
        exec (.spiTransaction l) s = .next (w.modIf 0 (fun x => { x with out := rest }))) ∧
      (∀ (n : Nat) (f : OutFrame) (rest : List OutFrame), (s.hostIf 0).out = f :: rest → l = List.replicate n 0 → 4 < n → n < 4 + f.bytes.length →
        Completes (exec (.spiTransaction l) s) (fun t => t.conv = w.conv ∧
          t.fld F.HSPI_STAT_TRUNC = min (s.fld F.HSPI_STAT_TRUNC + 1) 65535 ∧ OnlyRegs [R.HSPI_STAT] w t))) ∧
  (∀ s : State, (s.hostIf 0).out = [] → (s.hostIf 0).events = [] → s.spiPreamble = [0xA5, 0, 0, 0]) ∧
  (∀ (x : HostIf) (l : List Byte) (fmt : Nat) (bare ev : Bool), (x.put l fmt bare ev).out = x.out ++ [⟨l, fmt, true, 0, bare, ev⟩]) ∧
  (∀ (s : State) (i : Fin 3) (f : List Byte) (fmt c : Nat), frameCode f = c → c ≠ 0 → s.hostFrame i f fmt = s.frameErr i f fmt c) ∧
  (∀ (s : State) (i : Fin 3) (f : List Byte) (fmt : Nat), frameCode f = 0 → (s.hostIf i).busy.find? (fun e => e.1 == reqTag f) = none →
      (s.hostIf i).cache.find? (fun e => e.1 == reqTag f) = none → 1 ≤ byteAt f 0 → byteAt f 0 ≤ 5 → s.on (F.CONV_CFG_ORDER (ifPage i)) = false →
      (s.hostFrame i f fmt).conv.queue = s.conv.queue ++ [(i.val, f, fmt)] ∧
      ((s.hostFrame i f fmt).hostIf i).busy = (s.hostIf i).busy ++ [(reqTag f, reqBody f)] ∧
      ((s.hostFrame i f fmt).hostIf i).out = (s.hostIf i).out ∧ OnlyPages [ifPage i] s (s.hostFrame i f fmt)) ∧
  (∀ (s : State) (i : Fin 3) (f : List Byte) (fmt : Nat) (e : Nat × List Byte), frameCode f = 0 →
      (s.hostIf i).busy.find? (fun e => e.1 == reqTag f) = some e → (s.hostFrame i f fmt).conv.queue = s.conv.queue ∧
      (e.2 = reqBody f → (s.hostFrame i f fmt).conv = s.conv ∧ (s.hostFrame i f fmt).on (F.CONV_EVENT_DUP (ifPage i)) = true) ∧
      (e.2 ≠ reqBody f → ((s.hostFrame i f fmt).hostIf i).busy = (s.hostIf i).busy ∧
        ((s.hostFrame i f fmt).hostIf i).out =
          ((s.hostIf i).put (answerFrame (byteAt f 0 % 128 + 128) (reqTag f) 0x06 0 s.sec.session []) fmt true false).out)) ∧
  (∀ (s : State) (i : Fin 3) (f a : List Byte) (fmt : Nat), frameCode f = 0 → (s.hostIf i).busy.find? (fun e => e.1 == reqTag f) = none →
      (s.hostIf i).cache.find? (fun e => e.1 == reqTag f) = some (reqTag f, reqBody f, a) → (s.hostIf i).fits a.length (a.length == 10) = true →
      (s.hostFrame i f fmt).conv.queue = s.conv.queue ∧ ((s.hostFrame i f fmt).hostIf i).cache = (s.hostIf i).cache ∧
      ((s.hostFrame i f fmt).hostIf i).out = ((s.hostIf i).put (dupFrame a) fmt ((dupFrame a).length == 10) false).out) ∧
  (∀ (s : State) (c : Fin 2) (errs : List CanErr) (f : CanFrame), s.sup.die = .running → s.canOn (1 + c) = false →
      exec (.canSegment c errs f) s = .next s) ∧
  (∀ (s : State) (c : Fin 2) (errs : List CanErr) (f : CanFrame), s.sup.die = .running → s.canOn (1 + c) = true → s.canTakes (ifPage (1 + c)) f = false →
      exec (.canSegment c errs f) s = .next ((s.each errs (fun e t => t.canRxError (1 + c) e)).canGood (1 + c))) ∧
  (∀ (s t : State) (c : Fin 2) (e : CanErr) (p : Nat), p = ifPage (1 + c) → s.fld (F.CAN_ERR_STATE p) ≠ 2 →
      (t = s.canRxError (1 + c) e → t.fld (F.CAN_ERR_REC p) = min 255 (s.fld (F.CAN_ERR_REC p) + 1 + 8 * e.dominant) ∧ t.fld (F.CAN_ERR_LEC p) = e.lec ∧
        t.fld (F.CAN_ERR_TEC p) = s.fld (F.CAN_ERR_TEC p) ∧
        (t.fld (F.CAN_ERR_STATE p) = 1 ↔ 127 < s.fld (F.CAN_ERR_TEC p) ∨ 127 < s.fld (F.CAN_ERR_REC p) + 1 + 8 * e.dominant) ∧ OnlyRegs [R.CAN_ERR p] s t) ∧
      (∀ n, n = s.fld (F.CAN_ERR_TEC p) + (if e.lec = 3 ∧ s.fld (F.CAN_ERR_STATE p) = 1 ∧ e.dominant = 0 then 0 else 8) + 8 * e.dominant →
        t = s.canTxError (1 + c) e → (n < 256 → t.fld (F.CAN_ERR_TEC p) = n ∧
          t.fld (F.CAN_ERR_LEC p) = e.lec ∧ t.fld (F.CAN_ERR_STATE p) ≠ 2 ∧ OnlyRegs [R.CAN_ERR p] s t) ∧
        (256 ≤ n → t.fld (F.CAN_ERR_STATE p) = 2 ∧ t.on (F.CONV_EVENT_BUS_OFF p) = true ∧
          t.canOn (1 + c) = false ∧ OnlyRegs [R.CAN_ERR p, R.CONV_EVENT p] s { t with conv := s.conv }))) ∧
  (∀ (s : State) (c : Fin 2) (f : CanFrame), s.sup.die = .running → s.canOn (1 + c) = true → s.canTakes (ifPage (1 + c)) f = true → f.fmt ≠ 3 → (s.hostIf (1 + c)).asm = none → byteAt f.data 0 = 0xC0 → 11 ≤ f.data.length →
      exec (.canSegment c [] f) s = .next (((s.canGood (1 + c)).modIf (1 + c) (fun x => { x with asm := none })).hostFrame (1 + c)
        (f.data.tail.take (reqLen f.data.tail + 10)) f.fmt)) ∧
  (∀ (s : State) (c : Fin 2) (f : CanFrame), s.sup.die = .running → s.canOn (1 + c) = true → s.canTakes (ifPage (1 + c)) f = true → f.fmt ≠ 3 → (s.hostIf (1 + c)).asm = none → byteAt f.data 0 = 0x80 →
      Completes (exec (.canSegment c [] f) s) (fun t => (t.hostIf (1 + c)).asm = some (f.data.tail, 1, f.fmt.val) ∧
        t.conv.queue = s.conv.queue ∧ OnlyRegs [R.CAN_ERR (ifPage (1 + c))] s { t with conv := s.conv, freeCtr := s.freeCtr })) ∧
  (∀ (s : State) (c : Fin 2) (f : CanFrame) (l : List Byte) (n k : Nat), s.sup.die = .running → s.canOn (1 + c) = true → s.canTakes (ifPage (1 + c)) f = true → f.fmt ≠ 3 → (s.hostIf (1 + c)).asm = some (l, n, k) → byteAt f.data 0 = n → n < 64 →
      Completes (exec (.canSegment c [] f) s) (fun t => (t.hostIf (1 + c)).asm = some (l ++ f.data.tail, (n + 1) % 64, f.fmt.val) ∧
        t.conv.queue = s.conv.queue)) ∧
  (∀ (s : State) (c : Fin 2) (f : CanFrame) (l : List Byte) (n k : Nat), s.sup.die = .running → s.canOn (1 + c) = true → s.canTakes (ifPage (1 + c)) f = true → f.fmt ≠ 3 → (s.hostIf (1 + c)).asm = some (l, n, k) → byteAt f.data 0 ≠ n →
      byteAt f.data 0 < 64 → Completes (exec (.canSegment c [] f) s) (fun t => (t.hostIf (1 + c)).asm = none ∧
        t.fld (F.CAN_SEG_SEG_LOST (ifPage (1 + c))) = min (s.fld (F.CAN_SEG_SEG_LOST (ifPage (1 + c))) + 1) 65535 ∧
        t.on (F.CONV_EVENT_SEG_ERR (ifPage (1 + c))) = true ∧ t.on (F.CONV_EVENT_FRAME_ERR (ifPage (1 + c))) = true ∧
        t.conv.queue = s.conv.queue)) ∧
  (∀ (s : State) (c : Fin 2), s.sup.die = .running → (s.hostIf (1 + c)).asm = none ∨ s.isOpen (1 + c) = false → exec (.segTimeout c) s = .next s) ∧
  (∀ (s : State) (c : Fin 2) (l : List Byte) (n k : Nat), s.sup.die = .running → s.isOpen (1 + c) = true → (s.hostIf (1 + c)).asm = some (l, n, k) → Completes (exec (.segTimeout c) s) (fun t =>
      (t.hostIf (1 + c)).asm = none ∧ t.fld (F.CAN_SEG_SEG_TMO (ifPage (1 + c))) = min (s.fld (F.CAN_SEG_SEG_TMO (ifPage (1 + c))) + 1) 65535 ∧
      t.on (F.CONV_EVENT_SEG_ERR (ifPage (1 + c))) = true ∧ t.fld (F.CONV_LAST_STATUS (ifPage (1 + c))) = 0x24 ∧
      OnlyPages [ifPage (1 + c)] s t)) ∧
  (∀ (s : State) (c : Fin 2), s.sup.die = .running → s.canOn (1 + c) = true → Completes (exec (.canBusOff c) s) (fun t => t.fld (F.CAN_ERR_STATE (ifPage (1 + c))) = 2 ∧
      t.on (F.CONV_EVENT_BUS_OFF (ifPage (1 + c))) = true ∧ (t.hostIf (1 + c)).recov = false ∧ t.canOn (1 + c) = false ∧
      OnlyRegs [R.CAN_ERR (ifPage (1 + c)), R.CONV_EVENT (ifPage (1 + c))] s { t with conv := s.conv, freeCtr := s.freeCtr })) ∧
  (∀ (s : State) (c : Fin 2), s.sup.die = .running → s.canOn (1 + c) = false → exec (.canBusOff c) s = .next s) ∧
  (∀ (s : State) (c : Fin 2), s.sup.die = .running → s.fld (F.CAN_ERR_STATE (ifPage (1 + c))) = 2 →
      (s.on (F.CAN_CTRL_AUTO_RECOV (ifPage (1 + c))) = true ∨ (s.hostIf (1 + c)).recov = true) →
      Completes (exec (.canBusOffRecovered c) s) (fun t => t.fld (F.CAN_ERR_STATE (ifPage (1 + c))) = 0 ∧
        t.fld (F.CAN_ERR_TEC (ifPage (1 + c))) = 0 ∧ t.fld (F.CAN_ERR_REC (ifPage (1 + c))) = 0 ∧ (t.hostIf (1 + c)).recov = false ∧
        OnlyRegs [R.CAN_ERR (ifPage (1 + c))] s { t with conv := s.conv })) ∧
  (∀ (s : State) (c : Fin 2), s.sup.die = .running → (s.fld (F.CAN_ERR_STATE (ifPage (1 + c))) ≠ 2 ∨
      (s.on (F.CAN_CTRL_AUTO_RECOV (ifPage (1 + c))) = false ∧ (s.hostIf (1 + c)).recov = false)) → exec (.canBusOffRecovered c) s = .next s) ∧
  (∀ (s : State) (c : Fin 2) (errs : List CanErr), s.sup.die = .running → ((s.hostIf (1 + c)).out = [] ∨ s.canOn (1 + c) = false) →
      exec (.canFrameSent c errs) s = .next s) ∧
  (∀ (s t : State) (c : Fin 2) (errs : List CanErr), s.sup.die = .running → (s.hostIf (1 + c)).out ≠ [] → s.canOn (1 + c) = true →
      t = s.each errs (fun e t => t.canTxError (1 + c) e) → t.canOn (1 + c) = false → exec (.canFrameSent c errs) s = .next t) ∧
  (∀ (s : State) (i : Nat) (f : OutFrame), (s.canFrame i f).1.data.take f.segment.length = f.segment ∧ f.segment = BitVec.ofNat 8
      ((if f.first then 128 else 0) + (if f.bytes.length ≤ segBytes f.fmt then 64 else 0) + f.count) :: f.bytes.take (segBytes f.fmt)) ∧
  (∀ (s : State) (c : Fin 2) (f : OutFrame) (rest : List OutFrame), s.sup.die = .running → s.canOn (1 + c) = true → (s.hostIf (1 + c)).out = f :: rest →
      (segBytes f.fmt < f.bytes.length → Completes (exec (.canFrameSent c []) s) (fun t =>
        (t.hostIf (1 + c)).out = { f with bytes := f.bytes.drop (segBytes f.fmt), first := false, count := (f.count + 1) % 64 } :: rest ∧
        (t.hostIf (1 + c)).sent = some (s.canFrame (1 + c) f).1 ∧ t.fld (F.CAN_ERR_TEC (ifPage (1 + c))) = s.fld (F.CAN_ERR_TEC (ifPage (1 + c))) - 1 ∧
        OnlyRegs [R.CAN_ERR (ifPage (1 + c))] s { t with conv := s.conv, freeCtr := s.freeCtr })) ∧
      (f.bytes.length ≤ segBytes f.fmt → (∀ e ∈ (s.hostIf (1 + c)).events, e.sent = true) → Completes (exec (.canFrameSent c []) s) (fun t =>
        (t.hostIf (1 + c)).out = rest ∧ (t.hostIf (1 + c)).sent = some (s.canFrame (1 + c) f).1 ∧
        OnlyRegs [R.CAN_ERR (ifPage (1 + c))] s { t with conv := s.conv, freeCtr := s.freeCtr }))) ∧
  (∀ (s : State) (i : Fin 3) (tag : Fin 128), s.sup.die = .running → (∀ e ∈ (s.hostIf i).events, e.tag ≠ tag) → exec (.eventResend i tag) s = .next s) ∧
  (∀ (s : State) (i : Fin 3) (tag : Fin 128) (e : HostEvent), s.sup.die = .running → (s.hostIf i).events.find? (fun e => e.tag == tag.val) = some e → e.sent = true →
      s.isOpen i = true → (s.hostIf i).fits e.bytes.length false = true → Completes (exec (.eventResend i tag) s) (fun t =>
        (t.hostIf i).out = ((s.hostIf i).put (dupFrame e.bytes) (s.eventFmt i) ((dupFrame e.bytes).length == 10) true).out ∧
        (t.hostIf i).events = (s.hostIf i).events ∧ { t with conv := s.conv } = s)) ∧
  (∀ (s : State) (n : Nat), s.sup.die = .running → (s.hbSupervised = false ∨ s.conv.hbLive = false) → exec (.heartbeatLoss n) s = .next s) ∧
  (∀ (s : State) (n : Nat), s.sup.die = .running → s.hbSupervised = true → s.conv.hbLive = true → s.hbWithin n = true →
      Completes (exec (.heartbeatLoss n) s) (fun t => t.hbAlive = true ∧ t.conv.hbLive = true ∧ { t with conv := s.conv } = s)) ∧
  (∀ (s : State) (n : Nat), s.sup.die = .running → s.hbSupervised = true → s.conv.hbLive = true → s.hbWithin n = false → s.driveState 0 = dOff → s.driveState 1 = dOff → s.anyOn = false →
      (∀ u < 4, s.unitOn u = false) → (∀ u < 4, s.inSafe u = false) →
      Completes (exec (.heartbeatLoss n) s) (fun t => t.hbAlive = false ∧ t.conv.hbLive = false ∧ { t with conv := s.conv } = s)) ∧
  (∀ (s : State) (n : Nat), s.sup.die = .running → s.hbSupervised = true → s.conv.hbLive = true → s.hbWithin n = false → (s.driveState 0 ≠ dOff ∨ s.driveState 1 ≠ dOff) →
      Completes (exec (.heartbeatLoss n) s) (fun t => t.hbAlive = false ∧ t.conv.hbLive = false ∧ (∀ i : Fin 3, s.on (F.HB_CFG_HB_EN (ifPage i)) = true →
        t.on (F.CONV_EVENT_HB_LOST (ifPage i)) = true) ∧ (∀ p, p < 32 → s.on (F.PAGE_LOCK_LOCK p) = true → 3 ≤ s.fld (F.PAGE_LOCK_OWNER p) →
        s.fld (F.PAGE_LOCK_OWNER p) ≤ 5 → t.on (F.PAGE_LOCK_LOCK p) = false ∧ t.fld (F.PAGE_LOCK_OWNER p) = 0xF)))

/-- What a cascade member does with ordered sets, notices, probes, markers, EXCH and SIG frames, and which frames it passes over
(from R477 to R485, R492, R495 to R509). -/
def Obligations.RingFrames : Prop :=
  (∀ (s : State) (i : Instr) (f : RingHdr × Nat × Nat × Nat × List Byte), frameOf i = some f → s.cascaded = false → exec i s = .next s) ∧
  (∀ (s : State) (i : Instr) (h : RingHdr) (typ b3 addr : Nat) (payload : List Byte), frameOf i = some (h, typ, b3, addr, payload) →
      s.sup.die = .running → s.cascaded = true → (bit s.ring.down h.ring = true → exec i s = .next s) ∧
      (bit s.ring.down h.ring = false → ringGood h typ b3 addr payload = true → h.dst.val ≠ s.pos' → h.dst.val ≠ allMembers →
        exec i s = .next (s.forward h))) ∧
  (∀ (s : State) (h : RingHdr), OnlyRegs [] s { s.forward h with ring := s.ring } ∧ { (s.forward h).ring with fwd := s.ring.fwd } = s.ring ∧
      (s.forward h).ring.fwd = if h.dst.val = s.pos' ∨ s.devices ≤ h.hops.val + 2 then none else some { h with hops := h.hops + 1 }) ∧
  (∀ (s : State) (r : Fin 2) (b same : Bool) (fines : List (BitVec 14)) (o : Int) (n : Nat) (p : Fin 8) (x y z : BitVec 8) (c : BitVec 24)
      (chars : List Bool), s.cascaded = false → exec (.ls r x y z fines) s = .next s ∧ exec (.characterLock r o same) s = .next s ∧
      exec (.laneDown r chars b fines) s = .next s ∧ exec (.linkAbort r) s = .next s ∧ exec (.ssn p x y) s = .next s ∧
      exec (.rev y p z) s = .next s ∧ exec (.dly r x y n) s = .next s ∧ exec (.cm r c x y n) s = .next s ∧ exec (.delayRound n) s = .next s ∧
      exec (.startStepEnd b n p 0) s = .next s) ∧
  (∀ (s : State) (r : Fin 2) (x y z : BitVec 8) (fines : List (BitVec 14)) (p : Fin 8) (c : BitVec 24) (n : Nat), s.cascaded = true →
      (setCheck [x, y] ≠ z → exec (.ls r x y z fines) s = .next s) ∧ (setCheck [BitVec.ofNat 8 p, x] ≠ z → exec (.ssn p x z) s = .next s) ∧
      (setCheck [x, BitVec.ofNat 8 p] ≠ z → exec (.rev x p z) s = .next s) ∧ (setCheck [x, 0] ≠ z → exec (.dly r x z n) s = .next s) ∧
      (setCheck (le 3 c.toNat ++ [x]) ≠ z → exec (.cm r c x z n) s = .next s)) ∧
  (∀ (s : State) (r : Fin 2) (status pos check : BitVec 8) (fines : List (BitVec 14)), s.sup.die = .running → s.cascaded = true →
      setCheck [status, pos] = check → bit s.ring.down r = false → status.getLsbD 0 = true → Completes (exec (.ls r status pos check fines) s)
      (fun t => t.on (F.LINK_STAT_SRCOK r) = true ∧ t.ring.noSrc.get r = 0 ∧ OnlyRegs [R.LINK_STAT r] s { t with ring := s.ring })) ∧
  (∀ (s : State) (r : Fin 2) (status pos check : BitVec 8) (fines : List (BitVec 14)), s.sup.die = .running → s.cascaded = true →
      bit s.ring.down r = true → exec (.ls r status pos check fines) s = .next s) ∧
  (∀ (s : State) (r : Fin 2) (status pos check : BitVec 8) (fines : List (BitVec 14)), s.sup.die = .running → s.cascaded = true →
      setCheck [status, pos] = check → bit s.ring.down r = false → status.getLsbD 0 = false →
      (s.ring.noSrc.get r = 0 ∨ s.role ≠ roleCrew ∨ s.fld F.PLL_STATUS_SRC ≠ 2 + r.val) → Completes (exec (.ls r status pos check fines) s)
      (fun t => t.on (F.LINK_STAT_SRCOK r) = false ∧ t.ring.noSrc.get r = min (s.ring.noSrc.get r + 1) 2 ∧
        OnlyRegs [R.LINK_STAT r] s { t with ring := s.ring })) ∧
  (∀ (s t : State) (r : Fin 2) (status pos check : BitVec 8) (fines : List (BitVec 14)), s.sup.die = .running → s.cascaded = true →
      setCheck [status, pos] = check → bit s.ring.down r = false → status.getLsbD 0 = false → s.ring.noSrc.get r ≠ 0 → s.role = roleCrew →
      s.fld F.PLL_STATUS_SRC = 2 + r.val → t = s.set (F.LINK_STAT_SRCOK r) 0 →
      exec (.ls r status pos check fines) s = .next (({ t with ring := { t.ring with noSrc := t.ring.noSrc.set r 2 } } : State).refLost fines)) ∧
  (∀ (s : State) (r : Fin 2), s.lsSet r = [(s.lsSet r).getD 0 0, BitVec.ofNat 8 s.pos', setCheck ((s.lsSet r).take 2)] ∧
      ((s.lsSet r).getD 0 0).getLsbD 0 = (s.role == roleStroke || (s.on (F.LINK_STAT_RX_UP r) && s.on (F.LINK_STAT_SRCOK r))) ∧
      ((s.lsSet r).getD 0 0).getLsbD 1 = (s.pllState == pLocked) ∧ ((s.lsSet r).getD 0 0).getLsbD 2 = s.ring.enumerated) ∧
  (∀ (s : State) (r : Fin 2) (o : Int) (same : Bool), s.sup.die = .running → s.cascaded = true → Completes (exec (.characterLock r o same) s)
      (fun t => t.on (F.LINK_STAT_CHAR_LOCK r) = true ∧ (bit s.ring.down r = true → OnlyRegs [R.LINK_STAT r] s t) ∧
      (bit s.ring.down r = false → t.on (F.LINK_STAT_RX_UP r) = true ∧ r.val ∈ t.pll.lanes ∧
        (r.val ∉ s.pll.lanes → t.pll.lanes = if same = true ∧ r = 0 then 0 :: s.pll.lanes else s.pll.lanes ++ [r.val]) ∧
        (s.ring.res = 0 → 288 ≤ t.fld F.LINK_RES_RES ∧ t.fld F.LINK_RES_RES ≤ 384 ∧ t.ring.res = t.fld F.LINK_RES_RES) ∧
        (s.ring.res ≠ 0 → t.ring = s.ring)))) ∧
  (∀ (s : State) (r : Fin 2) (chars : List Bool) (lost : Bool) (fines : List (BitVec 14)), s.sup.die = .running → s.cascaded = true →
      bit s.ring.down r = false → s.on (F.LINK_STAT_RX_UP r) = true → (lost = true ∨ (violRun (s.ring.viols.get r) chars).2 = true) →
      Completes (exec (.laneDown r chars lost fines) s) (fun t => bit t.ring.down r = true ∧ t.on (F.LINK_STAT_RX_UP r) = false ∧
        t.on (F.LINK_STAT_SRCOK r) = false ∧ t.on (if r = 0 then F.LINK_EVENT_LANE_DOWN0 else F.LINK_EVENT_LANE_DOWN1) = true ∧
        t.on F.CASC_EVENT_RING_BREAK = true ∧ t.on F.CASC_STATE_DEGRADED = true ∧
        t.fld F.CASC_STATE_BREAK = (if r = 0 then (s.pos' + s.devices - 1) % s.devices else s.pos') ∧ r.val ∉ t.pll.lanes ∧
        t.fld (F.LINK_STAT_CODE_ERR r) = min (s.fld (F.LINK_STAT_CODE_ERR r) + (chars.filter (fun c => c)).length) 255)) ∧
  (∀ (s : State) (r : Fin 2) (chars : List Bool) (lost : Bool) (fines : List (BitVec 14)), s.sup.die = .running → s.cascaded = true →
      (bit s.ring.down r = true ∨ s.on (F.LINK_STAT_RX_UP r) = false ∨ (lost = false ∧ (violRun (s.ring.viols.get r) chars).2 = false)) →
      Completes (exec (.laneDown r chars lost fines) s) (fun t =>
        t.fld (F.LINK_STAT_CODE_ERR r) = min (s.fld (F.LINK_STAT_CODE_ERR r) + (chars.filter (fun c => c)).length) 255 ∧
        (lost = true → t.on (F.LINK_STAT_CHAR_LOCK r) = false) ∧ t.ring.viols.get r = (violRun (s.ring.viols.get r) chars).1 ∧
        OnlyRegs [R.LINK_STAT r] s { t with ring := s.ring })) ∧
  (∀ (n k : Nat) (l : List Bool), n < 16 → 0 < k → ((violRun n (List.replicate k true)).2 = decide (16 ≤ n + k)) ∧
      (violRun n (l ++ [false])).1 = 0) ∧
  (∀ (s : State) (r : Fin 2), s.sup.die = .running → s.cascaded = true → bit s.ring.down r = false → Completes (exec (.linkAbort r) s) (fun t =>
      t.fld (F.LINK_STAT_CRC_ERR r) = min (s.fld (F.LINK_STAT_CRC_ERR r) + 1) 65535 ∧ t.on F.LINK_EVENT_CRC = true ∧
      OnlyRegs [R.LINK_STAT r, R.LINK_EVENT] s t)) ∧
  (∀ (s : State) (p : Fin 8) (x c : BitVec 8), s.sup.die = .running → s.cascaded = true → setCheck [BitVec.ofNat 8 p, x] = c →
      p.val ≠ s.pos' → s.live.bound 0 = false → s.live.bound 1 = false →
      Completes (exec (.ssn p x c) s) (fun t => t.on F.CASC_EVENT_SSN_RX = true ∧ (s.rd R.CASC_SSN = 0 → t.fld F.CASC_SSN_POS = p ∧
        t.fld F.CASC_SSN_REASON = x.toNat ∧ t.fld F.CASC_SSN_CATCH = s.stamp) ∧ (s.rd R.CASC_SSN ≠ 0 → t.rd R.CASC_SSN = s.rd R.CASC_SSN) ∧
        OnlyRegs [R.CASC_EVENT, R.CASC_SSN] s t)) ∧
  (∀ (s t u : State) (p : Fin 8) (x c : BitVec 8) (d : Fin 2), s.sup.die = .running → s.cascaded = true → setCheck [BitVec.ofNat 8 p, x] = c →
      p.val ≠ s.pos' → s.live.bound d = true → s.live.bound (1 - d.val) = false → u = s.ev F.CASC_EVENT_SSN_RX →
      t = (if s.rd R.CASC_SSN = 0 then ((u.set F.CASC_SSN_POS p).set F.CASC_SSN_REASON x.toNat).set F.CASC_SSN_CATCH s.stamp else u).protReq d none →
      exec (.ssn p x c) s = .next { t with ring := { t.ring with sent := s.ring.sent } }) ∧
  (∀ (s : State) (p : Fin 8) (x c : BitVec 8), p.val = s.pos' → exec (.ssn p x c) s = .next s) ∧
  (∀ (s : State) (p : Fin 8) (b c : BitVec 8), s.sup.die = .running → s.cascaded = true → setCheck [b, BitVec.ofNat 8 p] = c →
      p.val ≠ s.pos' → s.ring.mode.phase = 1 → s.cat.num ≤ s.ring.mode.n + 1 →
      b.toNat = (s.ring.mode.n + 2) % 256 → Completes (exec (.rev b p c) s) (fun t => t.ring.mode.phase = 2 ∧
        t.ring.mode.revertAt = s.ring.mode.n + 2 ∧ { t with ring := s.ring } = s)) ∧
  (∀ (s : State) (p : Fin 8) (b c : BitVec 8), (s.ring.mode.phase ≠ 1 ∨ s.ring.mode.n + 1 < s.cat.num ∨
      b.toNat ≠ (s.ring.mode.n + 2) % 256) → exec (.rev b p c) s = .next s) ∧
  (∀ (s : State) (r : Fin 2) (round check : BitVec 8) (n : Nat), s.sup.die = .running → s.cascaded = true → setCheck [round, 0] = check →
      bit s.ring.down r = false → s.ring.rounds.length < 64 → s.role ≠ roleStroke →
      (s.ring.half = none ∨ ∃ k q a, s.ring.half = some (k, q, a) ∧ (q = r.val ∨ k ≠ round.toNat)) →
      Completes (exec (.dly r round check n) s) (fun t => t.ring.half = some (round.toNat, r.val, n) ∧ t.ring.rounds = s.ring.rounds ∧
        { t with ring := s.ring } = s)) ∧
  (∀ (s : State) (r : Fin 2) (round check : BitVec 8) (n m : Nat), s.sup.die = .running → s.cascaded = true → setCheck [round, 0] = check →
      bit s.ring.down r = false → s.ring.rounds.length < 64 → s.role ≠ roleStroke → s.ring.half = some (round.toNat, 1 - r.val, m) →
      Completes (exec (.dly r round check n) s) (fun t => t.ring.half = none ∧
        t.ring.rounds = (if r = 1 then ((m : Int), (n : Int)) else ((n : Int), (m : Int))) :: s.ring.rounds ∧ { t with ring := s.ring } = s)) ∧
  (∀ (s : State) (r : Fin 2) (c : BitVec 24) (x y : BitVec 8) (n : Nat), (s.isCrew = false ∨ bit s.ring.down r = true ∨ s.fld F.PLL_STATUS_SRC ≠ 2 + r.val ∨
      s.cat.waitLock = true ∨ (s.on F.CATCH_CTRL_RUN = false ∧ s.cat.first = false)) → exec (.cm r c x y n) s = .next s) ∧
  (∀ (s : State) (r : Fin 2) (c : BitVec 24) (f check : BitVec 8) (n k : Nat) (x : Int), s.sup.die = .running → s.isCrew = true →
      setCheck (le 3 c.toNat ++ [f]) = check → s.fld F.PLL_STATUS_SRC = 2 + r.val → bit s.ring.down r = false → s.cat.waitLock = false →
      (s.on F.CATCH_CTRL_RUN = true ∨ s.cat.first = true) → (s.cat.first = true ∨ s.ring.placed = false) → s.markerNum c.toNat = some k →
      x = (n : Int) + 4000 - s.fld (if r = 0 then F.CASC_DELAY_D0 else F.CASC_DELAY_D1) → Completes (exec (.cm r c f check n) s) (fun t =>
        t.cat.num = k - 1 ∧ t.cat.next = (x / 32).toNat ∧ t.ring.placed = true ∧ t.ring.base = x % 32 ∧ t.on F.CATCH_CTRL_RUN = true ∧
        t.fld F.CASC_ALIGN_MSRC = r ∧ OnlyRegs [R.CASC_ALIGN, R.CATCH_CTRL] s { t with cat := s.cat, ring := s.ring })) ∧
  (∀ (s : State) (r : Fin 2) (c : BitVec 24) (f check : BitVec 8) (n : Nat), s.sup.die = .running → s.isCrew = true →
      setCheck (le 3 c.toNat ++ [f]) = check → s.fld F.PLL_STATUS_SRC = 2 + r.val → bit s.ring.down r = false → s.cat.waitLock = false →
      (s.on F.CATCH_CTRL_RUN = true ∨ s.cat.first = true) → (s.cat.first = true ∨ s.ring.placed = false) → s.markerNum c.toNat = none →
      exec (.cm r c f check n) s = .next (s.set F.CASC_ALIGN_MSRC r)) ∧
  (∀ (s : State) (b : Nat), b < 2 ^ 24 → (s.ring.placed = true → ∃ k, s.markerNum b = some k ∧ s.cat.num < k ∧ k ≤ s.cat.num + 2 ^ 24 ∧ k % 2 ^ 24 = b) ∧
      (∀ n, s.ring.placed = false → s.ring.num48 = some n → n % 2 ^ 24 = b → s.markerNum b = some n)) ∧
  (∀ (s : State) (r : Fin 2) (c : BitVec 24) (f check : BitVec 8) (n k : Nat) (x e e0 e1 : Int), s.sup.die = .running → s.isCrew = true →
      setCheck (le 3 c.toNat ++ [f]) = check → s.fld F.PLL_STATUS_SRC = 2 + r.val → bit s.ring.down r = false → s.cat.waitLock = false →
      s.on F.CATCH_CTRL_RUN = true → s.cat.first = false → s.ring.placed = true →
      x = (n : Int) + 4000 - s.fld (if r = 0 then F.CASC_DELAY_D0 else F.CASC_DELAY_D1) → e0 = 32 * (s.cat.tick : Int) + s.ring.base - x →
      e1 = 32 * (s.cat.next : Int) + s.ring.base - x →
      ((e0.natAbs < e1.natAbs ∧ e = e0 ∧ k = s.cat.num) ∨ (e1.natAbs ≤ e0.natAbs ∧ e = e1 ∧ k = s.cat.num + 1)) →
      (k % 2 ^ 24 = c.toNat → exec (.cm r c f check n) s = .next ((s.set F.CASC_ALIGN_MSRC r).alignError e)) ∧
      (k % 2 ^ 24 ≠ c.toNat → Completes (exec (.cm r c f check n) s) (fun t => t.on F.CASC_EVENT_CATCH_SLIP = true ∧
        t.ring.sent = s.ring.sent ++ [(1, s.pos', ssnAlign)] ∧ OnlyRegs [R.CASC_ALIGN, R.CASC_EVENT] s { t with ring := s.ring }))) ∧
  (∀ (s : State) (e : Int), e.natAbs ≤ 8 → s.ring.good = 63 → s.ring.bad < 4 → (s.alignError e).on F.CASC_STATE_ALIGNED = true ∧
      (s.alignError e).ifld F.CASC_ALIGN_ERR = e ∧ OnlyRegs [R.CASC_ALIGN, R.CASC_STATE] s { s.alignError e with ring := s.ring }) ∧
  (∀ (s : State) (e : Int), 64 < e.natAbs → s.ring.bad = 3 → (s.alignError e).on F.CASC_STATE_ALIGNED = false ∧
      (s.alignError e).on F.CASC_EVENT_ALIGN_LOST = true) ∧
  (∀ (s : State) (h : RingHdr) (ch : Fin 16) (num : Word) (words : List Word), Reaches h tyExch ch num.toNat (wordBytes words) s →
      (s.ring.exch.any (fun e => e.1 == 16 * h.src.val + ch.val && e.2 == num.toNat) = true → exec (.exchFrame h ch num words) s = .next (s.forward h)) ∧
      (s.ring.exch.any (fun e => e.1 == 16 * h.src.val + ch.val && e.2 == num.toNat) = false → s.exchInputs h.src ch = [] →
        Completes (exec (.exchFrame h ch num words) s) (fun t => t.ring.exch.head? = some (16 * h.src.val + ch.val, num.toNat) ∧
          { t with ring := s.ring } = s))) ∧
  (∀ (s u : State) (h : RingHdr) (ch : Fin 16) (num : Word) (words : List Word) (k lag key : Nat) (rest : List (Nat × Nat)),
      Reaches h tyExch ch num.toNat (wordBytes words) s → key = 16 * h.src.val + ch.val →
      s.ring.exch.any (fun e => e.1 == key && e.2 == num.toNat) = false → s.exchInputs h.src ch = [(k, lag, words.length)] →
      rest = s.ring.exch.filter (fun e => e.1 != key || decide (num.toNat < e.2 + 8)) → u = s.forward h →
      exec (.exchFrame h ch num words) s = .next (({ u with ring := { u.ring with exch := (key, num.toNat) :: rest } } : State).datum k
        ((num.toNat + lag) % 256) words true)) ∧
  (∀ (s : State) (h : RingHdr) (num : BitVec 48) (dig : List Byte) (wsig flags : Word),
      Reaches h tySig 0 num.toNat (le 6 num.toNat ++ [0, 0] ++ dig ++ le 4 wsig.toNat ++ le 4 flags.toNat) s →
      ((h.src.val = s.pos' ∨ bit (s.fld F.CASC_MEMBERS_LOST) h.src = true ∨ s.devices ≤ h.src.val) → exec (.sig h num dig wsig flags) s = .next (s.forward h)) ∧
      (h.src.val ≠ s.pos' → bit (s.fld F.CASC_MEMBERS_LOST) h.src = false → h.src.val < s.devices → (flags.getLsbD 0 = false ∨ s.role ≠ roleStroke) →
        Completes (exec (.sig h num dig wsig flags) s) (fun t => t.ring.sigs.head? = some (h.src.val, num.toNat, dig.take 8, flags.toNat) ∧
          bit (t.fld F.CASC_MEMBERS_ALIVE) h.src = true ∧ OnlyRegs [R.CASC_MEMBERS] s { t with ring := s.ring }))) ∧
  (∀ (s u : State) (h : RingHdr) (num : BitVec 48) (dig : List Byte) (wsig flags : Word) (sg : List (Nat × Nat × List Byte × Nat)),
      Reaches h tySig 0 num.toNat (le 6 num.toNat ++ [0, 0] ++ dig ++ le 4 wsig.toNat ++ le 4 flags.toNat) s →
      h.src.val ≠ s.pos' → bit (s.fld F.CASC_MEMBERS_LOST) h.src = false → h.src.val < s.devices → flags.getLsbD 0 = true → s.role = roleStroke →
      s.ring.sigs = [] → sg = [(h.src.val, num.toNat, dig.take 8, flags.toNat)] → u = s.forward h → exec (.sig h num dig wsig flags) s =
        .next ((({ u with ring := { u.ring with sigs := sg } } : State).setFldBit F.CASC_MEMBERS_ALIVE h.src).easyAll 5))

/-- The transactions of the stroke that a crew member answers: RD, WR and the CTL messages (from R486 to R496, R501, R505, R506). -/
def Obligations.RingRequests : Prop :=
  (∀ (s : State) (h : RingHdr) (addr : Word) (count : BitVec 16) (bad : List (Nat × MemErr)), RingTakes h tyRd addr.toNat (le 2 count.toNat ++ [0, 0]) s →
      (s.ring.trusted = false → hostRegion addr.toNat ≠ 4 → Completes (exec (.rd h addr count bad) s)
        (fun t => Answered h tyRd addr.toNat (le 2 count.toNat ++ [0, 0]) [2, 0] t ∧ { t with ring := s.ring } = s)) ∧
      (s.ring.trusted = true → (count = 0 ∨ 256 < count.toNat) → Completes (exec (.rd h addr count bad) s)
        (fun t => Answered h tyRd addr.toNat (le 2 count.toNat ++ [0, 0]) [3, 0] t ∧ { t with ring := s.ring } = s)) ∧
      (s.ring.trusted = true → count = 1 → addr.toNat % 4 = 0 → regionOf addr.toNat = .capture → bad = [] → Completes (exec (.rd h addr count bad) s)
        (fun t => Answered h tyRd addr.toNat (le 2 count.toNat ++ [0, 0]) ([0, 0] ++ le 4 (s.sramWord addr.toNat).toNat) t ∧ { t with ring := s.ring } = s))) ∧
  (∀ (s : State) (h : RingHdr) (addr : Word) (w : Word), RingTakes h tyWr addr.toNat (wordBytes [w]) s →
      (s.ring.trusted = false → hostRegion addr.toNat ≠ 4 → Completes (exec (.wr h addr [w]) s)
        (fun t => Answered h tyWr addr.toNat (wordBytes [w]) [2, 0] t ∧ { t with ring := s.ring } = s)) ∧
      (s.ring.trusted = true → addr.toNat % 4 = 0 → regionOf addr.toNat = .capture → s.liveValid = false → Completes (exec (.wr h addr [w]) s)
        (fun t => Answered h tyWr addr.toNat (wordBytes [w]) (List.replicate 10 0) t ∧ t.sramWord addr.toNat = w ∧
          { t with ring := s.ring, sram := s.sram } = s))) ∧
  (∀ (s : State) (h : RingHdr) (addr : Word), RingTakes h tyWr addr.toNat [] s → s.ring.trusted = true → Completes (exec (.wr h addr []) s)
      (fun t => Answered h tyWr addr.toNat [] [BitVec.ofNat 8 stBadLen, 0] t ∧ { t with ring := s.ring } = s)) ∧
  (∀ (s : State) (h : RingHdr) (num : BitVec 48), RingTakes h tyCtl 0 (ctlBody ctGo (le 6 num.toNat ++ [0, 0])) s →
      (s.ring.trusted = false ∨ s.on F.CASC_STATE_READY = false) → Completes (exec (.go h num none) s) (fun t =>
        Answered h tyCtl 0 (ctlBody ctGo (le 6 num.toNat ++ [0, 0])) [10, 2, 0, 0] t ∧ { t with ring := s.ring } = s)) ∧
  (∀ (s : State) (h : RingHdr) (num : BitVec 48), RingTakes h tyCtl 0 (ctlBody ctAlign (le 6 num.toNat ++ [0, 0])) s →
      s.ring.trusted = false → Completes (exec (.align h num none) s) (fun t =>
        Answered h tyCtl 0 (ctlBody ctAlign (le 6 num.toNat ++ [0, 0])) [6, 2, 0, 0] t ∧ t.ring.num48 = s.ring.num48 ∧
        { t with ring := s.ring } = s)) ∧
  (∀ (s : State) (h : RingHdr), CtlTakes h ctEnum [0, 0, 0, 0] s → 
      Completes (exec (.enum h 0 none) s) (fun t => Answered h tyCtl 0 (ctlBody ctEnum [0, 0, 0, 0]) ([1, 0, 0, 0, BitVec.ofNat 8 (h.hops + 1), 0, 0, 0] ++ s.identity.take 8) t ∧ t.fld F.CASC_STATE_POS = (h.hops + 1) % 8 ∧ t.ring.enumerated = true ∧
        t.rd (R.CASC_ID ((h.hops + 1) % 8)) = bytesWord (s.identity.take 8) ∧
        OnlyRegs [R.CASC_STATE, R.CASC_ID ((h.hops + 1) % 8)] s { t with ring := s.ring })) ∧
  (∀ (s : State) (h : RingHdr), CtlTakes h ctEnum [1, 0, 0, 0] s → h.hops.val + 1 + s.pos' = s.devices →
      Completes (exec (.enum h 1 none) s) (fun t => Answered h tyCtl 0 (ctlBody ctEnum [1, 0, 0, 0]) ([1, 0, 0, 0, BitVec.ofNat 8 s.pos', 0, 0, 0] ++ s.identity.take 8) t ∧ { t with ring := s.ring } = s)) ∧
  (∀ (s : State) (h : RingHdr), CtlTakes h ctEnum [1, 0, 0, 0] s → h.hops.val + 1 + s.pos' ≠ s.devices → h.hops.val < s.devices →
      Completes (exec (.enum h 1 none) s) (fun t => Answered h tyCtl 0 (ctlBody ctEnum [1, 0, 0, 0])
        ([1, 0, 0, 0, BitVec.ofNat 8 (s.devices - (h.hops + 1)), 0, 0, 0] ++ s.identity.take 8) t ∧
        t.fld F.CASC_START_STEP = 5 ∧ t.fld F.CASC_START_POS = s.pos' ∧ t.on F.CASC_EVENT_START_FAIL = true)) ∧
  (∀ (s : State) (h : RingHdr) (r : Fin 2), Reaches h tyCtl h.tag 0 (ctlBody ctEnum [BitVec.ofNat 8 r, 0, 0, 0]) s → s.role = roleStroke →
      exec (.enum h r none) s = .next ((s.forward h).startFail 5 0 1)) ∧
  (∀ (s : State) (h : RingHdr) (o : CtlOdd) (u a : BitVec 8) (n : BitVec 48) (r : Fin 2) (l x y z : Word) (c : Nat) (i : Instr), c = o.code.toNat →
      i ∈ [.enum h r (some o), .loop h l (some o), .getNonce h (some o), .align h n (some o), .readyQ h (some o), .drive h u a n x y z (some o),
        .go h n (some o), .ctlAbort h n (some o), .restart h (some o)] → RingTakes h tyCtl 0 (ctlBody c o.body) s →
      Completes (exec i s) (fun t => { t with ring := s.ring } = s ∧ ((c = 0 ∨ 12 < c) → Answered h tyCtl 0 (ctlBody c o.body) [o.code, 4, 0, 0] t) ∧
        (1 ≤ c → c ≤ 12 → ((s.ring.trusted = false ∧ ctlEarly c = false) ∨ (ctlReady c = true ∧ s.on F.CASC_STATE_READY = false) →
            Answered h tyCtl 0 (ctlBody c o.body) [o.code, 2, 0, 0] t) ∧
          ((s.ring.trusted = true ∨ ctlEarly c = true) → (ctlReady c = true → s.on F.CASC_STATE_READY = true) →
            Answered h tyCtl 0 (ctlBody c o.body) [o.code, 3, 0, 0] t)))) ∧
  (∀ (s : State) (h : RingHdr) (o : CtlOdd) (r : Fin 2), Reaches h tyCtl h.tag 0 (ctlBody o.code.toNat o.body) s → s.role = roleStroke →
      exec (.enum h r (some o)) s = .next (s.forward h)) ∧
  (∀ (s : State) (h : RingHdr) (l : Word), CtlTakes h ctLoop (le 4 l.toNat) s → s.ring.rounds = [] →
      Completes (exec (.loop h l none) s) (fun t => Answered h tyCtl 0 (ctlBody ctLoop (le 4 l.toNat)) ([2, 2, 0, 0]) t ∧ { t with ring := s.ring } = s)) ∧
  (∀ (s : State) (h : RingHdr) (l : Word) (n : Nat) (x : Int), CtlTakes h ctLoop (le 4 l.toNat) s → n = s.ring.rounds.length → n ≠ 0 →
      x = (l.toNat : Int) - s.ring.res → Completes (exec (.loop h l none) s) (fun t => (∃ d0 d1 : Int, d0 + d1 = x ∧
        (2 * n * d0 - (n * x - (s.ring.rounds.map (fun e => e.2 - e.1)).sum)).natAbs < 2 * n ∧
        t.fld F.CASC_DELAY_D0 = unsigned 16 d0 ∧ t.fld F.CASC_DELAY_D1 = unsigned 16 d1 ∧
        Answered h tyCtl 0 (ctlBody ctLoop (le 4 l.toNat)) ([2, 0, 0, 0] ++ le 2 (unsigned 16 d0) ++ le 2 (unsigned 16 d1)) t) ∧
        t.ring.loop = l.toNat ∧ OnlyRegs [R.CASC_DELAY] s { t with ring := s.ring, freeCtr := s.freeCtr })) ∧
  (∀ (s : State) (h : RingHdr) (n : List Byte), RingTakes h tyCtl 0 (ctlBody ctNonce n) s →
      (n.length ≠ 16 → Completes (exec (.nonce h n) s) (fun t => Answered h tyCtl 0 (ctlBody ctNonce n) [3, 3, 0, 0] t ∧ { t with ring := s.ring } = s)) ∧
      (n.length = 16 → s.bufferHeld = false → s.boot.sign = none → s.on F.SEC_LC_KEYS_VALID = true → Completes (exec (.nonce h n) s)
        (fun t => t.boot.sign = some ⟨none, s.report n, s.cat.num⟩ ∧
          t.ring.due = some (0, h.tag.val, reqKey h tyCtl 0 (ctlBody ctNonce n)) ∧ { t with ring := s.ring, boot := s.boot } = s)) ∧
      (n.length = 16 → (s.bufferHeld = true ∨ s.boot.sign ≠ none) → Completes (exec (.nonce h n) s) (fun t =>
        Answered h tyCtl 0 (ctlBody ctNonce n) [3, 1, 0, 0, 1] t ∧ { t with ring := s.ring } = s)) ∧
      (n.length = 16 → s.bufferHeld = false → s.boot.sign = none → s.on F.SEC_LC_KEYS_VALID = false → Completes (exec (.nonce h n) s) (fun t =>
        Answered h tyCtl 0 (ctlBody ctNonce n) [3, 1, 0, 0, 0x0B] t ∧ { t with ring := s.ring } = s))) ∧
  (∀ (s : State) (h : RingHdr), CtlTakes h ctGetNonce [] s → Completes (exec (.getNonce h none) s) (fun t => ∃ n, n.length = 16 ∧
      Answered h tyCtl 0 (ctlBody ctGetNonce []) ([4, 0, 0, 0] ++ n) t ∧ t.ring.nonceOwn.head? = some (0, n) ∧
      { t with ring := s.ring, freeCtr := s.freeCtr } = s)) ∧
  (∀ (s : State) (h : RingHdr) (len : Word) (ns : List (List Byte)) (o mine : List Byte), CtlTakes h ctVerify (le 4 len.toNat ++ ns.flatten) s →
      ns.length + 1 = s.devices → (∀ n ∈ ns, n.length = 16) → 
      o = s.bufBytes (min len.toNat 262144) → s.ring.nonceOwn.find? (fun e => e.1 == 0) = some (0, mine) → mine ≠ [] →
      ns.getD (s.pos' - 1) [] = mine → (s.verdict o 0 ((digestOf ns.flatten).take 16) = 0 →
      Completes (exec (.verifyStroke h len ns) s) (fun t => t.ring.trusted = true ∧ t.ring.ids.head? = some (0, (o.drop 24).take 64) ∧
        Answered h tyCtl 0 (ctlBody ctVerify (le 4 len.toNat ++ ns.flatten)) [5, 0, 0, 0, 0, 0, 0, 0] t ∧
        t.rd (R.CASC_ID 0) = bytesWord ((o.drop 24).take 64) ∧ OnlyRegs [R.CASC_ID 0] s { t with ring := s.ring }))) ∧
  (∀ (s : State) (h : RingHdr) (len : Word) (ns : List (List Byte)) (o : List Byte) (v : Nat), CtlTakes h ctVerify (le 4 len.toNat ++ ns.flatten) s →
      ns.length + 1 = s.devices → (∀ n ∈ ns, n.length = 16) → 
      o = s.bufBytes (min len.toNat 262144) → s.verdict o 0 ((digestOf ns.flatten).take 16) = v → v ≠ 0 →
      Completes (exec (.verifyStroke h len ns) s) (fun t => t.ring.trusted = s.ring.trusted ∧ t.fld F.CASC_START_CODE = 7 ∧
        t.fld F.CASC_START_DETAIL = v ∧ t.on F.CASC_EVENT_START_FAIL = true)) ∧
  (∀ (s : State) (h : RingHdr) (len : Word) (ns : List (List Byte)), CtlTakes h ctVerify (le 4 len.toNat ++ ns.flatten) s →
      (ns.length + 1 ≠ s.devices ∨ ∃ n ∈ ns, n.length ≠ 16) → Completes (exec (.verifyStroke h len ns) s) (fun t =>
        Answered h tyCtl 0 (ctlBody ctVerify (le 4 len.toNat ++ ns.flatten)) [5, 3, 0, 0] t ∧ { t with ring := s.ring } = s)) ∧
  (∀ (s : State) (h : RingHdr) (n : BitVec 48), CtlTakes h ctAlign (le 6 n.toNat ++ [0, 0]) s → 
      Completes (exec (.align h n none) s) (fun t => Answered h tyCtl 0 (ctlBody ctAlign (le 6 n.toNat ++ [0, 0])) ([6, 0, 0, 0]) t ∧ t.ring.num48 = some n.toNat ∧ { t with ring := s.ring } = s)) ∧
  (∀ (s : State) (h : RingHdr), CtlTakes h ctReadyQ [] s → 
      Completes (exec (.readyQ h none) s) (fun t => Answered h tyCtl 0 (ctlBody ctReadyQ []) ([7, 0, 0, 0, BitVec.ofNat 8 s.readyFlags, 0, 0, 0] ++ (wordBytes s.liveDigest).take 8) t ∧ { t with ring := s.ring } = s)) ∧
  (∀ (s : State) (h : RingHdr) (u a : BitVec 8) (n : BitVec 48) (x y z : Word), CtlTakes h ctDrive ([u, a, 0, 0] ++ le 6 n.toNat ++ [0, 0] ++ wordBytes [x, y, z]) s → u.toNat < 2 →
      Completes (exec (.drive h u a n x y z none) s) (fun t => Answered h tyCtl 0 (ctlBody ctDrive ([u, a, 0, 0] ++ le 6 n.toNat ++ [0, 0] ++ wordBytes [x, y, z])) ([8, 0, 0, 0]) t ∧ t.ring.drive = s.ring.drive ++ [⟨u.toNat, a.toNat, n.toNat, [x, y, z]⟩] ∧ { t with ring := s.ring } = s)) ∧
  (∀ (s : State) (h : RingHdr) (u a : BitVec 8) (n : BitVec 48) (x y z : Word), CtlTakes h ctDrive ([u, a, 0, 0] ++ le 6 n.toNat ++ [0, 0] ++ wordBytes [x, y, z]) s →
      2 ≤ u.toNat → Completes (exec (.drive h u a n x y z none) s) (fun t => t.ring.drive = s.ring.drive ∧
        Answered h tyCtl 0 (ctlBody ctDrive ([u, a, 0, 0] ++ le 6 n.toNat ++ [0, 0] ++ wordBytes [x, y, z])) [8, 0, 0, 0] t ∧ { t with ring := s.ring } = s)) ∧
  (∀ (s t : State) (h : RingHdr) (n : BitVec 48) (o w : List (List Byte)) (c : Nat) (body : List Byte),
      body = le 6 n.toNat ++ [0, 0] ++ (List.zipWith (fun a b => a ++ b) o w).flatten → CtlTakes h ctPrepare body s →
      ((o.length ≠ s.devices ∨ w.length ≠ s.devices ∨ ∃ d ∈ o ++ w, d.length ≠ 8) → Completes (exec (.prepare h n o w) s) (fun u =>
        Answered h tyCtl 0 (ctlBody ctPrepare body) [9, 3, 0, 0] u ∧ { u with ring := s.ring } = s)) ∧
      (o.length = s.devices → w.length = s.devices → (∀ d ∈ o ++ w, d.length = 8) → (s.forward h).planArm n.toNat true = (c, t) →
        (c = 0 → Completes (exec (.prepare h n o w) s) (fun u => u.ring.mode = ⟨n.toNat, o, w, 0, false, 1, 0⟩ ∧
          Answered h tyCtl 0 (ctlBody ctPrepare body) ([9, 0, 0, 0] ++ wordBytes t.stageDigest) u ∧ { u with ring := t.ring } = t)) ∧
        (c ≠ 0 → Completes (exec (.prepare h n o w) s) (fun u => u.ring.mode = t.ring.mode ∧
          Answered h tyCtl 0 (ctlBody ctPrepare body) [9, 1, 0, 0, BitVec.ofNat 8 c] u ∧ { u with ring := t.ring } = t)))) ∧
  (∀ (s : State) (h : RingHdr) (n : BitVec 48), CtlTakes h ctGo (le 6 n.toNat ++ [0, 0]) s → s.stageState = sArmed → s.fab.armN = n.toNat → s.cat.num + 2 < n.toNat →
      Completes (exec (.go h n none) s) (fun t => Answered h tyCtl 0 (ctlBody ctGo (le 6 n.toNat ++ [0, 0])) ([10, 0, 0, 0]) t ∧ t.fab.go = true ∧ { t with ring := s.ring, fab := s.fab } = s)) ∧
  (∀ (s : State) (h : RingHdr) (n : BitVec 48), CtlTakes h ctGo (le 6 n.toNat ++ [0, 0]) s → (s.stageState ≠ sArmed ∨ s.fab.armN ≠ n.toNat ∨ n.toNat ≤ s.cat.num + 2) →
      Completes (exec (.go h n none) s) (fun t => Answered h tyCtl 0 (ctlBody ctGo (le 6 n.toNat ++ [0, 0])) ([10, 1, 0, 0, 0x0A]) t ∧ { t with ring := s.ring } = s)) ∧
  (∀ (s : State) (h : RingHdr) (n : BitVec 48), CtlTakes h ctAbort (le 6 n.toNat ++ [0, 0]) s → s.stageState = sArmed → s.fab.armN = n.toNat →
      Completes (exec (.ctlAbort h n none) s) (fun t => Answered h tyCtl 0 (ctlBody ctAbort (le 6 n.toNat ++ [0, 0])) ([11, 0, 0, 0]) t ∧ t.ring.mode = Mode.init ∧ t.stageState = sVerified ∧ t.fab.armN = 0 ∧ t.fab.go = false ∧ t.on F.PLAN_EVENT_CANCELLED = true)) ∧
  (∀ (s : State) (h : RingHdr) (n : BitVec 48), CtlTakes h ctAbort (le 6 n.toNat ++ [0, 0]) s → s.stageState = sCommitted →
      Completes (exec (.ctlAbort h n none) s) (fun t => Answered h tyCtl 0 (ctlBody ctAbort (le 6 n.toNat ++ [0, 0])) ([11, 1, 0, 0, 0x08]) t ∧ { t with ring := s.ring } = s)) ∧
  (∀ (s : State) (h : RingHdr), CtlTakes h ctRestart [] s → 
      Completes (exec (.restart h none) s) (fun t => Answered h tyCtl 0 (ctlBody ctRestart []) ([12, 0, 0, 0]) t ∧ t.fld F.CASC_STATE_STEP = 4 ∧ t.on F.CASC_STATE_READY = false ∧ t.on F.CASC_STATE_DEGRADED = false ∧
        t.on F.CASC_STATE_ALIGNED = false ∧ t.ring.down = 0 ∧ t.ring.trusted = false ∧ t.rd R.CASC_MEMBERS = 0 ∧ SameMemory s t))

/-- A frame with a code violation, a failed CRC, an ABORT, an unknown TYPE or a LEN beyond its limit is discarded: CRC_ERR
counts it, saturating, and no answer is made (R485); it has been forwarded before it is judged, and the block raises
LINK_EVENT.CRC with it. -/
def Obligations.DiscardedFrames : Prop :=
  (∀ (s : State) (i : Instr) (h : RingHdr) (typ b3 addr : Nat) (payload : List Byte), frameOf i = some (h, typ, b3, addr, payload) →
      s.sup.die = .running → s.cascaded = true → bit s.ring.down h.ring = false → ringGood h typ b3 addr payload = false → exec i s = .next ((s.forward h).badFrame h.ring)) ∧
  (∀ (s : State) (r : Fin 2), s.sup.die = .running → s.cascaded = true → bit s.ring.down r = false → exec (.linkAbort r) s = .next (s.badFrame r)) ∧
  (∀ (s : State) (r : Fin 2), bit s.ring.down r = true → exec (.linkAbort r) s = .next s) ∧
  (∀ (h : RingHdr) (typ b3 addr : Nat) (payload : List Byte),
      (h.viol = true → ringGood h typ b3 addr payload = false) ∧
      (crcBytes (ringBytes h typ b3 addr payload) ≠ h.crc → ringGood h typ b3 addr payload = false) ∧
      (ringLimit typ < payload.length → ringGood h typ b3 addr payload = false) ∧
      (typ ∉ ringTypes → ringGood h typ b3 addr payload = false) ∧
      (typ ∈ ringTypes → h.viol = false → crcBytes (ringBytes h typ b3 addr payload) = h.crc → payload.length ≤ ringLimit typ →
        ringGood h typ b3 addr payload = true)) ∧
  (∀ (h : RingHdr) (ch : Fin 16) (num : Word) (words : List Word), 8 < words.length → ringGood h tyExch ch num.toNat (wordBytes words) = false) ∧
  (∀ (h : RingHdr) (addr : Word) (words : List Word), 256 < words.length → ringGood h tyWr h.tag addr.toNat (wordBytes words) = false) ∧
  (∀ (h : RingHdr) (num : Nat) (dig : List Byte) (w f : Nat), 8 < dig.length →
      ringGood h tySig 0 num (le 6 num ++ [0, 0] ++ dig ++ le 4 w ++ le 4 f) = false) ∧
  (∀ (s : State) (r : Fin 2), (s.badFrame r).fld (F.LINK_STAT_CRC_ERR r) = min (s.fld (F.LINK_STAT_CRC_ERR r) + 1) 65535 ∧
      (s.badFrame r).on F.LINK_EVENT_CRC = true ∧ (s.badFrame r).ring = s.ring ∧ OnlyRegs [R.LINK_STAT r, R.LINK_EVENT] s (s.badFrame r))

/-- The stroke's transactions: answers, repeats and failures, delay rounds and the steps of the drive start (from R486, R488 to R494). -/
def Obligations.StrokeTransactions : Prop :=
  (∀ (s : State) (h : RingHdr) (st err : BitVec 8) (data : List Word), Reaches h tyRsp h.tag 0 ([st, err] ++ wordBytes data) s → s.txnOf h = none →
      exec (.rsp h st err data) s = .next (s.forward h)) ∧
  (∀ (s : State) (h : RingHdr) (code st : BitVec 8) (body : List Byte), Reaches h tyCtlr h.tag 0 ([code, st, 0, 0] ++ body) s → s.txnOf h = none →
      exec (.ctlr h code st body) s = .next (s.forward h)) ∧
  (∀ (s : State) (h : RingHdr) (st err : BitVec 8) (data : List Word) (x : RingTxn), Reaches h tyRsp h.tag 0 ([st, err] ++ wordBytes data) s → s.txnOf h = some x →
      (x.typ = tyCtl → exec (.rsp h st err data) s = .next (s.forward h)) ∧
      (x.typ ≠ tyCtl → st ≠ 0 → exec (.rsp h st err data) s =
        .next (((s.forward h).dropTxn x).txnFailed x (if err = 0 then st.toNat else err.toNat)))) ∧
  (∀ (s : State) (h : RingHdr) (data : List Word) (x : RingTxn) (y : Xfer), Reaches h tyRsp h.tag 0 ([0, 0] ++ wordBytes data) s → s.txnOf h = some x → x.typ ≠ tyCtl → hostRegion x.addr = 4 → s.ring.xfer = some y → y.pos = x.dst →
      exec (.rsp h 0 0 data) s = .next (((s.forward h).dropTxn x).xferPiece y data)) ∧
  (∀ (s : State) (h : RingHdr) (data : List Word) (x : RingTxn), Reaches h tyRsp h.tag 0 ([0, 0] ++ wordBytes data) s → s.txnOf h = some x → x.typ ≠ tyCtl → x.addr = R.MB_STATE strokeChannel →
      ((F.MB_STATE_STATE strokeChannel).get (data.getD 0 0) = mbDone →
        exec (.rsp h 0 0 data) s = .next (((s.forward h).dropTxn x).sendTxn 0 x.dst tyRd (R.PLAN_STAGE_DIG 0) (le 2 16 ++ [0, 0]))) ∧
      ((F.MB_STATE_STATE strokeChannel).get (data.getD 0 0) = mbFailed →
        exec (.rsp h 0 0 data) s = .next (((s.forward h).dropTxn x).xferEnd x.dst ((data.getD 1 0).toNat % 256))) ∧
      ((F.MB_STATE_STATE strokeChannel).get (data.getD 0 0) < 4 → exec (.rsp h 0 0 data) s = .next (((s.forward h).dropTxn x).poll x.dst))) ∧
  (∀ (s : State) (h : RingHdr) (data : List Word) (x : RingTxn), Reaches h tyRsp h.tag 0 ([0, 0] ++ wordBytes data) s → s.txnOf h = some x → x.typ ≠ tyCtl → x.addr = R.PLAN_STAGE_DIG 0 → s.startStep ≠ 8 →
      ((s.ring.xfer = none ∨ ∃ y, s.ring.xfer = some y ∧ y.pos = x.dst) →
        Completes (exec (.rsp h 0 0 data) s) (fun t => t.distOf x.dst = some (wordBytes (data.take 16)) ∧ t.fld F.CASC_XSTAT_STATE = 2 ∧
          t.fld F.CASC_XSTAT_CODE = 0 ∧ t.on F.CASC_EVENT_XFER_DONE = true ∧ t.ring.xfer = none ∧ x.dst ∉ t.ring.polls)) ∧
      (∀ y, s.ring.xfer = some y → y.pos ≠ x.dst →
        Completes (exec (.rsp h 0 0 data) s) (fun t => t.distOf x.dst = some (wordBytes (data.take 16)) ∧ t.rd R.CASC_XSTAT = s.rd R.CASC_XSTAT ∧
          t.on F.CASC_EVENT_XFER_DONE = true ∧ t.ring.xfer = some y ∧ x.dst ∉ t.ring.polls))) ∧
  (∀ (s : State) (h : RingHdr) (code st : BitVec 8) (body : List Byte) (x : RingTxn), Reaches h tyCtlr h.tag 0 ([code, st, 0, 0] ++ body) s → s.txnOf h = some x →
      (x.typ ≠ tyCtl ∨ byteAt x.body 0 ≠ code.toNat ∨ h.src = 0 ∨ s.devices ≤ h.src.val ∨ bit x.got h.src = true) →
      exec (.ctlr h code st body) s = .next (s.forward h)) ∧
  (∀ (s : State) (h : RingHdr) (body : List Byte) (x : RingTxn), Reaches h tyCtlr h.tag 0 ([6, 0, 0, 0] ++ body) s → s.txnOf h = some x → x.typ = tyCtl → byteAt x.body 0 = 6 → h.src ≠ 0 → h.src.val < s.devices → bit x.got h.src = false → x.dst = allMembers →
      s.allCrew (setBit x.got h.src) = false → Completes (exec (.ctlr h 6 0 body) s) (fun t =>
        t.ring.txns = s.ring.txns.map (fun e => if e = x then { x with got := setBit x.got h.src } else e) ∧ { t with ring := s.ring } = s)) ∧
  (∀ (s : State) (h : RingHdr) (body : List Byte) (x : RingTxn), Reaches h tyCtlr h.tag 0 ([6, 0, 0, 0] ++ body) s → s.txnOf h = some x → x.typ = tyCtl → byteAt x.body 0 = 6 → h.src ≠ 0 → h.src.val < s.devices → bit x.got h.src = false → (x.dst ≠ allMembers ∨ s.allCrew (setBit x.got h.src) = true) →
      Completes (exec (.ctlr h 6 0 body) s) (fun t => (∀ e ∈ t.ring.txns, e.ring ≠ x.ring ∨ e.tag ≠ x.tag) ∧
        t.fld F.LINK_TXN_OUT = t.ring.txns.length % 256 ∧ OnlyRegs [R.LINK_TXN] s { t with ring := s.ring })) ∧
  (∀ (s : State) (h : RingHdr) (st : BitVec 8) (body : List Byte) (x : RingTxn), Reaches h tyCtlr h.tag 0 ([2, st, 0, 0] ++ body) s → s.txnOf h = some x → x.typ = tyCtl → byteAt x.body 0 = 2 → h.src ≠ 0 → h.src.val < s.devices → bit x.got h.src = false → st ≠ 0 →
      Completes (exec (.ctlr h 2 st body) s) (fun t => t.fld F.CASC_START_STEP = 6 ∧ t.fld F.CASC_START_POS = h.src ∧
        t.fld F.CASC_START_DETAIL = st.toNat % 65536 ∧ t.on F.CASC_EVENT_START_FAIL = true ∧ t.fld F.CASC_STATE_STEP = 0 ∧ t.ring.xfer = none)) ∧
  (∀ (s : State) (h : RingHdr) (st : BitVec 8) (body : List Byte) (x : RingTxn), Reaches h tyCtlr h.tag 0 ([6, st, 0, 0] ++ body) s → s.txnOf h = some x → x.typ = tyCtl → byteAt x.body 0 = 6 → h.src ≠ 0 → h.src.val < s.devices → bit x.got h.src = false → st ≠ 0 →
      Completes (exec (.ctlr h 6 st body) s) (fun t => t.fld F.CASC_START_STEP = 10 ∧ t.fld F.CASC_START_POS = h.src ∧
        t.fld F.CASC_START_DETAIL = st.toNat % 65536 ∧ t.on F.CASC_EVENT_START_FAIL = true ∧ t.fld F.CASC_STATE_STEP = 0 ∧ t.ring.xfer = none)) ∧
  (∀ (s : State) (h : RingHdr) (st : BitVec 8) (body : List Byte) (x : RingTxn), Reaches h tyCtlr h.tag 0 ([4, st, 0, 0] ++ body) s → s.txnOf h = some x → x.typ = tyCtl → byteAt x.body 0 = 4 → h.src ≠ 0 → h.src.val < s.devices → bit x.got h.src = false → st ≠ 0 →
      Completes (exec (.ctlr h 4 st body) s) (fun t => t.fld F.CASC_START_STEP = 7 ∧ t.fld F.CASC_START_POS = h.src ∧
        t.fld F.CASC_START_DETAIL = st.toNat % 65536 ∧ t.on F.CASC_EVENT_START_FAIL = true ∧ t.fld F.CASC_STATE_STEP = 0 ∧ t.ring.xfer = none)) ∧
  (∀ (s : State) (h : RingHdr) (body : List Byte) (x : RingTxn), Reaches h tyCtlr h.tag 0 ([1, 0, 0, 0] ++ body) s → s.txnOf h = some x → x.typ = tyCtl → byteAt x.body 0 = 1 → h.src ≠ 0 → h.src.val < s.devices → bit x.got h.src = false → byteAt body 0 = h.src.val → x.dst = allMembers →
      s.allCrew (setBit x.got h.src) = false → Completes (exec (.ctlr h 1 0 body) s) (fun t =>
        t.rd (R.CASC_ID h.src) = bytesWord (body.drop 4) ∧ OnlyRegs [R.CASC_ID h.src] s { t with ring := s.ring })) ∧
  (∀ (s : State) (h : RingHdr) (body : List Byte) (x : RingTxn), Reaches h tyCtlr h.tag 0 ([5, 0, 0, 0] ++ body) s → s.txnOf h = some x → x.typ = tyCtl → byteAt x.body 0 = 5 → h.src ≠ 0 → h.src.val < s.devices → bit x.got h.src = false → x.dst = h.src.val → byteAt body 0 ≠ 0 →
      Completes (exec (.ctlr h 5 0 body) s) (fun t => t.fld F.CASC_START_STEP = 7 ∧ t.fld F.CASC_START_POS = h.src ∧
        t.fld F.CASC_START_DETAIL = byteAt body 0 ∧ t.ring.attested = s.ring.attested)) ∧
  (∀ (s : State) (r : Fin 2) (tag : Fin 128), s.sup.die = .running → s.ring.txns.find? (fun x => x.ring == r.val && x.tag == tag.val) = none →
      exec (.txnTimeout r tag) s = .next s) ∧
  (∀ (s : State) (r : Fin 2) (tag : Fin 128) (x : RingTxn), s.sup.die = .running →
      s.ring.txns.find? (fun x => x.ring == r.val && x.tag == tag.val) = some x →
      (x.attempt < 3 → Completes (exec (.txnTimeout r tag) s) (fun t =>
        t.fld F.LINK_TXN_RETRIES = min (s.fld F.LINK_TXN_RETRIES + 1) 65535 ∧ { x with ring := 1 - x.ring, attempt := x.attempt + 1 } ∈ t.ring.txns ∧
        t.ring.txns.length = s.ring.txns.length ∧ OnlyRegs [R.LINK_TXN] s { t with ring := s.ring })) ∧
      (3 ≤ x.attempt → exec (.txnTimeout r tag) s =
        .next ((((s.dropTxn x).bump F.LINK_TXN_FAILS).ev F.LINK_EVENT_TXN_FAIL).txnFailed x 0xF0))) ∧
  (∀ (s : State) (ok : Bool) (us : Nat) (p : Fin 8) (d : BitVec 16), s.sup.die = .running → s.cascaded = true → s.startStep ≠ 0 →
      (ok = false ∨ stepBound s.startStep < us) → Completes (exec (.startStepEnd ok us p d) s) (fun t =>
      t.fld F.CASC_START_STEP = s.startStep ∧ t.fld F.CASC_START_POS = p ∧ t.fld F.CASC_START_DETAIL = d.toNat ∧ t.startStep = 0 ∧
      t.on F.CASC_EVENT_START_FAIL = true ∧ OnlyRegs [R.CASC_START, R.CASC_STATE, R.CASC_EVENT] s { t with ring := s.ring })) ∧
  (∀ (s : State) (us : Nat) (p : Fin 8) (d : BitVec 16), s.sup.die = .running → s.cascaded = true → s.startStep ≠ 0 → us ≤ stepBound s.startStep → s.stepDone s.startStep = false → exec (.startStepEnd true us p d) s = .next s) ∧
  (∀ (s : State) (us : Nat) (p : Fin 8) (d : BitVec 16), s.sup.die = .running → s.cascaded = true → s.startStep ≠ 0 → us ≤ stepBound s.startStep → s.stepDone s.startStep = true → s.startStep = 11 → Completes (exec (.startStepEnd true us p d) s)
      (fun t => t.on F.CASC_STATE_READY = true ∧ t.startStep = 0 ∧ t.on F.CASC_EVENT_START_DONE = true ∧
        OnlyRegs [R.CASC_STATE, R.CASC_EVENT] s { t with ring := s.ring })) ∧
  (∀ (s : State) (us : Nat) (p : Fin 8) (d : BitVec 16), s.sup.die = .running → s.cascaded = true → s.startStep ≠ 0 → us ≤ stepBound s.startStep → s.stepDone s.startStep = true → s.startStep < 11 → s.role ≠ roleStroke →
      Completes (exec (.startStepEnd true us p d) s) (fun t => t.startStep = s.startStep + 1 ∧ OnlyRegs [R.CASC_STATE] s t)) ∧
  (∀ (s : State) (us : Nat) (p : Fin 8) (d : BitVec 16), s.sup.die = .running → s.cascaded = true → s.startStep ≠ 0 → us ≤ stepBound s.startStep → s.stepDone s.startStep = true → s.startStep < 11 → s.role = roleStroke →
      exec (.startStepEnd true us p d) s = .next ((s.set F.CASC_STATE_STEP (s.startStep + 1)).stepStart (s.startStep + 1))) ∧
  (∀ (s : State) (n : Nat), s.sup.die = .running → s.cascaded = true → s.role = roleStroke → s.startStep = 6 → s.ring.rounds.length < 64 →
      Completes (exec (.delayRound n) s) (fun t => t.ring.txAt = n ∧ t.ring.half = none ∧
        t.ring.sent = s.ring.sent ++ [(3, s.ring.rounds.length % 256, 0)] ∧ { t with ring := s.ring } = s)) ∧
  (∀ (s : State) (n : Nat), (s.role ≠ roleStroke ∨ s.startStep ≠ 6 ∨ 64 ≤ s.ring.rounds.length) → exec (.delayRound n) s = .next s)

/-- A write to RST_SWREQ with any other key is refused with AUTH, one while a gate output is enabled with BUSY_RUNNING, and both are
logged; otherwise the control die is reset (R83). -/
def Obligations.SoftwareReset : Prop :=
  (∀ (s : State) (m : Master) (key : Word), s.sup.die = .running → key.toNat % 65536 ≠ 0xA5C3 →
      exec (.rstSwreq m key []) s = .next (s.refuse m R.RST_SWREQ 6 true) ∧ 
        exec (.registerWrite m .word (BitVec.ofNat 32 R.RST_SWREQ) key 0) s = .next ((s.refuse m R.RST_SWREQ 6 true).setBeside R.RST_SWREQ 0)) ∧
  (∀ (s : State) (m : Master) (key : Word), s.sup.die = .running → key.toNat % 65536 = 0xA5C3 → s.lockStops m 0x01 = false → s.anyOn = true →
      exec (.rstSwreq m key []) s = .next (s.refuse m R.RST_SWREQ 5 true) ∧ 
        exec (.registerWrite m .word (BitVec.ofNat 32 R.RST_SWREQ) key 0) s = .next ((s.refuse m R.RST_SWREQ 5 true).setBeside R.RST_SWREQ 0)) ∧
  (∀ (s : State) (m : Master) (c : Nat), c < 16 → (s.refuse m R.RST_SWREQ c true).rd (R.PAGE_ERR_ADDR 0x01) = BitVec.ofNat 32 R.RST_SWREQ ∧
      (s.refuse m R.RST_SWREQ c true).fld (F.PAGE_ERR_INFO_CODE 0x01) = c) ∧
  (∀ (s : State) (m : Master) (key : Word), s.sup.die = .running → key.toNat % 65536 = 0xA5C3 → s.lockStops m 0x01 = false → s.anyOn = false →
      exec (.rstSwreq m key []) s = .next (s.dieReset 0x16 0 0) ∧ 
        exec (.registerWrite m .word (BitVec.ofNat 32 R.RST_SWREQ) key 0) s = .next (s.dieReset 0x16 0 0))

/-- The retention latch keeps the cause of a device reset, POR is logged only when it is empty, and the cause log survives a control-die
reset (R81). -/
def Obligations.RetentionLatch : Prop :=
  (∀ (s : State) (r : Rail), s.sup.vsup = true → (r = .v5 ∨ r = .vcsd ∨ r = .uref) → Completes (exec (.brownOut r []) s) (fun t =>
      t.sup.retained = some (causeCode (.brownOut r)) ∧ t.sup.die = .down ∧ t.sup.umpire = false)) ∧
  (∀ s : State, s.sup.vsup = false → Completes (exec .powerUp s) (fun t => t.sup.retained = s.sup.retained ∧
      (s.sup.retained = none → t.sup.code = 0x01) ∧ (∀ c, s.sup.retained = some c → t.sup.code = c))) ∧
  (∀ s : State, s.sup.vsup = false → Completes (exec .retentionLoss s) (fun t => t.sup.retained = none)) ∧
  (∀ (s : State) (c d a : Nat) (h : Die), s.sup.die = .running → (s.dieReset c d a h).sup.retained = s.sup.retained ∧ (s.dieReset c d a h).sup.code = c ∧
      (s.dieReset c d a h).sup.hist = ((s.sup.hist <<< 8) ||| BitVec.ofNat 32 (s.sup.code % 256)) ∧
      (s.dieReset c d a h).sup.restartTimes = s.sup.restartTimes) ∧
  (∀ (s : State) (r : Rail), s.sup.vsup = true → s.sup.die = .running → (r = .vio ∨ r = .v18 ∨ r = .vcore ∨ r = .vdda) → Completes (exec (.brownOut r []) s) (fun t =>
      t.sup.retained = s.sup.retained ∧ t.sup.code = causeCode (.brownOut r) ∧
      t.sup.hist = ((s.sup.hist <<< 8) ||| BitVec.ofNat 32 (s.sup.code % 256))))

/-- A read of an SRAM word with an uncorrectable error returns zero without an error response, sets SRAM_UNCORR and records the
address (R546). -/
def Obligations.UncorrectableReads : Prop :=
  (∀ (s : State) (m : Master) (a : Nat), s.judge m a none = none → (regionOf a = .firmware ∨ regionOf a = .working ∨ regionOf a = .capture ∨
        regionOf a = .buffer) → (s.busRead m a (some .uncorr)).1 = 0 ∧ (s.busRead m a (some .uncorr)).2.1 = 0 ∧
      (s.busRead m a (some .uncorr)).2.2.on F.SYS_EVENT_SRAM_UNCORR = true ∧ (s.busRead m a (some .uncorr)).2.2.rd R.SYS_ECC_ADDR = BitVec.ofNat 32 a ∧
      OnlyRegs [R.SYS_ECC, R.SYS_ECC_ADDR, R.SYS_EVENT] s (s.busRead m a (some .uncorr)).2.2) ∧
  (∀ (s u t : State) (i : Fin 3) (f : List Byte) (fmt : Nat), HostTakes i 1 f fmt s → u = s.requestTaken → u.checkCode i f = 0 → s.fw = true →
      reqWords f = 1 → reqAddr f % 4 = 0 → regionOf (reqAddr f) = .capture → t = (u.busRead (u.hostMaster i) (reqAddr f) (some .uncorr)).2.2 →
      exec (.hostRead i [(0, .uncorr)]) s = .next (t.respond i f fmt 0 0 [0, 0, 0, 0])) ∧
  (∀ (s : State) (m : Master) (a : Nat), s.judge m a none = none → regionOf a = .capture → s.busRead m a none = (0, s.sramWord a, s) ∧
      s.busRead m a (some .corrected) = (0, s.sramWord a, s))

/-- Every well-formed command ends in a next state and leaves the queue to the step, which takes its front; a record that no load
check lets through faults (the queue and the fault are the model's own, log entries 19 and 6). -/
def Obligations.CommandsComplete : Prop :=
  (∀ (s : State) (i : Instr), i.wf = true → Completes (exec i s) (fun t => t.pending = s.pending)) ∧
  (∀ (s : State) (i : Instr) (op : Nat) (r : OpRec), i.record = some (op, r) → r.ok op = false → exec i s = .fault .illFormed) ∧
  (∀ s t : State, step s = .next t → t.pending = s.pending.tail)

/-- Every step keeps the register maps and memories in their canonical form: keys strictly rising, and no entry equal to what an
unlisted key reads as. -/
def Obligations.StepKeepsMaps : Prop :=
  (∀ s t : State, s.mapsWf = true → step s = .next t → t.mapsWf = true)

/-- What the block holds at reset: its maps in their form, no command waiting, and registers at the values their tables give. -/
def Obligations.ResetState : Prop :=
  (State.reset.mapsWf = true ∧ State.reset.pending = [] ∧ State.reset.sup = Supply.init ∧ ∀ a, State.reset.rd a = resetWord a) ∧
  (∀ p, p < 32 → State.reset.fld (F.PAGE_LOCK_OWNER p) = 0xF ∧ State.reset.on (F.PAGE_LOCK_LOCK p) = false ∧
      State.reset.on (F.PAGE_CTRL_SEAL p) = false ∧ State.reset.rd (R.PAGE_IRQ_EN p) = 0 ∧ State.reset.rd (R.PAGE_ERR_COUNT p) = 0) ∧
  (State.reset.fld F.PLL_LOCK_CYCLES = 256 ∧ State.reset.fld F.PLL_LF_ACQ_KP_SH = 3 ∧ State.reset.fld F.RST_CAUSE_CODE = 0 ∧
      State.reset.liveValid = false ∧ State.reset.stageState = sEmpty ∧ State.reset.pllState = 0 ∧ State.reset.anyOn = false) ∧
  (∀ c : Fin 4, State.reset.mbState c = 0) ∧
  (∀ d : DriveIx, State.reset.driveState d = dOff)

/-- Decoding an encoded record gives back its opcode and every field at every value, and every 128-bit word is the encoding of the
record it decodes to (from R243). -/
def Obligations.RecordRoundTrip : Prop :=
  (∀ (op : Nat) (r : OpRec), op < 256 → decodeRecord (encodeRecord op r) = (op, r)) ∧
  (∀ v : Nat, v < 2 ^ 128 → encodeRecord (decodeRecord v).1 (decodeRecord v).2 = v) ∧
  (∀ (op : Nat) (r : OpRec), encodeRecord op r < 2 ^ 128)
end

