-- ==== Sys2Proof/Laws/SparseMap.lean ====
section
/-! SUPPORT. The laws of the sparse maps: read after write, and that a write keeps the canonical form. -/

namespace Sys2Proof.Machine

variable {α : Type}

theorem mapGet_erase (d : Nat → α) (k j : Nat) (m : List (Nat × α)) :
    mapGet d (mapErase k m) j = if j = k then d j else mapGet d m j := by
  induction m with
  | nil => simp [mapErase, mapGet]
  | cons e m ih =>
    obtain ⟨a, v⟩ := e
    unfold mapErase at ih ⊢
    rw [List.filter_cons]
    by_cases hak : a = k
    · subst hak
      simp only [decide_true, Bool.not_true, Bool.false_eq_true, if_false, ih, mapGet]
      by_cases hj : j = a
      · simp [hj]
      · simp [hj, Ne.symm hj]
    · simp only [hak, decide_false, Bool.not_false, if_true, mapGet, ih]
      by_cases hj : a = j
      · subst hj; simp [hak]
      · simp [hj]

theorem mapGet_insert (d : Nat → α) (k : Nat) (v : α) (j : Nat) (m : List (Nat × α))
    (hk : ∀ x ∈ m, x.1 ≠ k) :
    mapGet d (mapInsert k v m) j = if j = k then v else mapGet d m j := by
  induction m with
  | nil => simp [mapInsert, mapGet, eq_comm]
  | cons e m ih =>
    obtain ⟨a, x⟩ := e
    have hm : ∀ y ∈ m, y.1 ≠ k := fun y hy => hk y (List.mem_cons_of_mem _ hy)
    have ha : a ≠ k := hk (a, x) (List.mem_cons_self ..)
    unfold mapInsert
    split
    · simp [mapGet, eq_comm]
    · simp only [mapGet, ih hm]
      by_cases hj : a = j
      · subst hj; simp [ha]
      · simp [hj]

theorem mapErase_no_key (k : Nat) (m : List (Nat × α)) : ∀ x ∈ mapErase k m, x.1 ≠ k := by
  intro x hx
  simpa [mapErase] using (List.mem_filter.mp hx).2

variable [DecidableEq α]

/-- A read after a write: the written key answers the written value, every other key what it did. -/
@[simp] theorem mapGet_put (d : Nat → α) (m : List (Nat × α)) (k : Nat) (v : α) (j : Nat) :
    mapGet d (mapPut d m k v) j = if j = k then v else mapGet d m j := by
  unfold mapPut
  split
  · next h => rw [mapGet_erase]; split <;> simp_all
  · rw [mapGet_insert d k v j _ (mapErase_no_key k m), mapGet_erase]; split <;> simp_all

theorem mapWfFrom_mono (d : Nat → α) (m : List (Nat × α)) {lo lo' : Nat} (h : lo' ≤ lo)
    (hm : mapWfFrom d lo m = true) : mapWfFrom d lo' m = true := by
  cases m with
  | nil => rfl
  | cons e m =>
    obtain ⟨a, v⟩ := e
    simp only [mapWfFrom, Bool.and_eq_true, decide_eq_true_eq] at hm ⊢
    exact ⟨⟨le_trans h hm.1.1, hm.1.2⟩, hm.2⟩

theorem mapWfFrom_erase (d : Nat → α) (k : Nat) (m : List (Nat × α)) (lo : Nat)
    (hm : mapWfFrom d lo m = true) : mapWfFrom d lo (mapErase k m) = true := by
  induction m generalizing lo with
  | nil => rfl
  | cons e m ih =>
    obtain ⟨a, v⟩ := e
    unfold mapErase at ih ⊢
    simp only [mapWfFrom, Bool.and_eq_true, decide_eq_true_eq] at hm
    rw [List.filter_cons]
    split
    · simp only [mapWfFrom, Bool.and_eq_true, decide_eq_true_eq]
      exact ⟨hm.1, ih _ hm.2⟩
    · exact mapWfFrom_mono d _ (by omega) (ih _ hm.2)

theorem mapWfFrom_insert (d : Nat → α) (k : Nat) (v : α) (hv : v ≠ d k) (m : List (Nat × α)) (lo : Nat)
    (hlo : lo ≤ k) (hk : ∀ x ∈ m, x.1 ≠ k) (hm : mapWfFrom d lo m = true) :
    mapWfFrom d lo (mapInsert k v m) = true := by
  induction m generalizing lo with
  | nil => simp [mapInsert, mapWfFrom, hlo, hv]
  | cons e m ih =>
    obtain ⟨a, x⟩ := e
    have ha : a ≠ k := hk (a, x) (List.mem_cons_self ..)
    have hm' : ∀ y ∈ m, y.1 ≠ k := fun y hy => hk y (List.mem_cons_of_mem _ hy)
    simp only [mapWfFrom, Bool.and_eq_true, decide_eq_true_eq] at hm
    unfold mapInsert
    split
    · next h =>
      simp only [mapWfFrom, Bool.and_eq_true, decide_eq_true_eq]
      exact ⟨⟨hlo, by simpa using hv⟩, ⟨by omega, hm.1.2⟩, hm.2⟩
    · next h =>
      simp only [mapWfFrom, Bool.and_eq_true, decide_eq_true_eq]
      exact ⟨hm.1, ih _ (by omega) hm' hm.2⟩

/-- A write keeps the canonical form. -/
theorem mapWf_put (d : Nat → α) (m : List (Nat × α)) (k : Nat) (v : α) (hm : mapWf d m = true) :
    mapWf d (mapPut d m k v) = true := by
  unfold mapPut mapWf at *
  split
  · exact mapWfFrom_erase d k m 0 hm
  · next h =>
    exact mapWfFrom_insert d k v h _ 0 (Nat.zero_le _) (mapErase_no_key k m) (mapWfFrom_erase d k m 0 hm)

theorem mapWfFrom_filter (d : Nat → α) (p : Nat × α → Bool) (m : List (Nat × α)) (lo : Nat)
    (hm : mapWfFrom d lo m = true) : mapWfFrom d lo (m.filter p) = true := by
  induction m generalizing lo with
  | nil => rfl
  | cons e m ih =>
    obtain ⟨a, v⟩ := e
    simp only [mapWfFrom, Bool.and_eq_true, decide_eq_true_eq] at hm
    rw [List.filter_cons]
    split
    · simp only [mapWfFrom, Bool.and_eq_true, decide_eq_true_eq]
      exact ⟨hm.1, ih _ hm.2⟩
    · exact mapWfFrom_mono d _ (by omega) (ih _ hm.2)

/-- Dropping entries keeps the canonical form. -/
theorem mapWf_filter (d : Nat → α) (p : Nat × α → Bool) (m : List (Nat × α)) (hm : mapWf d m = true) :
    mapWf d (m.filter p) = true := mapWfFrom_filter d p m 0 hm

end Sys2Proof.Machine
end

