-- ==== Sys2Proof/Laws/State.lean ====
section
/-! SUPPORT. What each named update leaves of the state: one lemma a field. -/

namespace Sys2Proof.Machine

variable (s : State)

@[simp] theorem State.wr_sram (a : Nat) (w : Word) : (s.wr a w).sram = s.sram := rfl
@[simp] theorem State.wr_half0 (a : Nat) (w : Word) : (s.wr a w).half0 = s.half0 := rfl
@[simp] theorem State.wr_half1 (a : Nat) (w : Word) : (s.wr a w).half1 = s.half1 := rfl
@[simp] theorem State.wr_locals (a : Nat) (w : Word) : (s.wr a w).locals = s.locals := rfl
@[simp] theorem State.wr_sup (a : Nat) (w : Word) : (s.wr a w).sup = s.sup := rfl
@[simp] theorem State.wr_ump (a : Nat) (w : Word) : (s.wr a w).ump = s.ump := rfl
@[simp] theorem State.wr_legs (a : Nat) (w : Word) : (s.wr a w).legs = s.legs := rfl
@[simp] theorem State.wr_prot (a : Nat) (w : Word) : (s.wr a w).prot = s.prot := rfl
@[simp] theorem State.wr_chain (a : Nat) (w : Word) : (s.wr a w).chain = s.chain := rfl
@[simp] theorem State.wr_chainBus (a : Nat) (w : Word) : (s.wr a w).chainBus = s.chainBus := rfl
@[simp] theorem State.wr_live (a : Nat) (w : Word) : (s.wr a w).live = s.live := rfl
@[simp] theorem State.wr_stage (a : Nat) (w : Word) : (s.wr a w).stage = s.stage := rfl
@[simp] theorem State.wr_cat (a : Nat) (w : Word) : (s.wr a w).cat = s.cat := rfl
@[simp] theorem State.wr_drives (a : Nat) (w : Word) : (s.wr a w).drives = s.drives := rfl
@[simp] theorem State.wr_sdIn (a : Nat) (w : Word) : (s.wr a w).sdIn = s.sdIn := rfl
@[simp] theorem State.wr_sense (a : Nat) (w : Word) : (s.wr a w).sense = s.sense := rfl
@[simp] theorem State.wr_fab (a : Nat) (w : Word) : (s.wr a w).fab = s.fab := rfl
@[simp] theorem State.wr_checks (a : Nat) (w : Word) : (s.wr a w).checks = s.checks := rfl
@[simp] theorem State.wr_self (a : Nat) (w : Word) : (s.wr a w).self = s.self := rfl
@[simp] theorem State.wr_therm (a : Nat) (w : Word) : (s.wr a w).therm = s.therm := rfl
@[simp] theorem State.wr_pll (a : Nat) (w : Word) : (s.wr a w).pll = s.pll := rfl
@[simp] theorem State.wr_pos (a : Nat) (w : Word) : (s.wr a w).pos = s.pos := rfl
@[simp] theorem State.wr_inj (a : Nat) (w : Word) : (s.wr a w).inj = s.inj := rfl
@[simp] theorem State.wr_load (a : Nat) (w : Word) : (s.wr a w).load = s.load := rfl
@[simp] theorem State.wr_fuses (a : Nat) (w : Word) : (s.wr a w).fuses = s.fuses := rfl
@[simp] theorem State.wr_sec (a : Nat) (w : Word) : (s.wr a w).sec = s.sec := rfl
@[simp] theorem State.wr_boot (a : Nat) (w : Word) : (s.wr a w).boot = s.boot := rfl
@[simp] theorem State.wr_mail (a : Nat) (w : Word) : (s.wr a w).mail = s.mail := rfl
@[simp] theorem State.wr_conv (a : Nat) (w : Word) : (s.wr a w).conv = s.conv := rfl
@[simp] theorem State.wr_ring (a : Nat) (w : Word) : (s.wr a w).ring = s.ring := rfl
@[simp] theorem State.wr_freeCtr (a : Nat) (w : Word) : (s.wr a w).freeCtr = s.freeCtr := rfl
@[simp] theorem State.wr_pending (a : Nat) (w : Word) : (s.wr a w).pending = s.pending := rfl

@[simp] theorem State.set_sram (f : Field) (v : Nat) : (s.set f v).sram = s.sram := rfl
@[simp] theorem State.set_half0 (f : Field) (v : Nat) : (s.set f v).half0 = s.half0 := rfl
@[simp] theorem State.set_half1 (f : Field) (v : Nat) : (s.set f v).half1 = s.half1 := rfl
@[simp] theorem State.set_locals (f : Field) (v : Nat) : (s.set f v).locals = s.locals := rfl
@[simp] theorem State.set_sup (f : Field) (v : Nat) : (s.set f v).sup = s.sup := rfl
@[simp] theorem State.set_ump (f : Field) (v : Nat) : (s.set f v).ump = s.ump := rfl
@[simp] theorem State.set_legs (f : Field) (v : Nat) : (s.set f v).legs = s.legs := rfl
@[simp] theorem State.set_prot (f : Field) (v : Nat) : (s.set f v).prot = s.prot := rfl
@[simp] theorem State.set_chain (f : Field) (v : Nat) : (s.set f v).chain = s.chain := rfl
@[simp] theorem State.set_chainBus (f : Field) (v : Nat) : (s.set f v).chainBus = s.chainBus := rfl
@[simp] theorem State.set_live (f : Field) (v : Nat) : (s.set f v).live = s.live := rfl
@[simp] theorem State.set_stage (f : Field) (v : Nat) : (s.set f v).stage = s.stage := rfl
@[simp] theorem State.set_cat (f : Field) (v : Nat) : (s.set f v).cat = s.cat := rfl
@[simp] theorem State.set_drives (f : Field) (v : Nat) : (s.set f v).drives = s.drives := rfl
@[simp] theorem State.set_sdIn (f : Field) (v : Nat) : (s.set f v).sdIn = s.sdIn := rfl
@[simp] theorem State.set_sense (f : Field) (v : Nat) : (s.set f v).sense = s.sense := rfl
@[simp] theorem State.set_fab (f : Field) (v : Nat) : (s.set f v).fab = s.fab := rfl
@[simp] theorem State.set_checks (f : Field) (v : Nat) : (s.set f v).checks = s.checks := rfl
@[simp] theorem State.set_self (f : Field) (v : Nat) : (s.set f v).self = s.self := rfl
@[simp] theorem State.set_therm (f : Field) (v : Nat) : (s.set f v).therm = s.therm := rfl
@[simp] theorem State.set_pll (f : Field) (v : Nat) : (s.set f v).pll = s.pll := rfl
@[simp] theorem State.set_pos (f : Field) (v : Nat) : (s.set f v).pos = s.pos := rfl
@[simp] theorem State.set_inj (f : Field) (v : Nat) : (s.set f v).inj = s.inj := rfl
@[simp] theorem State.set_load (f : Field) (v : Nat) : (s.set f v).load = s.load := rfl
@[simp] theorem State.set_fuses (f : Field) (v : Nat) : (s.set f v).fuses = s.fuses := rfl
@[simp] theorem State.set_sec (f : Field) (v : Nat) : (s.set f v).sec = s.sec := rfl
@[simp] theorem State.set_boot (f : Field) (v : Nat) : (s.set f v).boot = s.boot := rfl
@[simp] theorem State.set_mail (f : Field) (v : Nat) : (s.set f v).mail = s.mail := rfl
@[simp] theorem State.set_conv (f : Field) (v : Nat) : (s.set f v).conv = s.conv := rfl
@[simp] theorem State.set_ring (f : Field) (v : Nat) : (s.set f v).ring = s.ring := rfl
@[simp] theorem State.set_freeCtr (f : Field) (v : Nat) : (s.set f v).freeCtr = s.freeCtr := rfl
@[simp] theorem State.set_pending (f : Field) (v : Nat) : (s.set f v).pending = s.pending := rfl

@[simp] theorem State.iset_sram (f : Field) (v : Int) : (s.iset f v).sram = s.sram := rfl
@[simp] theorem State.iset_half0 (f : Field) (v : Int) : (s.iset f v).half0 = s.half0 := rfl
@[simp] theorem State.iset_half1 (f : Field) (v : Int) : (s.iset f v).half1 = s.half1 := rfl
@[simp] theorem State.iset_locals (f : Field) (v : Int) : (s.iset f v).locals = s.locals := rfl
@[simp] theorem State.iset_sup (f : Field) (v : Int) : (s.iset f v).sup = s.sup := rfl
@[simp] theorem State.iset_ump (f : Field) (v : Int) : (s.iset f v).ump = s.ump := rfl
@[simp] theorem State.iset_legs (f : Field) (v : Int) : (s.iset f v).legs = s.legs := rfl
@[simp] theorem State.iset_prot (f : Field) (v : Int) : (s.iset f v).prot = s.prot := rfl
@[simp] theorem State.iset_chain (f : Field) (v : Int) : (s.iset f v).chain = s.chain := rfl
@[simp] theorem State.iset_chainBus (f : Field) (v : Int) : (s.iset f v).chainBus = s.chainBus := rfl
@[simp] theorem State.iset_live (f : Field) (v : Int) : (s.iset f v).live = s.live := rfl
@[simp] theorem State.iset_stage (f : Field) (v : Int) : (s.iset f v).stage = s.stage := rfl
@[simp] theorem State.iset_cat (f : Field) (v : Int) : (s.iset f v).cat = s.cat := rfl
@[simp] theorem State.iset_drives (f : Field) (v : Int) : (s.iset f v).drives = s.drives := rfl
@[simp] theorem State.iset_sdIn (f : Field) (v : Int) : (s.iset f v).sdIn = s.sdIn := rfl
@[simp] theorem State.iset_sense (f : Field) (v : Int) : (s.iset f v).sense = s.sense := rfl
@[simp] theorem State.iset_fab (f : Field) (v : Int) : (s.iset f v).fab = s.fab := rfl
@[simp] theorem State.iset_checks (f : Field) (v : Int) : (s.iset f v).checks = s.checks := rfl
@[simp] theorem State.iset_self (f : Field) (v : Int) : (s.iset f v).self = s.self := rfl
@[simp] theorem State.iset_therm (f : Field) (v : Int) : (s.iset f v).therm = s.therm := rfl
@[simp] theorem State.iset_pll (f : Field) (v : Int) : (s.iset f v).pll = s.pll := rfl
@[simp] theorem State.iset_pos (f : Field) (v : Int) : (s.iset f v).pos = s.pos := rfl
@[simp] theorem State.iset_inj (f : Field) (v : Int) : (s.iset f v).inj = s.inj := rfl
@[simp] theorem State.iset_load (f : Field) (v : Int) : (s.iset f v).load = s.load := rfl
@[simp] theorem State.iset_fuses (f : Field) (v : Int) : (s.iset f v).fuses = s.fuses := rfl
@[simp] theorem State.iset_sec (f : Field) (v : Int) : (s.iset f v).sec = s.sec := rfl
@[simp] theorem State.iset_boot (f : Field) (v : Int) : (s.iset f v).boot = s.boot := rfl
@[simp] theorem State.iset_mail (f : Field) (v : Int) : (s.iset f v).mail = s.mail := rfl
@[simp] theorem State.iset_conv (f : Field) (v : Int) : (s.iset f v).conv = s.conv := rfl
@[simp] theorem State.iset_ring (f : Field) (v : Int) : (s.iset f v).ring = s.ring := rfl
@[simp] theorem State.iset_freeCtr (f : Field) (v : Int) : (s.iset f v).freeCtr = s.freeCtr := rfl
@[simp] theorem State.iset_pending (f : Field) (v : Int) : (s.iset f v).pending = s.pending := rfl

@[simp] theorem State.ev_sram (f : Field) : (s.ev f).sram = s.sram := rfl
@[simp] theorem State.ev_half0 (f : Field) : (s.ev f).half0 = s.half0 := rfl
@[simp] theorem State.ev_half1 (f : Field) : (s.ev f).half1 = s.half1 := rfl
@[simp] theorem State.ev_locals (f : Field) : (s.ev f).locals = s.locals := rfl
@[simp] theorem State.ev_sup (f : Field) : (s.ev f).sup = s.sup := rfl
@[simp] theorem State.ev_ump (f : Field) : (s.ev f).ump = s.ump := rfl
@[simp] theorem State.ev_legs (f : Field) : (s.ev f).legs = s.legs := rfl
@[simp] theorem State.ev_prot (f : Field) : (s.ev f).prot = s.prot := rfl
@[simp] theorem State.ev_chain (f : Field) : (s.ev f).chain = s.chain := rfl
@[simp] theorem State.ev_chainBus (f : Field) : (s.ev f).chainBus = s.chainBus := rfl
@[simp] theorem State.ev_live (f : Field) : (s.ev f).live = s.live := rfl
@[simp] theorem State.ev_stage (f : Field) : (s.ev f).stage = s.stage := rfl
@[simp] theorem State.ev_cat (f : Field) : (s.ev f).cat = s.cat := rfl
@[simp] theorem State.ev_drives (f : Field) : (s.ev f).drives = s.drives := rfl
@[simp] theorem State.ev_sdIn (f : Field) : (s.ev f).sdIn = s.sdIn := rfl
@[simp] theorem State.ev_sense (f : Field) : (s.ev f).sense = s.sense := rfl
@[simp] theorem State.ev_fab (f : Field) : (s.ev f).fab = s.fab := rfl
@[simp] theorem State.ev_checks (f : Field) : (s.ev f).checks = s.checks := rfl
@[simp] theorem State.ev_self (f : Field) : (s.ev f).self = s.self := rfl
@[simp] theorem State.ev_therm (f : Field) : (s.ev f).therm = s.therm := rfl
@[simp] theorem State.ev_pll (f : Field) : (s.ev f).pll = s.pll := rfl
@[simp] theorem State.ev_pos (f : Field) : (s.ev f).pos = s.pos := rfl
@[simp] theorem State.ev_inj (f : Field) : (s.ev f).inj = s.inj := rfl
@[simp] theorem State.ev_load (f : Field) : (s.ev f).load = s.load := rfl
@[simp] theorem State.ev_fuses (f : Field) : (s.ev f).fuses = s.fuses := rfl
@[simp] theorem State.ev_sec (f : Field) : (s.ev f).sec = s.sec := rfl
@[simp] theorem State.ev_boot (f : Field) : (s.ev f).boot = s.boot := rfl
@[simp] theorem State.ev_mail (f : Field) : (s.ev f).mail = s.mail := rfl
@[simp] theorem State.ev_conv (f : Field) : (s.ev f).conv = s.conv := rfl
@[simp] theorem State.ev_ring (f : Field) : (s.ev f).ring = s.ring := rfl
@[simp] theorem State.ev_freeCtr (f : Field) : (s.ev f).freeCtr = s.freeCtr := rfl
@[simp] theorem State.ev_pending (f : Field) : (s.ev f).pending = s.pending := rfl

@[simp] theorem State.bump_sram (f : Field) (n : Nat) : (s.bump f n).sram = s.sram := rfl
@[simp] theorem State.bump_half0 (f : Field) (n : Nat) : (s.bump f n).half0 = s.half0 := rfl
@[simp] theorem State.bump_half1 (f : Field) (n : Nat) : (s.bump f n).half1 = s.half1 := rfl
@[simp] theorem State.bump_locals (f : Field) (n : Nat) : (s.bump f n).locals = s.locals := rfl
@[simp] theorem State.bump_sup (f : Field) (n : Nat) : (s.bump f n).sup = s.sup := rfl
@[simp] theorem State.bump_ump (f : Field) (n : Nat) : (s.bump f n).ump = s.ump := rfl
@[simp] theorem State.bump_legs (f : Field) (n : Nat) : (s.bump f n).legs = s.legs := rfl
@[simp] theorem State.bump_prot (f : Field) (n : Nat) : (s.bump f n).prot = s.prot := rfl
@[simp] theorem State.bump_chain (f : Field) (n : Nat) : (s.bump f n).chain = s.chain := rfl
@[simp] theorem State.bump_chainBus (f : Field) (n : Nat) : (s.bump f n).chainBus = s.chainBus := rfl
@[simp] theorem State.bump_live (f : Field) (n : Nat) : (s.bump f n).live = s.live := rfl
@[simp] theorem State.bump_stage (f : Field) (n : Nat) : (s.bump f n).stage = s.stage := rfl
@[simp] theorem State.bump_cat (f : Field) (n : Nat) : (s.bump f n).cat = s.cat := rfl
@[simp] theorem State.bump_drives (f : Field) (n : Nat) : (s.bump f n).drives = s.drives := rfl
@[simp] theorem State.bump_sdIn (f : Field) (n : Nat) : (s.bump f n).sdIn = s.sdIn := rfl
@[simp] theorem State.bump_sense (f : Field) (n : Nat) : (s.bump f n).sense = s.sense := rfl
@[simp] theorem State.bump_fab (f : Field) (n : Nat) : (s.bump f n).fab = s.fab := rfl
@[simp] theorem State.bump_checks (f : Field) (n : Nat) : (s.bump f n).checks = s.checks := rfl
@[simp] theorem State.bump_self (f : Field) (n : Nat) : (s.bump f n).self = s.self := rfl
@[simp] theorem State.bump_therm (f : Field) (n : Nat) : (s.bump f n).therm = s.therm := rfl
@[simp] theorem State.bump_pll (f : Field) (n : Nat) : (s.bump f n).pll = s.pll := rfl
@[simp] theorem State.bump_pos (f : Field) (n : Nat) : (s.bump f n).pos = s.pos := rfl
@[simp] theorem State.bump_inj (f : Field) (n : Nat) : (s.bump f n).inj = s.inj := rfl
@[simp] theorem State.bump_load (f : Field) (n : Nat) : (s.bump f n).load = s.load := rfl
@[simp] theorem State.bump_fuses (f : Field) (n : Nat) : (s.bump f n).fuses = s.fuses := rfl
@[simp] theorem State.bump_sec (f : Field) (n : Nat) : (s.bump f n).sec = s.sec := rfl
@[simp] theorem State.bump_boot (f : Field) (n : Nat) : (s.bump f n).boot = s.boot := rfl
@[simp] theorem State.bump_mail (f : Field) (n : Nat) : (s.bump f n).mail = s.mail := rfl
@[simp] theorem State.bump_conv (f : Field) (n : Nat) : (s.bump f n).conv = s.conv := rfl
@[simp] theorem State.bump_ring (f : Field) (n : Nat) : (s.bump f n).ring = s.ring := rfl
@[simp] theorem State.bump_freeCtr (f : Field) (n : Nat) : (s.bump f n).freeCtr = s.freeCtr := rfl
@[simp] theorem State.bump_pending (f : Field) (n : Nat) : (s.bump f n).pending = s.pending := rfl

@[simp] theorem State.setFldBit_sram (f : Field) (i : Nat) : (s.setFldBit f i).sram = s.sram := rfl
@[simp] theorem State.setFldBit_half0 (f : Field) (i : Nat) : (s.setFldBit f i).half0 = s.half0 := rfl
@[simp] theorem State.setFldBit_half1 (f : Field) (i : Nat) : (s.setFldBit f i).half1 = s.half1 := rfl
@[simp] theorem State.setFldBit_locals (f : Field) (i : Nat) : (s.setFldBit f i).locals = s.locals := rfl
@[simp] theorem State.setFldBit_sup (f : Field) (i : Nat) : (s.setFldBit f i).sup = s.sup := rfl
@[simp] theorem State.setFldBit_ump (f : Field) (i : Nat) : (s.setFldBit f i).ump = s.ump := rfl
@[simp] theorem State.setFldBit_legs (f : Field) (i : Nat) : (s.setFldBit f i).legs = s.legs := rfl
@[simp] theorem State.setFldBit_prot (f : Field) (i : Nat) : (s.setFldBit f i).prot = s.prot := rfl
@[simp] theorem State.setFldBit_chain (f : Field) (i : Nat) : (s.setFldBit f i).chain = s.chain := rfl
@[simp] theorem State.setFldBit_chainBus (f : Field) (i : Nat) : (s.setFldBit f i).chainBus = s.chainBus := rfl
@[simp] theorem State.setFldBit_live (f : Field) (i : Nat) : (s.setFldBit f i).live = s.live := rfl
@[simp] theorem State.setFldBit_stage (f : Field) (i : Nat) : (s.setFldBit f i).stage = s.stage := rfl
@[simp] theorem State.setFldBit_cat (f : Field) (i : Nat) : (s.setFldBit f i).cat = s.cat := rfl
@[simp] theorem State.setFldBit_drives (f : Field) (i : Nat) : (s.setFldBit f i).drives = s.drives := rfl
@[simp] theorem State.setFldBit_sdIn (f : Field) (i : Nat) : (s.setFldBit f i).sdIn = s.sdIn := rfl
@[simp] theorem State.setFldBit_sense (f : Field) (i : Nat) : (s.setFldBit f i).sense = s.sense := rfl
@[simp] theorem State.setFldBit_fab (f : Field) (i : Nat) : (s.setFldBit f i).fab = s.fab := rfl
@[simp] theorem State.setFldBit_checks (f : Field) (i : Nat) : (s.setFldBit f i).checks = s.checks := rfl
@[simp] theorem State.setFldBit_self (f : Field) (i : Nat) : (s.setFldBit f i).self = s.self := rfl
@[simp] theorem State.setFldBit_therm (f : Field) (i : Nat) : (s.setFldBit f i).therm = s.therm := rfl
@[simp] theorem State.setFldBit_pll (f : Field) (i : Nat) : (s.setFldBit f i).pll = s.pll := rfl
@[simp] theorem State.setFldBit_pos (f : Field) (i : Nat) : (s.setFldBit f i).pos = s.pos := rfl
@[simp] theorem State.setFldBit_inj (f : Field) (i : Nat) : (s.setFldBit f i).inj = s.inj := rfl
@[simp] theorem State.setFldBit_load (f : Field) (i : Nat) : (s.setFldBit f i).load = s.load := rfl
@[simp] theorem State.setFldBit_fuses (f : Field) (i : Nat) : (s.setFldBit f i).fuses = s.fuses := rfl
@[simp] theorem State.setFldBit_sec (f : Field) (i : Nat) : (s.setFldBit f i).sec = s.sec := rfl
@[simp] theorem State.setFldBit_boot (f : Field) (i : Nat) : (s.setFldBit f i).boot = s.boot := rfl
@[simp] theorem State.setFldBit_mail (f : Field) (i : Nat) : (s.setFldBit f i).mail = s.mail := rfl
@[simp] theorem State.setFldBit_conv (f : Field) (i : Nat) : (s.setFldBit f i).conv = s.conv := rfl
@[simp] theorem State.setFldBit_ring (f : Field) (i : Nat) : (s.setFldBit f i).ring = s.ring := rfl
@[simp] theorem State.setFldBit_freeCtr (f : Field) (i : Nat) : (s.setFldBit f i).freeCtr = s.freeCtr := rfl
@[simp] theorem State.setFldBit_pending (f : Field) (i : Nat) : (s.setFldBit f i).pending = s.pending := rfl

@[simp] theorem State.clearFldBit_sram (f : Field) (i : Nat) : (s.clearFldBit f i).sram = s.sram := rfl
@[simp] theorem State.clearFldBit_half0 (f : Field) (i : Nat) : (s.clearFldBit f i).half0 = s.half0 := rfl
@[simp] theorem State.clearFldBit_half1 (f : Field) (i : Nat) : (s.clearFldBit f i).half1 = s.half1 := rfl
@[simp] theorem State.clearFldBit_locals (f : Field) (i : Nat) : (s.clearFldBit f i).locals = s.locals := rfl
@[simp] theorem State.clearFldBit_sup (f : Field) (i : Nat) : (s.clearFldBit f i).sup = s.sup := rfl
@[simp] theorem State.clearFldBit_ump (f : Field) (i : Nat) : (s.clearFldBit f i).ump = s.ump := rfl
@[simp] theorem State.clearFldBit_legs (f : Field) (i : Nat) : (s.clearFldBit f i).legs = s.legs := rfl
@[simp] theorem State.clearFldBit_prot (f : Field) (i : Nat) : (s.clearFldBit f i).prot = s.prot := rfl
@[simp] theorem State.clearFldBit_chain (f : Field) (i : Nat) : (s.clearFldBit f i).chain = s.chain := rfl
@[simp] theorem State.clearFldBit_chainBus (f : Field) (i : Nat) : (s.clearFldBit f i).chainBus = s.chainBus := rfl
@[simp] theorem State.clearFldBit_live (f : Field) (i : Nat) : (s.clearFldBit f i).live = s.live := rfl
@[simp] theorem State.clearFldBit_stage (f : Field) (i : Nat) : (s.clearFldBit f i).stage = s.stage := rfl
@[simp] theorem State.clearFldBit_cat (f : Field) (i : Nat) : (s.clearFldBit f i).cat = s.cat := rfl
@[simp] theorem State.clearFldBit_drives (f : Field) (i : Nat) : (s.clearFldBit f i).drives = s.drives := rfl
@[simp] theorem State.clearFldBit_sdIn (f : Field) (i : Nat) : (s.clearFldBit f i).sdIn = s.sdIn := rfl
@[simp] theorem State.clearFldBit_sense (f : Field) (i : Nat) : (s.clearFldBit f i).sense = s.sense := rfl
@[simp] theorem State.clearFldBit_fab (f : Field) (i : Nat) : (s.clearFldBit f i).fab = s.fab := rfl
@[simp] theorem State.clearFldBit_checks (f : Field) (i : Nat) : (s.clearFldBit f i).checks = s.checks := rfl
@[simp] theorem State.clearFldBit_self (f : Field) (i : Nat) : (s.clearFldBit f i).self = s.self := rfl
@[simp] theorem State.clearFldBit_therm (f : Field) (i : Nat) : (s.clearFldBit f i).therm = s.therm := rfl
@[simp] theorem State.clearFldBit_pll (f : Field) (i : Nat) : (s.clearFldBit f i).pll = s.pll := rfl
@[simp] theorem State.clearFldBit_pos (f : Field) (i : Nat) : (s.clearFldBit f i).pos = s.pos := rfl
@[simp] theorem State.clearFldBit_inj (f : Field) (i : Nat) : (s.clearFldBit f i).inj = s.inj := rfl
@[simp] theorem State.clearFldBit_load (f : Field) (i : Nat) : (s.clearFldBit f i).load = s.load := rfl
@[simp] theorem State.clearFldBit_fuses (f : Field) (i : Nat) : (s.clearFldBit f i).fuses = s.fuses := rfl
@[simp] theorem State.clearFldBit_sec (f : Field) (i : Nat) : (s.clearFldBit f i).sec = s.sec := rfl
@[simp] theorem State.clearFldBit_boot (f : Field) (i : Nat) : (s.clearFldBit f i).boot = s.boot := rfl
@[simp] theorem State.clearFldBit_mail (f : Field) (i : Nat) : (s.clearFldBit f i).mail = s.mail := rfl
@[simp] theorem State.clearFldBit_conv (f : Field) (i : Nat) : (s.clearFldBit f i).conv = s.conv := rfl
@[simp] theorem State.clearFldBit_ring (f : Field) (i : Nat) : (s.clearFldBit f i).ring = s.ring := rfl
@[simp] theorem State.clearFldBit_freeCtr (f : Field) (i : Nat) : (s.clearFldBit f i).freeCtr = s.freeCtr := rfl
@[simp] theorem State.clearFldBit_pending (f : Field) (i : Nat) : (s.clearFldBit f i).pending = s.pending := rfl

@[simp] theorem State.setByte_regs (a : Nat) (b : Byte) : (s.setByte a b).regs = s.regs := rfl
@[simp] theorem State.setByte_half0 (a : Nat) (b : Byte) : (s.setByte a b).half0 = s.half0 := rfl
@[simp] theorem State.setByte_half1 (a : Nat) (b : Byte) : (s.setByte a b).half1 = s.half1 := rfl
@[simp] theorem State.setByte_locals (a : Nat) (b : Byte) : (s.setByte a b).locals = s.locals := rfl
@[simp] theorem State.setByte_sup (a : Nat) (b : Byte) : (s.setByte a b).sup = s.sup := rfl
@[simp] theorem State.setByte_ump (a : Nat) (b : Byte) : (s.setByte a b).ump = s.ump := rfl
@[simp] theorem State.setByte_legs (a : Nat) (b : Byte) : (s.setByte a b).legs = s.legs := rfl
@[simp] theorem State.setByte_prot (a : Nat) (b : Byte) : (s.setByte a b).prot = s.prot := rfl
@[simp] theorem State.setByte_chain (a : Nat) (b : Byte) : (s.setByte a b).chain = s.chain := rfl
@[simp] theorem State.setByte_chainBus (a : Nat) (b : Byte) : (s.setByte a b).chainBus = s.chainBus := rfl
@[simp] theorem State.setByte_live (a : Nat) (b : Byte) : (s.setByte a b).live = s.live := rfl
@[simp] theorem State.setByte_stage (a : Nat) (b : Byte) : (s.setByte a b).stage = s.stage := rfl
@[simp] theorem State.setByte_cat (a : Nat) (b : Byte) : (s.setByte a b).cat = s.cat := rfl
@[simp] theorem State.setByte_drives (a : Nat) (b : Byte) : (s.setByte a b).drives = s.drives := rfl
@[simp] theorem State.setByte_sdIn (a : Nat) (b : Byte) : (s.setByte a b).sdIn = s.sdIn := rfl
@[simp] theorem State.setByte_sense (a : Nat) (b : Byte) : (s.setByte a b).sense = s.sense := rfl
@[simp] theorem State.setByte_fab (a : Nat) (b : Byte) : (s.setByte a b).fab = s.fab := rfl
@[simp] theorem State.setByte_checks (a : Nat) (b : Byte) : (s.setByte a b).checks = s.checks := rfl
@[simp] theorem State.setByte_self (a : Nat) (b : Byte) : (s.setByte a b).self = s.self := rfl
@[simp] theorem State.setByte_therm (a : Nat) (b : Byte) : (s.setByte a b).therm = s.therm := rfl
@[simp] theorem State.setByte_pll (a : Nat) (b : Byte) : (s.setByte a b).pll = s.pll := rfl
@[simp] theorem State.setByte_pos (a : Nat) (b : Byte) : (s.setByte a b).pos = s.pos := rfl
@[simp] theorem State.setByte_inj (a : Nat) (b : Byte) : (s.setByte a b).inj = s.inj := rfl
@[simp] theorem State.setByte_load (a : Nat) (b : Byte) : (s.setByte a b).load = s.load := rfl
@[simp] theorem State.setByte_fuses (a : Nat) (b : Byte) : (s.setByte a b).fuses = s.fuses := rfl
@[simp] theorem State.setByte_sec (a : Nat) (b : Byte) : (s.setByte a b).sec = s.sec := rfl
@[simp] theorem State.setByte_boot (a : Nat) (b : Byte) : (s.setByte a b).boot = s.boot := rfl
@[simp] theorem State.setByte_mail (a : Nat) (b : Byte) : (s.setByte a b).mail = s.mail := rfl
@[simp] theorem State.setByte_conv (a : Nat) (b : Byte) : (s.setByte a b).conv = s.conv := rfl
@[simp] theorem State.setByte_ring (a : Nat) (b : Byte) : (s.setByte a b).ring = s.ring := rfl
@[simp] theorem State.setByte_freeCtr (a : Nat) (b : Byte) : (s.setByte a b).freeCtr = s.freeCtr := rfl
@[simp] theorem State.setByte_pending (a : Nat) (b : Byte) : (s.setByte a b).pending = s.pending := rfl

@[simp] theorem State.setLocal_regs (x w : Nat) (v : Word) : (s.setLocal x w v).regs = s.regs := rfl
@[simp] theorem State.setLocal_sram (x w : Nat) (v : Word) : (s.setLocal x w v).sram = s.sram := rfl
@[simp] theorem State.setLocal_half0 (x w : Nat) (v : Word) : (s.setLocal x w v).half0 = s.half0 := rfl
@[simp] theorem State.setLocal_half1 (x w : Nat) (v : Word) : (s.setLocal x w v).half1 = s.half1 := rfl
@[simp] theorem State.setLocal_sup (x w : Nat) (v : Word) : (s.setLocal x w v).sup = s.sup := rfl
@[simp] theorem State.setLocal_ump (x w : Nat) (v : Word) : (s.setLocal x w v).ump = s.ump := rfl
@[simp] theorem State.setLocal_legs (x w : Nat) (v : Word) : (s.setLocal x w v).legs = s.legs := rfl
@[simp] theorem State.setLocal_prot (x w : Nat) (v : Word) : (s.setLocal x w v).prot = s.prot := rfl
@[simp] theorem State.setLocal_chain (x w : Nat) (v : Word) : (s.setLocal x w v).chain = s.chain := rfl
@[simp] theorem State.setLocal_chainBus (x w : Nat) (v : Word) : (s.setLocal x w v).chainBus = s.chainBus := rfl
@[simp] theorem State.setLocal_live (x w : Nat) (v : Word) : (s.setLocal x w v).live = s.live := rfl
@[simp] theorem State.setLocal_stage (x w : Nat) (v : Word) : (s.setLocal x w v).stage = s.stage := rfl
@[simp] theorem State.setLocal_cat (x w : Nat) (v : Word) : (s.setLocal x w v).cat = s.cat := rfl
@[simp] theorem State.setLocal_drives (x w : Nat) (v : Word) : (s.setLocal x w v).drives = s.drives := rfl
@[simp] theorem State.setLocal_sdIn (x w : Nat) (v : Word) : (s.setLocal x w v).sdIn = s.sdIn := rfl
@[simp] theorem State.setLocal_sense (x w : Nat) (v : Word) : (s.setLocal x w v).sense = s.sense := rfl
@[simp] theorem State.setLocal_fab (x w : Nat) (v : Word) : (s.setLocal x w v).fab = s.fab := rfl
@[simp] theorem State.setLocal_checks (x w : Nat) (v : Word) : (s.setLocal x w v).checks = s.checks := rfl
@[simp] theorem State.setLocal_self (x w : Nat) (v : Word) : (s.setLocal x w v).self = s.self := rfl
@[simp] theorem State.setLocal_therm (x w : Nat) (v : Word) : (s.setLocal x w v).therm = s.therm := rfl
@[simp] theorem State.setLocal_pll (x w : Nat) (v : Word) : (s.setLocal x w v).pll = s.pll := rfl
@[simp] theorem State.setLocal_pos (x w : Nat) (v : Word) : (s.setLocal x w v).pos = s.pos := rfl
@[simp] theorem State.setLocal_inj (x w : Nat) (v : Word) : (s.setLocal x w v).inj = s.inj := rfl
@[simp] theorem State.setLocal_load (x w : Nat) (v : Word) : (s.setLocal x w v).load = s.load := rfl
@[simp] theorem State.setLocal_fuses (x w : Nat) (v : Word) : (s.setLocal x w v).fuses = s.fuses := rfl
@[simp] theorem State.setLocal_sec (x w : Nat) (v : Word) : (s.setLocal x w v).sec = s.sec := rfl
@[simp] theorem State.setLocal_boot (x w : Nat) (v : Word) : (s.setLocal x w v).boot = s.boot := rfl
@[simp] theorem State.setLocal_mail (x w : Nat) (v : Word) : (s.setLocal x w v).mail = s.mail := rfl
@[simp] theorem State.setLocal_conv (x w : Nat) (v : Word) : (s.setLocal x w v).conv = s.conv := rfl
@[simp] theorem State.setLocal_ring (x w : Nat) (v : Word) : (s.setLocal x w v).ring = s.ring := rfl
@[simp] theorem State.setLocal_freeCtr (x w : Nat) (v : Word) : (s.setLocal x w v).freeCtr = s.freeCtr := rfl
@[simp] theorem State.setLocal_pending (x w : Nat) (v : Word) : (s.setLocal x w v).pending = s.pending := rfl

@[simp] theorem State.setLeg_regs (l : Nat) (x : Leg) : (s.setLeg l x).regs = s.regs := rfl
@[simp] theorem State.setLeg_sram (l : Nat) (x : Leg) : (s.setLeg l x).sram = s.sram := rfl
@[simp] theorem State.setLeg_half0 (l : Nat) (x : Leg) : (s.setLeg l x).half0 = s.half0 := rfl
@[simp] theorem State.setLeg_half1 (l : Nat) (x : Leg) : (s.setLeg l x).half1 = s.half1 := rfl
@[simp] theorem State.setLeg_locals (l : Nat) (x : Leg) : (s.setLeg l x).locals = s.locals := rfl
@[simp] theorem State.setLeg_sup (l : Nat) (x : Leg) : (s.setLeg l x).sup = s.sup := rfl
@[simp] theorem State.setLeg_ump (l : Nat) (x : Leg) : (s.setLeg l x).ump = s.ump := rfl
@[simp] theorem State.setLeg_prot (l : Nat) (x : Leg) : (s.setLeg l x).prot = s.prot := rfl
@[simp] theorem State.setLeg_chain (l : Nat) (x : Leg) : (s.setLeg l x).chain = s.chain := rfl
@[simp] theorem State.setLeg_chainBus (l : Nat) (x : Leg) : (s.setLeg l x).chainBus = s.chainBus := rfl
@[simp] theorem State.setLeg_live (l : Nat) (x : Leg) : (s.setLeg l x).live = s.live := rfl
@[simp] theorem State.setLeg_stage (l : Nat) (x : Leg) : (s.setLeg l x).stage = s.stage := rfl
@[simp] theorem State.setLeg_cat (l : Nat) (x : Leg) : (s.setLeg l x).cat = s.cat := rfl
@[simp] theorem State.setLeg_drives (l : Nat) (x : Leg) : (s.setLeg l x).drives = s.drives := rfl
@[simp] theorem State.setLeg_sdIn (l : Nat) (x : Leg) : (s.setLeg l x).sdIn = s.sdIn := rfl
@[simp] theorem State.setLeg_sense (l : Nat) (x : Leg) : (s.setLeg l x).sense = s.sense := rfl
@[simp] theorem State.setLeg_fab (l : Nat) (x : Leg) : (s.setLeg l x).fab = s.fab := rfl
@[simp] theorem State.setLeg_checks (l : Nat) (x : Leg) : (s.setLeg l x).checks = s.checks := rfl
@[simp] theorem State.setLeg_self (l : Nat) (x : Leg) : (s.setLeg l x).self = s.self := rfl
@[simp] theorem State.setLeg_therm (l : Nat) (x : Leg) : (s.setLeg l x).therm = s.therm := rfl
@[simp] theorem State.setLeg_pll (l : Nat) (x : Leg) : (s.setLeg l x).pll = s.pll := rfl
@[simp] theorem State.setLeg_pos (l : Nat) (x : Leg) : (s.setLeg l x).pos = s.pos := rfl
@[simp] theorem State.setLeg_inj (l : Nat) (x : Leg) : (s.setLeg l x).inj = s.inj := rfl
@[simp] theorem State.setLeg_load (l : Nat) (x : Leg) : (s.setLeg l x).load = s.load := rfl
@[simp] theorem State.setLeg_fuses (l : Nat) (x : Leg) : (s.setLeg l x).fuses = s.fuses := rfl
@[simp] theorem State.setLeg_sec (l : Nat) (x : Leg) : (s.setLeg l x).sec = s.sec := rfl
@[simp] theorem State.setLeg_boot (l : Nat) (x : Leg) : (s.setLeg l x).boot = s.boot := rfl
@[simp] theorem State.setLeg_mail (l : Nat) (x : Leg) : (s.setLeg l x).mail = s.mail := rfl
@[simp] theorem State.setLeg_conv (l : Nat) (x : Leg) : (s.setLeg l x).conv = s.conv := rfl
@[simp] theorem State.setLeg_ring (l : Nat) (x : Leg) : (s.setLeg l x).ring = s.ring := rfl
@[simp] theorem State.setLeg_freeCtr (l : Nat) (x : Leg) : (s.setLeg l x).freeCtr = s.freeCtr := rfl
@[simp] theorem State.setLeg_pending (l : Nat) (x : Leg) : (s.setLeg l x).pending = s.pending := rfl

@[simp] theorem State.setDrive_regs (d : Nat) (x : Drive) : (s.setDrive d x).regs = s.regs := rfl
@[simp] theorem State.setDrive_sram (d : Nat) (x : Drive) : (s.setDrive d x).sram = s.sram := rfl
@[simp] theorem State.setDrive_half0 (d : Nat) (x : Drive) : (s.setDrive d x).half0 = s.half0 := rfl
@[simp] theorem State.setDrive_half1 (d : Nat) (x : Drive) : (s.setDrive d x).half1 = s.half1 := rfl
@[simp] theorem State.setDrive_locals (d : Nat) (x : Drive) : (s.setDrive d x).locals = s.locals := rfl
@[simp] theorem State.setDrive_sup (d : Nat) (x : Drive) : (s.setDrive d x).sup = s.sup := rfl
@[simp] theorem State.setDrive_ump (d : Nat) (x : Drive) : (s.setDrive d x).ump = s.ump := rfl
@[simp] theorem State.setDrive_legs (d : Nat) (x : Drive) : (s.setDrive d x).legs = s.legs := rfl
@[simp] theorem State.setDrive_prot (d : Nat) (x : Drive) : (s.setDrive d x).prot = s.prot := rfl
@[simp] theorem State.setDrive_chain (d : Nat) (x : Drive) : (s.setDrive d x).chain = s.chain := rfl
@[simp] theorem State.setDrive_chainBus (d : Nat) (x : Drive) : (s.setDrive d x).chainBus = s.chainBus := rfl
@[simp] theorem State.setDrive_live (d : Nat) (x : Drive) : (s.setDrive d x).live = s.live := rfl
@[simp] theorem State.setDrive_stage (d : Nat) (x : Drive) : (s.setDrive d x).stage = s.stage := rfl
@[simp] theorem State.setDrive_cat (d : Nat) (x : Drive) : (s.setDrive d x).cat = s.cat := rfl
@[simp] theorem State.setDrive_sdIn (d : Nat) (x : Drive) : (s.setDrive d x).sdIn = s.sdIn := rfl
@[simp] theorem State.setDrive_sense (d : Nat) (x : Drive) : (s.setDrive d x).sense = s.sense := rfl
@[simp] theorem State.setDrive_fab (d : Nat) (x : Drive) : (s.setDrive d x).fab = s.fab := rfl
@[simp] theorem State.setDrive_checks (d : Nat) (x : Drive) : (s.setDrive d x).checks = s.checks := rfl
@[simp] theorem State.setDrive_self (d : Nat) (x : Drive) : (s.setDrive d x).self = s.self := rfl
@[simp] theorem State.setDrive_therm (d : Nat) (x : Drive) : (s.setDrive d x).therm = s.therm := rfl
@[simp] theorem State.setDrive_pll (d : Nat) (x : Drive) : (s.setDrive d x).pll = s.pll := rfl
@[simp] theorem State.setDrive_pos (d : Nat) (x : Drive) : (s.setDrive d x).pos = s.pos := rfl
@[simp] theorem State.setDrive_inj (d : Nat) (x : Drive) : (s.setDrive d x).inj = s.inj := rfl
@[simp] theorem State.setDrive_load (d : Nat) (x : Drive) : (s.setDrive d x).load = s.load := rfl
@[simp] theorem State.setDrive_fuses (d : Nat) (x : Drive) : (s.setDrive d x).fuses = s.fuses := rfl
@[simp] theorem State.setDrive_sec (d : Nat) (x : Drive) : (s.setDrive d x).sec = s.sec := rfl
@[simp] theorem State.setDrive_boot (d : Nat) (x : Drive) : (s.setDrive d x).boot = s.boot := rfl
@[simp] theorem State.setDrive_mail (d : Nat) (x : Drive) : (s.setDrive d x).mail = s.mail := rfl
@[simp] theorem State.setDrive_conv (d : Nat) (x : Drive) : (s.setDrive d x).conv = s.conv := rfl
@[simp] theorem State.setDrive_ring (d : Nat) (x : Drive) : (s.setDrive d x).ring = s.ring := rfl
@[simp] theorem State.setDrive_freeCtr (d : Nat) (x : Drive) : (s.setDrive d x).freeCtr = s.freeCtr := rfl
@[simp] theorem State.setDrive_pending (d : Nat) (x : Drive) : (s.setDrive d x).pending = s.pending := rfl

@[simp] theorem State.setIf_regs (i : Nat) (x : HostIf) : (s.setIf i x).regs = s.regs := rfl
@[simp] theorem State.setIf_sram (i : Nat) (x : HostIf) : (s.setIf i x).sram = s.sram := rfl
@[simp] theorem State.setIf_half0 (i : Nat) (x : HostIf) : (s.setIf i x).half0 = s.half0 := rfl
@[simp] theorem State.setIf_half1 (i : Nat) (x : HostIf) : (s.setIf i x).half1 = s.half1 := rfl
@[simp] theorem State.setIf_locals (i : Nat) (x : HostIf) : (s.setIf i x).locals = s.locals := rfl
@[simp] theorem State.setIf_sup (i : Nat) (x : HostIf) : (s.setIf i x).sup = s.sup := rfl
@[simp] theorem State.setIf_ump (i : Nat) (x : HostIf) : (s.setIf i x).ump = s.ump := rfl
@[simp] theorem State.setIf_legs (i : Nat) (x : HostIf) : (s.setIf i x).legs = s.legs := rfl
@[simp] theorem State.setIf_prot (i : Nat) (x : HostIf) : (s.setIf i x).prot = s.prot := rfl
@[simp] theorem State.setIf_chain (i : Nat) (x : HostIf) : (s.setIf i x).chain = s.chain := rfl
@[simp] theorem State.setIf_chainBus (i : Nat) (x : HostIf) : (s.setIf i x).chainBus = s.chainBus := rfl
@[simp] theorem State.setIf_live (i : Nat) (x : HostIf) : (s.setIf i x).live = s.live := rfl
@[simp] theorem State.setIf_stage (i : Nat) (x : HostIf) : (s.setIf i x).stage = s.stage := rfl
@[simp] theorem State.setIf_cat (i : Nat) (x : HostIf) : (s.setIf i x).cat = s.cat := rfl
@[simp] theorem State.setIf_drives (i : Nat) (x : HostIf) : (s.setIf i x).drives = s.drives := rfl
@[simp] theorem State.setIf_sdIn (i : Nat) (x : HostIf) : (s.setIf i x).sdIn = s.sdIn := rfl
@[simp] theorem State.setIf_sense (i : Nat) (x : HostIf) : (s.setIf i x).sense = s.sense := rfl
@[simp] theorem State.setIf_fab (i : Nat) (x : HostIf) : (s.setIf i x).fab = s.fab := rfl
@[simp] theorem State.setIf_checks (i : Nat) (x : HostIf) : (s.setIf i x).checks = s.checks := rfl
@[simp] theorem State.setIf_self (i : Nat) (x : HostIf) : (s.setIf i x).self = s.self := rfl
@[simp] theorem State.setIf_therm (i : Nat) (x : HostIf) : (s.setIf i x).therm = s.therm := rfl
@[simp] theorem State.setIf_pll (i : Nat) (x : HostIf) : (s.setIf i x).pll = s.pll := rfl
@[simp] theorem State.setIf_pos (i : Nat) (x : HostIf) : (s.setIf i x).pos = s.pos := rfl
@[simp] theorem State.setIf_inj (i : Nat) (x : HostIf) : (s.setIf i x).inj = s.inj := rfl
@[simp] theorem State.setIf_load (i : Nat) (x : HostIf) : (s.setIf i x).load = s.load := rfl
@[simp] theorem State.setIf_fuses (i : Nat) (x : HostIf) : (s.setIf i x).fuses = s.fuses := rfl
@[simp] theorem State.setIf_sec (i : Nat) (x : HostIf) : (s.setIf i x).sec = s.sec := rfl
@[simp] theorem State.setIf_boot (i : Nat) (x : HostIf) : (s.setIf i x).boot = s.boot := rfl
@[simp] theorem State.setIf_mail (i : Nat) (x : HostIf) : (s.setIf i x).mail = s.mail := rfl
@[simp] theorem State.setIf_ring (i : Nat) (x : HostIf) : (s.setIf i x).ring = s.ring := rfl
@[simp] theorem State.setIf_freeCtr (i : Nat) (x : HostIf) : (s.setIf i x).freeCtr = s.freeCtr := rfl
@[simp] theorem State.setIf_pending (i : Nat) (x : HostIf) : (s.setIf i x).pending = s.pending := rfl

@[simp] theorem State.setSd_regs (n : Nat) (x : SdIn) : (s.setSd n x).regs = s.regs := rfl
@[simp] theorem State.setSd_sram (n : Nat) (x : SdIn) : (s.setSd n x).sram = s.sram := rfl
@[simp] theorem State.setSd_half0 (n : Nat) (x : SdIn) : (s.setSd n x).half0 = s.half0 := rfl
@[simp] theorem State.setSd_half1 (n : Nat) (x : SdIn) : (s.setSd n x).half1 = s.half1 := rfl
@[simp] theorem State.setSd_locals (n : Nat) (x : SdIn) : (s.setSd n x).locals = s.locals := rfl
@[simp] theorem State.setSd_sup (n : Nat) (x : SdIn) : (s.setSd n x).sup = s.sup := rfl
@[simp] theorem State.setSd_ump (n : Nat) (x : SdIn) : (s.setSd n x).ump = s.ump := rfl
@[simp] theorem State.setSd_legs (n : Nat) (x : SdIn) : (s.setSd n x).legs = s.legs := rfl
@[simp] theorem State.setSd_prot (n : Nat) (x : SdIn) : (s.setSd n x).prot = s.prot := rfl
@[simp] theorem State.setSd_chain (n : Nat) (x : SdIn) : (s.setSd n x).chain = s.chain := rfl
@[simp] theorem State.setSd_chainBus (n : Nat) (x : SdIn) : (s.setSd n x).chainBus = s.chainBus := rfl
@[simp] theorem State.setSd_live (n : Nat) (x : SdIn) : (s.setSd n x).live = s.live := rfl
@[simp] theorem State.setSd_stage (n : Nat) (x : SdIn) : (s.setSd n x).stage = s.stage := rfl
@[simp] theorem State.setSd_cat (n : Nat) (x : SdIn) : (s.setSd n x).cat = s.cat := rfl
@[simp] theorem State.setSd_drives (n : Nat) (x : SdIn) : (s.setSd n x).drives = s.drives := rfl
@[simp] theorem State.setSd_sense (n : Nat) (x : SdIn) : (s.setSd n x).sense = s.sense := rfl
@[simp] theorem State.setSd_fab (n : Nat) (x : SdIn) : (s.setSd n x).fab = s.fab := rfl
@[simp] theorem State.setSd_checks (n : Nat) (x : SdIn) : (s.setSd n x).checks = s.checks := rfl
@[simp] theorem State.setSd_self (n : Nat) (x : SdIn) : (s.setSd n x).self = s.self := rfl
@[simp] theorem State.setSd_therm (n : Nat) (x : SdIn) : (s.setSd n x).therm = s.therm := rfl
@[simp] theorem State.setSd_pll (n : Nat) (x : SdIn) : (s.setSd n x).pll = s.pll := rfl
@[simp] theorem State.setSd_pos (n : Nat) (x : SdIn) : (s.setSd n x).pos = s.pos := rfl
@[simp] theorem State.setSd_inj (n : Nat) (x : SdIn) : (s.setSd n x).inj = s.inj := rfl
@[simp] theorem State.setSd_load (n : Nat) (x : SdIn) : (s.setSd n x).load = s.load := rfl
@[simp] theorem State.setSd_fuses (n : Nat) (x : SdIn) : (s.setSd n x).fuses = s.fuses := rfl
@[simp] theorem State.setSd_sec (n : Nat) (x : SdIn) : (s.setSd n x).sec = s.sec := rfl
@[simp] theorem State.setSd_boot (n : Nat) (x : SdIn) : (s.setSd n x).boot = s.boot := rfl
@[simp] theorem State.setSd_mail (n : Nat) (x : SdIn) : (s.setSd n x).mail = s.mail := rfl
@[simp] theorem State.setSd_conv (n : Nat) (x : SdIn) : (s.setSd n x).conv = s.conv := rfl
@[simp] theorem State.setSd_ring (n : Nat) (x : SdIn) : (s.setSd n x).ring = s.ring := rfl
@[simp] theorem State.setSd_freeCtr (n : Nat) (x : SdIn) : (s.setSd n x).freeCtr = s.freeCtr := rfl
@[simp] theorem State.setSd_pending (n : Nat) (x : SdIn) : (s.setSd n x).pending = s.pending := rfl

@[simp] theorem State.setChain_regs (p : Nat) (x : Chain) : (s.setChain p x).regs = s.regs := rfl
@[simp] theorem State.setChain_sram (p : Nat) (x : Chain) : (s.setChain p x).sram = s.sram := rfl
@[simp] theorem State.setChain_half0 (p : Nat) (x : Chain) : (s.setChain p x).half0 = s.half0 := rfl
@[simp] theorem State.setChain_half1 (p : Nat) (x : Chain) : (s.setChain p x).half1 = s.half1 := rfl
@[simp] theorem State.setChain_locals (p : Nat) (x : Chain) : (s.setChain p x).locals = s.locals := rfl
@[simp] theorem State.setChain_sup (p : Nat) (x : Chain) : (s.setChain p x).sup = s.sup := rfl
@[simp] theorem State.setChain_ump (p : Nat) (x : Chain) : (s.setChain p x).ump = s.ump := rfl
@[simp] theorem State.setChain_legs (p : Nat) (x : Chain) : (s.setChain p x).legs = s.legs := rfl
@[simp] theorem State.setChain_prot (p : Nat) (x : Chain) : (s.setChain p x).prot = s.prot := rfl
@[simp] theorem State.setChain_chainBus (p : Nat) (x : Chain) : (s.setChain p x).chainBus = s.chainBus := rfl
@[simp] theorem State.setChain_live (p : Nat) (x : Chain) : (s.setChain p x).live = s.live := rfl
@[simp] theorem State.setChain_stage (p : Nat) (x : Chain) : (s.setChain p x).stage = s.stage := rfl
@[simp] theorem State.setChain_cat (p : Nat) (x : Chain) : (s.setChain p x).cat = s.cat := rfl
@[simp] theorem State.setChain_drives (p : Nat) (x : Chain) : (s.setChain p x).drives = s.drives := rfl
@[simp] theorem State.setChain_sdIn (p : Nat) (x : Chain) : (s.setChain p x).sdIn = s.sdIn := rfl
@[simp] theorem State.setChain_sense (p : Nat) (x : Chain) : (s.setChain p x).sense = s.sense := rfl
@[simp] theorem State.setChain_fab (p : Nat) (x : Chain) : (s.setChain p x).fab = s.fab := rfl
@[simp] theorem State.setChain_checks (p : Nat) (x : Chain) : (s.setChain p x).checks = s.checks := rfl
@[simp] theorem State.setChain_self (p : Nat) (x : Chain) : (s.setChain p x).self = s.self := rfl
@[simp] theorem State.setChain_therm (p : Nat) (x : Chain) : (s.setChain p x).therm = s.therm := rfl
@[simp] theorem State.setChain_pll (p : Nat) (x : Chain) : (s.setChain p x).pll = s.pll := rfl
@[simp] theorem State.setChain_pos (p : Nat) (x : Chain) : (s.setChain p x).pos = s.pos := rfl
@[simp] theorem State.setChain_inj (p : Nat) (x : Chain) : (s.setChain p x).inj = s.inj := rfl
@[simp] theorem State.setChain_load (p : Nat) (x : Chain) : (s.setChain p x).load = s.load := rfl
@[simp] theorem State.setChain_fuses (p : Nat) (x : Chain) : (s.setChain p x).fuses = s.fuses := rfl
@[simp] theorem State.setChain_sec (p : Nat) (x : Chain) : (s.setChain p x).sec = s.sec := rfl
@[simp] theorem State.setChain_boot (p : Nat) (x : Chain) : (s.setChain p x).boot = s.boot := rfl
@[simp] theorem State.setChain_mail (p : Nat) (x : Chain) : (s.setChain p x).mail = s.mail := rfl
@[simp] theorem State.setChain_conv (p : Nat) (x : Chain) : (s.setChain p x).conv = s.conv := rfl
@[simp] theorem State.setChain_ring (p : Nat) (x : Chain) : (s.setChain p x).ring = s.ring := rfl
@[simp] theorem State.setChain_freeCtr (p : Nat) (x : Chain) : (s.setChain p x).freeCtr = s.freeCtr := rfl
@[simp] theorem State.setChain_pending (p : Nat) (x : Chain) : (s.setChain p x).pending = s.pending := rfl

@[simp] theorem State.popped_regs : (s.popped).regs = s.regs := rfl
@[simp] theorem State.popped_sram : (s.popped).sram = s.sram := rfl
@[simp] theorem State.popped_half0 : (s.popped).half0 = s.half0 := rfl
@[simp] theorem State.popped_half1 : (s.popped).half1 = s.half1 := rfl
@[simp] theorem State.popped_locals : (s.popped).locals = s.locals := rfl
@[simp] theorem State.popped_sup : (s.popped).sup = s.sup := rfl
@[simp] theorem State.popped_ump : (s.popped).ump = s.ump := rfl
@[simp] theorem State.popped_legs : (s.popped).legs = s.legs := rfl
@[simp] theorem State.popped_prot : (s.popped).prot = s.prot := rfl
@[simp] theorem State.popped_chain : (s.popped).chain = s.chain := rfl
@[simp] theorem State.popped_chainBus : (s.popped).chainBus = s.chainBus := rfl
@[simp] theorem State.popped_live : (s.popped).live = s.live := rfl
@[simp] theorem State.popped_stage : (s.popped).stage = s.stage := rfl
@[simp] theorem State.popped_cat : (s.popped).cat = s.cat := rfl
@[simp] theorem State.popped_drives : (s.popped).drives = s.drives := rfl
@[simp] theorem State.popped_sdIn : (s.popped).sdIn = s.sdIn := rfl
@[simp] theorem State.popped_sense : (s.popped).sense = s.sense := rfl
@[simp] theorem State.popped_fab : (s.popped).fab = s.fab := rfl
@[simp] theorem State.popped_checks : (s.popped).checks = s.checks := rfl
@[simp] theorem State.popped_self : (s.popped).self = s.self := rfl
@[simp] theorem State.popped_therm : (s.popped).therm = s.therm := rfl
@[simp] theorem State.popped_pll : (s.popped).pll = s.pll := rfl
@[simp] theorem State.popped_pos : (s.popped).pos = s.pos := rfl
@[simp] theorem State.popped_inj : (s.popped).inj = s.inj := rfl
@[simp] theorem State.popped_load : (s.popped).load = s.load := rfl
@[simp] theorem State.popped_fuses : (s.popped).fuses = s.fuses := rfl
@[simp] theorem State.popped_sec : (s.popped).sec = s.sec := rfl
@[simp] theorem State.popped_boot : (s.popped).boot = s.boot := rfl
@[simp] theorem State.popped_mail : (s.popped).mail = s.mail := rfl
@[simp] theorem State.popped_conv : (s.popped).conv = s.conv := rfl
@[simp] theorem State.popped_ring : (s.popped).ring = s.ring := rfl
@[simp] theorem State.popped_freeCtr : (s.popped).freeCtr = s.freeCtr := rfl

end Sys2Proof.Machine
end

