-- ==== Sys2Proof/Laws/Memory.lean ====
section
/-! SUPPORT. The laws of the memories: what a read gives after a write, and that every named operation over registers and
memories keeps their canonical form. -/

namespace Sys2Proof.Machine

variable (s : State)

@[simp] theorem State.byte_setByte (a b : Nat) (v : Byte) : (s.setByte a v).byte b = if b = a then v else s.byte b := by
  simp [State.byte, State.setByte]

/-- A word of SRAM written and read back (R9). -/
theorem State.sramWord_setSramWord (a : Nat) (w : Word) : (s.setSramWord a w).sramWord a = w := by
  simp only [State.sramWord, State.setSramWord, State.byte_setByte, word32]
  simp only [show a + 2 ≠ a + 3 by omega, show a + 1 ≠ a + 3 by omega, show a + 1 ≠ a + 2 by omega,
    show a ≠ a + 3 by omega, show a ≠ a + 2 by omega, show a ≠ a + 1 by omega, if_false, if_true]
  apply BitVec.eq_of_toNat_eq
  simp only [BitVec.toNat_append, BitVec.extractLsb'_toNat]
  have hw := w.isLt
  simp only [Nat.shiftRight_eq_div_pow, Nat.shiftLeft_eq]
  have key : ∀ x y k : Nat, y < 2 ^ k → x * 2 ^ k ||| y = x * 2 ^ k + y := fun x y k h => by
    rw [Nat.mul_comm, Nat.two_pow_add_eq_or_of_lt h]
  rw [key _ _ 8 (by omega), key _ _ 8 (by omega), key _ _ 8 (by omega)]
  omega

/-- A word of SRAM written leaves every byte outside it. -/
theorem State.byte_setSramWord_outside (a b : Nat) (w : Word) (h : b < a ∨ a + 4 ≤ b) : (s.setSramWord a w).byte b = s.byte b := by
  simp only [State.setSramWord, State.byte_setByte]
  rw [if_neg (by omega), if_neg (by omega), if_neg (by omega), if_neg (by omega)]

/-- A word of a seat's local data written: that word reads it, every other word of the sixteen memories what it did. -/
theorem State.localWord_setLocal (x y a b : Nat) (ha : a < 4096) (hb : b < 4096) (v : Word) :
    (s.setLocal x a v).localWord y b = if y = x ∧ b = a then v else s.localWord y b := by
  simp only [State.localWord, State.setLocal, mapGet_put]
  by_cases h : y = x ∧ b = a
  · rw [if_pos (by rw [h.1, h.2]), if_pos h]
  · rw [if_neg (by omega), if_neg h]

@[simp] theorem State.leg_setLeg (l k : Nat) (x : Leg) : (s.setLeg l x).leg k = if k = l then x else s.leg k := by
  simp [State.leg, State.setLeg]

@[simp] theorem State.drive_setDrive (d e : Nat) (x : Drive) : (s.setDrive d x).drive e = if e = d then x else s.drive e := by
  simp [State.drive, State.setDrive]

@[simp] theorem State.hostIf_setIf (i j : Nat) (x : HostIf) : (s.setIf i x).hostIf j = if j = i then x else s.hostIf j := by
  simp [State.hostIf, State.setIf]

/-- The six maps, each in its form. -/
theorem State.mapsWf_iff : s.mapsWf = true ↔ mapWf resetWord s.regs = true ∧ mapWf (fun _ => 0#8) s.sram = true ∧
    mapWf (fun _ => 0#8) s.half0 = true ∧ mapWf (fun _ => 0#8) s.half1 = true ∧
    mapWf (fun _ => 0#32) s.locals = true ∧ mapWf (fun _ => 0#8) s.caches = true := by
  simp [State.mapsWf, and_assoc]

/-- States with the same maps have the form together. -/
theorem State.mapsWf_of_eq {s t : State} (h : s.mapsWf = true) (h0 : t.regs = s.regs) (h1 : t.sram = s.sram)
    (h2 : t.half0 = s.half0) (h3 : t.half1 = s.half1) (h4 : t.locals = s.locals) (h5 : t.caches = s.caches) :
    t.mapsWf = true := by
  simpa [State.mapsWf, h0, h1, h2, h3, h4, h5] using h

variable {s}

theorem State.mapsWf_wr (h : s.mapsWf = true) (a : Nat) (w : Word) : (s.wr a w).mapsWf = true := by
  rw [State.mapsWf_iff] at h ⊢
  exact ⟨mapWf_put _ _ _ _ h.1, h.2⟩

theorem State.mapsWf_set (h : s.mapsWf = true) (f : Field) (v : Nat) : (s.set f v).mapsWf = true := State.mapsWf_wr h _ _

theorem State.mapsWf_ev (h : s.mapsWf = true) (f : Field) : (s.ev f).mapsWf = true := State.mapsWf_wr h _ _

theorem State.mapsWf_bump (h : s.mapsWf = true) (f : Field) (n : Nat) : (s.bump f n).mapsWf = true := State.mapsWf_wr h _ _

theorem State.mapsWf_setByte (h : s.mapsWf = true) (a : Nat) (b : Byte) : (s.setByte a b).mapsWf = true := by
  rw [State.mapsWf_iff] at h ⊢
  exact ⟨h.1, mapWf_put _ _ _ _ h.2.1, h.2.2⟩

theorem State.mapsWf_setSramWord (h : s.mapsWf = true) (a : Nat) (w : Word) : (s.setSramWord a w).mapsWf = true :=
  State.mapsWf_setByte (State.mapsWf_setByte (State.mapsWf_setByte (State.mapsWf_setByte h _ _) _ _) _ _) _ _

theorem State.mapsWf_setHalf (h : s.mapsWf = true) (k : Nat) (m : List Host.Cell) (hm : mapWf (fun _ => 0#8) m = true) :
    (s.setHalf k m).mapsWf = true := by
  unfold State.setHalf
  rw [State.mapsWf_iff] at h
  split <;> rw [State.mapsWf_iff] <;> exact ⟨h.1, h.2.1, by first | exact hm | exact h.2.2.1, by first | exact hm | exact h.2.2.2.1, h.2.2.2.2⟩

theorem State.mapsWf_setLocal (h : s.mapsWf = true) (x w : Nat) (v : Word) : (s.setLocal x w v).mapsWf = true := by
  rw [State.mapsWf_iff] at h ⊢
  exact ⟨h.1, h.2.1, h.2.2.1, h.2.2.2.1, mapWf_put _ _ _ _ h.2.2.2.2.1, h.2.2.2.2.2⟩

theorem State.mapsWf_each {α : Type} (h : s.mapsWf = true) (l : List α) (f : α → State → State)
    (hf : ∀ x t, t.mapsWf = true → (f x t).mapsWf = true) : (s.each l f).mapsWf = true := by
  unfold State.each
  induction l generalizing s with
  | nil => exact h
  | cons x l ih => exact ih (hf x s h)

theorem State.mapsWf_when (h : s.mapsWf = true) (c : Bool) (f : State → State)
    (hf : ∀ t, t.mapsWf = true → (f t).mapsWf = true) : (s.when c f).mapsWf = true := by
  unfold State.when
  split
  · exact hf s h
  · exact h

theorem State.mapsWf_onDie (h : s.mapsWf = true) (f : State → State)
    (hf : ∀ t, t.mapsWf = true → (f t).mapsWf = true) : (s.onDie f).mapsWf = true := by
  unfold State.onDie
  split
  · exact hf s h
  · exact h

theorem State.mapsWf_onUmp (h : s.mapsWf = true) (f : State → State)
    (hf : ∀ t, t.mapsWf = true → (f t).mapsWf = true) : (s.onUmp f).mapsWf = true := by
  unfold State.onUmp
  split
  · exact hf s h
  · exact h

end Sys2Proof.Machine
end

