-- ==== Sys2Proof/Laws/Registers.lean ====
section
/-! SUPPORT. The laws of the register file: what a read gives after a write, and what a field gives after a field is set. -/

namespace Sys2Proof.Machine

/-- The field lies within a 32-bit word. -/
def Field.fits (f : Field) : Bool := decide (f.lo + f.width ≤ 32)

/-- Two fields share no bit of one register. -/
def Field.apart (f g : Field) : Bool := decide (f.addr ≠ g.addr) || decide (f.lo + f.width ≤ g.lo) || decide (g.lo + g.width ≤ f.lo)

theorem Field.getLsbD_mask (f : Field) (i : Nat) :
    f.mask.getLsbD i = (decide (i < 32) && decide (f.lo ≤ i) && decide (i - f.lo < f.width)) := by
  simp [Field.mask, BitVec.getLsbD_ofNat, Nat.testBit_mul_two_pow, Nat.testBit_two_pow_sub_one, Bool.and_assoc]

theorem Field.getLsbD_put (f : Field) (v i : Nat) :
    (f.put v).getLsbD i = (decide (i < 32) && decide (f.lo ≤ i) && decide (i - f.lo < f.width) && v.testBit (i - f.lo)) := by
  simp [Field.put, BitVec.getLsbD_ofNat, Nat.testBit_mul_two_pow, Nat.testBit_mod_two_pow, Bool.and_assoc]

/-- Bit by bit: a field set to `v` holds the bits of `v`, and every other bit is kept. -/
theorem Field.getLsbD_insert (f : Field) (w : Word) (v i : Nat) :
    (f.insert w v).getLsbD i =
      if i < 32 ∧ f.lo ≤ i ∧ i - f.lo < f.width then v.testBit (i - f.lo) else w.getLsbD i := by
  simp only [Field.insert, BitVec.getLsbD_or, BitVec.getLsbD_and, BitVec.getLsbD_not, f.getLsbD_mask, f.getLsbD_put]
  by_cases h : i < 32
  · by_cases h1 : f.lo ≤ i <;> by_cases h2 : i - f.lo < f.width <;> simp [h, h1, h2]
  · simp [h, BitVec.getLsbD_of_ge w i (by omega)]

theorem Field.testBit_get (f : Field) (w : Word) (i : Nat) :
    (f.get w).testBit i = (decide (i < f.width) && w.getLsbD (f.lo + i)) := by
  simp [Field.get, Nat.testBit_mod_two_pow, Nat.testBit_shiftRight, BitVec.testBit_toNat]

/-- A field that lies in its word reads what was put into it, modulo its width. -/
theorem Field.get_insert (f : Field) (h : f.fits = true) (w : Word) (v : Nat) : f.get (f.insert w v) = v % 2 ^ f.width := by
  have hf : f.lo + f.width ≤ 32 := by simpa [Field.fits] using h
  apply Nat.eq_of_testBit_eq
  intro i
  rw [f.testBit_get, f.getLsbD_insert, Nat.testBit_mod_two_pow]
  by_cases hi : i < f.width
  · have : f.lo + i < 32 := by omega
    simp [hi, this]
  · simp [hi]

/-- A field reads what it did when a field apart from it in the same word is set. -/
theorem Field.get_insert_apart (f g : Field) (w : Word) (v : Nat)
    (h : f.lo + f.width ≤ g.lo ∨ g.lo + g.width ≤ f.lo) : g.get (f.insert w v) = g.get w := by
  apply Nat.eq_of_testBit_eq
  intro i
  rw [g.testBit_get, g.testBit_get, f.getLsbD_insert]
  by_cases hi : i < g.width
  · rw [if_neg (by omega)]
  · simp [hi]

theorem Field.get_lt (f : Field) (w : Word) : f.get w < 2 ^ f.width := Nat.mod_lt _ (Nat.two_pow_pos _)

variable (s : State)

/-- A register reads what was last written to it, and every other register what it did. -/
@[simp] theorem State.rd_wr (a b : Nat) (w : Word) : (s.wr a w).rd b = if b = a then w else s.rd b := by
  simp [State.rd, State.wr]

@[simp] theorem State.rd_set (f : Field) (v b : Nat) :
    (s.set f v).rd b = if b = f.addr then f.insert (s.rd f.addr) v else s.rd b := by
  simp [State.set]

theorem State.rd_set_ne (f : Field) (v b : Nat) (h : b ≠ f.addr) : (s.set f v).rd b = s.rd b := by simp [h]

/-- A field set reads its value, modulo its width. -/
theorem State.fld_set (f : Field) (h : f.fits = true) (v : Nat) : (s.set f v).fld f = v % 2 ^ f.width := by
  simp [State.fld, f.get_insert h]

/-- A field apart from the one set reads what it did. -/
theorem State.fld_set_apart (f g : Field) (h : f.apart g = true) (v : Nat) : (s.set f v).fld g = s.fld g := by
  unfold State.fld
  rw [State.rd_set]
  split
  · next e =>
    rw [e]
    simp only [Field.apart, e, ne_eq, not_true_eq_false, decide_false, Bool.false_or, Bool.or_eq_true, decide_eq_true_eq] at h
    exact Field.get_insert_apart f g _ v h
  · rfl

theorem State.fld_wr_ne (a : Nat) (w : Word) (g : Field) (h : g.addr ≠ a) : (s.wr a w).fld g = s.fld g := by
  simp [State.fld, h]

theorem State.fld_lt (f : Field) : s.fld f < 2 ^ f.width := Field.get_lt f _

/-- An event bit that is set reads 1 (R19). -/
theorem State.fld_ev (f : Field) (h : f.fits = true) : (s.ev f).fld f = 2 ^ f.width - 1 := by
  rw [State.ev, State.fld_set s f h]
  exact Nat.mod_eq_of_lt (Nat.sub_lt (Nat.two_pow_pos _) one_pos)

theorem State.fld_ev_apart (f g : Field) (h : f.apart g = true) : (s.ev f).fld g = s.fld g := s.fld_set_apart f g h _

@[simp] theorem State.rd_ev (f : Field) (b : Nat) :
    (s.ev f).rd b = if b = f.addr then f.insert (s.rd f.addr) (2 ^ f.width - 1) else s.rd b := by
  simp [State.ev]

/-- A counter that increases holds its maximum once it is there. -/
theorem State.fld_bump (f : Field) (h : f.fits = true) (n : Nat) :
    (s.bump f n).fld f = min (s.fld f + n) (2 ^ f.width - 1) := by
  rw [State.bump, State.fld_set s f h, satAdd]
  exact Nat.mod_eq_of_lt (lt_of_le_of_lt (min_le_right _ _) (Nat.sub_lt (Nat.two_pow_pos _) one_pos))

theorem State.fld_bump_apart (f g : Field) (h : f.apart g = true) (n : Nat) : (s.bump f n).fld g = s.fld g :=
  s.fld_set_apart f g h _

@[simp] theorem State.rd_bump (f : Field) (n b : Nat) :
    (s.bump f n).rd b = if b = f.addr then f.insert (s.rd f.addr) (satAdd f.width (s.fld f) n) else s.rd b := by
  simp [State.bump]

/-- Setting a bit of a field of bits: that bit reads 1, the others what they did. -/
theorem testBit_setBit (v i j : Nat) : (setBit v i).testBit j = (v.testBit j || decide (i = j)) := by
  simp [setBit, Nat.testBit_or, Nat.testBit_two_pow]

theorem testBit_fld_setFldBit (f : Field) (h : f.fits = true) (i j : Nat) (hj : j < f.width) :
    ((s.setFldBit f i).fld f).testBit j = ((s.fld f).testBit j || decide (i = j)) := by
  rw [State.setFldBit, State.fld_set s f h, Nat.testBit_mod_two_pow, testBit_setBit]
  simp [hj]

@[simp] theorem State.onDie_running (h : s.sup.die = .running) (f : State → State) : s.onDie f = f s := by
  simp [State.onDie, State.running, h]

@[simp] theorem State.onDie_stopped (h : s.sup.die ≠ .running) (f : State → State) : s.onDie f = s := by
  simp [State.onDie, State.running, h]

@[simp] theorem State.onUmp_up (h : s.sup.umpire = true) (f : State → State) : s.onUmp f = f s := by simp [State.onUmp, h]

@[simp] theorem State.onUmp_down (h : s.sup.umpire = false) (f : State → State) : s.onUmp f = s := by simp [State.onUmp, h]

/-- What holds before a sweep over a list and is kept at each index holds after it. -/
theorem State.each_induction {α : Type} (p : State → Prop) (l : List α) (f : α → State → State)
    (hf : ∀ x ∈ l, ∀ t, p t → p (f x t)) (h : p s) : p (s.each l f) := by
  unfold State.each
  induction l generalizing s with
  | nil => exact h
  | cons x l ih =>
    exact ih (f x s) (fun y hy => hf y (List.mem_cons_of_mem _ hy)) (hf x (List.mem_cons_self ..) s h)

@[simp] theorem State.each_nil {α : Type} (f : α → State → State) : s.each [] f = s := rfl

@[simp] theorem State.each_cons {α : Type} (x : α) (l : List α) (f : α → State → State) :
    s.each (x :: l) f = (f x s).each l f := rfl

end Sys2Proof.Machine
end

