-- ==== Sys2Proof/Laws/Sound.lean ====
section
/-! SUPPORT. What every operation keeps: the canonical form of the sparse maps, and the queue.
`Sound r t` says of a state `t` reached from `r` that its maps are canonical if `r`'s are and that its queue is `r`'s.
Every operation of the model has one lemma `sound_<its name>` in the files Sound1 to Sound4; an invariant over a step
cites them and unfolds no operation.  This file holds the base: the writers of the maps and the combinators. -/

namespace Sys2Proof.Machine

/-- maps of a state keep their form and the queue is that of `r`. -/
def SoundAt (r : State) (regs : List (Nat × Word)) (sram half0 half1 : List Host.Cell) (locals : List (Nat × Word))
    (caches : List Host.Cell) (p : List Instr) : Prop :=
  (r.mapsWf = true → mapWf resetWord regs = true ∧ mapWf (fun _ => 0#8) sram = true ∧ mapWf (fun _ => 0#8) half0 = true ∧
    mapWf (fun _ => 0#8) half1 = true ∧ mapWf (fun _ => 0#32) locals = true ∧ mapWf (fun _ => 0#8) caches = true) ∧ p = r.pending

abbrev Sound (r t : State) : Prop := SoundAt r t.regs t.sram t.half0 t.half1 t.locals t.caches t.pending

variable {r s : State}

theorem Sound.refl : Sound r r := ⟨fun h => (State.mapsWf_iff r).1 h, rfl⟩

theorem sound_wr (h : Sound r s) (a : Nat) (w : Word) : Sound r (s.wr a w) :=
  ⟨fun hr => ⟨mapWf_put _ _ _ _ (h.1 hr).1, (h.1 hr).2⟩, h.2⟩
theorem sound_setByte (h : Sound r s) (a : Nat) (b : Byte) : Sound r (s.setByte a b) :=
  ⟨fun hr => ⟨(h.1 hr).1, mapWf_put _ _ _ _ (h.1 hr).2.1, (h.1 hr).2.2⟩, h.2⟩
theorem sound_setLocal (h : Sound r s) (x w : Nat) (v : Word) : Sound r (s.setLocal x w v) :=
  ⟨fun hr => ⟨(h.1 hr).1, (h.1 hr).2.1, (h.1 hr).2.2.1, (h.1 hr).2.2.2.1, mapWf_put _ _ _ _ (h.1 hr).2.2.2.2.1, (h.1 hr).2.2.2.2.2⟩, h.2⟩
theorem sound_each {α : Type} (h : Sound r s) (l : List α) (f : α → State → State)
    (hf : ∀ x t, Sound r t → Sound r (f x t)) : Sound r (s.each l f) := by
  unfold State.each
  induction l generalizing s with
  | nil => exact h
  | cons x l ih => exact ih (hf x s h)
theorem sound_foldl {α : Type} (h : Sound r s) (l : List α) (f : State → α → State)
    (hf : ∀ x t, Sound r t → Sound r (f t x)) : Sound r (l.foldl f s) := by
  induction l generalizing s with
  | nil => exact h
  | cons x l ih => exact ih (hf x s h)
theorem sound_when (h : Sound r s) (c : Bool) (f : State → State) (hf : ∀ t, Sound r t → Sound r (f t)) : Sound r (s.when c f) := by
  unfold State.when; split
  · exact hf s h
  · exact h
theorem sound_onDie (h : Sound r s) (f : State → State) (hf : ∀ t, Sound r t → Sound r (f t)) : Sound r (s.onDie f) := by
  unfold State.onDie; split
  · exact hf s h
  · exact h
theorem sound_onUmp (h : Sound r s) (f : State → State) (hf : ∀ t, Sound r t → Sound r (f t)) : Sound r (s.onUmp f) := by
  unfold State.onUmp; split
  · exact hf s h
  · exact h
theorem sound_ite (c : Prop) [Decidable c] {a b : State} (ha : Sound r a) (hb : Sound r b) : Sound r (if c then a else b) := by
  split
  · exact ha
  · exact hb
theorem sound_ite2 {α : Type} (c : Prop) [Decidable c] {a b : α × State} (ha : Sound r a.2) (hb : Sound r b.2) : Sound r (if c then a else b).2 := by
  split
  · exact ha
  · exact hb
theorem Sound.snd {α : Type} {p : α × State} {x : α} {t : State} (e : p = (x, t)) (h : Sound r p.2) : Sound r t := by
  subst e; exact h
theorem SoundAt.locals {a : List (Nat × Word)} {b c d : List Host.Cell} {e e' : List (Nat × Word)} {f : List Host.Cell} {q : List Instr}
    (h : SoundAt r a b c d e f q) (he : mapWf (fun _ => 0#32) e = true → mapWf (fun _ => 0#32) e' = true) : SoundAt r a b c d e' f q :=
  ⟨fun hr => ⟨(h.1 hr).1, (h.1 hr).2.1, (h.1 hr).2.2.1, (h.1 hr).2.2.2.1, he (h.1 hr).2.2.2.2.1, (h.1 hr).2.2.2.2.2⟩, h.2⟩
theorem SoundAt.sram {a : List (Nat × Word)} {b b' c d : List Host.Cell} {e : List (Nat × Word)} {f : List Host.Cell} {q : List Instr}
    (h : SoundAt r a b c d e f q) (hb : mapWf (fun _ => 0#8) b = true → mapWf (fun _ => 0#8) b' = true) : SoundAt r a b' c d e f q :=
  ⟨fun hr => ⟨(h.1 hr).1, hb (h.1 hr).2.1, (h.1 hr).2.2⟩, h.2⟩
theorem SoundAt.regs {a a' : List (Nat × Word)} {b c d : List Host.Cell} {e : List (Nat × Word)} {f : List Host.Cell} {q : List Instr}
    (h : SoundAt r a b c d e f q) (ha : mapWf resetWord a = true → mapWf resetWord a' = true) : SoundAt r a' b c d e f q :=
  ⟨fun hr => ⟨ha (h.1 hr).1, (h.1 hr).2⟩, h.2⟩
theorem sound_foldl2 {α β : Type} (h : β × State) (hh : Sound r h.2) (l : List α) (f : β × State → α → β × State)
    (hf : ∀ x u, Sound r u.2 → Sound r (f u x).2) : Sound r (l.foldl f h).2 := by
  induction l generalizing h with
  | nil => exact hh
  | cons x l ih => exact ih (f h x) (hf x h hh)
theorem mapWf_foldl {α β : Type} [DecidableEq α] (d : Nat → α) (l : List β) (k : β → Nat) (v : β → α) (m : List (Nat × α))
    (hm : mapWf d m = true) : mapWf d (l.foldl (fun m e => mapPut d m (k e) (v e)) m) = true := by
  induction l generalizing m with
  | nil => exact hm
  | cons x l ih => exact ih _ (mapWf_put d m _ _ hm)
end Sys2Proof.Machine
end

