-- ==== Sys2Proof/Laws/Sound1.lean ====
section
/-! SUPPORT. One lemma `sound_<name>` per operation of the model, in the order of the model's files (part 1 of 4):
the operation keeps the maps' canonical form and the queue (Laws/Sound.lean). -/

namespace Sys2Proof.Machine
set_option linter.all false

variable {r s : State}

theorem sound_set {r s : State} (h : Sound r s) (f : Field) (v : ℕ) : Sound r (State.set s f v) := by
  unfold State.set
  try dsimp only
  with_reducible
    repeat' first
      | assumption | intro _ | apply sound_ite | apply sound_wr | split

theorem sound_iset {r s : State} (h : Sound r s) (f : Field) (v : ℤ) : Sound r (State.iset s f v) := by
  unfold State.iset
  try dsimp only
  with_reducible
    repeat' first
      | assumption | intro _ | apply sound_ite | apply sound_set | split

theorem sound_ev {r s : State} (h : Sound r s) (f : Field) : Sound r (State.ev s f) := by
  unfold State.ev
  try dsimp only
  with_reducible
    repeat' first
      | assumption | intro _ | apply sound_ite | apply sound_set | split

theorem sound_setFldBit {r s : State} (h : Sound r s) (f : Field) (i : ℕ) : Sound r (State.setFldBit s f i) := by
  unfold State.setFldBit
  try dsimp only
  with_reducible
    repeat' first
      | assumption | intro _ | apply sound_ite | apply sound_set | split

theorem sound_clearFldBit {r s : State} (h : Sound r s) (f : Field) (i : ℕ) : Sound r (State.clearFldBit s f i) := by
  unfold State.clearFldBit
  try dsimp only
  with_reducible
    repeat' first
      | assumption | intro _ | apply sound_ite | apply sound_set | split

theorem sound_bump {r s : State} (h : Sound r s) (f : Field) (n : ℕ) : Sound r (State.bump s f n) := by
  unfold State.bump
  try dsimp only
  with_reducible
    repeat' first
      | assumption | intro _ | apply sound_ite | apply sound_set | split

theorem sound_fresh {r s : State} (h : Sound r s) (w : ℕ) : Sound r (State.fresh s w).2 := by
  unfold State.fresh
  try dsimp only
  with_reducible
    repeat' first
      | assumption | intro _ | apply sound_ite | apply sound_ite2 | split | exact Sound.snd (by assumption)

theorem sound_freshBool {r s : State} (h : Sound r s) : Sound r (State.freshBool s).2 := by
  unfold State.freshBool
  try dsimp only
  with_reducible
    repeat' first
      | assumption | intro _ | apply sound_ite | apply sound_ite2 | split | exact Sound.snd (by assumption)

theorem sound_setSramWord {r s : State} (h : Sound r s) (a : ℕ) (w : Word) : Sound r (State.setSramWord s a w) := by
  unfold State.setSramWord
  try dsimp only
  with_reducible
    repeat' first
      | assumption | intro _ | apply sound_ite | apply sound_setByte | split

theorem sound_setHalf {r s : State} (h : Sound r s) (k : Nat) (m : List Host.Cell) (hm : r.mapsWf = true → mapWf (fun _ => 0#8) m = true) : Sound r (s.setHalf k m) := by
  unfold State.setHalf
  split
  · exact ⟨fun hr => ⟨(h.1 hr).1, (h.1 hr).2.1, hm hr, (h.1 hr).2.2.2⟩, h.2⟩
  · exact ⟨fun hr => ⟨(h.1 hr).1, (h.1 hr).2.1, (h.1 hr).2.2.1, hm hr, (h.1 hr).2.2.2.2⟩, h.2⟩

theorem sound_putAt {r s : State} (h : Sound r s) (a : ℕ) (v : Word) : Sound r (State.putAt s a v) := by
  unfold State.putAt
  try dsimp only
  with_reducible
    repeat' first
      | assumption | intro _ | apply sound_ite | apply sound_wr | apply sound_setSramWord | apply sound_setLocal | split

theorem sound_keep {r s : State} (h : Sound r s) (slot : ℕ) (u : Undo) : Sound r (State.keep s slot u) := by
  unfold State.keep
  try dsimp only
  with_reducible
    repeat' first
      | assumption | intro _ | apply sound_ite | split

theorem sound_keepWord {r s : State} (h : Sound r s) (slot : ℕ) (a : ℕ) : Sound r (State.keepWord s slot a) := by
  unfold State.keepWord
  try dsimp only
  with_reducible
    repeat' first
      | assumption | intro _ | apply sound_ite | apply sound_keep | split

theorem sound_slotLocal {r s : State} (h : Sound r s) (slot : ℕ) (seat : ℕ) (w : ℕ) (v : Word) : Sound r (State.slotLocal s slot seat w v) := by
  unfold State.slotLocal
  try dsimp only
  with_reducible
    repeat' first
      | assumption | intro _ | apply sound_ite | apply sound_setLocal | apply sound_keepWord | split

theorem sound_flushOwn {r s : State} (h : Sound r s) (seat : ℕ) : Sound r (State.flushOwn s seat) := by
  unfold State.flushOwn
  try dsimp only
  with_reducible
    repeat' first
      | assumption | intro _ | apply sound_ite | apply sound_ite2 | apply sound_each | apply sound_when | apply sound_onDie
      | apply sound_onUmp | apply sound_foldl | apply sound_slotLocal | split
      | exact Sound.snd (by assumption)

theorem sound_deliver {r s : State} (h : Sound r s) (i : ℕ) : Sound r (State.deliver s i) := by
  unfold State.deliver
  try dsimp only
  with_reducible
    repeat' first
      | assumption | intro _ | apply sound_ite | apply sound_ite2 | apply sound_each | apply sound_when | apply sound_onDie
      | apply sound_onUmp | apply sound_foldl | apply sound_slotLocal | split
      | exact Sound.snd (by assumption)

theorem sound_returnCredit {r s : State} (h : Sound r s) : Sound r (State.returnCredit s) := by
  unfold State.returnCredit
  try dsimp only
  with_reducible
    repeat' first
      | assumption | intro _ | apply sound_ite | split

theorem sound_settleSeats {r s : State} (h : Sound r s) : Sound r (State.settleSeats s) := by
  unfold State.settleSeats
  try dsimp only
  with_reducible
    repeat' first
      | assumption | intro _ | apply sound_ite | apply sound_ite2 | apply sound_each | apply sound_when | apply sound_onDie
      | apply sound_onUmp | apply sound_foldl | apply sound_flushOwn | apply sound_returnCredit | apply sound_deliver
      | split | exact Sound.snd (by assumption)

theorem sound_setLeg {r s : State} (h : Sound r s) (l : ℕ) (x : Leg) : Sound r (State.setLeg s l x) := by
  unfold State.setLeg
  try dsimp only
  with_reducible
    repeat' first
      | assumption | intro _ | apply sound_ite | split

theorem sound_modLeg {r s : State} (h : Sound r s) (l : ℕ) (f : Leg → Leg) : Sound r (State.modLeg s l f) := by
  unfold State.modLeg
  try dsimp only
  with_reducible
    repeat' first
      | assumption | intro _ | apply sound_ite | apply sound_setLeg | split

theorem sound_setDrive {r s : State} (h : Sound r s) (d : ℕ) (x : Drive) : Sound r (State.setDrive s d x) := by
  unfold State.setDrive
  try dsimp only
  with_reducible
    repeat' first
      | assumption | intro _ | apply sound_ite | split

theorem sound_modDrive {r s : State} (h : Sound r s) (d : ℕ) (f : Drive → Drive) : Sound r (State.modDrive s d f) := by
  unfold State.modDrive
  try dsimp only
  with_reducible
    repeat' first
      | assumption | intro _ | apply sound_ite | apply sound_setDrive | split

theorem sound_onBlock {r s : State} (h : Sound r s) (p : ℕ) (f : State → State) (hf : ∀ x0, Sound r x0 → Sound r (f x0)) : Sound r (State.onBlock s p f) := by
  unfold State.onBlock
  try dsimp only
  with_reducible
    repeat' first
      | assumption | intro _ | apply sound_ite | apply sound_onDie | apply hf | split

theorem sound_setIf {r s : State} (h : Sound r s) (i : ℕ) (x : HostIf) : Sound r (State.setIf s i x) := by
  unfold State.setIf
  try dsimp only
  with_reducible
    repeat' first
      | assumption | intro _ | apply sound_ite | split

theorem sound_modIf {r s : State} (h : Sound r s) (i : ℕ) (f : HostIf → HostIf) : Sound r (State.modIf s i f) := by
  unfold State.modIf
  try dsimp only
  with_reducible
    repeat' first
      | assumption | intro _ | apply sound_ite | apply sound_setIf | split

theorem sound_hbRebind {r s : State} (h : Sound r s) : Sound r (State.hbRebind s) := by
  unfold State.hbRebind
  try dsimp only
  with_reducible
    repeat' first
      | assumption | intro _ | apply sound_ite | apply sound_each | apply sound_modIf | split

theorem sound_evPend {r s : State} (h : Sound r s) (i : ℕ) : Sound r (State.evPend s i) := by
  unfold State.evPend
  try dsimp only
  with_reducible
    repeat' first
      | assumption | intro _ | apply sound_ite | apply sound_set | split

theorem sound_raiseOn {r s : State} (h : Sound r s) (i : ℕ) (payload : List Byte) : Sound r (State.raiseOn s i payload) := by
  unfold State.raiseOn
  try dsimp only
  with_reducible
    repeat' first
      | assumption | intro _ | apply sound_ite | apply sound_ev | apply sound_modIf | apply sound_evPend | apply sound_setIf
      | split

theorem sound_hostEvent {r s : State} (h : Sound r s) (code : ℕ) (unit : ℕ) (detail : ℕ) : Sound r (State.hostEvent s code unit detail) := by
  unfold State.hostEvent
  try dsimp only
  with_reducible
    repeat' first
      | assumption | intro _ | apply sound_ite | apply sound_each | apply sound_raiseOn | split

theorem sound_planEv {r s : State} (h : Sound r s) (f : Field) : Sound r (State.planEv s f) := by
  unfold State.planEv
  try dsimp only
  with_reducible
    repeat' first
      | assumption | intro _ | apply sound_ite | apply sound_ev | apply sound_hostEvent | split

theorem sound_mbResults {r s : State} (h : Sound r s) (c : ℕ) (res : List ℕ) : Sound r (State.mbResults s c res) := by
  unfold State.mbResults
  try dsimp only
  with_reducible
    repeat' first
      | assumption | intro _ | apply sound_ite | apply sound_each | apply sound_wr | split

theorem sound_mbEnd {r s : State} (h : Sound r s) (c : ℕ) (code : ℕ) (res : List ℕ) : Sound r (State.mbEnd s c code res) := by
  unfold State.mbEnd
  try dsimp only
  with_reducible
    repeat' first
      | assumption | intro _ | apply sound_ite | apply sound_mbResults | apply sound_set | apply sound_hostEvent
      | apply sound_setFldBit | split

theorem sound_mbRefuse {r s : State} (h : Sound r s) (c : ℕ) (code : ℕ) (space : ℕ) : Sound r (State.mbRefuse s c code space) := by
  unfold State.mbRefuse
  try dsimp only
  with_reducible
    repeat' first
      | assumption | intro _ | apply sound_ite | apply sound_mbEnd | split

theorem sound_mbQueue {r s : State} (h : Sound r s) (c : ℕ) (res : ℕ) : Sound r (State.mbQueue s c res) := by
  unfold State.mbQueue
  try dsimp only
  with_reducible
    repeat' first
      | assumption | intro _ | apply sound_ite | apply sound_setFldBit | apply sound_mbResults | apply sound_set | split

theorem sound_mbFinish {r s : State} (h : Sound r s) (sv : ℕ) (p : MbReq → Bool) (code : ℕ) (res : List ℕ) : Sound r (State.mbFinish s sv p code res) := by
  unfold State.mbFinish
  try dsimp only
  with_reducible
    repeat' first
      | assumption | intro _ | apply sound_ite | apply sound_each | apply sound_mbEnd | split

theorem sound_mbSkipGo {r s : State} (h : Sound r s) (l : List Nat) : Sound r (State.mbSkipGo l s) := by
  induction l generalizing s with
  | nil => exact h
  | cons c l ih =>
    unfold State.mbSkipGo
    split
    · exact ih (sound_mbEnd h _ _ _)
    · exact h

theorem sound_mbSkip {r s : State} (h : Sound r s) : Sound r (State.mbSkip s) := by
  unfold State.mbSkip
  try dsimp only
  with_reducible
    repeat' first
      | assumption | intro _ | apply sound_ite | apply sound_mbSkipGo | split

theorem sound_notice {r s : State} (h : Sound r s) (kind : ℕ) (a : ℕ) (b : ℕ) : Sound r (State.notice s kind a b) := by
  unfold State.notice
  try dsimp only
  with_reducible
    repeat' first
      | assumption | intro _ | apply sound_ite | split

theorem sound_ssn {r s : State} (h : Sound r s) (reason : ℕ) : Sound r (State.ssn s reason) := by
  unfold State.ssn
  try dsimp only
  with_reducible
    repeat' first
      | assumption | intro _ | apply sound_ite | apply sound_notice | split

theorem sound_showTxns {r s : State} (h : Sound r s) : Sound r (State.showTxns s) := by
  unfold State.showTxns
  try dsimp only
  with_reducible
    repeat' first
      | assumption | intro _ | apply sound_ite | apply sound_set | split

theorem sound_sendTxn {r s : State} (h : Sound r s) (ring : ℕ) (dst : ℕ) (typ : ℕ) (addr : ℕ) (body : List Byte) : Sound r (State.sendTxn s ring dst typ addr body) := by
  unfold State.sendTxn
  try dsimp only
  with_reducible
    repeat' first
      | assumption | intro _ | apply sound_ite | apply sound_showTxns | split

theorem sound_sendCtl {r s : State} (h : Sound r s) (ring : ℕ) (dst : ℕ) (code : ℕ) (body : List Byte) : Sound r (State.sendCtl s ring dst code body) := by
  unfold State.sendCtl
  try dsimp only
  with_reducible
    repeat' first
      | assumption | intro _ | apply sound_ite | apply sound_sendTxn | split

theorem sound_relay {r s : State} (h : Sound r s) (unit : ℕ) (action : ℕ) (d0 : Word) (d1 : Word) (d2 : Word) : Sound r (State.relay s unit action d0 d1 d2) := by
  unfold State.relay
  try dsimp only
  with_reducible
    repeat' first
      | assumption | intro _ | apply sound_ite | apply sound_sendCtl | split

theorem sound_legOff {r s : State} (h : Sound r s) (l : ℕ) : Sound r (State.legOff s l) := by
  unfold State.legOff
  try dsimp only
  with_reducible
    repeat' first
      | assumption | intro _ | apply sound_ite | apply sound_modLeg | apply sound_set | split

theorem sound_auxSettle {r s : State} (h : Sound r s) (u : ℕ) : Sound r (State.auxSettle s u) := by
  unfold State.auxSettle
  try dsimp only
  with_reducible
    repeat' first
      | assumption | intro _ | apply sound_ite | split

theorem sound_clearEnables {r s : State} (h : Sound r s) (u : ℕ) : Sound r (State.clearEnables s u) := by
  unfold State.clearEnables
  try dsimp only
  with_reducible
    repeat' first
      | assumption | intro _ | apply sound_ite | apply sound_each | apply sound_clearFldBit | split

theorem sound_releaseUnit {r s : State} (h : Sound r s) (u : ℕ) : Sound r (State.releaseUnit s u) := by
  unfold State.releaseUnit
  try dsimp only
  with_reducible
    repeat' first
      | assumption | intro _ | apply sound_ite | apply sound_each | apply sound_auxSettle | apply sound_clearEnables
      | apply sound_legOff | split

theorem sound_endGrant {r s : State} (h : Sound r s) (u : ℕ) : Sound r (State.endGrant s u) := by
  unfold State.endGrant
  try dsimp only
  with_reducible
    repeat' first
      | assumption | intro _ | apply sound_ite | apply sound_each | apply sound_clearFldBit | apply sound_modLeg | split

theorem sound_settleGrant {r s : State} (h : Sound r s) (u : ℕ) : Sound r (State.settleGrant s u) := by
  unfold State.settleGrant
  try dsimp only
  with_reducible
    repeat' first
      | assumption | intro _ | apply sound_ite | apply sound_auxSettle | apply sound_endGrant | split

theorem sound_chopOff {r s : State} (h : Sound r s) (b : ℕ) : Sound r (State.chopOff s b) := by
  unfold State.chopOff
  try dsimp only
  with_reducible
    repeat' first
      | assumption | intro _ | apply sound_ite | apply sound_set | split

theorem sound_dropChoppers {r s : State} (h : Sound r s) : Sound r (State.dropChoppers s) := by
  unfold State.dropChoppers
  try dsimp only
  with_reducible
    repeat' first
      | assumption | intro _ | apply sound_ite | apply sound_each | apply sound_when | apply sound_chopOff | split

theorem sound_armBrakes {r s : State} (h : Sound r s) : Sound r (State.armBrakes s) := by
  unfold State.armBrakes
  try dsimp only
  with_reducible
    repeat' first
      | assumption | intro _ | apply sound_ite | apply sound_each | apply sound_dropChoppers | apply sound_set | split

theorem sound_capFreeze {r s : State} (h : Sound r s) (u : ℕ) : Sound r (State.capFreeze s u) := by
  unfold State.capFreeze
  try dsimp only
  with_reducible
    repeat' first
      | assumption | intro _ | apply sound_ite | apply sound_each | apply sound_ev | apply sound_set | split

theorem sound_stopTest {r s : State} (h : Sound r s) (u : ℕ) : Sound r (State.stopTest s u) := by
  unfold State.stopTest
  try dsimp only
  with_reducible
    repeat' first
      | assumption | intro _ | apply sound_ite | apply sound_each | apply sound_ev | apply sound_mbEnd | split

theorem sound_setCal {r s : State} (h : Sound r s) (u : ℕ) (p : CalPhase) (log : ℕ) (code : ℕ) : Sound r (State.setCal s u p log code) := by
  unfold State.setCal
  try dsimp only
  with_reducible
    repeat' first
      | assumption | intro _ | apply sound_ite | split

theorem sound_calFail {r s : State} (h : Sound r s) (u : ℕ) (code : ℕ) : Sound r (State.calFail s u code) := by
  unfold State.calFail
  try dsimp only
  with_reducible
    repeat' first
      | assumption | intro _ | apply sound_ite | apply sound_each | apply sound_mbFinish | apply sound_setCal | apply sound_ev
      | split

theorem sound_calAbort {r s : State} (h : Sound r s) (u : ℕ) : Sound r (State.calAbort s u) := by
  unfold State.calAbort
  try dsimp only
  with_reducible
    repeat' first
      | assumption | intro _ | apply sound_ite | apply sound_calFail | split

theorem sound_abortSelf {r s : State} (h : Sound r s) (u : ℕ) (water : Bool) : Sound r (State.abortSelf s u water) := by
  unfold State.abortSelf
  try dsimp only
  with_reducible
    repeat' first
      | assumption | intro _ | apply sound_ite | apply sound_stopTest | apply sound_capFreeze | apply sound_calAbort | split

theorem sound_setDriveState {r s : State} (h : Sound r s) (d : ℕ) (st : ℕ) : Sound r (State.setDriveState s d st) := by
  unfold State.setDriveState
  try dsimp only
  with_reducible
    repeat' first
      | assumption | intro _ | apply sound_ite | apply sound_when | apply sound_set | apply sound_wr | apply sound_armBrakes
      | apply sound_ev | split

theorem sound_drvLast {r s : State} (h : Sound r s) (d : ℕ) (code : ℕ) : Sound r (State.drvLast s d code) := by
  unfold State.drvLast
  try dsimp only
  with_reducible
    repeat' first
      | assumption | intro _ | apply sound_ite | apply sound_set | split

theorem sound_startRefused {r s : State} (h : Sound r s) (d : ℕ) (code : ℕ) : Sound r (State.startRefused s d code) := by
  unfold State.startRefused
  try dsimp only
  with_reducible
    repeat' first
      | assumption | intro _ | apply sound_ite | apply sound_hostEvent | apply sound_ev | apply sound_drvLast | split

theorem sound_settleSafe {r s : State} (h : Sound r s) (d : ℕ) : Sound r (State.settleSafe s d) := by
  unfold State.settleSafe
  try dsimp only
  with_reducible
    repeat' first
      | assumption | intro _ | apply sound_ite | apply sound_setDriveState | apply sound_modDrive | split

theorem sound_driveSafe {r s : State} (h : Sound r s) (d : ℕ) : Sound r (State.driveSafe s d) := by
  unfold State.driveSafe
  try dsimp only
  with_reducible
    repeat' first
      | assumption | intro _ | apply sound_ite | apply sound_modDrive | apply sound_releaseUnit | apply sound_settleSafe
      | split

theorem sound_setUmpPattern {r s : State} (h : Sound r s) (u : ℕ) (p : ℕ) : Sound r (State.setUmpPattern s u p) := by
  unfold State.setUmpPattern
  try dsimp only
  with_reducible
    repeat' first
      | assumption | intro _ | apply sound_ite | apply sound_set | split

theorem sound_umpRefuse {r s : State} (h : Sound r s) (code : ℕ) (u : ℕ) : Sound r (State.umpRefuse s code u) := by
  unfold State.umpRefuse
  try dsimp only
  with_reducible
    repeat' first
      | assumption | intro _ | apply sound_ite | apply sound_ev | apply sound_set | split

theorem sound_enRefused {r s : State} (h : Sound r s) (page : ℕ) (leg : ℕ) (code : ℕ) : Sound r (State.enRefused s page leg code) := by
  unfold State.enRefused
  try dsimp only
  with_reducible
    repeat' first
      | assumption | intro _ | apply sound_ite | apply sound_ev | apply sound_set | split

theorem sound_notPermitted {r s : State} (h : Sound r s) (u : ℕ) : Sound r (State.notPermitted s u) := by
  unfold State.notPermitted
  try dsimp only
  with_reducible
    repeat' first
      | assumption | intro _ | apply sound_ite | apply sound_each | apply sound_enRefused | split

theorem sound_withdraw {r s : State} (h : Sound r s) (u : ℕ) (code : ℕ) : Sound r (State.withdraw s u code) := by
  unfold State.withdraw
  try dsimp only
  with_reducible
    repeat' first
      | assumption | intro _ | apply sound_ite | apply sound_releaseUnit | apply sound_notPermitted | apply sound_umpRefuse
      | apply sound_endGrant | split

theorem sound_recheck {r s : State} (h : Sound r s) : Sound r (State.recheck s) := by
  unfold State.recheck
  try dsimp only
  with_reducible
    repeat' first
      | assumption | intro _ | apply sound_ite | apply sound_each | apply sound_withdraw | split

theorem sound_override1 {r s : State} (h : Sound r s) (allOff : Bool) (u : ℕ) : Sound r (State.override1 s allOff u) := by
  unfold State.override1
  try dsimp only
  with_reducible
    repeat' first
      | assumption | intro _ | apply sound_ite | apply sound_setUmpPattern | apply sound_setFldBit | apply sound_set
      | apply sound_hostEvent | apply sound_abortSelf | apply sound_driveSafe | apply sound_ssn | apply sound_releaseUnit
      | split

theorem sound_override {r s : State} (h : Sound r s) (allOff : Bool) (u : ℕ) : Sound r (State.override s allOff u) := by
  unfold State.override
  try dsimp only
  with_reducible
    repeat' first
      | assumption | intro _ | apply sound_ite | apply sound_override1 | split

theorem sound_overrides {r s : State} (h : Sound r s) (allOff : Bool) (mask : ℕ) : Sound r (State.overrides s allOff mask) := by
  unfold State.overrides
  try dsimp only
  with_reducible
    repeat' first
      | assumption | intro _ | apply sound_ite | apply sound_each | apply sound_override | split

theorem sound_umpLatch {r s : State} (h : Sound r s) (b : ℕ) (mask : ℕ) : Sound r (State.umpLatch s b mask) := by
  unfold State.umpLatch
  try dsimp only
  with_reducible
    repeat' first
      | assumption | intro _ | apply sound_ite | apply sound_setFldBit | split

theorem sound_umpFault {r s : State} (h : Sound r s) (b : ℕ) (mask : ℕ) (allOff : Bool) : Sound r (State.umpFault s b mask allOff) := by
  unfold State.umpFault
  try dsimp only
  with_reducible
    repeat' first
      | assumption | intro _ | apply sound_ite | apply sound_recheck | apply sound_overrides | apply sound_umpLatch | split

theorem sound_safeRecord {r s : State} (h : Sound r s) (u : ℕ) (fault : ℕ) (i : FaultInfo) : Sound r (State.safeRecord s u fault i) := by
  unfold State.safeRecord
  try dsimp only
  with_reducible
    repeat' first
      | assumption | intro _ | apply sound_ite | apply sound_fresh | apply sound_set | split | exact Sound.snd (by assumption)

theorem sound_enterSafe {r s : State} (h : Sound r s) (u : ℕ) (fault : ℕ) (i : FaultInfo) : Sound r (State.enterSafe s u fault i) := by
  unfold State.enterSafe
  try dsimp only
  with_reducible
    repeat' first
      | assumption | intro _ | apply sound_ite | apply sound_safeRecord | apply sound_hostEvent | apply sound_setFldBit
      | apply sound_abortSelf | apply sound_endGrant | apply sound_driveSafe | apply sound_ssn | apply sound_releaseUnit
      | split

theorem sound_fault1 {r s : State} (h : Sound r s) (u : ℕ) (fault : ℕ) (i : FaultInfo) : Sound r (State.fault1 s u fault i) := by
  unfold State.fault1
  try dsimp only
  with_reducible
    repeat' first
      | assumption | intro _ | apply sound_ite | apply sound_setFldBit | apply sound_enterSafe | apply sound_safeRecord
      | apply sound_set | split

theorem sound_fault {r s : State} (h : Sound r s) (u : ℕ) (fault : ℕ) (i : FaultInfo) : Sound r (State.fault s u fault i) := by
  unfold State.fault
  try dsimp only
  with_reducible
    repeat' first
      | assumption | intro _ | apply sound_ite | apply sound_fault1 | split

theorem sound_faultUnits {r s : State} (h : Sound r s) (mask : ℕ) (fault : ℕ) (i : FaultInfo) : Sound r (State.faultUnits s mask fault i) := by
  unfold State.faultUnits
  try dsimp only
  with_reducible
    repeat' first
      | assumption | intro _ | apply sound_ite | apply sound_each | apply sound_fault | split

theorem sound_clearDie {r s : State} (h : Sound r s) : Sound r (State.clearDie s) := by
  unfold State.clearDie
  dsimp only
  refine sound_ite _ (sound_set (sound_wr (sound_set ?_ _ _) _ _) _ _) (sound_wr (sound_set ?_ _ _) _ _)
  all_goals exact ⟨fun hr => ⟨mapWf_filter _ _ _ (h.1 hr).1, (h.1 hr).2⟩, h.2⟩

theorem sound_dieReset {r s : State} (h : Sound r s) (code : ℕ) (detail : ℕ) (also : ℕ) (hold : Die) (allOff : Bool) : Sound r (State.dieReset s code detail also hold allOff) := by
  unfold State.dieReset
  try dsimp only
  with_reducible
    repeat' first
      | assumption | intro _ | apply sound_ite | apply sound_clearDie | apply sound_recheck | apply sound_overrides | split

theorem sound_failLatch {r s : State} (h : Sound r s) (b : ℕ) : Sound r (State.failLatch s b) := by
  unfold State.failLatch
  try dsimp only
  with_reducible
    repeat' first
      | assumption | intro _ | apply sound_ite | apply sound_umpLatch | split

theorem sound_deviceReset {r s : State} (h : Sound r s) (retain : Option ℕ) : Sound r (State.deviceReset s retain) := by
  exact ⟨fun _ => ⟨rfl, rfl, rfl, rfl, rfl, rfl⟩, h.2⟩

theorem sound_lockstepLast {r s : State} (h : Sound r s) (x : ℕ) (group : ℕ) : Sound r (State.lockstepLast s x group) := by
  unfold State.lockstepLast
  try dsimp only
  with_reducible
    repeat' first
      | assumption | intro _ | apply sound_ite | apply sound_bump | apply sound_set | split

theorem sound_causeLatch {r s : State} (h : Sound r s) (a : ResetCause) : Sound r (State.causeLatch s a) := by
  unfold State.causeLatch
  try dsimp only
  with_reducible
    repeat' first
      | assumption | intro _ | apply sound_ite | apply sound_ite2 | apply sound_each | apply sound_when | apply sound_onDie
      | apply sound_onUmp | apply sound_foldl | apply sound_failLatch | apply sound_umpLatch | split
      | exact Sound.snd (by assumption)

theorem sound_causes {r s : State} (h : Sound r s) (c : ResetCause) (same : List ResetCause) : Sound r (State.causes s c same) := by
  unfold State.causes
  try dsimp only
  with_reducible
    repeat' first
      | assumption | intro _ | apply sound_ite | apply sound_ite2 | apply sound_each | apply sound_when | apply sound_onDie
      | apply sound_onUmp | apply sound_foldl | apply sound_causeLatch | apply sound_lockstepLast | apply sound_deviceReset
      | apply sound_dieReset | apply sound_overrides | split | exact Sound.snd (by assumption)

theorem sound_declareFailed {r s : State} (h : Sound r s) (detail : Fin 256) (same : List ResetCause) : Sound r (State.declareFailed s detail same) := by
  unfold State.declareFailed
  try dsimp only
  with_reducible
    repeat' first
      | assumption | intro _ | apply sound_ite | apply sound_causes | split

theorem sound_beside {r s : State} (h : Sound r s) (a : List ResetCause) : Sound r (State.beside s a) := by
  unfold State.beside
  try dsimp only
  with_reducible
    repeat' first
      | assumption | intro _ | apply sound_ite | apply sound_ite2 | apply sound_each | apply sound_when | apply sound_onDie
      | apply sound_onUmp | apply sound_foldl | apply sound_causes | split
      | exact Sound.snd (by assumption)

theorem sound_refuse {r s : State} (h : Sound r s) (m : Master) (a : ℕ) (code : ℕ) (write : Bool) : Sound r (State.refuse s m a code write) := by
  unfold State.refuse
  try dsimp only
  with_reducible
    repeat' first
      | assumption | intro _ | apply sound_ite | apply sound_wr | apply sound_set | apply sound_bump | apply sound_ev | split

theorem sound_blockWrite {r s : State} (h : Sound r s) (m : Master) (a : ℕ) (auth : Bool) (act : State → State) (hact : ∀ x0, Sound r x0 → Sound r (act x0)) : Sound r (State.blockWrite s m a auth act) := by
  unfold State.blockWrite
  try dsimp only
  with_reducible
    repeat' first
      | assumption | intro _ | apply sound_ite | apply sound_refuse | apply hact | split

theorem sound_commit {r s : State} (h : Sound r s) (page : ℕ) (group : List ℕ) (period : Option ℕ) (atNs : ℕ) : Sound r (State.commit s page group period atNs) := by
  unfold State.commit
  try dsimp only
  with_reducible
    repeat' first
      | assumption | intro _ | apply sound_ite | apply sound_each | apply sound_when | apply sound_bump | apply sound_ev
      | apply sound_modLeg | apply sound_setFldBit | split

theorem sound_applyCommit {r s : State} (h : Sound r s) (l : ℕ) (boundary : Bool) (atNs : ℕ) : Sound r (State.applyCommit s l boundary atNs) := by
  unfold State.applyCommit
  try dsimp only
  with_reducible
    repeat' first
      | assumption | intro _ | apply sound_ite | apply sound_ev | apply sound_set | apply sound_clearFldBit
      | apply sound_modLeg | split

theorem sound_clampStale {r s : State} (h : Sound r s) (l : ℕ) : Sound r (State.clampStale s l) := by
  unfold State.clampStale
  try dsimp only
  with_reducible
    repeat' first
      | assumption | intro _ | apply sound_ite | apply sound_ev | apply sound_set | split

theorem sound_loadBand {r s : State} (h : Sound r s) (l : ℕ) (b : ℕ) : Sound r (State.loadBand s l b) := by
  unfold State.loadBand
  try dsimp only
  with_reducible
    repeat' first
      | assumption | intro _ | apply sound_ite | apply sound_set | split

theorem sound_placeEdges {r s : State} (h : Sound r s) (l : ℕ) : Sound r (State.placeEdges s l) := by
  unfold State.placeEdges
  try dsimp only
  with_reducible
    repeat' first
      | assumption | intro _ | apply sound_ite | apply sound_when | apply sound_ev | apply sound_set | apply sound_modLeg
      | split

theorem sound_placeCentre {r s : State} (h : Sound r s) (l : ℕ) : Sound r (State.placeCentre s l) := by
  unfold State.placeCentre
  try dsimp only
  with_reducible
    repeat' first
      | assumption | intro _ | apply sound_ite | apply sound_when | apply sound_ev | apply sound_set | apply sound_modLeg
      | split

theorem sound_refCarrier {r s : State} (h : Sound r s) (l : ℕ) (atNs : ℕ) : Sound r (State.refCarrier s l atNs) := by
  unfold State.refCarrier
  try dsimp only
  with_reducible
    repeat' first
      | assumption | intro _ | apply sound_ite | apply sound_ev | apply sound_set | split

theorem sound_endPeriod {r s : State} (h : Sound r s) (l : ℕ) : Sound r (State.endPeriod s l) := by
  unfold State.endPeriod
  try dsimp only
  with_reducible
    repeat' first
      | assumption | intro _ | apply sound_ite | apply sound_when | apply sound_modLeg | apply sound_set | apply sound_iset
      | split

theorem sound_boundary {r s : State} (h : Sound r s) (l : ℕ) (atNs : ℕ) : Sound r (State.boundary s l atNs) := by
  unfold State.boundary
  try dsimp only
  with_reducible
    repeat' first
      | assumption | intro _ | apply sound_ite | apply sound_when | apply sound_endPeriod | apply sound_modLeg
      | apply sound_wr | apply sound_refCarrier | apply sound_applyCommit | apply sound_loadBand | apply sound_clampStale
      | apply sound_placeEdges | apply sound_legOff | apply sound_settleGrant | split

theorem sound_updatePoint' {r s : State} (h : Sound r s) (l : LegIx) (centre : Bool) (atNs : ℕ) : Sound r (updatePoint l centre atNs s) := by
  unfold updatePoint
  try dsimp only
  with_reducible
    repeat' first
      | assumption | intro _ | apply sound_ite | apply sound_onDie | apply sound_clampStale | apply sound_applyCommit
      | apply sound_placeCentre | apply sound_boundary | split

theorem sound_countTrip {r s : State} (h : Sound r s) (l : ℕ) (high : Bool) (step : Option ℤ) : Sound r (State.countTrip s l high step).2 := by
  unfold State.countTrip
  try dsimp only
  with_reducible
    repeat' first
      | assumption | intro _ | apply sound_ite | apply sound_ite2 | apply sound_modLeg | apply sound_bump | apply sound_legOff
      | apply sound_ev | apply sound_set | split | exact Sound.snd (by assumption)

theorem sound_fsFault {r s : State} (h : Sound r s) (l : ℕ) (high : Bool) (latched : Bool) : Sound r (State.fsFault s l high latched) := by
  unfold State.fsFault
  try dsimp only
  with_reducible
    repeat' first
      | assumption | intro _ | apply sound_ite | apply sound_fault | split

theorem sound_trip {r s : State} (h : Sound r s) (l : ℕ) (high : Bool) : Sound r (State.trip s l high) := by
  unfold State.trip
  try dsimp only
  with_reducible
    repeat' first
      | assumption | intro _ | apply sound_ite | apply sound_countTrip | apply sound_fsFault | split
      | exact Sound.snd (by assumption)

theorem sound_interlock {r s : State} (h : Sound r s) (l : ℕ) : Sound r (State.interlock s l) := by
  unfold State.interlock
  try dsimp only
  with_reducible
    repeat' first
      | assumption | intro _ | apply sound_ite | apply sound_trip | apply sound_modLeg | apply sound_ev | split

theorem sound_interlock' {r s : State} (h : Sound r s) (l : LegIx) : Sound r (interlock l s) := by
  unfold interlock
  try dsimp only
  with_reducible
    repeat' first
      | assumption | intro _ | apply sound_ite | apply sound_onDie | apply sound_interlock | split

theorem sound_umpireInterlockReport' {r s : State} (h : Sound r s) (l : LegIx) : Sound r (umpireInterlockReport l s) := by
  unfold umpireInterlockReport
  try dsimp only
  with_reducible
    repeat' first
      | assumption | intro _ | apply sound_ite | apply sound_onDie | apply sound_interlock | split

theorem sound_fsLeak' {r s : State} (h : Sound r s) (l : LegIx) : Sound r (fsLeak l s) := by
  unfold fsLeak
  try dsimp only
  with_reducible
    repeat' first
      | assumption | intro _ | apply sound_ite | apply sound_onDie | apply sound_set | split

theorem sound_fsClear {r s : State} (h : Sound r s) (l : ℕ) : Sound r (State.fsClear s l).2 := by
  unfold State.fsClear
  try dsimp only
  with_reducible
    repeat' first
      | assumption | intro _ | apply sound_ite | apply sound_ite2 | apply sound_set | split
      | exact Sound.snd (by assumption)

theorem sound_legFsClear' {r s : State} (h : Sound r s) (m : Master) (l : LegIx) : Sound r (legFsClear m l s) := by
  unfold legFsClear
  try dsimp only
  with_reducible
    repeat' first
      | assumption | intro _ | apply sound_ite | apply sound_onDie | apply sound_blockWrite | apply sound_fsClear
      | apply sound_refuse | split | exact Sound.snd (by assumption)

theorem sound_bootRefresh' {r s : State} (h : Sound r s) (l : LegIx) : Sound r (bootRefresh l s) := by
  unfold bootRefresh
  try dsimp only
  with_reducible
    repeat' first
      | assumption | intro _ | apply sound_ite | apply sound_onDie | apply sound_endPeriod | apply sound_modLeg
      | apply sound_ev | split

theorem sound_bootCatch {r s : State} (h : Sound r s) : Sound r (State.bootCatch s) := by
  unfold State.bootCatch
  try dsimp only
  with_reducible
    repeat' first
      | assumption | intro _ | apply sound_ite | apply sound_each | apply sound_when | apply sound_modLeg | split

theorem sound_bootUv {r s : State} (h : Sound r s) (l : ℕ) : Sound r (State.bootUv s l) := by
  unfold State.bootUv
  try dsimp only
  with_reducible
    repeat' first
      | assumption | intro _ | apply sound_ite | apply sound_legOff | apply sound_ev | apply sound_set | apply sound_modLeg
      | apply sound_fault | split

theorem sound_bootUvCheck' {r s : State} (h : Sound r s) (l : LegIx) (periodEnd : Bool) : Sound r (bootUvCheck l periodEnd s) := by
  unfold bootUvCheck
  try dsimp only
  with_reducible
    repeat' first
      | assumption | intro _ | apply sound_ite | apply sound_onDie | apply sound_bootUv | apply sound_modLeg | split

theorem sound_ntcFault {r s : State} (h : Sound r s) (n : ℕ) : Sound r (State.ntcFault s n) := by
  unfold State.ntcFault
  try dsimp only
  with_reducible
    repeat' first
      | assumption | intro _ | apply sound_ite | apply sound_ev | apply sound_set | apply sound_clearFldBit | split

theorem sound_ntcResult {r s : State} (h : Sound r s) (n : ℕ) (valid : Bool) (v : ℤ) : Sound r (State.ntcResult s n valid v) := by
  unfold State.ntcResult
  try dsimp only
  with_reducible
    repeat' first
      | assumption | intro _ | apply sound_ite | apply sound_iset | apply sound_ntcFault | apply sound_set
      | apply sound_setFldBit | split

theorem sound_ntcResults {r s : State} (h : Sound r s) (e : ℕ) (valid : Bool) (v : ℤ) : Sound r (State.ntcResults s e valid v) := by
  unfold State.ntcResults
  try dsimp only
  with_reducible
    repeat' first
      | assumption | intro _ | apply sound_ite | apply sound_each | apply sound_ntcResult | split

theorem sound_ntcAgeTimeout' {r s : State} (h : Sound r s) (n : Fin 6) : Sound r (ntcAgeTimeout n s) := by
  unfold ntcAgeTimeout
  try dsimp only
  with_reducible
    repeat' first
      | assumption | intro _ | apply sound_ite | apply sound_onBlock | apply sound_ntcFault | split

theorem sound_bandCatch {r s : State} (h : Sound r s) : Sound r (State.bandCatch s) := by
  unfold State.bandCatch
  try dsimp only
  with_reducible
    repeat' first
      | assumption | intro _ | apply sound_ite | apply sound_set | apply sound_iset | apply sound_ev | split

theorem sound_setSd {r s : State} (h : Sound r s) (n : ℕ) (x : SdIn) : Sound r (State.setSd s n x) := by
  unfold State.setSd
  try dsimp only
  with_reducible
    repeat' first
      | assumption | intro _ | apply sound_ite | split

theorem sound_sdResult {r s : State} (h : Sound r s) (n : ℕ) : Sound r (State.sdResult s n) := by
  unfold State.sdResult
  try dsimp only
  with_reducible
    repeat' first
      | assumption | intro _ | apply sound_ite | apply sound_when | apply sound_set | apply sound_iset | apply sound_ev
      | apply sound_bump | split

theorem sound_compFault {r s : State} (h : Sound r s) (n : ℕ) (hi : Bool) : Sound r (State.compFault s n hi) := by
  unfold State.compFault
  try dsimp only
  with_reducible
    repeat' first
      | assumption | intro _ | apply sound_ite | apply sound_each | apply sound_faultUnits | apply sound_fault | split

theorem sound_linkUv {r s : State} (h : Sound r s) (u : ℕ) : Sound r (State.linkUv s u) := by
  unfold State.linkUv
  try dsimp only
  with_reducible
    repeat' first
      | assumption | intro _ | apply sound_ite | apply sound_fault | split

theorem sound_protOut {r s : State} (h : Sound r s) (n : ℕ) : Sound r (State.protOut s n).2 := by
  unfold State.protOut
  try dsimp only
  with_reducible
    repeat' first
      | assumption | intro _ | apply sound_ite | apply sound_ite2 | apply sound_fresh | split
      | exact Sound.snd (by assumption)

theorem sound_compStep {r s : State} (h : Sound r s) (n : ℕ) (hi : Bool) (p : ℤ) : Sound r (State.compStep s n hi p) := by
  unfold State.compStep
  try dsimp only
  with_reducible
    repeat' first
      | assumption | intro _ | apply sound_ite | apply sound_when | apply sound_setSd | apply sound_set
      | apply sound_compFault | apply sound_ev | split

theorem sound_protStep {r s : State} (h : Sound r s) (n : ℕ) : Sound r (State.protStep s n) := by
  unfold State.protStep
  try dsimp only
  with_reducible
    repeat' first
      | assumption | intro _ | apply sound_ite | apply sound_protOut | apply sound_iset | apply sound_compStep | split
      | exact Sound.snd (by assumption)

theorem sound_decoderStep {r s : State} (h : Sound r s) (n : ℕ) (bad : Bool) : Sound r (State.decoderStep s n bad) := by
  unfold State.decoderStep
  try dsimp only
  with_reducible
    repeat' first
      | assumption | intro _ | apply sound_ite | apply sound_when | apply sound_bump | apply sound_setSd | apply sound_ev
      | apply sound_set | apply sound_faultUnits | split

theorem sound_bitIn {r s : State} (h : Sound r s) (n : ℕ) (v : Option Bool) : Sound r (State.bitIn s n v) := by
  unfold State.bitIn
  try dsimp only
  with_reducible
    repeat' first
      | assumption | intro _ | apply sound_ite | apply sound_when | apply sound_setSd | apply sound_ev | apply sound_protStep
      | apply sound_decoderStep | split

theorem sound_stream {r s : State} (h : Sound r s) (n : ℕ) (l : List (Option Bool)) : Sound r (State.stream s n l) := by
  unfold State.stream
  try dsimp only
  with_reducible
    repeat' first
      | assumption | intro _ | apply sound_ite | apply sound_each | apply sound_when | apply sound_bitIn | split

theorem sound_sdStuck' {r s : State} (h : Sound r s) (n : SdIx) (bits : List (Option Bool)) : Sound r (sdStuck n bits s) := by
  unfold sdStuck
  try dsimp only
  with_reducible
    repeat' first
      | assumption | intro _ | apply sound_ite | apply sound_onDie | apply sound_stream | split

theorem sound_sdStuckClear' {r s : State} (h : Sound r s) (n : SdIx) (bits : List (Option Bool)) : Sound r (sdStuckClear n bits s) := by
  unfold sdStuckClear
  try dsimp only
  with_reducible
    repeat' first
      | assumption | intro _ | apply sound_ite | apply sound_onDie | apply sound_stream | split

theorem sound_manchesterLock' {r s : State} (h : Sound r s) (n : SdIx) (bits : List (Option Bool)) : Sound r (manchesterLock n bits s) := by
  unfold manchesterLock
  try dsimp only
  with_reducible
    repeat' first
      | assumption | intro _ | apply sound_ite | apply sound_onDie | apply sound_stream | split

theorem sound_manchesterLockLoss' {r s : State} (h : Sound r s) (n : SdIx) (bits : List (Option Bool)) : Sound r (manchesterLockLoss n bits s) := by
  unfold manchesterLockLoss
  try dsimp only
  with_reducible
    repeat' first
      | assumption | intro _ | apply sound_ite | apply sound_onDie | apply sound_stream | split

theorem sound_manchesterViolation' {r s : State} (h : Sound r s) (n : SdIx) (bits : List (Option Bool)) : Sound r (manchesterViolation n bits s) := by
  unfold manchesterViolation
  try dsimp only
  with_reducible
    repeat' first
      | assumption | intro _ | apply sound_ite | apply sound_onDie | apply sound_stream | split

theorem sound_comparatorAssert' {r s : State} (h : Sound r s) (n : SdIx) (bits : List (Option Bool)) : Sound r (comparatorAssert n bits s) := by
  unfold comparatorAssert
  try dsimp only
  with_reducible
    repeat' first
      | assumption | intro _ | apply sound_ite | apply sound_onDie | apply sound_stream | split

theorem sound_comparatorDeassert' {r s : State} (h : Sound r s) (n : SdIx) (bits : List (Option Bool)) : Sound r (comparatorDeassert n bits s) := by
  unfold comparatorDeassert
  try dsimp only
  with_reducible
    repeat' first
      | assumption | intro _ | apply sound_ite | apply sound_onDie | apply sound_stream | split

theorem sound_loadThresholds {r s : State} (h : Sound r s) (b : ℕ) : Sound r (State.loadThresholds s b) := by
  unfold State.loadThresholds
  try dsimp only
  with_reducible
    repeat' first
      | assumption | intro _ | apply sound_ite | apply sound_each | apply sound_when | apply sound_wr | apply sound_set
      | split

theorem sound_check1 {r s : State} (h : Sound r s) (key : ℕ) (lim : ℕ) (cnt : ℕ) (ms : List ℕ) : Sound r (State.check1 s key lim cnt ms) := by
  unfold State.check1
  try dsimp only
  with_reducible
    repeat' first
      | assumption | intro _ | apply sound_ite | apply sound_setFldBit | apply sound_set | apply sound_ev
      | apply sound_faultUnits | split

theorem sound_allChecks {r s : State} (h : Sound r s) : Sound r (State.allChecks s) := by
  unfold State.allChecks
  try dsimp only
  with_reducible
    repeat' first
      | assumption | intro _ | apply sound_ite | apply sound_each | apply sound_check1 | split

theorem sound_ofsWrite {r s : State} (h : Sound r s) (sar : Bool) (i : ℕ) (v : Word) : Sound r (State.ofsWrite s sar i v).2 := by
  unfold State.ofsWrite
  try dsimp only
  with_reducible
    repeat' first
      | assumption | intro _ | apply sound_ite | apply sound_ite2 | apply sound_set | split
      | exact Sound.snd (by assumption)

theorem sound_sdOfsWrite' {r s : State} (h : Sound r s) (m : Master) (sar : Bool) (i : Fin 40) (v : Word) : Sound r (sdOfsWrite m sar i v s) := by
  unfold sdOfsWrite
  try dsimp only
  with_reducible
    repeat' first
      | assumption | intro _ | apply sound_ite | apply sound_onDie | apply sound_blockWrite | apply sound_ofsWrite
      | apply sound_refuse | split | exact Sound.snd (by assumption)

theorem sound_calibrationStart' {r s : State} (h : Sound r s) (u : UnitIx) : Sound r (calibrationStart u s) := by
  unfold calibrationStart
  try dsimp only
  with_reducible
    repeat' first
      | assumption | intro _ | apply sound_ite | apply sound_each | apply sound_onDie | apply sound_setCal
      | apply sound_mbResults | apply sound_set | split

theorem sound_calibrationSettled' {r s : State} (h : Sound r s) (u : UnitIx) : Sound r (calibrationSettled u s) := by
  unfold calibrationSettled
  try dsimp only
  with_reducible
    repeat' first
      | assumption | intro _ | apply sound_ite | apply sound_onDie | apply sound_setCal | split

theorem sound_calTake {r s : State} (h : Sound r s) (u : ℕ) (key : ℕ) (v : Option ℤ) : Sound r (State.calTake s u key v) := by
  unfold State.calTake
  try dsimp only
  with_reducible
    repeat' first
      | assumption | intro _ | apply sound_ite | apply sound_calFail | split

theorem sound_calCatch {r s : State} (h : Sound r s) : Sound r (State.calCatch s) := by
  unfold State.calCatch
  try dsimp only
  with_reducible
    repeat' first
      | assumption | intro _ | apply sound_ite | apply sound_each | apply sound_calTake | split

theorem sound_calibrationEnd' {r s : State} (h : Sound r s) (u : UnitIx) : Sound r (calibrationEnd u s) := by
  unfold calibrationEnd
  try dsimp only
  with_reducible
    repeat' first
      | assumption | intro _ | apply sound_ite | apply sound_each | apply sound_onDie | apply sound_calFail | apply sound_iset
      | apply sound_mbFinish | apply sound_setCal | apply sound_ev | split

theorem sound_sarEntryStart' {r s : State} (h : Sound r s) (e : Fin 32) (at' : ℕ) : Sound r (sarEntryStart e at' s) := by
  unfold sarEntryStart
  try dsimp only
  with_reducible
    repeat' first
      | assumption | intro _ | apply sound_ite | apply sound_onBlock | split

theorem sound_sarCheck {r s : State} (h : Sound r s) (c : ℕ) (bad : Bool) : Sound r (State.sarCheck s c bad) := by
  unfold State.sarCheck
  try dsimp only
  with_reducible
    repeat' first
      | assumption | intro _ | apply sound_ite | apply sound_bump | apply sound_ev | apply sound_set | split

theorem sound_sarConversionDone' {r s : State} (h : Sound r s) (e : Fin 32) (codes : List (BitVec 12)) : Sound r (sarConversionDone e codes s) := by
  unfold sarConversionDone
  try dsimp only
  with_reducible
    repeat' first
      | assumption | intro _ | apply sound_ite | apply sound_each | apply sound_onBlock | apply sound_set | apply sound_iset
      | apply sound_sarCheck | apply sound_ntcResults | apply sound_calTake | split

theorem sound_windowEnds {r s : State} (h : Sound r s) (u : ℕ) : Sound r (State.windowEnds s u) := by
  unfold State.windowEnds
  try dsimp only
  with_reducible
    repeat' first
      | assumption | intro _ | apply sound_ite | apply sound_stopTest | apply sound_calAbort | split

theorem sound_sarSkips {r s : State} (h : Sound r s) : Sound r (State.sarSkips s) := by
  unfold State.sarSkips
  try dsimp only
  with_reducible
    repeat' first
      | assumption | intro _ | apply sound_ite | apply sound_when | apply sound_ev | split

theorem sound_rsxPublish {r s : State} (h : Sound r s) (tick : ℕ) : Sound r (State.rsxPublish s tick) := by
  unfold State.rsxPublish
  try dsimp only
  with_reducible
    repeat' first
      | assumption | intro _ | apply sound_ite | apply sound_each | apply sound_wr | split

theorem sound_gateSet {r s : State} (h : Sound r s) (page : ℕ) (mask : ℕ) : Sound r (State.gateSet s page mask) := by
  unfold State.gateSet
  try dsimp only
  with_reducible
    repeat' first
      | assumption | intro _ | apply sound_ite | apply sound_each | apply sound_enRefused | apply sound_setFldBit
      | apply sound_calAbort | apply sound_linkUv | split

theorem sound_pwmGateEnSet' {r s : State} (h : Sound r s) (m : Master) (page : Fin 3) (mask : BitVec 9) : Sound r (pwmGateEnSet m page mask s) := by
  unfold pwmGateEnSet
  try dsimp only
  with_reducible
    repeat' first
      | assumption | intro _ | apply sound_ite | apply sound_onDie | apply sound_blockWrite | apply sound_gateSet | split

theorem sound_gateClear {r s : State} (h : Sound r s) (page : ℕ) (mask : ℕ) : Sound r (State.gateClear s page mask) := by
  unfold State.gateClear
  try dsimp only
  with_reducible
    repeat' first
      | assumption | intro _ | apply sound_ite | apply sound_each | apply sound_when | apply sound_clearFldBit
      | apply sound_set | apply sound_settleGrant | split

theorem sound_pwmGateEnClear' {r s : State} (h : Sound r s) (m : Master) (page : Fin 3) (mask : BitVec 9) : Sound r (pwmGateEnClear m page mask s) := by
  unfold pwmGateEnClear
  try dsimp only
  with_reducible
    repeat' first
      | assumption | intro _ | apply sound_ite | apply sound_onDie | apply sound_blockWrite | apply sound_gateClear | split

theorem sound_startFrom {r s : State} (h : Sound r s) (atNs : ℕ) : Sound r (State.startFrom s atNs).2 := by
  unfold State.startFrom
  try dsimp only
  with_reducible
    repeat' first
      | assumption | intro _ | apply sound_ite | apply sound_ite2 | split | exact Sound.snd (by assumption)

theorem sound_requestRefused {r s : State} (h : Sound r s) (u : ℕ) : Sound r (State.requestRefused s u) := by
  unfold State.requestRefused
  try dsimp only
  with_reducible
    repeat' first
      | assumption | intro _ | apply sound_ite | apply sound_clearEnables | apply sound_notPermitted
      | apply sound_setDriveState | apply sound_startRefused | apply sound_modDrive | split

theorem sound_gateGrant' {r s : State} (h : Sound r s) (u : UnitIx) (atNs : ℕ) : Sound r (gateGrant u atNs s) := by
  unfold gateGrant
  try dsimp only
  with_reducible
    repeat' first
      | assumption | intro _ | apply sound_ite | apply sound_each | apply sound_onUmp | apply sound_requestRefused
      | apply sound_umpRefuse | apply sound_startFrom | apply sound_setFldBit | apply sound_modLeg | apply sound_recheck
      | split | exact Sound.snd (by assumption)

theorem sound_legStart' {r s : State} (h : Sound r s) (l : LegIx) (atNs : ℕ) : Sound r (legStart l atNs s) := by
  unfold legStart
  try dsimp only
  with_reducible
    repeat' first
      | assumption | intro _ | apply sound_ite | apply sound_onDie | apply sound_set | apply sound_boundary
      | apply sound_placeEdges | apply sound_modLeg | split

end Sys2Proof.Machine
end

