-- ==== Sys2Proof/Laws/Sound2.lean ====
section
/-! SUPPORT. One lemma `sound_<name>` per operation of the model, in the order of the model's files (part 2 of 4):
the operation keeps the maps' canonical form and the queue (Laws/Sound.lean). -/

namespace Sys2Proof.Machine
set_option linter.all false

variable {r s : State}

theorem sound_legTrip {r s : State} (h : Sound r s) (u : ℕ) (l : ℕ) (high : Bool) (atNs : ℕ) : Sound r (State.legTrip s u l high atNs) := by
  unfold State.legTrip
  try dsimp only
  with_reducible
    repeat' first
      | assumption | intro _ | apply sound_ite | apply sound_countTrip | apply sound_modLeg | apply sound_setFldBit
      | apply sound_fault | apply sound_ev | apply sound_fsFault | split | exact Sound.snd (by assumption)

theorem sound_legLevel {r s : State} (h : Sound r s) (l : ℕ) (high : Bool) (atNs : ℕ) : Sound r (State.legLevel s l high atNs) := by
  unfold State.legLevel
  try dsimp only
  with_reducible
    repeat' first
      | assumption | intro _ | apply sound_ite | apply sound_modLeg | apply sound_setFldBit | apply sound_legTrip
      | apply sound_bump | apply sound_clearFldBit | split

theorem sound_setFltRun {r s : State} (h : Sound r s) (k : ℕ) (n : ℕ) : Sound r (State.setFltRun s k n) := by
  unfold State.setFltRun
  try dsimp only
  with_reducible
    repeat' first
      | assumption | intro _ | apply sound_ite | split

theorem sound_legFaultInput' {r s : State} (h : Sound r s) (i : FltIx) (samples : List Bool) (atNs : ℕ) : Sound r (legFaultInput i samples atNs s) := by
  unfold legFaultInput
  try dsimp only
  with_reducible
    repeat' first
      | assumption | intro _ | apply sound_ite | apply sound_each | apply sound_onBlock | apply sound_setFltRun
      | apply sound_legLevel | split

theorem sound_blankingEnd' {r s : State} (h : Sound r s) (l : LegIx) (atNs : ℕ) : Sound r (blankingEnd l atNs s) := by
  unfold blankingEnd
  try dsimp only
  with_reducible
    repeat' first
      | assumption | intro _ | apply sound_ite | apply sound_onBlock | apply sound_clearFldBit | apply sound_legTrip | split

theorem sound_chopperOn' {r s : State} (h : Sound r s) (b : BrkIx) (tick : ℕ) : Sound r (chopperOn b tick s) := by
  unfold chopperOn
  try dsimp only
  with_reducible
    repeat' first
      | assumption | intro _ | apply sound_ite | apply sound_onBlock | apply sound_set | split

theorem sound_chopperOff' {r s : State} (h : Sound r s) (b : BrkIx) (tick : ℕ) : Sound r (chopperOff b tick s) := by
  unfold chopperOff
  try dsimp only
  with_reducible
    repeat' first
      | assumption | intro _ | apply sound_ite | apply sound_onBlock | apply sound_chopOff | split

theorem sound_brkArmWrite' {r s : State} (h : Sound r s) (m : Master) (b : BrkIx) (arm : Bool) : Sound r (brkArmWrite m b arm s) := by
  unfold brkArmWrite
  try dsimp only
  with_reducible
    repeat' first
      | assumption | intro _ | apply sound_ite | apply sound_onDie | apply sound_blockWrite | apply sound_dropChoppers
      | apply sound_set | split

theorem sound_latchBrake {r s : State} (h : Sound r s) (b : ℕ) : Sound r (State.latchBrake s b) := by
  unfold State.latchBrake
  try dsimp only
  with_reducible
    repeat' first
      | assumption | intro _ | apply sound_ite | apply sound_ev | apply sound_set | apply sound_chopOff
      | apply sound_faultUnits | split

theorem sound_brkLevel {r s : State} (h : Sound r s) (b : ℕ) (high : Bool) : Sound r (State.brkLevel s b high) := by
  unfold State.brkLevel
  try dsimp only
  with_reducible
    repeat' first
      | assumption | intro _ | apply sound_ite | apply sound_latchBrake | split

theorem sound_brakeFaultInput' {r s : State} (h : Sound r s) (b : BrkIx) (samples : List Bool) : Sound r (brakeFaultInput b samples s) := by
  unfold brakeFaultInput
  try dsimp only
  with_reducible
    repeat' first
      | assumption | intro _ | apply sound_ite | apply sound_each | apply sound_onBlock | apply sound_setFltRun
      | apply sound_brkLevel | split

theorem sound_brkClear {r s : State} (h : Sound r s) (b : ℕ) : Sound r (State.brkClear s b).2 := by
  unfold State.brkClear
  try dsimp only
  with_reducible
    repeat' first
      | assumption | intro _ | apply sound_ite | apply sound_ite2 | apply sound_set | split
      | exact Sound.snd (by assumption)

theorem sound_brkLatchClear' {r s : State} (h : Sound r s) (m : Master) (b : BrkIx) : Sound r (brkLatchClear m b s) := by
  unfold brkLatchClear
  try dsimp only
  with_reducible
    repeat' first
      | assumption | intro _ | apply sound_ite | apply sound_onDie | apply sound_blockWrite | apply sound_brkClear
      | apply sound_refuse | split | exact Sound.snd (by assumption)

theorem sound_protReq {r s : State} (h : Sound r s) (u : ℕ) (cls : Option ℕ) : Sound r (State.protReq s u cls) := by
  unfold State.protReq
  try dsimp only
  with_reducible
    repeat' first
      | assumption | intro _ | apply sound_ite | apply sound_fault | split

theorem sound_protReq' {r s : State} (h : Sound r s) (m : Master) (u : UnitIx) (cls : Fin 4) (useCls : Bool) (go : Bool) : Sound r (protReq m u cls useCls go s) := by
  unfold protReq
  try dsimp only
  with_reducible
    repeat' first
      | assumption | intro _ | apply sound_ite | apply sound_onDie | apply sound_blockWrite | apply sound_protReq | split

theorem sound_safeToOff {r s : State} (h : Sound r s) (d : ℕ) : Sound r (State.safeToOff s d) := by
  unfold State.safeToOff
  try dsimp only
  with_reducible
    repeat' first
      | assumption | intro _ | apply sound_ite | apply sound_settleSafe | apply sound_setDriveState | split

theorem sound_protRelease {r s : State} (h : Sound r s) (u : ℕ) : Sound r (State.protRelease s u).2 := by
  unfold State.protRelease
  try dsimp only
  with_reducible
    repeat' first
      | assumption | intro _ | apply sound_ite | apply sound_ite2 | apply sound_dropChoppers | apply sound_safeToOff
      | apply sound_set | split | exact Sound.snd (by assumption)

theorem sound_protRelease' {r s : State} (h : Sound r s) (m : Master) (u : UnitIx) : Sound r (protRelease m u s) := by
  unfold protRelease
  try dsimp only
  with_reducible
    repeat' first
      | assumption | intro _ | apply sound_ite | apply sound_onDie | apply sound_blockWrite | apply sound_protRelease
      | apply sound_refuse | split | exact Sound.snd (by assumption)

theorem sound_hwExit' {r s : State} (h : Sound r s) (d : DriveIx) : Sound r (hwExit d s) := by
  unfold hwExit
  try dsimp only
  with_reducible
    repeat' first
      | assumption | intro _ | apply sound_ite | apply sound_onDie | apply sound_ev | apply sound_set | split

theorem sound_dischargeOff {r s : State} (h : Sound r s) : Sound r (State.dischargeOff s) := by
  unfold State.dischargeOff
  try dsimp only
  with_reducible
    repeat' first
      | assumption | intro _ | apply sound_ite | apply sound_each | apply sound_dropChoppers | apply sound_set | split

theorem sound_dischargeStart {r s : State} (h : Sound r s) : Sound r (State.dischargeStart s) := by
  unfold State.dischargeStart
  try dsimp only
  with_reducible
    repeat' first
      | assumption | intro _ | apply sound_ite | apply sound_each | apply sound_dischargeOff | apply sound_set | split

theorem sound_dischargeEnd {r s : State} (h : Sound r s) (st : ℕ) (code : Option ℕ) : Sound r (State.dischargeEnd s st code) := by
  unfold State.dischargeEnd
  try dsimp only
  with_reducible
    repeat' first
      | assumption | intro _ | apply sound_ite | apply sound_set | apply sound_ev | apply sound_dischargeOff
      | apply sound_mbFinish | split

theorem sound_dischargeAbort {r s : State} (h : Sound r s) : Sound r (State.dischargeAbort s) := by
  unfold State.dischargeAbort
  try dsimp only
  with_reducible
    repeat' first
      | assumption | intro _ | apply sound_ite | apply sound_dischargeEnd | split

theorem sound_dischargeStart' {r s : State} (h : Sound r s) (m : Master) : Sound r (dischargeStart m s) := by
  unfold dischargeStart
  try dsimp only
  with_reducible
    repeat' first
      | assumption | intro _ | apply sound_ite | apply sound_onDie | apply sound_blockWrite | apply sound_dischargeStart
      | split

theorem sound_dischargeStop' {r s : State} (h : Sound r s) (m : Master) : Sound r (dischargeStop m s) := by
  unfold dischargeStop
  try dsimp only
  with_reducible
    repeat' first
      | assumption | intro _ | apply sound_ite | apply sound_onDie | apply sound_blockWrite | apply sound_dischargeAbort
      | split

theorem sound_disElapsed {r s : State} (h : Sound r s) (ms : ℕ) : Sound r (State.disElapsed s ms) := by
  unfold State.disElapsed
  try dsimp only
  with_reducible
    repeat' first
      | assumption | intro _ | apply sound_ite | apply sound_set | split

theorem sound_dischargeCheckpoint' {r s : State} (h : Sound r s) : Sound r (dischargeCheckpoint s) := by
  unfold dischargeCheckpoint
  try dsimp only
  with_reducible
    repeat' first
      | assumption | intro _ | apply sound_ite | apply sound_when | apply sound_onBlock | apply sound_disElapsed
      | apply sound_set | split

theorem sound_dischargeCatch {r s : State} (h : Sound r s) : Sound r (State.dischargeCatch s) := by
  unfold State.dischargeCatch
  try dsimp only
  with_reducible
    repeat' first
      | assumption | intro _ | apply sound_ite | apply sound_disElapsed | apply sound_dischargeAbort | split

theorem sound_dischargeDone' {r s : State} (h : Sound r s) : Sound r (dischargeDone s) := by
  unfold dischargeDone
  try dsimp only
  with_reducible
    repeat' first
      | assumption | intro _ | apply sound_ite | apply sound_onBlock | apply sound_dischargeEnd | split

theorem sound_dischargeTimeout' {r s : State} (h : Sound r s) : Sound r (dischargeTimeout s) := by
  unfold dischargeTimeout
  try dsimp only
  with_reducible
    repeat' first
      | assumption | intro _ | apply sound_ite | apply sound_onBlock | apply sound_dischargeEnd | apply sound_disElapsed
      | split

theorem sound_setChain {r s : State} (h : Sound r s) (p : ℕ) (c : Chain) : Sound r (State.setChain s p c) := by
  unfold State.setChain
  try dsimp only
  with_reducible
    repeat' first
      | assumption | intro _ | apply sound_ite | split

theorem sound_setChainPos {r s : State} (h : Sound r s) (p : ℕ) (st : ℕ) : Sound r (State.setChainPos s p st) := by
  unfold State.setChainPos
  try dsimp only
  with_reducible
    repeat' first
      | assumption | intro _ | apply sound_ite | apply sound_set | split

theorem sound_chainLast {r s : State} (h : Sound r s) (p : ℕ) (code : ℕ) : Sound r (State.chainLast s p code) := by
  unfold State.chainLast
  try dsimp only
  with_reducible
    repeat' first
      | assumption | intro _ | apply sound_ite | apply sound_set | split

theorem sound_chainLastBus {r s : State} (h : Sound r s) (code : ℕ) : Sound r (State.chainLastBus s code) := by
  unfold State.chainLastBus
  try dsimp only
  with_reducible
    repeat' first
      | assumption | intro _ | apply sound_ite | apply sound_set | split

theorem sound_driverFault {r s : State} (h : Sound r s) (p : ℕ) : Sound r (State.driverFault s p) := by
  unfold State.driverFault
  try dsimp only
  with_reducible
    repeat' first
      | assumption | intro _ | apply sound_ite | apply sound_each | apply sound_modLeg | apply sound_latchBrake
      | apply sound_fault | apply sound_setFldBit | split

theorem sound_chainConfig {r s : State} (h : Sound r s) (p : ℕ) : Sound r (State.chainConfig s p) := by
  unfold State.chainConfig
  try dsimp only
  with_reducible
    repeat' first
      | assumption | intro _ | apply sound_ite | apply sound_setChain | apply sound_setChainPos | split

theorem sound_chainLost {r s : State} (h : Sound r s) (p : ℕ) (code : ℕ) : Sound r (State.chainLost s p code) := by
  unfold State.chainLost
  try dsimp only
  with_reducible
    repeat' first
      | assumption | intro _ | apply sound_ite | apply sound_each | apply sound_ev | apply sound_chainLast
      | apply sound_setChainPos | apply sound_setChain | apply sound_fault | split

theorem sound_chainFail {r s : State} (h : Sound r s) (p : ℕ) (code : ℕ) (cmd : ChainCmd × ℕ) : Sound r (State.chainFail s p code cmd) := by
  unfold State.chainFail
  try dsimp only
  with_reducible
    repeat' first
      | assumption | intro _ | apply sound_ite | apply sound_chainLast | apply sound_bump | apply sound_chainLost
      | apply sound_setChain | split

theorem sound_readback {r s : State} (h : Sound r s) (p : ℕ) (k : ℕ) (reg : ℕ) (want : ℕ) (got : ℕ) : Sound r (State.readback s p k reg want got) := by
  unfold State.readback
  try dsimp only
  with_reducible
    repeat' first
      | assumption | intro _ | apply sound_ite | apply sound_setChain | apply sound_ev | apply sound_chainLost
      | apply sound_chainLast | split

theorem sound_statusRead {r s : State} (h : Sound r s) (p : ℕ) (d : ℕ) : Sound r (State.statusRead s p d) := by
  unfold State.statusRead
  try dsimp only
  with_reducible
    repeat' first
      | assumption | intro _ | apply sound_ite | apply sound_set | apply sound_driverFault | apply sound_chainLast
      | apply sound_ev | apply sound_chainConfig | apply sound_setChain | split

theorem sound_chainRead {r s : State} (h : Sound r s) (p : ℕ) (r' : ℕ) (d : ℕ) : Sound r (State.chainRead s p r' d) := by
  unfold State.chainRead
  try dsimp only
  with_reducible
    repeat' first
      | assumption | intro _ | apply sound_ite | apply sound_statusRead | apply sound_readback | apply sound_driverFault
      | apply sound_chainLast | apply sound_ev | split

theorem sound_chainDone {r s : State} (h : Sound r s) (p : ℕ) : Sound r (State.chainDone s p) := by
  unfold State.chainDone
  try dsimp only
  with_reducible
    repeat' first
      | assumption | intro _ | apply sound_ite | apply sound_setChainPos | split

theorem sound_chainGood {r s : State} (h : Sound r s) (p : ℕ) (f : BitVec 40) (cmd : ChainCmd) : Sound r (State.chainGood s p f cmd) := by
  unfold State.chainGood
  try dsimp only
  with_reducible
    repeat' first
      | assumption | intro _ | apply sound_ite | apply sound_set | apply sound_chainLost | apply sound_chainConfig
      | apply sound_chainDone | apply sound_chainRead | split

theorem sound_chainJudge {r s : State} (h : Sound r s) (p : ℕ) (f : Option (BitVec 40)) : Sound r (State.chainJudge s p f).2 := by
  unfold State.chainJudge
  try dsimp only
  with_reducible
    repeat' first
      | assumption | intro _ | apply sound_ite | apply sound_ite2 | apply sound_chainFail | apply sound_chainGood
      | split | exact Sound.snd (by assumption)

theorem sound_chainSend {r s : State} (h : Sound r s) (p : ℕ) (alert : Bool) (diag : Option ℕ) : Sound r (State.chainSend s p alert diag) := by
  unfold State.chainSend
  try dsimp only
  with_reducible
    repeat' first
      | assumption | intro _ | apply sound_ite | apply sound_setChain | apply sound_set | split

theorem sound_chainSendAll {r s : State} (h : Sound r s) : Sound r (State.chainSendAll s) := by
  unfold State.chainSendAll
  try dsimp only
  with_reducible
    repeat' first
      | assumption | intro _ | apply sound_ite | apply sound_each | apply sound_fresh | apply sound_chainSend
      | apply sound_set | split | exact Sound.snd (by assumption)

theorem sound_chainStart {r s : State} (h : Sound r s) : Sound r (State.chainStart s) := by
  unfold State.chainStart
  try dsimp only
  with_reducible
    repeat' first
      | assumption | intro _ | apply sound_ite | apply sound_each | apply sound_set | apply sound_setChainPos
      | apply sound_setChain | apply sound_chainSendAll | split

theorem sound_driverTransaction' {r s : State} (h : Sound r s) (frames : List (BitVec 40)) : Sound r (driverTransaction frames s) := by
  unfold driverTransaction
  refine sound_onBlock h _ _ fun t ht => sound_ite _ ht ?_
  dsimp only
  have key : Sound r ((List.range (t.fld F.DRVC_CFG_NDRV)).foldl (fun (r : Nat × State) p => (if (r.2.chainJudge p frames[p]?).1 then r.1 + 1 else r.1, (r.2.chainJudge p frames[p]?).2)) (0, t.bump F.DRVC_TXN_COUNT)).2 :=
    sound_foldl2 _ (sound_bump ht _ _) _ _ fun x u hu => sound_chainJudge hu _ _
  refine sound_ite _ (sound_chainLastBus (sound_set (sound_ev (sound_chainSendAll key) _) _ _) _) (sound_chainSendAll key)

theorem sound_driverAlert' {r s : State} (h : Sound r s) : Sound r (driverAlert s) := by
  unfold driverAlert
  try dsimp only
  with_reducible
    repeat' first
      | assumption | intro _ | apply sound_ite | apply sound_onBlock | apply sound_ev | split

theorem sound_alertStuck' {r s : State} (h : Sound r s) : Sound r (alertStuck s) := by
  unfold alertStuck
  try dsimp only
  with_reducible
    repeat' first
      | assumption | intro _ | apply sound_ite | apply sound_onBlock | apply sound_chainLastBus | apply sound_ev | split

theorem sound_driverAlertRelease' {r s : State} (h : Sound r s) : Sound r (driverAlertRelease s) := by
  unfold driverAlertRelease
  try dsimp only
  with_reducible
    repeat' first
      | assumption | intro _ | apply sound_ite | apply sound_onBlock | split

theorem sound_benchCheck {r s : State} (h : Sound r s) : Sound r (State.benchCheck s) := by
  unfold State.benchCheck
  try dsimp only
  with_reducible
    repeat' first
      | assumption | intro _ | apply sound_ite | apply sound_umpFault | split

theorem sound_holdEnd {r s : State} (h : Sound r s) : Sound r (State.holdEnd s) := by
  unfold State.holdEnd
  try dsimp only
  with_reducible
    repeat' first
      | assumption | intro _ | apply sound_ite | apply sound_ev | apply sound_set | split

theorem sound_benchHv' {r s : State} (h : Sound r s) (rising : Bool) : Sound r (benchHv rising s) := by
  unfold benchHv
  try dsimp only
  with_reducible
    repeat' first
      | assumption | intro _ | apply sound_ite | apply sound_onUmp | apply sound_holdEnd | apply sound_benchCheck | split

theorem sound_sendDown {r s : State} (h : Sound r s) (slots : List ℕ) (k : ℕ) (data : BitVec 12) : Sound r (State.sendDown s slots k data) := by
  unfold State.sendDown
  try dsimp only
  with_reducible
    repeat' first
      | assumption | intro _ | apply sound_ite | split

theorem sound_nopDown {r s : State} (h : Sound r s) (slots : List ℕ) : Sound r (State.nopDown s slots) := by
  unfold State.nopDown
  try dsimp only
  with_reducible
    repeat' first
      | assumption | intro _ | apply sound_ite | split

theorem sound_sendUp {r s : State} (h : Sound r s) (slots : List ℕ) (k : ℕ) (data : BitVec 12) : Sound r (State.sendUp s slots k data) := by
  unfold State.sendUp
  try dsimp only
  with_reducible
    repeat' first
      | assumption | intro _ | apply sound_ite | split

theorem sound_sendUpFree {r s : State} (h : Sound r s) (slots : List ℕ) (k : ℕ) : Sound r (State.sendUpFree s slots k) := by
  unfold State.sendUpFree
  try dsimp only
  with_reducible
    repeat' first
      | assumption | intro _ | apply sound_ite | apply sound_fresh | apply sound_sendUp | split
      | exact Sound.snd (by assumption)

theorem sound_umpStatusFrame' {r s : State} (h : Sound r s) : Sound r (umpStatusFrame s) := by
  unfold umpStatusFrame
  try dsimp only
  with_reducible
    repeat' first
      | assumption | intro _ | apply sound_ite | apply sound_onDie | apply sound_sendDown | apply sound_recheck
      | apply sound_umpFault | split

theorem sound_umpSafetyStatus' {r s : State} (h : Sound r s) : Sound r (umpSafetyStatus s) := by
  unfold umpSafetyStatus
  try dsimp only
  with_reducible
    repeat' first
      | assumption | intro _ | apply sound_ite | apply sound_each | apply sound_onDie | apply sound_sendUpFree
      | apply sound_driveSafe | split

theorem sound_umpWdChallenge' {r s : State} (h : Sound r s) (x : Fin 2) : Sound r (umpWdChallenge x s) := by
  unfold umpWdChallenge
  try dsimp only
  with_reducible
    repeat' first
      | assumption | intro _ | apply sound_ite | apply sound_onDie | apply sound_fresh | apply sound_set | apply sound_sendUp
      | split | exact Sound.snd (by assumption)

theorem sound_umpCheckReport' {r s : State} (h : Sound r s) (k : Fin 32) : Sound r (umpCheckReport k s) := by
  unfold umpCheckReport
  try dsimp only
  with_reducible
    repeat' first
      | assumption | intro _ | apply sound_ite | apply sound_onDie | apply sound_nopDown | apply sound_sendDown
      | apply sound_set | apply sound_umpFault | split

theorem sound_volts2 {r s : State} (h : Sound r s) (x : Word) : Sound r (State.volts2 s x).2 := by
  unfold State.volts2
  try dsimp only
  with_reducible
    repeat' first
      | assumption | intro _ | apply sound_ite | apply sound_ite2 | apply sound_freshBool | split
      | exact Sound.snd (by assumption)

theorem sound_umpXval' {r s : State} (h : Sound r s) (kind : Fin 3) : Sound r (umpXval kind s) := by
  unfold umpXval
  try dsimp only
  with_reducible
    repeat' first
      | assumption | intro _ | apply sound_ite | apply sound_onDie | apply sound_nopDown | apply sound_volts2
      | apply sound_sendDown | split | exact Sound.snd (by assumption)

theorem sound_umpMeas' {r s : State} (h : Sound r s) (ch : Fin 6) (code : BitVec 10) (usd : BitVec 64) : Sound r (umpMeas ch code usd s) := by
  unfold umpMeas
  try dsimp only
  with_reducible
    repeat' first
      | assumption | intro _ | apply sound_ite | apply sound_onUmp | apply sound_sendUpFree | apply sound_set
      | apply sound_iset | split

theorem sound_tqVerdict {r s : State} (h : Sound r s) (d : ℕ) (v : ℕ) : Sound r (State.tqVerdict s d v) := by
  unfold State.tqVerdict
  try dsimp only
  with_reducible
    repeat' first
      | assumption | intro _ | apply sound_ite | apply sound_umpLatch | apply sound_recheck | split

theorem sound_tqSent {r s : State} (h : Sound r s) (d : ℕ) : Sound r (State.tqSent s d) := by
  unfold State.tqSent
  try dsimp only
  with_reducible
    repeat' first
      | assumption | intro _ | apply sound_ite | apply sound_when | apply sound_modDrive | split

theorem sound_umpTqFrame' {r s : State} (h : Sound r s) : Sound r (umpTqFrame s) := by
  unfold umpTqFrame
  try dsimp only
  with_reducible
    repeat' first
      | assumption | intro _ | apply sound_ite | apply sound_onDie | apply sound_sendDown | apply sound_tqSent
      | apply sound_tqVerdict | split

theorem sound_tqStall' {r s : State} (h : Sound r s) (d : DriveIx) : Sound r (tqStall d s) := by
  unfold tqStall
  try dsimp only
  with_reducible
    repeat' first
      | assumption | intro _ | apply sound_ite | apply sound_onUmp | apply sound_umpFault | split

theorem sound_tqPatternTimeout' {r s : State} (h : Sound r s) (d : DriveIx) : Sound r (tqPatternTimeout d s) := by
  unfold tqPatternTimeout
  try dsimp only
  with_reducible
    repeat' first
      | assumption | intro _ | apply sound_ite | apply sound_onUmp | apply sound_recheck | apply sound_overrides | split

theorem sound_checkMissing' {r s : State} (h : Sound r s) (k : Fin 32) : Sound r (checkMissing k s) := by
  unfold checkMissing
  try dsimp only
  with_reducible
    repeat' first
      | assumption | intro _ | apply sound_ite | apply sound_onUmp | apply sound_umpFault | split

theorem sound_gateValidStop' {r s : State} (h : Sound r s) (same : List ResetCause) : Sound r (gateValidStop same s) := by
  unfold gateValidStop
  try dsimp only
  with_reducible
    repeat' first
      | assumption | intro _ | apply sound_ite | apply sound_onUmp | apply sound_causes | apply sound_beside | split

theorem sound_framesMissing' {r s : State} (h : Sound r s) (nops : ℕ) (frames : List (Option Word)) (same : List ResetCause) : Sound r (framesMissing nops frames same s) := by
  unfold framesMissing
  try dsimp only
  with_reducible
    repeat' first
      | assumption | intro _ | apply sound_ite | apply sound_onUmp | apply sound_beside | apply sound_declareFailed | split

theorem sound_gatePathFail {r s : State} (h : Sound r s) (ball : ℕ) : Sound r (State.gatePathFail s ball) := by
  unfold State.gatePathFail
  try dsimp only
  with_reducible
    repeat' first
      | assumption | intro _ | apply sound_ite | apply sound_when | apply sound_set | apply sound_recheck
      | apply sound_overrides | apply sound_ev | split

theorem sound_linkOc' {r s : State} (h : Sound r s) (usd1 : BitVec 7) : Sound r (linkOc usd1 s) := by
  unfold linkOc
  try dsimp only
  with_reducible
    repeat' first
      | assumption | intro _ | apply sound_ite | apply sound_onUmp | apply sound_umpFault | split

theorem sound_linkOv' {r s : State} (h : Sound r s) (usd0 : BitVec 9) : Sound r (linkOv usd0 s) := by
  unfold linkOv
  try dsimp only
  with_reducible
    repeat' first
      | assumption | intro _ | apply sound_ite | apply sound_onUmp | apply sound_umpFault | split

theorem sound_linkPathDeassert' {r s : State} (h : Sound r s) (ov : Bool) (usd : BitVec 7) : Sound r (linkPathDeassert ov usd s) := by
  unfold linkPathDeassert
  try dsimp only
  with_reducible
    repeat' first
      | assumption | intro _ | apply sound_ite | apply sound_onUmp | split

theorem sound_hwChopperOn' {r s : State} (h : Sound r s) (usd0 : BitVec 8) : Sound r (hwChopperOn usd0 s) := by
  unfold hwChopperOn
  try dsimp only
  with_reducible
    repeat' first
      | assumption | intro _ | apply sound_ite | apply sound_onUmp | split

theorem sound_hwChopperOff' {r s : State} (h : Sound r s) (usd0 : BitVec 7) (onNs : ℕ) : Sound r (hwChopperOff usd0 onNs s) := by
  unfold hwChopperOff
  try dsimp only
  with_reducible
    repeat' first
      | assumption | intro _ | apply sound_ite | apply sound_onUmp | split

theorem sound_tempPath' {r s : State} (h : Sound r s) (k : Fin 3) (codes : List (BitVec 10)) : Sound r (tempPath k codes s) := by
  unfold tempPath
  try dsimp only
  with_reducible
    repeat' first
      | assumption | intro _ | apply sound_ite | apply sound_onUmp | apply sound_umpLatch | apply sound_umpFault | split

theorem sound_tempPathDeassert' {r s : State} (h : Sound r s) (k : Fin 3) (code : BitVec 10) : Sound r (tempPathDeassert k code s) := by
  unfold tempPathDeassert
  try dsimp only
  with_reducible
    repeat' first
      | assumption | intro _ | apply sound_ite | apply sound_onUmp | split

theorem sound_xchk' {r s : State} (h : Sound r s) : Sound r (xchk s) := by
  unfold xchk
  try dsimp only
  with_reducible
    repeat' first
      | assumption | intro _ | apply sound_ite | apply sound_onUmp | apply sound_umpFault | split

theorem sound_stoImpose {r s : State} (h : Sound r s) : Sound r (State.stoImpose s) := by
  unfold State.stoImpose
  try dsimp only
  with_reducible
    repeat' first
      | assumption | intro _ | apply sound_ite | apply sound_each | apply sound_override1 | apply sound_releaseUnit
      | apply sound_abortSelf | apply sound_recheck | split

theorem sound_discClear {r s : State} (h : Sound r s) : Sound r (State.discClear s) := by
  unfold State.discClear
  try dsimp only
  with_reducible
    repeat' first
      | assumption | intro _ | apply sound_ite | apply sound_clearFldBit | apply sound_set | split

theorem sound_stoInput' {r s : State} (h : Sound r s) (b : Bool) (high : Bool) : Sound r (stoInput b high s) := by
  unfold stoInput
  try dsimp only
  with_reducible
    repeat' first
      | assumption | intro _ | apply sound_ite | apply sound_onUmp | apply sound_setFldBit | apply sound_clearFldBit
      | apply sound_discClear | apply sound_set | apply sound_stoImpose | split

theorem sound_stoDisc' {r s : State} (h : Sound r s) : Sound r (stoDisc s) := by
  unfold stoDisc
  try dsimp only
  with_reducible
    repeat' first
      | assumption | intro _ | apply sound_ite | apply sound_onUmp | apply sound_umpLatch | apply sound_set
      | apply sound_stoImpose | split

theorem sound_wdFail {r s : State} (h : Sound r s) (x : Fin 2) (same : List ResetCause) : Sound r (State.wdFail s x same) := by
  unfold State.wdFail
  try dsimp only
  with_reducible
    repeat' first
      | assumption | intro _ | apply sound_ite | apply sound_ite2 | apply sound_each | apply sound_when | apply sound_onDie
      | apply sound_onUmp | apply sound_foldl | apply sound_causes | split
      | exact Sound.snd (by assumption)

theorem sound_wdInTimeBy {r s : State} (h : Sound r s) (x : ℕ) : Sound r (State.wdInTimeBy s x).2 := by
  unfold State.wdInTimeBy
  try dsimp only
  with_reducible
    repeat' first
      | assumption | intro _ | apply sound_ite | apply sound_ite2 | apply sound_freshBool | split
      | exact Sound.snd (by assumption)

theorem sound_wdService {r s : State} (h : Sound r s) (x : Fin 2) (resp : BitVec 12) (inTime : Bool) (same : List ResetCause) : Sound r (State.wdService s x resp inTime same) := by
  unfold State.wdService
  try dsimp only
  with_reducible
    repeat' first
      | assumption | intro _ | apply sound_ite | apply sound_sendDown | apply sound_beside | apply sound_wdFail | split

theorem sound_umpWdsvc' {r s : State} (h : Sound r s) (m : Master) (x : Fin 2) (resp : BitVec 12) (cycles : ℕ) (same : List ResetCause) : Sound r (umpWdsvc m x resp cycles same s) := by
  unfold umpWdsvc
  try dsimp only
  with_reducible
    repeat' first
      | assumption | intro _ | apply sound_ite | apply sound_ite2 | apply sound_each | apply sound_when | apply sound_onDie
      | apply sound_onUmp | apply sound_foldl | apply sound_blockWrite | apply sound_wdService | split
      | exact Sound.snd (by assumption)

theorem sound_watchdogTimeout' {r s : State} (h : Sound r s) (x : Fin 2) (same : List ResetCause) : Sound r (watchdogTimeout x same s) := by
  unfold watchdogTimeout
  try dsimp only
  with_reducible
    repeat' first
      | assumption | intro _ | apply sound_ite | apply sound_ite2 | apply sound_each | apply sound_when | apply sound_onDie
      | apply sound_onUmp | apply sound_foldl | apply sound_beside | apply sound_wdFail | split
      | exact Sound.snd (by assumption)

theorem sound_dropFault {r s : State} (h : Sound r s) (u : ℕ) (b : ℕ) : Sound r (State.dropFault s u b) := by
  unfold State.dropFault
  try dsimp only
  with_reducible
    repeat' first
      | assumption | intro _ | apply sound_ite | apply sound_clearFldBit | split

theorem sound_umpRelease {r s : State} (h : Sound r s) (u : ℕ) : Sound r (State.umpRelease s u).2 := by
  unfold State.umpRelease
  try dsimp only
  with_reducible
    repeat' first
      | assumption | intro _ | apply sound_ite | apply sound_each | apply sound_ite2 | apply sound_umpRefuse
      | apply sound_setUmpPattern | apply sound_clearFldBit | apply sound_set | apply sound_dropFault
      | apply sound_dropChoppers | apply sound_safeToOff | split | exact Sound.snd (by assumption)

theorem sound_umpReleaseCmd' {r s : State} (h : Sound r s) (m : Master) (u : UnitIx) (same : BitVec 16) : Sound r (umpReleaseCmd m u same s) := by
  unfold umpReleaseCmd
  try dsimp only
  with_reducible
    repeat' first
      | assumption | intro _ | apply sound_ite | apply sound_each | apply sound_onDie | apply sound_blockWrite
      | apply sound_umpRelease | apply sound_umpRefuse | apply sound_umpFault | split | exact Sound.snd (by assumption)

theorem sound_umpConfig {r s : State} (h : Sound r s) (off : ℕ) (v : Word) : Sound r (State.umpConfig s off v) := by
  unfold State.umpConfig
  try dsimp only
  with_reducible
    repeat' first
      | assumption | intro _ | apply sound_ite | apply sound_wr | apply sound_set | apply sound_recheck | split

theorem sound_ctrDrive {r s : State} (h : Sound r s) (k : ℕ) (on : Bool) : Sound r (State.ctrDrive s k on) := by
  unfold State.ctrDrive
  try dsimp only
  with_reducible
    repeat' first
      | assumption | intro _ | apply sound_ite | apply sound_setFldBit | apply sound_clearFldBit | split

theorem sound_ctrOpenMains {r s : State} (h : Sound r s) : Sound r (State.ctrOpenMains s) := by
  unfold State.ctrOpenMains
  try dsimp only
  with_reducible
    repeat' first
      | assumption | intro _ | apply sound_ite | apply sound_ctrDrive | split

theorem sound_ctrFail {r s : State} (h : Sound r s) (code : ℕ) : Sound r (State.ctrFail s code) := by
  unfold State.ctrFail
  try dsimp only
  with_reducible
    repeat' first
      | assumption | intro _ | apply sound_ite | apply sound_umpLatch | apply sound_set | apply sound_ctrOpenMains | split

theorem sound_ctrToOpen {r s : State} (h : Sound r s) : Sound r (State.ctrToOpen s) := by
  unfold State.ctrToOpen
  try dsimp only
  with_reducible
    repeat' first
      | assumption | intro _ | apply sound_ite | apply sound_set | apply sound_clearFldBit | split

theorem sound_ctrStart {r s : State} (h : Sound r s) (k : ℕ) : Sound r (State.ctrStart s k) := by
  unfold State.ctrStart
  try dsimp only
  with_reducible
    repeat' first
      | assumption | intro _ | apply sound_ite | apply sound_set | apply sound_ctrDrive | split

theorem sound_ctrGo {r s : State} (h : Sound r s) (n k : Nat) : Sound r (s.ctrGo n k) := by
  induction n generalizing k with
  | zero => exact sound_set h _ _
  | succ n ih =>
    unfold State.ctrGo
    refine sound_ite _ (sound_set h _ _) (sound_ite _ (ih _) (sound_ctrStart h _))

theorem sound_ctrConnect {r s : State} (h : Sound r s) : Sound r (State.ctrConnect s) := by
  unfold State.ctrConnect
  try dsimp only
  with_reducible
    repeat' first
      | assumption | intro _ | apply sound_ite | apply sound_ctrGo | apply sound_set | split

theorem sound_ctrDisconnect {r s : State} (h : Sound r s) : Sound r (State.ctrDisconnect s) := by
  unfold State.ctrDisconnect
  try dsimp only
  with_reducible
    repeat' first
      | assumption | intro _ | apply sound_ite | apply sound_set | apply sound_ctrToOpen | split

theorem sound_ctrEmergency {r s : State} (h : Sound r s) : Sound r (State.ctrEmergency s) := by
  unfold State.ctrEmergency
  try dsimp only
  with_reducible
    repeat' first
      | assumption | intro _ | apply sound_ite | apply sound_ctrOpenMains | apply sound_set | split

theorem sound_ctrCommand {r s : State} (h : Sound r s) (c : ℕ) : Sound r (State.ctrCommand s c) := by
  unfold State.ctrCommand
  try dsimp only
  with_reducible
    repeat' first
      | assumption | intro _ | apply sound_ite | apply sound_ctrConnect | apply sound_ctrDisconnect | apply sound_ctrEmergency
      | apply sound_ctrDrive | split

theorem sound_ctrSettle {r s : State} (h : Sound r s) : Sound r (State.ctrSettle s) := by
  unfold State.ctrSettle
  try dsimp only
  with_reducible
    repeat' first
      | assumption | intro _ | apply sound_ite | apply sound_each | apply sound_mbEnd | apply sound_mbRefuse | split

theorem sound_ctrAuxSettle {r s : State} (h : Sound r s) : Sound r (State.ctrAuxSettle s) := by
  unfold State.ctrAuxSettle
  try dsimp only
  with_reducible
    repeat' first
      | assumption | intro _ | apply sound_ite | apply sound_mbFinish | split

theorem sound_ctrWrite {r s : State} (h : Sound r s) (m : Master) (c : ℕ) : Sound r (State.ctrWrite s m c) := by
  unfold State.ctrWrite
  try dsimp only
  with_reducible
    repeat' first
      | assumption | intro _ | apply sound_ite | apply sound_onDie | apply sound_blockWrite | apply sound_ctrSettle
      | apply sound_ctrCommand | split

theorem sound_connect' {r s : State} (h : Sound r s) (m : Master) : Sound r (connect m s) := by
  unfold connect
  try dsimp only
  with_reducible
    repeat' first
      | assumption | intro _ | apply sound_ite | apply sound_ctrWrite | split

theorem sound_disconnect' {r s : State} (h : Sound r s) (m : Master) : Sound r (disconnect m s) := by
  unfold disconnect
  try dsimp only
  with_reducible
    repeat' first
      | assumption | intro _ | apply sound_ite | apply sound_ctrWrite | split

theorem sound_emergencyOpen' {r s : State} (h : Sound r s) (m : Master) : Sound r (emergencyOpen m s) := by
  unfold emergencyOpen
  try dsimp only
  with_reducible
    repeat' first
      | assumption | intro _ | apply sound_ite | apply sound_ctrWrite | split

theorem sound_auxOn' {r s : State} (h : Sound r s) (m : Master) : Sound r (auxOn m s) := by
  unfold auxOn
  try dsimp only
  with_reducible
    repeat' first
      | assumption | intro _ | apply sound_ite | apply sound_ctrWrite | split

theorem sound_auxOff' {r s : State} (h : Sound r s) (m : Master) : Sound r (auxOff m s) := by
  unfold auxOff
  try dsimp only
  with_reducible
    repeat' first
      | assumption | intro _ | apply sound_ite | apply sound_ctrWrite | split

theorem sound_ctrAuxFail {r s : State} (h : Sound r s) (code : ℕ) : Sound r (State.ctrAuxFail s code) := by
  unfold State.ctrAuxFail
  try dsimp only
  with_reducible
    repeat' first
      | assumption | intro _ | apply sound_ite | apply sound_umpLatch | apply sound_set | split

theorem sound_ctrConnectEnd {r s : State} (h : Sound r s) : Sound r (State.ctrConnectEnd s) := by
  unfold State.ctrConnectEnd
  try dsimp only
  with_reducible
    repeat' first
      | assumption | intro _ | apply sound_ite | apply sound_ctrFail | apply sound_ctrGo | apply sound_set | split

theorem sound_ctrOpenEnd {r s : State} (h : Sound r s) : Sound r (State.ctrOpenEnd s) := by
  unfold State.ctrOpenEnd
  try dsimp only
  with_reducible
    repeat' first
      | assumption | intro _ | apply sound_ite | apply sound_ctrFail | apply sound_ctrDrive | apply sound_ctrToOpen | split

theorem sound_ctrAuxEnd {r s : State} (h : Sound r s) : Sound r (State.ctrAuxEnd s) := by
  unfold State.ctrAuxEnd
  try dsimp only
  with_reducible
    repeat' first
      | assumption | intro _ | apply sound_ite | apply sound_ctrAuxFail | apply sound_set | split

theorem sound_contactorStepEnd' {r s : State} (h : Sound r s) (aux : Bool) : Sound r (contactorStepEnd aux s) := by
  unfold contactorStepEnd
  try dsimp only
  with_reducible
    repeat' first
      | assumption | intro _ | apply sound_ite | apply sound_onUmp | apply sound_ctrAuxSettle | apply sound_ctrAuxEnd
      | apply sound_ctrSettle | apply sound_ctrConnectEnd | apply sound_ctrOpenEnd | split

theorem sound_breakCurrentWait' {r s : State} (h : Sound r s) : Sound r (breakCurrentWait s) := by
  unfold breakCurrentWait
  try dsimp only
  with_reducible
    repeat' first
      | assumption | intro _ | apply sound_ite | apply sound_onUmp | apply sound_ctrDrive | split

theorem sound_contactorDrop' {r s : State} (h : Sound r s) (k : Fin 4) : Sound r (contactorDrop k s) := by
  unfold contactorDrop
  try dsimp only
  with_reducible
    repeat' first
      | assumption | intro _ | apply sound_ite | apply sound_onUmp | apply sound_ctrAuxFail | apply sound_ctrSettle
      | apply sound_umpFault | apply sound_ctrFail | split

theorem sound_contactorWeld' {r s : State} (h : Sound r s) (k : Fin 4) : Sound r (contactorWeld k s) := by
  unfold contactorWeld
  try dsimp only
  with_reducible
    repeat' first
      | assumption | intro _ | apply sound_ite | apply sound_onUmp | apply sound_ctrAuxFail | apply sound_ctrSettle
      | apply sound_ctrFail | split

theorem sound_umpCtrState' {r s : State} (h : Sound r s) (closed : BitVec 4) : Sound r (umpCtrState closed s) := by
  unfold umpCtrState
  try dsimp only
  with_reducible
    repeat' first
      | assumption | intro _ | apply sound_ite | apply sound_onUmp | apply sound_set | apply sound_sendUpFree
      | apply sound_dischargeAbort | split

theorem sound_umpCmd' {r s : State} (h : Sound r s) (off : Fin 4096) (v : Word) : Sound r (umpCmd off v s) := by
  unfold umpCmd
  try dsimp only
  with_reducible
    repeat' first
      | assumption | intro _ | apply sound_ite | apply sound_onDie | apply sound_fresh | apply sound_sendDown
      | apply sound_ctrCommand | apply sound_umpRelease | apply sound_umpConfig | split | exact Sound.snd (by assumption)

theorem sound_umpAns' {r s : State} (h : Sound r s) : Sound r (umpAns s) := by
  unfold umpAns
  try dsimp only
  with_reducible
    repeat' first
      | assumption | intro _ | apply sound_ite | apply sound_onUmp | apply sound_sendUpFree | split

theorem sound_lockstepFail {r s : State} (h : Sound r s) (x : Fin 2) (group : Fin 16) (same : List ResetCause) : Sound r (State.lockstepFail s x group same) := by
  unfold State.lockstepFail
  try dsimp only
  with_reducible
    repeat' first
      | assumption | intro _ | apply sound_ite | apply sound_causes | split

theorem sound_lockstepMismatch' {r s : State} (h : Sound r s) (x : Fin 2) (main : List ℕ) (checker : List ℕ) (same : List ResetCause) : Sound r (lockstepMismatch x main checker same s) := by
  unfold lockstepMismatch
  try dsimp only
  with_reducible
    repeat' first
      | assumption | intro _ | apply sound_ite | apply sound_onDie | apply sound_beside | apply sound_causes | split

theorem sound_lsTest' {r s : State} (h : Sound r s) (x : Fin 2) (ended : Bool) (same : List ResetCause) : Sound r (lsTest x ended same s) := by
  unfold lsTest
  try dsimp only
  with_reducible
    repeat' first
      | assumption | intro _ | apply sound_ite | apply sound_onDie | apply sound_beside | apply sound_set
      | apply sound_lockstepFail | split

theorem sound_lsTestWindowExpiry' {r s : State} (h : Sound r s) (x : Fin 2) (same : List ResetCause) : Sound r (lsTestWindowExpiry x same s) := by
  unfold lsTestWindowExpiry
  try dsimp only
  with_reducible
    repeat' first
      | assumption | intro _ | apply sound_ite | apply sound_onDie | apply sound_lockstepFail | apply sound_beside | split

theorem sound_attach {r s : State} (h : Sound r s) (x : ℕ) : Sound r (State.attach s x) := by
  unfold State.attach
  try dsimp only
  with_reducible
    repeat' first
      | assumption | intro _ | apply sound_ite | apply sound_when | apply sound_set | apply sound_ev | apply sound_benchCheck
      | split

theorem sound_wdHold {r s : State} (h : Sound r s) (hold : Bool) (pair : ℕ) : Sound r (State.wdHold s hold pair) := by
  unfold State.wdHold
  try dsimp only
  with_reducible
    repeat' first
      | assumption | intro _ | apply sound_ite | apply sound_set | apply sound_ev | apply sound_holdEnd | split

theorem sound_wdHoldWrite' {r s : State} (h : Sound r s) (m : Master) (hold : Bool) (pair : Fin 2) : Sound r (wdHoldWrite m hold pair s) := by
  unfold wdHoldWrite
  try dsimp only
  with_reducible
    repeat' first
      | assumption | intro _ | apply sound_ite | apply sound_onDie | apply sound_blockWrite | apply sound_wdHold | split

theorem sound_applyTorque {r s : State} (h : Sound r s) (d : ℕ) : Sound r (State.applyTorque s d) := by
  unfold State.applyTorque
  try dsimp only
  with_reducible
    repeat' first
      | assumption | intro _ | apply sound_ite | apply sound_wr | split

theorem sound_setRate {r s : State} (h : Sound r s) (d : ℕ) (rate : Word) : Sound r (State.setRate s d rate) := by
  unfold State.setRate
  try dsimp only
  with_reducible
    repeat' first
      | assumption | intro _ | apply sound_ite | apply sound_wr | split

theorem sound_rampCatch {r s : State} (h : Sound r s) (d : ℕ) : Sound r (State.rampCatch s d) := by
  unfold State.rampCatch
  try dsimp only
  with_reducible
    repeat' first
      | assumption | intro _ | apply sound_ite | apply sound_applyTorque | apply sound_setRate | apply sound_modDrive | split

theorem sound_trqWrite {r s : State} (h : Sound r s) (d : ℕ) (v : Word) : Sound r (State.trqWrite s d v) := by
  unfold State.trqWrite
  try dsimp only
  with_reducible
    repeat' first
      | assumption | intro _ | apply sound_ite | apply sound_wr | apply sound_ev | apply sound_modDrive
      | apply sound_applyTorque | split

theorem sound_gatesOn {r s : State} (h : Sound r s) (d : ℕ) : Sound r (State.gatesOn s d) := by
  unfold State.gatesOn
  try dsimp only
  with_reducible
    repeat' first
      | assumption | intro _ | apply sound_ite | apply sound_each | apply sound_gateSet | split

theorem sound_gatesOff {r s : State} (h : Sound r s) (d : ℕ) : Sound r (State.gatesOff s d) := by
  unfold State.gatesOff
  try dsimp only
  with_reducible
    repeat' first
      | assumption | intro _ | apply sound_ite | apply sound_each | apply sound_gateClear | split

theorem sound_classFor {r s : State} (h : Sound r s) (d : ℕ) (f : Word) : Sound r (State.classFor s d f).2 := by
  unfold State.classFor
  try dsimp only
  with_reducible
    repeat' first
      | assumption | intro _ | apply sound_ite | apply sound_ite2 | apply sound_fresh | split
      | exact Sound.snd (by assumption)

theorem sound_easyAt {r s : State} (h : Sound r s) (d : ℕ) (cause : ℕ) (rate : Word) : Sound r (State.easyAt s d cause rate) := by
  unfold State.easyAt
  try dsimp only
  with_reducible
    repeat' first
      | assumption | intro _ | apply sound_ite | apply sound_setRate | apply sound_setDriveState | apply sound_modDrive
      | apply sound_classFor | apply sound_protReq | split | exact Sound.snd (by assumption)

theorem sound_easy {r s : State} (h : Sound r s) (d : ℕ) (cause : ℕ) : Sound r (State.easy s d cause) := by
  unfold State.easy
  try dsimp only
  with_reducible
    repeat' first
      | assumption | intro _ | apply sound_ite | apply sound_easyAt | split

theorem sound_stopDrive {r s : State} (h : Sound r s) (d : ℕ) : Sound r (State.stopDrive s d) := by
  unfold State.stopDrive
  try dsimp only
  with_reducible
    repeat' first
      | assumption | intro _ | apply sound_ite | apply sound_setDriveState | apply sound_easy | split

theorem sound_loseObserver {r s : State} (h : Sound r s) (d : ℕ) (states : List ℕ) : Sound r (State.loseObserver s d states) := by
  unfold State.loseObserver
  try dsimp only
  with_reducible
    repeat' first
      | assumption | intro _ | apply sound_ite | apply sound_setDriveState | apply sound_modDrive | split

theorem sound_rowsFirst {r s : State} (h : Sound r s) (d : ℕ) : Sound r (State.rowsFirst s d) := by
  unfold State.rowsFirst
  try dsimp only
  with_reducible
    repeat' first
      | assumption | intro _ | apply sound_ite | apply sound_loseObserver | apply sound_settleSafe | split

theorem sound_settleDrive {r s : State} (h : Sound r s) (d : ℕ) : Sound r (State.settleDrive s d) := by
  unfold State.settleDrive
  try dsimp only
  with_reducible
    repeat' first
      | assumption | intro _ | apply sound_ite | apply sound_settleSafe | apply sound_rowsFirst | apply sound_modDrive
      | apply sound_stopDrive | apply sound_easy | split

theorem sound_easyDue {r s : State} (h : Sound r s) (d : ℕ) (cause : ℕ) : Sound r (State.easyDue s d cause) := by
  unfold State.easyDue
  try dsimp only
  with_reducible
    repeat' first
      | assumption | intro _ | apply sound_ite | apply sound_modDrive | apply sound_settleDrive | split

theorem sound_enterStart {r s : State} (h : Sound r s) (d : ℕ) (st : ℕ) (dir : ℕ) (seed : Option (Word × Word)) : Sound r (State.enterStart s d st dir seed) := by
  unfold State.enterStart
  try dsimp only
  with_reducible
    repeat' first
      | assumption | intro _ | apply sound_ite | apply sound_set | apply sound_setDriveState | apply sound_wr
      | apply sound_modDrive | split

theorem sound_seedCatch {r s : State} (h : Sound r s) (d : ℕ) : Sound r (State.seedCatch s d) := by
  unfold State.seedCatch
  try dsimp only
  with_reducible
    repeat' first
      | assumption | intro _ | apply sound_ite | apply sound_gatesOn | apply sound_modDrive | apply sound_set | split

theorem sound_overLink {r s : State} (h : Sound r s) (d : ℕ) : Sound r (State.overLink s d) := by
  unfold State.overLink
  try dsimp only
  with_reducible
    repeat' first
      | assumption | intro _ | apply sound_ite | apply sound_protReq | apply sound_setDriveState | apply sound_startRefused
      | split

theorem sound_startOff {r s : State} (h : Sound r s) (d : ℕ) (code : ℕ) : Sound r (State.startOff s d code) := by
  unfold State.startOff
  try dsimp only
  with_reducible
    repeat' first
      | assumption | intro _ | apply sound_ite | apply sound_startRefused | apply sound_setDriveState | split

theorem sound_takeRow {r s : State} (h : Sound r s) (d : ℕ) (row : ℕ) (dir : ℕ) (seed : Option (Word × Word)) : Sound r (State.takeRow s d row dir seed) := by
  unfold State.takeRow
  try dsimp only
  with_reducible
    repeat' first
      | assumption | intro _ | apply sound_ite | apply sound_overLink | apply sound_startOff | apply sound_enterStart | split

theorem sound_decideRow {r s : State} (h : Sound r s) (d : ℕ) (row : ℕ) (dir : ℕ) (seed : Option (Word × Word)) : Sound r (State.decideRow s d row dir seed) := by
  unfold State.decideRow
  try dsimp only
  with_reducible
    repeat' first
      | assumption | intro _ | apply sound_ite | apply sound_relay | apply sound_takeRow | split

theorem sound_startFromOff {r s : State} (h : Sound r s) (d : ℕ) (want : BitVec 6) (vdc : Word) : Sound r (State.startFromOff s d want vdc) := by
  unfold State.startFromOff
  try dsimp only
  with_reducible
    repeat' first
      | assumption | intro _ | apply sound_ite | apply sound_modDrive | apply sound_startRefused | apply sound_setDriveState
      | apply sound_decideRow | split

theorem sound_startInEasy {r s : State} (h : Sound r s) (d : ℕ) : Sound r (State.startInEasy s d) := by
  unfold State.startInEasy
  try dsimp only
  with_reducible
    repeat' first
      | assumption | intro _ | apply sound_ite | apply sound_startRefused | apply sound_modDrive | apply sound_applyTorque
      | apply sound_setRate | apply sound_setDriveState | split

theorem sound_takeStart {r s : State} (h : Sound r s) (d : ℕ) (c : BitVec 6) (vdc : Word) : Sound r (State.takeStart s d c vdc) := by
  unfold State.takeStart
  try dsimp only
  with_reducible
    repeat' first
      | assumption | intro _ | apply sound_ite | apply sound_startRefused | apply sound_startFromOff | apply sound_modDrive
      | apply sound_startInEasy | apply sound_set | apply sound_applyTorque | apply sound_setRate | split

theorem sound_takeCmd {r s : State} (h : Sound r s) (d : ℕ) (k : ℕ) (act : BitVec 6 → State → State) (hact : ∀ x0 x1, Sound r x1 → Sound r (act x0 x1)) : Sound r (State.takeCmd s d k act) := by
  unfold State.takeCmd
  try dsimp only
  with_reducible
    repeat' first
      | assumption | intro _ | apply sound_ite | apply sound_modDrive | apply hact | split

theorem sound_setTe {r s : State} (h : Sound r s) (d : ℕ) (te : Word) : Sound r (State.setTe s d te) := by
  unfold State.setTe
  try dsimp only
  with_reducible
    repeat' first
      | assumption | intro _ | apply sound_ite | apply sound_modDrive | split

theorem sound_drvStart' {r s : State} (h : Sound r s) (d : DriveIx) (vdc : Word) (te : Word) : Sound r (drvStart d vdc te s) := by
  unfold drvStart
  try dsimp only
  with_reducible
    repeat' first
      | assumption | intro _ | apply sound_ite | apply sound_onDie | apply sound_takeCmd | apply sound_takeStart
      | apply sound_setTe | apply sound_settleDrive | split

theorem sound_drvCmd {r s : State} (h : Sound r s) (d : ℕ) (v : Word) : Sound r (State.drvCmd s d v) := by
  unfold State.drvCmd
  try dsimp only
  with_reducible
    repeat' first
      | assumption | intro _ | apply sound_ite | apply sound_ev | apply sound_modDrive | split

theorem sound_drvCmdWrite {r s : State} (h : Sound r s) (d : ℕ) (v : Word) : Sound r (State.drvCmdWrite s d v) := by
  unfold State.drvCmdWrite
  try dsimp only
  with_reducible
    repeat' first
      | assumption | intro _ | apply sound_ite | apply sound_relay | apply sound_drvCmd | split

theorem sound_trqWriteAll {r s : State} (h : Sound r s) (d : ℕ) (v : Word) : Sound r (State.trqWriteAll s d v) := by
  unfold State.trqWriteAll
  try dsimp only
  with_reducible
    repeat' first
      | assumption | intro _ | apply sound_ite | apply sound_relay | apply sound_wr | apply sound_trqWrite | split

theorem sound_spinEnd {r s : State} (h : Sound r s) (d : ℕ) (vdc : Word) (tc : Word) (te : Word) (sets : List SpinSet) : Sound r (State.spinEnd s d vdc tc te sets) := by
  unfold State.spinEnd
  try dsimp only
  with_reducible
    repeat' first
      | assumption | intro _ | apply sound_ite | apply sound_setTe | apply sound_decideRow | apply sound_set | split

theorem sound_auxRow {r s : State} (h : Sound r s) (u : ℕ) (row : ℕ) : Sound r (State.auxRow s u row) := by
  unfold State.auxRow
  try dsimp only
  with_reducible
    repeat' first
      | assumption | intro _ | apply sound_ite | apply sound_protReq | split

theorem sound_auxSpinEnd {r s : State} (h : Sound r s) (u : ℕ) (vdc : Word) (sets : List SpinSet) : Sound r (State.auxSpinEnd s u vdc sets) := by
  unfold State.auxSpinEnd
  try dsimp only
  with_reducible
    repeat' first
      | assumption | intro _ | apply sound_ite | apply sound_auxRow | split

theorem sound_catchSpinEnd' {r s : State} (h : Sound r s) (u : UnitIx) (vdc : Word) (tc : Word) (te : Word) (sets : List SpinSet) : Sound r (catchSpinEnd u vdc tc te sets s) := by
  unfold catchSpinEnd
  try dsimp only
  with_reducible
    repeat' first
      | assumption | intro _ | apply sound_ite | apply sound_onDie | apply sound_settleDrive | apply sound_spinEnd
      | apply sound_auxSpinEnd | split

theorem sound_startToRun' {r s : State} (h : Sound r s) (d : DriveIx) : Sound r (startToRun d s) := by
  unfold startToRun
  try dsimp only
  with_reducible
    repeat' first
      | assumption | intro _ | apply sound_ite | apply sound_onDie | apply sound_settleDrive | apply sound_setDriveState
      | split

theorem sound_easyAux {r s : State} (h : Sound r s) (u : ℕ) (cause : ℕ) : Sound r (State.easyAux s u cause) := by
  unfold State.easyAux
  try dsimp only
  with_reducible
    repeat' first
      | assumption | intro _ | apply sound_ite | split

theorem sound_easyAll {r s : State} (h : Sound r s) (cause : ℕ) : Sound r (State.easyAll s cause) := by
  unfold State.easyAll
  try dsimp only
  with_reducible
    repeat' first
      | assumption | intro _ | apply sound_ite | apply sound_each | apply sound_easyAux | apply sound_relay
      | apply sound_easyDue | split

theorem sound_auxStart {r s : State} (h : Sound r s) (u : ℕ) : Sound r (State.auxStart s u) := by
  unfold State.auxStart
  try dsimp only
  with_reducible
    repeat' first
      | assumption | intro _ | apply sound_ite | apply sound_auxSettle | apply sound_auxRow | split

theorem sound_auxCatch {r s : State} (h : Sound r s) (u : ℕ) : Sound r (State.auxCatch s u) := by
  unfold State.auxCatch
  try dsimp only
  with_reducible
    repeat' first
      | assumption | intro _ | apply sound_ite | apply sound_gatesOn | split

theorem sound_drvStop' {r s : State} (h : Sound r s) (d : DriveIx) (te : Word) : Sound r (drvStop d te s) := by
  unfold drvStop
  try dsimp only
  with_reducible
    repeat' first
      | assumption | intro _ | apply sound_ite | apply sound_onDie | apply sound_takeCmd | apply sound_stopDrive
      | apply sound_setTe | apply sound_rowsFirst | apply sound_settleDrive | split

theorem sound_easyAllComplete' {r s : State} (h : Sound r s) (u : UnitIx) : Sound r (easyAllComplete u s) := by
  unfold easyAllComplete
  try dsimp only
  with_reducible
    repeat' first
      | assumption | intro _ | apply sound_ite | apply sound_onDie | apply sound_settleDrive | apply sound_ev
      | apply sound_setDriveState | apply sound_modDrive | apply sound_protReq | apply sound_auxSettle | apply sound_gatesOff
      | split

theorem sound_easyTimeout' {r s : State} (h : Sound r s) (d : DriveIx) : Sound r (easyTimeout d s) := by
  unfold easyTimeout
  try dsimp only
  with_reducible
    repeat' first
      | assumption | intro _ | apply sound_ite | apply sound_onDie | apply sound_settleDrive | apply sound_protReq
      | apply sound_drvLast | apply sound_ev | split

theorem sound_zeroToOff' {r s : State} (h : Sound r s) (d : DriveIx) : Sound r (zeroToOff d s) := by
  unfold zeroToOff
  try dsimp only
  with_reducible
    repeat' first
      | assumption | intro _ | apply sound_ite | apply sound_onDie | apply sound_rowsFirst | apply sound_settleDrive
      | apply sound_gatesOff | apply sound_setDriveState | split

theorem sound_reacqEntry' {r s : State} (h : Sound r s) (d : DriveIx) : Sound r (reacqEntry d s) := by
  unfold reacqEntry
  try dsimp only
  with_reducible
    repeat' first
      | assumption | intro _ | apply sound_ite | apply sound_onDie | apply sound_loseObserver | apply sound_settleDrive
      | split

theorem sound_reacqOk' {r s : State} (h : Sound r s) (d : DriveIx) : Sound r (reacqOk d s) := by
  unfold reacqOk
  try dsimp only
  with_reducible
    repeat' first
      | assumption | intro _ | apply sound_ite | apply sound_onDie | apply sound_settleDrive | apply sound_ev
      | apply sound_setDriveState | apply sound_applyTorque | apply sound_setRate | split

theorem sound_reacqTimeout' {r s : State} (h : Sound r s) (d : DriveIx) : Sound r (reacqTimeout d s) := by
  unfold reacqTimeout
  try dsimp only
  with_reducible
    repeat' first
      | assumption | intro _ | apply sound_ite | apply sound_onDie | apply sound_settleDrive | apply sound_drvLast
      | apply sound_ev | apply sound_classFor | apply sound_protReq | split | exact Sound.snd (by assumption)

theorem sound_driveApply {r s : State} (h : Sound r s) (m : DriveMsg) : Sound r (State.driveApply s m) := by
  unfold State.driveApply
  try dsimp only
  with_reducible
    repeat' first
      | assumption | intro _ | apply sound_ite | apply sound_drvCmd | apply sound_trqWrite | apply sound_easyAt
      | apply sound_rowsFirst | apply sound_settleDrive | apply sound_takeRow | split

theorem sound_drivesDue {r s : State} (h : Sound r s) : Sound r (State.drivesDue s) := by
  unfold State.drivesDue
  try dsimp only
  with_reducible
    repeat' first
      | assumption | intro _ | apply sound_ite | apply sound_each | apply sound_settleDrive | apply sound_driveApply | split

theorem sound_ztwOpen' {r s : State} (h : Sound r s) (d : DriveIx) (vdc : Word) : Sound r (ztwOpen d vdc s) := by
  unfold ztwOpen
  try dsimp only
  with_reducible
    repeat' first
      | assumption | intro _ | apply sound_ite | apply sound_onDie | apply sound_rowsFirst | apply sound_settleDrive
      | apply sound_gatesOff | apply sound_ev | apply sound_setDriveState | split

theorem sound_ztwClose' {r s : State} (h : Sound r s) (d : DriveIx) (vdc : Word) : Sound r (ztwClose d vdc s) := by
  unfold ztwClose
  try dsimp only
  with_reducible
    repeat' first
      | assumption | intro _ | apply sound_ite | apply sound_onDie | apply sound_settleDrive | apply sound_setDriveState
      | apply sound_windowEnds | apply sound_startFromOff | split

theorem sound_brakeTimeout' {r s : State} (h : Sound r s) (d : DriveIx) : Sound r (brakeTimeout d s) := by
  unfold brakeTimeout
  try dsimp only
  with_reducible
    repeat' first
      | assumption | intro _ | apply sound_ite | apply sound_onDie | apply sound_rowsFirst | apply sound_settleDrive
      | apply sound_easy | apply sound_drvLast | split

theorem sound_brakeToStart' {r s : State} (h : Sound r s) (d : DriveIx) : Sound r (brakeToStart d s) := by
  unfold brakeToStart
  try dsimp only
  with_reducible
    repeat' first
      | assumption | intro _ | apply sound_ite | apply sound_onDie | apply sound_settleDrive | apply sound_applyTorque
      | apply sound_setDriveState | split

theorem sound_shareLim' {r s : State} (h : Sound r s) (d : DriveIx) : Sound r (shareLim d s) := by
  unfold shareLim
  try dsimp only
  with_reducible
    repeat' first
      | assumption | intro _ | apply sound_ite | apply sound_onDie | apply sound_ev | split

theorem sound_standstill' {r s : State} (h : Sound r s) (d : DriveIx) : Sound r (standstill d s) := by
  unfold standstill
  try dsimp only
  with_reducible
    repeat' first
      | assumption | intro _ | apply sound_ite | apply sound_onDie | apply sound_set | split

theorem sound_torqueSnapshot' {r s : State} (h : Sound r s) (d : DriveIx) : Sound r (torqueSnapshot d s) := by
  unfold torqueSnapshot
  try dsimp only
  with_reducible
    repeat' first
      | assumption | intro _ | apply sound_ite | apply sound_when | apply sound_onDie | apply sound_wr | apply sound_set
      | apply sound_modDrive | split

theorem sound_tqDev' {r s : State} (h : Sound r s) (d : DriveIx) : Sound r (tqDev d s) := by
  unfold tqDev
  try dsimp only
  with_reducible
    repeat' first
      | assumption | intro _ | apply sound_ite | apply sound_onDie | apply sound_modDrive | apply sound_drvLast
      | apply sound_protReq | split

theorem sound_screen {r s : State} (h : Sound r s) (med : Option ℤ) (i : ℕ) : Sound r (State.screen s med i) := by
  unfold State.screen
  try dsimp only
  with_reducible
    repeat' first
      | assumption | intro _ | apply sound_ite | apply sound_set | apply sound_ev | split

theorem sound_screenDie {r s : State} (h : Sound r s) (safety : Bool) : Sound r (State.screenDie s safety) := by
  unfold State.screenDie
  try dsimp only
  with_reducible
    repeat' first
      | assumption | intro _ | apply sound_ite | apply sound_each | apply sound_screen | split

theorem sound_thermFlag {r s : State} (h : Sound r s) (k : ℕ) (was : Bool) (rise : Bool) (fall : Bool) : Sound r (State.thermFlag s k was rise fall).2 := by
  unfold State.thermFlag
  try dsimp only
  with_reducible
    repeat' first
      | assumption | intro _ | apply sound_ite | apply sound_ite2 | split | exact Sound.snd (by assumption)

theorem sound_reqUnits {r s : State} (h : Sound r s) (l : List ℕ) : Sound r (State.reqUnits s l) := by
  unfold State.reqUnits
  try dsimp only
  with_reducible
    repeat' first
      | assumption | intro _ | apply sound_ite | apply sound_each | apply sound_protReq | split

theorem sound_shutdown {r s : State} (h : Sound r s) (code : ℕ) : Sound r (State.shutdown s code) := by
  unfold State.shutdown
  try dsimp only
  with_reducible
    repeat' first
      | assumption | intro _ | apply sound_ite | apply sound_set | apply sound_ev | apply sound_easyAll | split

theorem sound_sdHard {r s : State} (h : Sound r s) : Sound r (State.sdHard s) := by
  unfold State.sdHard
  try dsimp only
  with_reducible
    repeat' first
      | assumption | intro _ | apply sound_ite | apply sound_reqUnits | apply sound_ev | split

theorem sound_derate {r s : State} (h : Sound r s) : Sound r (State.derate s) := by
  unfold State.derate
  try dsimp only
  with_reducible
    repeat' first
      | assumption | intro _ | apply sound_ite | apply sound_applyTorque | apply sound_set | split

theorem sound_thermFlags {r s : State} (h : Sound r s) (tdie : ℤ) (lost : Bool) : Sound r (State.thermFlags s tdie lost) := by
  unfold State.thermFlags
  try dsimp only
  with_reducible
    repeat' first
      | assumption | intro _ | apply sound_ite | apply sound_when | apply sound_thermFlag | apply sound_set
      | apply sound_hostEvent | apply sound_ev | apply sound_derate | apply sound_shutdown | apply sound_sdHard
      | apply sound_reqUnits | split | exact Sound.snd (by assumption)

theorem sound_dieSensorSample' {r s : State} (h : Sound r s) (control : List (BitVec 16)) (safety : Option (List (BitVec 16))) : Sound r (dieSensorSample control safety s) := by
  unfold dieSensorSample
  try dsimp only
  with_reducible
    repeat' first
      | assumption | intro _ | apply sound_ite | apply sound_each | apply sound_onDie | apply sound_set
      | apply sound_screenDie | apply sound_iset | apply sound_thermFlags | split

theorem sound_sdGraceExpiry' {r s : State} (h : Sound r s) : Sound r (sdGraceExpiry s) := by
  unfold sdGraceExpiry
  try dsimp only
  with_reducible
    repeat' first
      | assumption | intro _ | apply sound_ite | apply sound_onDie | apply sound_sdHard | split

theorem sound_derateUpdate' {r s : State} (h : Sound r s) : Sound r (derateUpdate s) := by
  unfold derateUpdate
  try dsimp only
  with_reducible
    repeat' first
      | assumption | intro _ | apply sound_ite | apply sound_onDie | apply sound_derate | split

theorem sound_powerUp' {r s : State} (h : Sound r s) : Sound r (powerUp s) := by
  unfold powerUp
  try dsimp only
  with_reducible
    repeat' first
      | assumption | intro _ | apply sound_ite | split

theorem sound_railGood' {r s : State} (h : Sound r s) (r' : Rail) : Sound r (railGood r' s) := by
  unfold railGood
  try dsimp only
  with_reducible
    repeat' first
      | assumption | intro _ | apply sound_ite | split

theorem sound_mirrorTrim {r s : State} (h : Sound r s) : Sound r (State.mirrorTrim s) := by
  unfold State.mirrorTrim
  try dsimp only
  with_reducible
    repeat' first
      | assumption | intro _ | apply sound_ite | apply sound_set | split

theorem sound_applyFuses {r s : State} (h : Sound r s) : Sound r (State.applyFuses s) := by
  unfold State.applyFuses
  try dsimp only
  with_reducible
    repeat' first
      | assumption | intro _ | apply sound_ite | apply sound_each | apply sound_wr | apply sound_set | split

theorem sound_releaseDie {r s : State} (h : Sound r s) : Sound r (State.releaseDie s) := by
  unfold State.releaseDie
  try dsimp only
  with_reducible
    repeat' first
      | assumption | intro _ | apply sound_ite | apply sound_when | apply sound_applyFuses | apply sound_set | apply sound_wr
      | apply sound_mirrorTrim | split

theorem sound_controlDieRelease' {r s : State} (h : Sound r s) (rstHigh : Bool) (nowMs : ℕ) : Sound r (controlDieRelease rstHigh nowMs s) := by
  unfold controlDieRelease
  try dsimp only
  with_reducible
    repeat' first
      | assumption | intro _ | apply sound_ite | apply sound_releaseDie | split

theorem sound_vsupOvWarn' {r s : State} (h : Sound r s) (rising : Bool) : Sound r (vsupOvWarn rising s) := by
  unfold vsupOvWarn
  try dsimp only
  with_reducible
    repeat' first
      | assumption | intro _ | apply sound_ite | apply sound_onUmp | apply sound_set | split

theorem sound_vsupOv' {r s : State} (h : Sound r s) (same : List ResetCause) : Sound r (vsupOv same s) := by
  unfold vsupOv
  try dsimp only
  with_reducible
    repeat' first
      | assumption | intro _ | apply sound_ite | apply sound_onUmp | apply sound_causes | apply sound_beside | split

theorem sound_brownOut' {r s : State} (h : Sound r s) (r' : Rail) (same : List ResetCause) : Sound r (brownOut r' same s) := by
  unfold brownOut
  try dsimp only
  with_reducible
    repeat' first
      | assumption | intro _ | apply sound_ite | apply sound_causes | split

theorem sound_railOv' {r s : State} (h : Sound r s) (r' : Rail) (same : List ResetCause) : Sound r (railOv r' same s) := by
  unfold railOv
  try dsimp only
  with_reducible
    repeat' first
      | assumption | intro _ | apply sound_ite | apply sound_causes | split

theorem sound_powerDown' {r s : State} (h : Sound r s) : Sound r (powerDown s) := by
  unfold powerDown
  try dsimp only
  with_reducible
    repeat' first
      | assumption | intro _ | apply sound_ite | apply sound_deviceReset | split

theorem sound_leaveHold {r s : State} (h : Sound r s) : Sound r (State.leaveHold s) := by
  unfold State.leaveHold
  try dsimp only
  with_reducible
    repeat' first
      | assumption | intro _ | apply sound_ite | split

theorem sound_rstPulse {r s : State} (h : Sound r s) (same : List ResetCause) : Sound r (State.rstPulse s same) := by
  unfold State.rstPulse
  try dsimp only
  with_reducible
    repeat' first
      | assumption | intro _ | apply sound_ite | apply sound_causes | apply sound_beside | apply sound_leaveHold | split

theorem sound_extRst' {r s : State} (h : Sound r s) (widthNs : ℕ) (same : List ResetCause) : Sound r (extRst widthNs same s) := by
  unfold extRst
  try dsimp only
  with_reducible
    repeat' first
      | assumption | intro _ | apply sound_ite | apply sound_beside | apply sound_freshBool | apply sound_rstPulse | split
      | exact Sound.snd (by assumption)

theorem sound_rstSwreq' {r s : State} (h : Sound r s) (m : Master) (key : Word) (same : List ResetCause) : Sound r (rstSwreq m key same s) := by
  unfold rstSwreq
  try dsimp only
  with_reducible
    repeat' first
      | assumption | intro _ | apply sound_ite | apply sound_onDie | apply sound_blockWrite | apply sound_beside
      | apply sound_refuse | apply sound_causes | split

theorem sound_automaticRestart' {r s : State} (h : Sound r s) (rstHigh : Bool) (nowMs : ℕ) (same : List ResetCause) : Sound r (automaticRestart rstHigh nowMs same s) := by
  unfold automaticRestart
  try dsimp only
  with_reducible
    repeat' first
      | assumption | intro _ | apply sound_ite | apply sound_causes | apply sound_beside | apply sound_releaseDie | split

theorem sound_causeClear' {r s : State} (h : Sound r s) (c : RailCause) : Sound r (causeClear c s) := by
  unfold causeClear
  try dsimp only
  with_reducible
    repeat' first
      | assumption | intro _ | apply sound_ite | split

theorem sound_retentionLoss' {r s : State} (h : Sound r s) : Sound r (retentionLoss s) := by
  unfold retentionLoss
  try dsimp only
  with_reducible
    repeat' first
      | assumption | intro _ | apply sound_ite | split

theorem sound_rcTryFail {r s : State} (h : Sound r s) (same : List ResetCause) : Sound r (State.rcTryFail s same) := by
  unfold State.rcTryFail
  try dsimp only
  with_reducible
    repeat' first
      | assumption | intro _ | apply sound_ite | apply sound_causes | apply sound_beside | split

theorem sound_rcQualification' {r s : State} (h : Sound r s) (counts : List ℕ) (same : List ResetCause) : Sound r (rcQualification counts same s) := by
  unfold rcQualification
  try dsimp only
  with_reducible
    repeat' first
      | assumption | intro _ | apply sound_ite | apply sound_beside | apply sound_rcTryFail | split

theorem sound_rcRetry' {r s : State} (h : Sound r s) : Sound r (rcRetry s) := by
  unfold rcRetry
  try dsimp only
  with_reducible
    repeat' first
      | assumption | intro _ | apply sound_ite | split

theorem sound_rcFail {r s : State} (h : Sound r s) (same : List ResetCause) : Sound r (State.rcFail s same) := by
  unfold State.rcFail
  extract_lets c w t0 u p t v
  have h0 : Sound r t0 := sound_overrides h _ _
  have h2 : Sound r u := sound_foldl h0 _ _ fun x t ht => sound_causeLatch ht _
  clear_value t0 u
  have h1 : Sound r t := by
    refine sound_ite _ (sound_causes h0 _ _) (sound_ite _ (sound_dieReset h2 _ _ _ _ _) ?_)
    exact h2
  clear_value t
  have h3 : Sound r v := sound_ctrToOpen (sound_set h1 _ _)
  clear_value v
  exact h3

theorem sound_rcLadderCheck' {r s : State} (h : Sound r s) (count : ℕ) (same : List ResetCause) : Sound r (rcLadderCheck count same s) := by
  unfold rcLadderCheck
  try dsimp only
  with_reducible
    repeat' first
      | assumption | intro _ | apply sound_ite | apply sound_ite2 | apply sound_each | apply sound_when | apply sound_onDie
      | apply sound_onUmp | apply sound_foldl | apply sound_beside | apply sound_rcFail | apply sound_rcTryFail
      | split | exact Sound.snd (by assumption)

theorem sound_rcEdgeLoss' {r s : State} (h : Sound r s) (same : List ResetCause) : Sound r (rcEdgeLoss same s) := by
  unfold rcEdgeLoss
  try dsimp only
  with_reducible
    repeat' first
      | assumption | intro _ | apply sound_ite | apply sound_ite2 | apply sound_each | apply sound_when | apply sound_onDie
      | apply sound_onUmp | apply sound_foldl | apply sound_rcFail | apply sound_rcTryFail | apply sound_beside
      | split | exact Sound.snd (by assumption)

theorem sound_rcTrimStep' {r s : State} (h : Sound r s) (errPpm : ℤ) : Sound r (rcTrimStep errPpm s) := by
  unfold rcTrimStep
  try dsimp only
  with_reducible
    repeat' first
      | assumption | intro _ | apply sound_ite | apply sound_onDie | apply sound_freshBool | apply sound_ev
      | apply sound_mirrorTrim | split | exact Sound.snd (by assumption)

theorem sound_setPll {r s : State} (h : Sound r s) (st : ℕ) : Sound r (State.setPll s st) := by
  unfold State.setPll
  try dsimp only
  with_reducible
    repeat' first
      | assumption | intro _ | apply sound_ite | apply sound_set | split

theorem sound_freeBand {r s : State} (h : Sound r s) : Sound r (State.freeBand s) := by
  unfold State.freeBand
  try dsimp only
  with_reducible
    repeat' first
      | assumption | intro _ | apply sound_ite | apply sound_wr | split

theorem sound_lockAttempt' {r s : State} (h : Sound r s) (refp : Bool) (refHz : ℕ) : Sound r (lockAttempt refp refHz s) := by
  unfold lockAttempt
  try dsimp only
  with_reducible
    repeat' first
      | assumption | intro _ | apply sound_ite | apply sound_onDie | apply sound_bump | apply sound_set | apply sound_setPll
      | split

theorem sound_attemptFail {r s : State} (h : Sound r s) (code : ℕ) : Sound r (State.attemptFail s code) := by
  unfold State.attemptFail
  try dsimp only
  with_reducible
    repeat' first
      | assumption | intro _ | apply sound_ite | apply sound_freeBand | apply sound_ev | apply sound_set | apply sound_setPll
      | split

theorem sound_dropLane {r s : State} (h : Sound r s) : Sound r (State.dropLane s) := by
  unfold State.dropLane
  try dsimp only
  with_reducible
    repeat' first
      | assumption | intro _ | apply sound_ite | split

theorem sound_inAttempt {r s : State} (h : Sound r s) (st : ℕ) (lost : Bool) (f : State → State) (hf : ∀ x0, Sound r x0 → Sound r (f x0)) : Sound r (State.inAttempt s st lost f) := by
  unfold State.inAttempt
  try dsimp only
  with_reducible
    repeat' first
      | assumption | intro _ | apply sound_ite | apply sound_attemptFail | apply sound_ev | apply sound_dropLane | apply hf
      | split

theorem sound_bandSearchStep' {r s : State} (h : Sound r s) (count : ℕ) (count63 : ℕ) (lost : Bool) : Sound r (bandSearchStep count count63 lost s) := by
  unfold bandSearchStep
  try dsimp only
  with_reducible
    repeat' first
      | assumption | intro _ | apply sound_ite | apply sound_onDie | apply sound_inAttempt | apply sound_set
      | apply sound_attemptFail | apply sound_setPll | split

theorem sound_loopCycle {r s : State} (h : Sound r s) (err : BitVec 16) : Sound r (State.loopCycle s err) := by
  unfold State.loopCycle
  try dsimp only
  with_reducible
    repeat' first
      | assumption | intro _ | apply sound_ite | apply sound_freshBool | apply sound_set | apply sound_iset | split
      | exact Sound.snd (by assumption)

theorem sound_loopCycles {r s : State} (h : Sound r s) (errs : List (BitVec 16)) : Sound r (State.loopCycles s errs) := by
  unfold State.loopCycles
  try dsimp only
  with_reducible
    repeat' first
      | assumption | intro _ | apply sound_ite | apply sound_ite2 | apply sound_each | apply sound_when | apply sound_onDie
      | apply sound_onUmp | apply sound_foldl | apply sound_loopCycle | split
      | exact Sound.snd (by assumption)

theorem sound_acquireDone' {r s : State} (h : Sound r s) (errs : List (BitVec 16)) (lost : Bool) : Sound r (acquireDone errs lost s) := by
  unfold acquireDone
  try dsimp only
  with_reducible
    repeat' first
      | assumption | intro _ | apply sound_ite | apply sound_onDie | apply sound_inAttempt | apply sound_setPll
      | apply sound_loopCycles | split

theorem sound_acqTimeout' {r s : State} (h : Sound r s) (errs : List (BitVec 16)) (lost : Bool) : Sound r (acqTimeout errs lost s) := by
  unfold acqTimeout
  try dsimp only
  with_reducible
    repeat' first
      | assumption | intro _ | apply sound_ite | apply sound_onDie | apply sound_inAttempt | apply sound_attemptFail
      | apply sound_loopCycles | split

theorem sound_lockTimeout' {r s : State} (h : Sound r s) (errs : List (BitVec 16)) (lost : Bool) : Sound r (lockTimeout errs lost s) := by
  unfold lockTimeout
  try dsimp only
  with_reducible
    repeat' first
      | assumption | intro _ | apply sound_ite | apply sound_onDie | apply sound_inAttempt | apply sound_attemptFail
      | apply sound_loopCycles | split

theorem sound_standbyOn {r s : State} (h : Sound r s) (offset : ℤ) : Sound r (State.standbyOn s offset) := by
  unfold State.standbyOn
  try dsimp only
  with_reducible
    repeat' first
      | assumption | intro _ | apply sound_ite | apply sound_set | split

theorem sound_locked' {r s : State} (h : Sound r s) (errs : List (BitVec 16)) (lost : Bool) (tick : ℕ) (offset : ℤ) : Sound r (locked errs lost tick offset s) := by
  unfold locked
  try dsimp only
  with_reducible
    repeat' first
      | assumption | intro _ | apply sound_ite | apply sound_when | apply sound_onDie | apply sound_inAttempt
      | apply sound_setPll | apply sound_set | apply sound_loopCycles | apply sound_ev | apply sound_standbyOn | split

theorem sound_dividerChange' {r s : State} (h : Sound r s) : Sound r (dividerChange s) := by
  unfold dividerChange
  try dsimp only
  with_reducible
    repeat' first
      | assumption | intro _ | apply sound_ite | apply sound_onDie | apply sound_set | split

theorem sound_meanFine {r s : State} (h : Sound r s) (fines : List (BitVec 14)) : Sound r (State.meanFine s fines).2 := by
  unfold State.meanFine
  try dsimp only
  with_reducible
    repeat' first
      | assumption | intro _ | apply sound_ite | apply sound_ite2 | apply sound_freshBool | split
      | exact Sound.snd (by assumption)

theorem sound_coast {r s : State} (h : Sound r s) (fines : List (BitVec 14)) : Sound r (State.coast s fines) := by
  unfold State.coast
  try dsimp only
  with_reducible
    repeat' first
      | assumption | intro _ | apply sound_ite | apply sound_meanFine | apply sound_set | apply sound_ev | apply sound_setPll
      | apply sound_easyAll | apply sound_hostEvent | split | exact Sound.snd (by assumption)

theorem sound_refLost {r s : State} (h : Sound r s) (fines : List (BitVec 14)) : Sound r (State.refLost s fines) := by
  unfold State.refLost
  try dsimp only
  with_reducible
    repeat' first
      | assumption | intro _ | apply sound_ite | apply sound_attemptFail | apply sound_ev | apply sound_set
      | apply sound_fresh | apply sound_standbyOn | apply sound_coast | split | exact Sound.snd (by assumption)

theorem sound_refLoss' {r s : State} (h : Sound r s) (fines : List (BitVec 14)) : Sound r (refLoss fines s) := by
  unfold refLoss
  try dsimp only
  with_reducible
    repeat' first
      | assumption | intro _ | apply sound_ite | apply sound_onDie | apply sound_refLost | apply sound_dropLane | split

theorem sound_lol' {r s : State} (h : Sound r s) (errs : List (BitVec 16)) (fines : List (BitVec 14)) : Sound r (lol errs fines s) := by
  unfold lol
  try dsimp only
  with_reducible
    repeat' first
      | assumption | intro _ | apply sound_ite | apply sound_onDie | apply sound_coast | apply sound_ev
      | apply sound_loopCycles | split

theorem sound_laneLock {r s : State} (h : Sound r s) (r' : ℕ) (offset : ℤ) (same : Bool) : Sound r (State.laneLock s r' offset same) := by
  unfold State.laneLock
  try dsimp only
  with_reducible
    repeat' first
      | assumption | intro _ | apply sound_ite | apply sound_standbyOn | split

theorem sound_laneUnlock {r s : State} (h : Sound r s) (r' : ℕ) (fines : List (BitVec 14)) : Sound r (State.laneUnlock s r' fines) := by
  unfold State.laneUnlock
  try dsimp only
  with_reducible
    repeat' first
      | assumption | intro _ | apply sound_ite | apply sound_refLost | apply sound_set | split

theorem sound_monitorFail {r s : State} (h : Sound r s) (n : Fin 8) (same : List ResetCause) : Sound r (State.monitorFail s n same) := by
  unfold State.monitorFail
  try dsimp only
  with_reducible
    repeat' first
      | assumption | intro _ | apply sound_ite | apply sound_declareFailed | split

theorem sound_coastExpired' {r s : State} (h : Sound r s) (same : List ResetCause) : Sound r (coastExpired same s) := by
  unfold coastExpired
  try dsimp only
  with_reducible
    repeat' first
      | assumption | intro _ | apply sound_ite | apply sound_onDie | apply sound_monitorFail | apply sound_beside | split

theorem sound_tapStop' {r s : State} (h : Sound r s) (same : List ResetCause) : Sound r (tapStop same s) := by
  unfold tapStop
  try dsimp only
  with_reducible
    repeat' first
      | assumption | intro _ | apply sound_ite | apply sound_onUmp | apply sound_monitorFail | split

theorem sound_fastHigh' {r s : State} (h : Sound r s) (count : ℕ) (same : List ResetCause) : Sound r (fastHigh count same s) := by
  unfold fastHigh
  try dsimp only
  with_reducible
    repeat' first
      | assumption | intro _ | apply sound_ite | apply sound_onDie | apply sound_monitorFail | apply sound_beside | split

theorem sound_monitorWindow' {r s : State} (h : Sound r s) (count : BitVec 9) (full : Bool) (same : List ResetCause) : Sound r (monitorWindow count full same s) := by
  unfold monitorWindow
  try dsimp only
  with_reducible
    repeat' first
      | assumption | intro _ | apply sound_ite | apply sound_onDie | apply sound_set | apply sound_monitorFail
      | apply sound_beside | split

end Sys2Proof.Machine
end

