-- ==== Sys2Proof/Laws/Sound3.lean ====
section
/-! SUPPORT. One lemma `sound_<name>` per operation of the model, in the order of the model's files (part 3 of 4):
the operation keeps the maps' canonical form and the queue (Laws/Sound.lean). -/

namespace Sys2Proof.Machine
set_option linter.all false

variable {r s : State}

theorem sound_setEnc {r s : State} (h : Sound r s) (x : ℕ) (e : Enc) : Sound r (State.setEnc s x e) := by
  unfold State.setEnc
  try dsimp only
  with_reducible
    repeat' first
      | assumption | intro _ | apply sound_ite | split

theorem sound_setHall {r s : State} (h : Sound r s) (x : ℕ) (h' : Hall) : Sound r (State.setHall s x h') := by
  unfold State.setHall
  try dsimp only
  with_reducible
    repeat' first
      | assumption | intro _ | apply sound_ite | split

theorem sound_setSer {r s : State} (h : Sound r s) (x : ℕ) (e : Ser) : Sound r (State.setSer s x e) := by
  unfold State.setSer
  try dsimp only
  with_reducible
    repeat' first
      | assumption | intro _ | apply sound_ite | split

theorem sound_encStat {r s : State} (h : Sound r s) (x : ℕ) : Sound r (State.encStat s x) := by
  unfold State.encStat
  try dsimp only
  with_reducible
    repeat' first
      | assumption | intro _ | apply sound_ite | apply sound_set | split

theorem sound_encAngle {r s : State} (h : Sound r s) (x : ℕ) : Sound r (State.encAngle s x).2 := by
  unfold State.encAngle
  try dsimp only
  with_reducible
    repeat' first
      | assumption | intro _ | apply sound_ite | apply sound_ite2 | apply sound_fresh | split
      | exact Sound.snd (by assumption)

theorem sound_encAligned {r s : State} (h : Sound r s) (x : ℕ) (cref : ℕ) (src : ℕ) (ofs : ℕ) (coarse : Bool) : Sound r (State.encAligned s x cref src ofs coarse) := by
  unfold State.encAligned
  try dsimp only
  with_reducible
    repeat' first
      | assumption | intro _ | apply sound_ite | apply sound_when | apply sound_set | apply sound_setEnc | apply sound_encStat
      | apply sound_ev | split

theorem sound_encMove {r s : State} (h : Sound r s) (x : ℕ) (up : Bool) (tick : ℕ) : Sound r (State.encMove s x up tick) := by
  unfold State.encMove
  try dsimp only
  with_reducible
    repeat' first
      | assumption | intro _ | apply sound_ite | apply sound_when | apply sound_setEnc | apply sound_set | apply sound_encStat
      | split

theorem sound_encIllegal {r s : State} (h : Sound r s) (x : ℕ) : Sound r (State.encIllegal s x) := by
  unfold State.encIllegal
  try dsimp only
  with_reducible
    repeat' first
      | assumption | intro _ | apply sound_ite | apply sound_setEnc | apply sound_encStat | apply sound_ev | apply sound_bump
      | split

theorem sound_encEdges {r s : State} (h : Sound r s) (x : ℕ) (a : List (ℕ × ℕ × Bool)) : Sound r (State.encEdges s x a) := by
  obtain ⟨n, hn⟩ : ∃ n, a.length ≤ n := ⟨_, Nat.le_refl _⟩
  induction n generalizing a s with
  | zero => cases a with
    | nil => unfold State.encEdges; exact h
    | cons => simp at hn
  | succ n ih =>
    match a, hn with
    | [], _ => unfold State.encEdges; exact h
    | [_], _ => unfold State.encEdges; exact sound_encMove (sound_setEnc h _ _) _ _ _
    | _ :: (t1, k1, v1) :: l, hn =>
      unfold State.encEdges
      dsimp only
      refine sound_ite _ (ih (sound_encIllegal (sound_setEnc h _ _) _) _ ?_) (ih (sound_encMove (sound_setEnc h _ _) _ _ _) _ ?_)
        <;> simp only [List.length_cons] at hn ⊢ <;> omega

theorem sound_encStep' {r s : State} (h : Sound r s) (x : Fin 2) (a : List (ℕ × Bool)) (b : List (ℕ × Bool)) : Sound r (encStep x a b s) := by
  unfold encStep
  try dsimp only
  with_reducible
    repeat' first
      | assumption | intro _ | apply sound_ite | apply sound_onBlock | apply sound_encEdges | split

theorem sound_encRise {r s : State} (h : Sound r s) (x : ℕ) (tick : ℕ) : Sound r (State.encRise s x tick) := by
  unfold State.encRise
  try dsimp only
  with_reducible
    repeat' first
      | assumption | intro _ | apply sound_ite | apply sound_setEnc | apply sound_encAligned | apply sound_encStat
      | apply sound_ev | apply sound_bump | split

theorem sound_encIndex' {r s : State} (h : Sound r s) (x : Fin 2) (z : List (ℕ × Bool)) : Sound r (encIndex x z s) := by
  unfold encIndex
  try dsimp only
  with_reducible
    repeat' first
      | assumption | intro _ | apply sound_ite | apply sound_each | apply sound_when | apply sound_onBlock
      | apply sound_setEnc | apply sound_encRise | split

theorem sound_encAlign {r s : State} (h : Sound r s) (x : ℕ) (ofs : ℕ) : Sound r (State.encAlign s x ofs) := by
  unfold State.encAlign
  try dsimp only
  with_reducible
    repeat' first
      | assumption | intro _ | apply sound_ite | apply sound_encAligned | split

theorem sound_encPeriodSpeed {r s : State} (h : Sound r s) (x : ℕ) (tick : ℕ) (old : Option (ℕ × ℕ)) : Sound r (State.encPeriodSpeed s x tick old).2 := by
  unfold State.encPeriodSpeed
  try dsimp only
  with_reducible
    repeat' first
      | assumption | intro _ | apply sound_ite | apply sound_ite2 | apply sound_fresh | split
      | exact Sound.snd (by assumption)

theorem sound_encCapture {r s : State} (h : Sound r s) (x : ℕ) (tick : ℕ) : Sound r (State.encCapture s x tick) := by
  unfold State.encCapture
  try dsimp only
  with_reducible
    repeat' first
      | assumption | intro _ | apply sound_ite | apply sound_encAngle | apply sound_encPeriodSpeed | apply sound_setEnc
      | apply sound_wr | apply sound_set | apply sound_encStat | split | exact Sound.snd (by assumption)

theorem sound_encZeroTimeout' {r s : State} (h : Sound r s) (x : Fin 2) : Sound r (encZeroTimeout x s) := by
  unfold encZeroTimeout
  try dsimp only
  with_reducible
    repeat' first
      | assumption | intro _ | apply sound_ite | apply sound_onBlock | apply sound_encStat | apply sound_wr
      | apply sound_setEnc | split

theorem sound_hallStat {r s : State} (h : Sound r s) (x : ℕ) : Sound r (State.hallStat s x) := by
  unfold State.hallStat
  try dsimp only
  with_reducible
    repeat' first
      | assumption | intro _ | apply sound_ite | apply sound_set | split

theorem sound_hallState {r s : State} (h : Sound r s) (x : ℕ) (code : ℕ) (tick : ℕ) : Sound r (State.hallState s x code tick) := by
  unfold State.hallState
  try dsimp only
  with_reducible
    repeat' first
      | assumption | intro _ | apply sound_ite | apply sound_set | apply sound_setHall | apply sound_hallStat | apply sound_ev
      | apply sound_bump | apply sound_encAligned | split

theorem sound_hallEdges {r s : State} (h : Sound r s) (x : ℕ) (a : List (ℕ × ℕ × Bool)) : Sound r (State.hallEdges s x a) := by
  induction a generalizing s with
  | nil => unfold State.hallEdges; exact h
  | cons e l ih =>
    unfold State.hallEdges
    cases l with
    | nil => exact sound_hallState (sound_setHall h _ _) _ _ _
    | cons e1 l1 => exact ih (sound_ite _ (sound_setHall h _ _) (sound_hallState (sound_setHall h _ _) _ _ _))

theorem sound_hallFirst {r s : State} (h : Sound r s) (x : ℕ) (tick : ℕ) : Sound r (State.hallFirst s x tick) := by
  unfold State.hallFirst
  try dsimp only
  with_reducible
    repeat' first
      | assumption | intro _ | apply sound_ite | apply sound_hallState | split

theorem sound_hallChange' {r s : State} (h : Sound r s) (x : Fin 2) (u : List (ℕ × Bool)) (v : List (ℕ × Bool)) (w : List (ℕ × Bool)) : Sound r (hallChange x u v w s) := by
  unfold hallChange
  try dsimp only
  with_reducible
    repeat' first
      | assumption | intro _ | apply sound_ite | apply sound_onBlock | apply sound_hallFirst | apply sound_hallEdges | split

theorem sound_hallQual' {r s : State} (h : Sound r s) (x : Fin 2) : Sound r (hallQual x s) := by
  unfold hallQual
  try dsimp only
  with_reducible
    repeat' first
      | assumption | intro _ | apply sound_ite | apply sound_onBlock | apply sound_hallStat | apply sound_set
      | apply sound_setHall | split

theorem sound_hallTimeout' {r s : State} (h : Sound r s) (x : Fin 2) : Sound r (hallTimeout x s) := by
  unfold hallTimeout
  try dsimp only
  with_reducible
    repeat' first
      | assumption | intro _ | apply sound_ite | apply sound_onBlock | apply sound_setHall | split

theorem sound_hallAngle {r s : State} (h : Sound r s) (x : ℕ) (tick : ℕ) : Sound r (State.hallAngle s x tick) := by
  unfold State.hallAngle
  try dsimp only
  with_reducible
    repeat' first
      | assumption | intro _ | apply sound_ite | apply sound_freshBool | apply sound_hallStat | apply sound_wr | split
      | exact Sound.snd (by assumption)

theorem sound_hallCapture {r s : State} (h : Sound r s) (x : ℕ) (tick : ℕ) : Sound r (State.hallCapture s x tick) := by
  unfold State.hallCapture
  try dsimp only
  with_reducible
    repeat' first
      | assumption | intro _ | apply sound_ite | apply sound_hallAngle | apply sound_hallFirst | apply sound_setHall | split

theorem sound_serStat {r s : State} (h : Sound r s) (x : ℕ) : Sound r (State.serStat s x) := by
  unfold State.serStat
  try dsimp only
  with_reducible
    repeat' first
      | assumption | intro _ | apply sound_ite | apply sound_set | split

theorem sound_serEnd {r s : State} (h : Sound r s) (x : ℕ) (tag : ℕ) (code : ℕ) (pos : Option (ℕ × ℕ)) : Sound r (State.serEnd s x tag code pos) := by
  unfold State.serEnd
  try dsimp only
  with_reducible
    repeat' first
      | assumption | intro _ | apply sound_ite | apply sound_when | apply sound_setSer | apply sound_ev | apply sound_bump
      | apply sound_serStat | split

theorem sound_serialFrameStart' {r s : State} (h : Sound r s) (x : Fin 2) (low : Bool) (n : ℕ) (tick : ℕ) : Sound r (serialFrameStart x low n tick s) := by
  unfold serialFrameStart
  try dsimp only
  with_reducible
    repeat' first
      | assumption | intro _ | apply sound_ite | apply sound_onBlock | apply sound_serEnd | apply sound_setSer | split

theorem sound_serGood {r s : State} (h : Sound r s) (x : ℕ) (raw : ℕ) (mt : ℕ) : Sound r (State.serGood s x raw mt) := by
  unfold State.serGood
  try dsimp only
  with_reducible
    repeat' first
      | assumption | intro _ | apply sound_ite | apply sound_fresh | apply sound_setSer | apply sound_wr | apply sound_set
      | apply sound_serEnd | split | exact Sound.snd (by assumption)

theorem sound_serialFrameEnd' {r s : State} (h : Sound r s) (x : Fin 2) (di : List (ℕ × Bool)) : Sound r (serialFrameEnd x di s) := by
  unfold serialFrameEnd
  try dsimp only
  with_reducible
    repeat' first
      | assumption | intro _ | apply sound_ite | apply sound_onBlock | apply sound_setSer | apply sound_serEnd
      | apply sound_serGood | apply sound_set | split

theorem sound_serialTimeout' {r s : State} (h : Sound r s) (x : Fin 2) : Sound r (serialTimeout x s) := by
  unfold serialTimeout
  try dsimp only
  with_reducible
    repeat' first
      | assumption | intro _ | apply sound_ite | apply sound_onBlock | apply sound_serEnd | apply sound_setSer | split

theorem sound_posCatch {r s : State} (h : Sound r s) (tick : ℕ) : Sound r (State.posCatch s tick) := by
  unfold State.posCatch
  try dsimp only
  with_reducible
    repeat' first
      | assumption | intro _ | apply sound_ite | apply sound_each | apply sound_when | apply sound_encCapture
      | apply sound_hallCapture | split

theorem sound_posRestart {r s : State} (h : Sound r s) (i : ℕ) : Sound r (State.posRestart s i) := by
  unfold State.posRestart
  try dsimp only
  with_reducible
    repeat' first
      | assumption | intro _ | apply sound_ite | apply sound_setEnc | apply sound_encStat | apply sound_wr
      | apply sound_setHall | apply sound_hallStat | apply sound_set | apply sound_setSer | split

theorem sound_posActivate {r s : State} (h : Sound r s) : Sound r (State.posActivate s) := by
  unfold State.posActivate
  try dsimp only
  with_reducible
    repeat' first
      | assumption | intro _ | apply sound_ite | apply sound_each | apply sound_posRestart | split

theorem sound_setGen {r s : State} (h : Sound r s) (g : ℕ) (x : Gen) : Sound r (State.setGen s g x) := by
  unfold State.setGen
  try dsimp only
  with_reducible
    repeat' first
      | assumption | intro _ | apply sound_ite | split

theorem sound_spCtrlWrite {r s : State} (h : Sound r s) (m : Master) (v : Word) : Sound r (State.spCtrlWrite s m v) := by
  unfold State.spCtrlWrite
  try dsimp only
  with_reducible
    repeat' first
      | assumption | intro _ | apply sound_ite | apply sound_blockWrite | apply sound_refuse | apply sound_wr | split

theorem sound_spCtrlWrite' {r s : State} (h : Sound r s) (m : Master) (v : Word) : Sound r (spCtrlWrite m v s) := by
  unfold spCtrlWrite
  try dsimp only
  with_reducible
    repeat' first
      | assumption | intro _ | apply sound_ite | apply sound_onDie | apply sound_spCtrlWrite | split

theorem sound_setPin {r s : State} (h : Sound r s) (k : ℕ) (x : Pin) : Sound r (State.setPin s k x) := by
  unfold State.setPin
  try dsimp only
  with_reducible
    repeat' first
      | assumption | intro _ | apply sound_ite | split

theorem sound_pinPeriod' {r s : State} (h : Sound r s) (k : Fin 2) (changes : List (ℕ × Bool)) : Sound r (pinPeriod k changes s) := by
  unfold pinPeriod
  try dsimp only
  with_reducible
    repeat' first
      | assumption | intro _ | apply sound_ite | apply sound_onBlock | apply sound_setPin | split

theorem sound_pinLost {r s : State} (h : Sound r s) (k : ℕ) : Sound r (State.pinLost s k) := by
  unfold State.pinLost
  try dsimp only
  with_reducible
    repeat' first
      | assumption | intro _ | apply sound_ite | apply sound_ev | apply sound_set | split

theorem sound_pinTimeout' {r s : State} (h : Sound r s) (k : Fin 2) : Sound r (pinTimeout k s) := by
  unfold pinTimeout
  try dsimp only
  with_reducible
    repeat' first
      | assumption | intro _ | apply sound_ite | apply sound_onBlock | apply sound_setPin | apply sound_pinLost | split

theorem sound_pinCatch {r s : State} (h : Sound r s) (k : ℕ) (tick : ℕ) : Sound r (State.pinCatch s k tick) := by
  unfold State.pinCatch
  try dsimp only
  with_reducible
    repeat' first
      | assumption | intro _ | apply sound_ite | apply sound_set | apply sound_pinLost | split

theorem sound_putWords {r s : State} (h : Sound r s) (a : ℕ) (ws : List Word) : Sound r (State.putWords s a ws) := by
  unfold State.putWords
  try dsimp only
  with_reducible
    repeat' first
      | assumption | intro _ | apply sound_ite | apply sound_each | apply sound_setSramWord | split

theorem sound_capWrite {r s : State} (h : Sound r s) (c : ℕ) (ws : List Word) : Sound r (State.capWrite s c ws) := by
  unfold State.capWrite
  try dsimp only
  with_reducible
    repeat' first
      | assumption | intro _ | apply sound_ite | apply sound_when | apply sound_bump | apply sound_putWords | apply sound_set
      | apply sound_ev | split

theorem sound_capArm {r s : State} (h : Sound r s) (m : Master) (c : ℕ) : Sound r (State.capArm s m c) := by
  unfold State.capArm
  try dsimp only
  with_reducible
    repeat' first
      | assumption | intro _ | apply sound_ite | apply sound_blockWrite | apply sound_refuse | apply sound_set | split

theorem sound_capStop {r s : State} (h : Sound r s) (m : Master) (c : ℕ) : Sound r (State.capStop s m c) := by
  unfold State.capStop
  try dsimp only
  with_reducible
    repeat' first
      | assumption | intro _ | apply sound_ite | apply sound_blockWrite | split

theorem sound_capArm' {r s : State} (h : Sound r s) (m : Master) (c : Fin 8) : Sound r (capArm m c s) := by
  unfold capArm
  try dsimp only
  with_reducible
    repeat' first
      | assumption | intro _ | apply sound_ite | apply sound_onDie | apply sound_capArm | split

theorem sound_capStop' {r s : State} (h : Sound r s) (m : Master) (c : Fin 8) : Sound r (capStop m c s) := by
  unfold capStop
  try dsimp only
  with_reducible
    repeat' first
      | assumption | intro _ | apply sound_ite | apply sound_onDie | apply sound_capStop | split

theorem sound_capCatch {r s : State} (h : Sound r s) : Sound r (State.capCatch s) := by
  unfold State.capCatch
  try dsimp only
  with_reducible
    repeat' first
      | assumption | intro _ | apply sound_ite | apply sound_each | apply sound_set | split

theorem sound_injStart {r s : State} (h : Sound r s) (m : Master) (g : ℕ) : Sound r (State.injStart s m g) := by
  unfold State.injStart
  try dsimp only
  with_reducible
    repeat' first
      | assumption | intro _ | apply sound_ite | apply sound_blockWrite | apply sound_set | apply sound_setGen
      | apply sound_wr | split

theorem sound_injStop {r s : State} (h : Sound r s) (m : Master) (g : ℕ) : Sound r (State.injStop s m g) := by
  unfold State.injStop
  try dsimp only
  with_reducible
    repeat' first
      | assumption | intro _ | apply sound_ite | apply sound_blockWrite | apply sound_setGen | apply sound_set | split

theorem sound_genAbort {r s : State} (h : Sound r s) (g : ℕ) (code : ℕ) : Sound r (State.genAbort s g code) := by
  unfold State.genAbort
  try dsimp only
  with_reducible
    repeat' first
      | assumption | intro _ | apply sound_ite | apply sound_setGen | split

theorem sound_injAbort {r s : State} (h : Sound r s) (m : Master) (g : ℕ) : Sound r (State.injAbort s m g) := by
  unfold State.injAbort
  try dsimp only
  with_reducible
    repeat' first
      | assumption | intro _ | apply sound_ite | apply sound_blockWrite | apply sound_genAbort | split

theorem sound_injStart' {r s : State} (h : Sound r s) (m : Master) (g : Fin 2) : Sound r (injStart m g s) := by
  unfold injStart
  try dsimp only
  with_reducible
    repeat' first
      | assumption | intro _ | apply sound_ite | apply sound_onDie | apply sound_injStart | split

theorem sound_injStop' {r s : State} (h : Sound r s) (m : Master) (g : Fin 2) : Sound r (injStop m g s) := by
  unfold injStop
  try dsimp only
  with_reducible
    repeat' first
      | assumption | intro _ | apply sound_ite | apply sound_onDie | apply sound_injStop | split

theorem sound_injAbort' {r s : State} (h : Sound r s) (m : Master) (g : Fin 2) : Sound r (injAbort m g s) := by
  unfold injAbort
  try dsimp only
  with_reducible
    repeat' first
      | assumption | intro _ | apply sound_ite | apply sound_onDie | apply sound_injAbort | split

theorem sound_genUnits {r s : State} (h : Sound r s) : Sound r (State.genUnits s) := by
  unfold State.genUnits
  try dsimp only
  with_reducible
    repeat' first
      | assumption | intro _ | apply sound_ite | apply sound_each | apply sound_genAbort | split

theorem sound_genCatch {r s : State} (h : Sound r s) (g : ℕ) : Sound r (State.genCatch s g) := by
  unfold State.genCatch
  try dsimp only
  with_reducible
    repeat' first
      | assumption | intro _ | apply sound_ite | apply sound_setGen | apply sound_ev | apply sound_set | apply sound_wr
      | apply sound_capWrite | split

theorem sound_injAmp {r s : State} (h : Sound r s) (m : Master) (p : ℕ) (v : Word) : Sound r (State.injAmp s m p v) := by
  unfold State.injAmp
  try dsimp only
  with_reducible
    repeat' first
      | assumption | intro _ | apply sound_ite | apply sound_blockWrite | apply sound_refuse | apply sound_wr | apply sound_ev
      | split

theorem sound_injAmpWrite' {r s : State} (h : Sound r s) (m : Master) (p : Fin 8) (v : Word) : Sound r (injAmpWrite m p v s) := by
  unfold injAmpWrite
  try dsimp only
  with_reducible
    repeat' first
      | assumption | intro _ | apply sound_ite | apply sound_onDie | apply sound_injAmp | split

theorem sound_injCatch {r s : State} (h : Sound r s) (tick : ℕ) : Sound r (State.injCatch s tick) := by
  unfold State.injCatch
  try dsimp only
  with_reducible
    repeat' first
      | assumption | intro _ | apply sound_ite | apply sound_when | apply sound_genCatch | apply sound_capCatch
      | apply sound_genUnits | apply sound_pinCatch | split

theorem sound_injActivate {r s : State} (h : Sound r s) : Sound r (State.injActivate s) := by
  unfold State.injActivate
  try dsimp only
  with_reducible
    repeat' first
      | assumption | intro _ | apply sound_ite | apply sound_each | apply sound_genAbort | apply sound_set | split

theorem sound_setStage {r s : State} (h : Sound r s) (st : ℕ) : Sound r (State.setStage s st) := by
  unfold State.setStage
  try dsimp only
  with_reducible
    repeat' first
      | assumption | intro _ | apply sound_ite | apply sound_set | split

theorem sound_planLast {r s : State} (h : Sound r s) (code : ℕ) : Sound r (State.planLast s code) := by
  unfold State.planLast
  try dsimp only
  with_reducible
    repeat' first
      | assumption | intro _ | apply sound_ite | apply sound_set | split

theorem sound_dropSwitch {r s : State} (h : Sound r s) (code : ℕ) : Sound r (State.dropSwitch s code) := by
  unfold State.dropSwitch
  try dsimp only
  with_reducible
    repeat' first
      | assumption | intro _ | apply sound_ite | apply sound_planLast | apply sound_planEv | apply sound_set
      | apply sound_setStage | apply sound_mbFinish | split

theorem sound_abortSwitch {r s : State} (h : Sound r s) : Sound r (State.abortSwitch s) := by
  unfold State.abortSwitch
  try dsimp only
  with_reducible
    repeat' first
      | assumption | intro _ | apply sound_ite | apply sound_dropSwitch | split

theorem sound_rotAbandon {r s : State} (h : Sound r s) : Sound r (State.rotAbandon s) := by
  unfold State.rotAbandon
  try dsimp only
  with_reducible
    repeat' first
      | assumption | intro _ | apply sound_ite | apply sound_set | split

theorem sound_faultAny {r s : State} (h : Sound r s) (u : ℕ) (fault : ℕ) : Sound r (State.faultAny s u fault) := by
  unfold State.faultAny
  try dsimp only
  with_reducible
    repeat' first
      | assumption | intro _ | apply sound_ite | apply sound_fault | split

theorem sound_faultAll {r s : State} (h : Sound r s) (fault : ℕ) : Sound r (State.faultAll s fault) := by
  unfold State.faultAll
  try dsimp only
  with_reducible
    repeat' first
      | assumption | intro _ | apply sound_ite | apply sound_each | apply sound_faultAny | split

theorem sound_sign {r s : State} (h : Sound r s) (ix : ℕ) (ws : List Word) : Sound r (State.sign s ix ws) := by
  unfold State.sign
  try dsimp only
  with_reducible
    repeat' first
      | assumption | intro _ | apply sound_ite | split

theorem sound_setInput {r s : State} (h : Sound r s) (b : ℕ) (x : Input) : Sound r (State.setInput s b x) := by
  unfold State.setInput
  try dsimp only
  with_reducible
    repeat' first
      | assumption | intro _ | apply sound_ite | split

theorem sound_drain {r s : State} (h : Sound r s) (b : ℕ) : Sound r (State.drain s b) := by
  unfold State.drain
  try dsimp only
  with_reducible
    repeat' first
      | assumption | intro _ | apply sound_ite | apply sound_when | apply sound_setInput | apply sound_ev | apply sound_bump
      | split

theorem sound_datum {r s : State} (h : Sound r s) (b : ℕ) (tag : ℕ) (w : List Word) (v : Bool) : Sound r (State.datum s b tag w v) := by
  unfold State.datum
  try dsimp only
  with_reducible
    repeat' first
      | assumption | intro _ | apply sound_ite | apply sound_drain | apply sound_setInput | split

theorem sound_datumArrival' {r s : State} (h : Sound r s) (b : Fin 2048) (tag : Fin 256) : Sound r (datumArrival b tag s) := by
  unfold datumArrival
  try dsimp only
  with_reducible
    repeat' first
      | assumption | intro _ | apply sound_ite | apply sound_onDie | apply sound_datum | split

theorem sound_escalate {r s : State} (h : Sound r s) (u : ℕ) : Sound r (State.escalate s u) := by
  unfold State.escalate
  try dsimp only
  with_reducible
    repeat' first
      | assumption | intro _ | apply sound_ite | apply sound_ev | apply sound_faultAny | split

theorem sound_lateUnit {r s : State} (h : Sound r s) (u : ℕ) : Sound r (State.lateUnit s u) := by
  unfold State.lateUnit
  try dsimp only
  with_reducible
    repeat' first
      | assumption | intro _ | apply sound_ite | apply sound_when | apply sound_bump | apply sound_escalate | split

theorem sound_resolveLate {r s : State} (h : Sound r s) (b : ℕ) (e : Bind) (u : ℕ) : Sound r (State.resolveLate s b e u) := by
  unfold State.resolveLate
  try dsimp only
  with_reducible
    repeat' first
      | assumption | intro _ | apply sound_ite | apply sound_each | apply sound_setInput | apply sound_set | apply sound_bump
      | apply sound_ev | apply sound_lateUnit | split

theorem sound_deadline {r s : State} (h : Sound r s) (b : ℕ) (u : ℕ) : Sound r (State.deadline s b u) := by
  unfold State.deadline
  try dsimp only
  with_reducible
    repeat' first
      | assumption | intro _ | apply sound_ite | apply sound_resolveLate | split

theorem sound_inputDeadline' {r s : State} (h : Sound r s) (b : Fin 2048) (u : Fin 5) : Sound r (inputDeadline b u s) := by
  unfold inputDeadline
  try dsimp only
  with_reducible
    repeat' first
      | assumption | intro _ | apply sound_ite | apply sound_onDie | apply sound_deadline | split

theorem sound_closeCatch {r s : State} (h : Sound r s) : Sound r (State.closeCatch s) := by
  unfold State.closeCatch
  try dsimp only
  with_reducible
    repeat' first
      | assumption | intro _ | apply sound_ite | apply sound_each | apply sound_wr | apply sound_set | split

theorem sound_overrun {r s : State} (h : Sound r s) : Sound r (State.overrun s) := by
  unfold State.overrun
  try dsimp only
  with_reducible
    repeat' first
      | assumption | intro _ | apply sound_ite | apply sound_faultAll | apply sound_rotAbandon | apply sound_abortSwitch
      | apply sound_ev | split

theorem sound_slack {r s : State} (h : Sound r s) (done : ℕ) : Sound r (State.slack s done) := by
  unfold State.slack
  try dsimp only
  with_reducible
    repeat' first
      | assumption | intro _ | apply sound_ite | apply sound_overrun | apply sound_set | split

theorem sound_context {r s : State} (h : Sound r s) : Sound r (State.context s) := by
  unfold State.context
  try dsimp only
  with_reducible
    repeat' first
      | assumption | intro _ | apply sound_ite | apply sound_set | apply sound_wr | split

theorem sound_rsxStart {r s : State} (h : Sound r s) (first : Bool) : Sound r (State.rsxStart s first) := by
  unfold State.rsxStart
  try dsimp only
  with_reducible
    repeat' first
      | assumption | intro _ | apply sound_ite | split

theorem sound_openInputs {r s : State} (h : Sound r s) : Sound r (State.openInputs s) := by
  unfold State.openInputs
  try dsimp only
  with_reducible
    repeat' first
      | assumption | intro _ | apply sound_ite | apply sound_each | apply sound_drain | apply sound_setInput
      | apply sound_datum | split

theorem sound_sdCatch {r s : State} (h : Sound r s) (bits : List (ℕ × List (Option Bool))) (first : Bool) (period : ℕ) : Sound r (State.sdCatch s bits first period) := by
  unfold State.sdCatch
  try dsimp only
  with_reducible
    repeat' first
      | assumption | intro _ | apply sound_ite | apply sound_each | apply sound_stream | apply sound_setSd
      | apply sound_sdResult | apply sound_calCatch | apply sound_allChecks | split

theorem sound_bandStep {r s : State} (h : Sound r s) : Sound r (State.bandStep s) := by
  unfold State.bandStep
  try dsimp only
  with_reducible
    repeat' first
      | assumption | intro _ | apply sound_ite | apply sound_when | apply sound_bandCatch | apply sound_loadThresholds | split

theorem sound_driveCatch {r s : State} (h : Sound r s) : Sound r (State.driveCatch s) := by
  unfold State.driveCatch
  try dsimp only
  with_reducible
    repeat' first
      | assumption | intro _ | apply sound_ite | apply sound_auxCatch | apply sound_seedCatch | apply sound_rampCatch | split

theorem sound_catchGo {r s : State} (h : Sound r s) (bits : List (ℕ × List (Option Bool))) (done : ℕ) : Sound r (State.catchGo s bits done) := by
  unfold State.catchGo
  try dsimp only
  with_reducible
    repeat' first
      | assumption | intro _ | apply sound_ite | apply sound_sarSkips | apply sound_slack | apply sound_closeCatch
      | apply sound_sdCatch | apply sound_rsxStart | apply sound_drivesDue | apply sound_context | apply sound_settleSeats
      | apply sound_posCatch | apply sound_rsxPublish | apply sound_bandStep | apply sound_bootCatch | apply sound_driveCatch
      | apply sound_openInputs | apply sound_dischargeCatch | apply sound_injCatch | split

theorem sound_catchNumLoRead' {r s : State} (h : Sound r s) : Sound r (catchNumLoRead s) := by
  unfold catchNumLoRead
  try dsimp only
  with_reducible
    repeat' first
      | assumption | intro _ | apply sound_ite | apply sound_onDie | apply sound_set | split

theorem sound_setPool {r s : State} (h : Sound r s) (l : List ℕ) : Sound r (State.setPool s l) := by
  unfold State.setPool
  try dsimp only
  with_reducible
    repeat' first
      | assumption | intro _ | apply sound_ite | apply sound_set | split

theorem sound_stopRotation {r s : State} (h : Sound r s) : Sound r (State.stopRotation s) := by
  unfold State.stopRotation
  try dsimp only
  with_reducible
    repeat' first
      | assumption | intro _ | apply sound_ite | apply sound_hostEvent | apply sound_ev | apply sound_set | split

theorem sound_seatRecord {r s : State} (h : Sound r s) (seat : ℕ) (slot : ℕ) (code : ℕ) : Sound r (State.seatRecord s seat slot code) := by
  unfold State.seatRecord
  try dsimp only
  with_reducible
    repeat' first
      | assumption | intro _ | apply sound_ite | apply sound_set | split

theorem sound_undoOne {r s : State} (h : Sound r s) (u : Undo) : Sound r (State.undoOne s u) := by
  unfold State.undoOne
  try dsimp only
  with_reducible
    repeat' first
      | assumption | intro _ | apply sound_ite | apply sound_putAt | apply sound_modLeg | apply sound_clearFldBit | split

theorem sound_discardSlot {r s : State} (h : Sound r s) (slot : ℕ) : Sound r (State.discardSlot s slot) := by
  unfold State.discardSlot
  try dsimp only
  with_reducible
    repeat' first
      | assumption | intro _ | apply sound_ite | apply sound_ite2 | apply sound_each | apply sound_when | apply sound_onDie
      | apply sound_onUmp | apply sound_foldl | apply sound_undoOne | split
      | exact Sound.snd (by assumption)

theorem sound_seatFault {r s : State} (h : Sound r s) (seat : ℕ) (slot : ℕ) (code : ℕ) : Sound r (State.seatFault s seat slot code) := by
  unfold State.seatFault
  try dsimp only
  with_reducible
    repeat' first
      | assumption | intro _ | apply sound_ite | apply sound_when | apply sound_seatRecord | apply sound_clearFldBit
      | apply sound_ev | apply sound_rotAbandon | apply sound_abortSwitch | apply sound_faultAll | apply sound_discardSlot
      | split

theorem sound_rotationTimer' {r s : State} (h : Sound r s) : Sound r (rotationTimer s) := by
  unfold rotationTimer
  try dsimp only
  with_reducible
    repeat' first
      | assumption | intro _ | apply sound_ite | apply sound_onDie | split

theorem sound_copyStart' {r s : State} (h : Sound r s) : Sound r (copyStart s) := by
  unfold copyStart
  try dsimp only
  with_reducible
    repeat' first
      | assumption | intro _ | apply sound_ite | apply sound_onDie | apply sound_set | split

theorem sound_copyComplete' {r s : State} (h : Sound r s) (uncorr : Bool) : Sound r (copyComplete uncorr s) := by
  unfold copyComplete
  try dsimp only
  with_reducible
    repeat' first
      | assumption | intro _ | apply sound_ite | apply sound_onDie | apply sound_seatFault | split

theorem sound_copySeat {r s : State} (h : Sound r s) (src : ℕ) (dst : ℕ) : Sound r (State.copySeat s src dst) := by
  exact SoundAt.locals h (fun hm => mapWf_foldl _ _ _ _ _ (mapWf_filter _ _ _ hm))

theorem sound_clearSeat {r s : State} (h : Sound r s) (seat : ℕ) : Sound r (State.clearSeat s seat) := by
  exact SoundAt.locals h (fun hm => mapWf_filter _ _ _ hm)

theorem sound_subTakeover' {r s : State} (h : Sound r s) : Sound r (subTakeover s) := by
  unfold subTakeover
  try dsimp only
  with_reducible
    repeat' first
      | assumption | intro _ | apply sound_ite | apply sound_onDie | apply sound_set | apply sound_copySeat
      | apply sound_settleSeats | apply sound_bump | apply sound_setPool | split

theorem sound_istComplete' {r s : State} (h : Sound r s) (sig : Word) (march : List ℕ) (corrected : Bool) (detected : Bool) : Sound r (istComplete sig march corrected detected s) := by
  unfold istComplete
  try dsimp only
  with_reducible
    repeat' first
      | assumption | intro _ | apply sound_ite | apply sound_when | apply sound_onDie | apply sound_bump | apply sound_set
      | apply sound_ev | apply sound_setPool | apply sound_stopRotation | apply sound_seatRecord | apply sound_clearFldBit
      | split

theorem sound_xbarCreditReturn' {r s : State} (h : Sound r s) (i : ℕ) (last : Bool) (cycles : ℕ) : Sound r (xbarCreditReturn i last cycles s) := by
  unfold xbarCreditReturn
  try dsimp only
  with_reducible
    repeat' first
      | assumption | intro _ | apply sound_ite | apply sound_when | apply sound_onDie | apply sound_deliver
      | apply sound_flushOwn | apply sound_returnCredit | apply sound_bump | split

theorem sound_uncorrLive {r s : State} (h : Sound r s) : Sound r (State.uncorrLive s) := by
  unfold State.uncorrLive
  try dsimp only
  with_reducible
    repeat' first
      | assumption | intro _ | apply sound_ite | apply sound_faultAll | apply sound_set | apply sound_planEv
      | apply sound_rotAbandon | apply sound_abortSwitch | split

theorem sound_stageFail {r s : State} (h : Sound r s) (code : ℕ) : Sound r (State.stageFail s code) := by
  unfold State.stageFail
  try dsimp only
  with_reducible
    repeat' first
      | assumption | intro _ | apply sound_ite | apply sound_planEv | apply sound_set | apply sound_setStage | split

theorem sound_uncorrStage {r s : State} (h : Sound r s) : Sound r (State.uncorrStage s) := by
  unfold State.uncorrStage
  try dsimp only
  with_reducible
    repeat' first
      | assumption | intro _ | apply sound_ite | apply sound_stageFail | apply sound_abortSwitch | split

theorem sound_scrubRead' {r s : State} (h : Sound r s) (outcome : Fin 3) : Sound r (scrubRead outcome s) := by
  unfold scrubRead
  try dsimp only
  with_reducible
    repeat' first
      | assumption | intro _ | apply sound_ite | apply sound_when | apply sound_onDie | apply sound_bump
      | apply sound_uncorrStage | apply sound_uncorrLive | split

theorem sound_planRefuse {r s : State} (h : Sound r s) (code : ℕ) : Sound r (State.planRefuse s code) := by
  unfold State.planRefuse
  try dsimp only
  with_reducible
    repeat' first
      | assumption | intro _ | apply sound_ite | apply sound_planLast | apply sound_planEv | split

theorem sound_dcoMeets {r s : State} (h : Sound r s) (p : PlanInfo) : Sound r (State.dcoMeets s p).2 := by
  unfold State.dcoMeets
  try dsimp only
  with_reducible
    repeat' first
      | assumption | intro _ | apply sound_ite | apply sound_ite2 | apply sound_freshBool | split
      | exact Sound.snd (by assumption)

theorem sound_supersede {r s : State} (h : Sound r s) : Sound r (State.supersede s) := by
  unfold State.supersede
  try dsimp only
  with_reducible
    repeat' first
      | assumption | intro _ | apply sound_ite | split

theorem sound_planActivate {r s : State} (h : Sound r s) : Sound r (State.planActivate s).2 := by
  unfold State.planActivate
  try dsimp only
  with_reducible
    repeat' first
      | assumption | intro _ | apply sound_ite | apply sound_each | apply sound_ite2 | apply sound_dcoMeets
      | apply sound_planRefuse | apply sound_drvLast | apply sound_supersede | split
      | exact Sound.snd (by assumption)

theorem sound_planArm {r s : State} (h : Sound r s) (n : ℕ) (far : Bool) : Sound r (State.planArm s n far).2 := by
  unfold State.planArm
  try dsimp only
  with_reducible
    repeat' first
      | assumption | intro _ | apply sound_ite | apply sound_ite2 | apply sound_dcoMeets | apply sound_set
      | apply sound_setStage | apply sound_supersede | apply sound_planRefuse | split
      | exact Sound.snd (by assumption)

theorem sound_localArm {r s : State} (h : Sound r s) : Sound r (State.localArm s).2 := by
  unfold State.localArm
  try dsimp only
  with_reducible
    repeat' first
      | assumption | intro _ | apply sound_ite | apply sound_ite2 | apply sound_planRefuse | apply sound_planArm
      | split | exact Sound.snd (by assumption)

theorem sound_planCancel {r s : State} (h : Sound r s) : Sound r (State.planCancel s).2 := by
  unfold State.planCancel
  try dsimp only
  with_reducible
    repeat' first
      | assumption | intro _ | apply sound_ite | apply sound_ite2 | apply sound_dropSwitch | apply sound_planRefuse
      | split | exact Sound.snd (by assumption)

theorem sound_planCmd {r s : State} (h : Sound r s) (m : Master) (cmd : ℕ) : Sound r (State.planCmd s m cmd) := by
  unfold State.planCmd
  try dsimp only
  with_reducible
    repeat' first
      | assumption | intro _ | apply sound_ite | apply sound_blockWrite | apply sound_planActivate | apply sound_localArm
      | apply sound_planCancel | split | exact Sound.snd (by assumption)

theorem sound_activate' {r s : State} (h : Sound r s) (m : Master) : Sound r (activate m s) := by
  unfold activate
  try dsimp only
  with_reducible
    repeat' first
      | assumption | intro _ | apply sound_ite | apply sound_onDie | apply sound_planCmd | split

theorem sound_arm' {r s : State} (h : Sound r s) (m : Master) : Sound r (arm m s) := by
  unfold arm
  try dsimp only
  with_reducible
    repeat' first
      | assumption | intro _ | apply sound_ite | apply sound_onDie | apply sound_planCmd | split

theorem sound_cancel' {r s : State} (h : Sound r s) (m : Master) : Sound r (cancel m s) := by
  unfold cancel
  try dsimp only
  with_reducible
    repeat' first
      | assumption | intro _ | apply sound_ite | apply sound_onDie | apply sound_planCmd | split

theorem sound_bindAll {r s : State} (h : Sound r s) (enable : Bool) : Sound r (State.bindAll s enable) := by
  unfold State.bindAll
  try dsimp only
  with_reducible
    repeat' first
      | assumption | intro _ | apply sound_ite | apply sound_each | apply sound_when | apply sound_set | split

theorem sound_initSeat {r s : State} (h : Sound r s) (seat : ℕ) (k : ℕ) (cw : ℕ) : Sound r (State.initSeat s seat k cw) := by
  unfold State.initSeat
  try dsimp only
  with_reducible
    repeat' first
      | assumption | intro _ | apply sound_ite | apply sound_each | apply sound_when | apply sound_setLocal | split

theorem sound_initSub {r s : State} (h : Sound r s) : Sound r (State.initSub s) := by
  unfold State.initSub
  try dsimp only
  with_reducible
    repeat' first
      | assumption | intro _ | apply sound_ite | apply sound_initSeat | split

theorem sound_image {r s : State} (h : Sound r s) (all : Bool) (a : ℕ) (v : Word) : Sound r (State.image s all a v) := by
  unfold State.image
  try dsimp only
  with_reducible
    repeat' first
      | assumption | intro _ | apply sound_ite | apply sound_wr | split

theorem sound_images {r s : State} (h : Sound r s) (activation : Bool) : Sound r (State.images s activation) := by
  unfold State.images
  try dsimp only
  with_reducible
    repeat' first
      | assumption | intro _ | apply sound_ite | apply sound_each | apply sound_when | apply sound_image | apply sound_modLeg
      | apply sound_wr | apply sound_set | split

theorem sound_showLive {r s : State} (h : Sound r s) : Sound r (State.showLive s) := by
  unfold State.showLive
  try dsimp only
  with_reducible
    repeat' first
      | assumption | intro _ | apply sound_ite | apply sound_set | split

theorem sound_swapHalves {r s : State} (h : Sound r s) : Sound r (State.swapHalves s) := by
  unfold State.swapHalves
  try dsimp only
  with_reducible
    repeat' first
      | assumption | intro _ | apply sound_ite | apply sound_each | apply sound_set | apply sound_wr | apply sound_setStage
      | split

theorem sound_clearImages {r s : State} (h : Sound r s) : Sound r (State.clearImages s) := by
  refine SoundAt.regs h (fun hm => ?_)
  have key : ∀ (l : List (Nat × Word)) (m : List (Nat × Word)), mapWf resetWord m = true →
      mapWf resetWord (l.foldl (fun m e => let k := imageMask e.1 false; if k = 0 then m else mapPut resetWord m e.1 (e.2 &&& ~~~ k)) m) = true := by
    intro l
    induction l with
    | nil => intro m hm; exact hm
    | cons e l ih =>
      intro m hm
      refine ih _ ?_
      dsimp only
      split
      · exact hm
      · exact mapWf_put _ _ _ _ hm
  exact key _ _ hm

theorem sound_assign {r s : State} (h : Sound r s) : Sound r (State.assign s) := by
  unfold State.assign
  try dsimp only
  with_reducible
    repeat' first
      | assumption | intro _ | apply sound_ite | apply sound_each | apply sound_set | apply sound_setPool
      | apply sound_stopRotation | split

theorem sound_initLocals {r s : State} (h : Sound r s) : Sound r (State.initLocals s) := by
  unfold State.initLocals
  refine sound_initSub (sound_each ?_ _ _ fun x t ht => sound_initSeat ht _ _ _)
  exact SoundAt.locals h (fun _ => rfl)

theorem sound_clearCounts {r s : State} (h : Sound r s) : Sound r (State.clearCounts s) := by
  generalize hu : s.clearCounts = u
  unfold State.clearCounts at hu
  extract_lets t1 t2 t3 t4 t5 t6 t7 t8 t9 t10 at hu
  have h1 : Sound r t1 := sound_set (sound_wr (sound_wr (sound_wr h _ _) _ _) _ _) _ _
  clear_value t1
  have h2 : Sound r t2 := sound_wr h1 _ _
  clear_value t2
  have h3 : Sound r t3 := sound_each h2 _ _ fun n t ht => sound_setSd (sound_set (sound_set (sound_set ht _ _) _ _) _ _) _ _
  clear_value t3
  have h4 : Sound r t4 := sound_each h3 _ _ fun n t ht => sound_set ht _ _
  clear_value t4
  have h5 : Sound r t5 := sound_each h4 _ _ fun n t ht => sound_wr (sound_wr ht _ _) _ _
  clear_value t5
  have h6 : Sound r t6 := sound_each h5 _ _ fun n t ht => sound_set ht _ _
  clear_value t6
  have h7 : Sound r t7 := sound_when h6 _ _ fun t ht => sound_ev (sound_set ht _ _) _
  clear_value t7
  have h8 : Sound r t8 := sound_set (sound_set h7 _ _) _ _
  clear_value t8
  have h9 : Sound r t9 := sound_set (sound_each h8 _ _ fun n t ht => sound_set (sound_set ht _ _) _ _) _ _
  clear_value t9
  subst hu
  exact h9

theorem sound_legsActivate {r s : State} (h : Sound r s) : Sound r (State.legsActivate s) := by
  unfold State.legsActivate
  try dsimp only
  with_reducible
    repeat' first
      | assumption | intro _ | apply sound_ite | apply sound_each | apply sound_setLeg | apply sound_wr | apply sound_loadBand
      | split

theorem sound_drivesActivate {r s : State} (h : Sound r s) : Sound r (State.drivesActivate s) := by
  unfold State.drivesActivate
  try dsimp only
  with_reducible
    repeat' first
      | assumption | intro _ | apply sound_ite | apply sound_each | apply sound_set | apply sound_setDrive
      | apply sound_setDriveState | split

theorem sound_umpLegs {r s : State} (h : Sound r s) : Sound r (State.umpLegs s) := by
  unfold State.umpLegs
  try dsimp only
  with_reducible
    repeat' first
      | assumption | intro _ | apply sound_ite | split

theorem sound_placeCatches {r s : State} (h : Sound r s) (tick : ℕ) : Sound r (State.placeCatches s tick) := by
  unfold State.placeCatches
  try dsimp only
  with_reducible
    repeat' first
      | assumption | intro _ | apply sound_ite | apply sound_set | split

theorem sound_startRun {r s : State} (h : Sound r s) (tick : ℕ) : Sound r (State.startRun s tick) := by
  unfold State.startRun
  try dsimp only
  with_reducible
    repeat' first
      | assumption | intro _ | apply sound_ite | apply sound_clearCounts | apply sound_initLocals | apply sound_assign
      | apply sound_showLive | apply sound_clearImages | apply sound_placeCatches | apply sound_legsActivate
      | apply sound_images | apply sound_chainStart | apply sound_hbRebind | apply sound_bindAll | apply sound_loadThresholds
      | apply sound_drivesActivate | apply sound_injActivate | apply sound_posActivate | apply sound_planLast
      | apply sound_planEv | apply sound_umpLegs | split

theorem sound_closeRun {r s : State} (h : Sound r s) : Sound r (State.closeRun s) := by
  unfold State.closeRun
  try dsimp only
  with_reducible
    repeat' first
      | assumption | intro _ | apply sound_ite | apply sound_sarSkips | apply sound_closeCatch | split

theorem sound_activationEffect' {r s : State} (h : Sound r s) (tick : ℕ) : Sound r (activationEffect tick s) := by
  unfold activationEffect
  try dsimp only
  with_reducible
    repeat' first
      | assumption | intro _ | apply sound_ite | apply sound_onDie | apply sound_mbFinish | apply sound_startRun
      | apply sound_swapHalves | apply sound_closeRun | split

theorem sound_fabricReactivate' {r s : State} (h : Sound r s) (tick : ℕ) : Sound r (fabricReactivate tick s) := by
  unfold fabricReactivate
  try dsimp only
  with_reducible
    repeat' first
      | assumption | intro _ | apply sound_ite | apply sound_onDie | apply sound_startRun | apply sound_closeRun | split

theorem sound_switchCommit' {r s : State} (h : Sound r s) : Sound r (switchCommit s) := by
  unfold switchCommit
  try dsimp only
  with_reducible
    repeat' first
      | assumption | intro _ | apply sound_ite | apply sound_onDie | apply sound_dropSwitch | apply sound_setStage
      | apply sound_planRefuse | apply sound_set | apply sound_mbFinish | split

theorem sound_reslot {r s : State} (h : Sound r s) (old : ℕ) (new : ℕ) : Sound r (State.reslot s old new) := by
  unfold State.reslot
  try dsimp only
  with_reducible
    repeat' first
      | assumption | intro _ | apply sound_ite | apply sound_each | apply sound_when | apply sound_set | apply sound_clearSeat
      | apply sound_setPool | apply sound_ev | split

theorem sound_prologue {r s : State} (h : Sound r s) (old : ℕ) : Sound r (State.prologue s old) := by
  unfold State.prologue
  try dsimp only
  with_reducible
    repeat' first
      | assumption | intro _ | apply sound_ite | apply sound_each | apply sound_initSub | apply sound_initSeat | split

theorem sound_injSwitch {r s : State} (h : Sound r s) (p : PlanInfo) (q : PlanInfo) : Sound r (State.injSwitch s p q) := by
  unfold State.injSwitch
  try dsimp only
  with_reducible
    repeat' first
      | assumption | intro _ | apply sound_ite | apply sound_each | apply sound_when | apply sound_set | apply sound_genAbort
      | split

theorem sound_switchSwap {r s : State} (h : Sound r s) : Sound r (State.switchSwap s) := by
  unfold State.switchSwap
  try dsimp only
  with_reducible
    repeat' first
      | assumption | intro _ | apply sound_ite | apply sound_each | apply sound_sarSkips | apply sound_settleSeats
      | apply sound_set | apply sound_swapHalves | apply sound_injSwitch | apply sound_prologue | apply sound_showLive
      | apply sound_reslot | apply sound_modLeg | apply sound_hbRebind | apply sound_bindAll | apply sound_loadThresholds
      | apply sound_images | apply sound_posRestart | apply sound_planLast | apply sound_planEv | apply sound_mbFinish | split

theorem sound_switchSwap' {r s : State} (h : Sound r s) : Sound r (switchSwap s) := by
  unfold switchSwap
  try dsimp only
  with_reducible
    repeat' first
      | assumption | intro _ | apply sound_ite | apply sound_onDie | apply sound_switchSwap | split

theorem sound_putSram {r s : State} (h : Sound r s) (a : ℕ) (l : List Byte) : Sound r (State.putSram s a l) := by
  exact SoundAt.sram h (fun hm => mapWf_foldl _ _ _ _ _ hm)

theorem sound_loadStart {r s : State} (h : Sound r s) (src : ℕ) (len : ℕ) : Sound r (State.loadStart s src len).2 := by
  unfold State.loadStart
  try dsimp only
  with_reducible
    repeat' first
      | assumption | intro _ | apply sound_ite | apply sound_ite2 | split | exact Sound.snd (by assumption)

theorem sound_loadEnd {r s : State} (h : Sound r s) (code : ℕ) : Sound r (State.loadEnd s code) := by
  unfold State.loadEnd
  try dsimp only
  with_reducible
    repeat' first
      | assumption | intro _ | apply sound_ite | apply sound_mbFinish | split

theorem sound_flashReadDone' {r s : State} (h : Sound r s) (offset : ℕ) (bytes : List Byte) : Sound r (flashReadDone offset bytes s) := by
  unfold flashReadDone
  try dsimp only
  with_reducible
    repeat' first
      | assumption | intro _ | apply sound_ite | apply sound_onDie | apply sound_putSram | split

theorem sound_loadSramPhaseEnd' {r s : State} (h : Sound r s) (ecc : Bool) : Sound r (loadSramPhaseEnd ecc s) := by
  unfold loadSramPhaseEnd
  try dsimp only
  with_reducible
    repeat' first
      | assumption | intro _ | apply sound_ite | apply sound_onDie | apply sound_setStage | apply sound_loadEnd
      | apply sound_planEv | apply sound_set | split

theorem sound_loadCopyEnd' {r s : State} (h : Sound r s) : Sound r (loadCopyEnd s) := by
  unfold loadCopyEnd
  refine sound_onDie h _ fun t ht => sound_ite _ ?_ ht
  refine sound_setStage (sound_set (sound_each (sound_setHalf ht _ _ fun hr => mapWf_foldl _ _ _ _ _ ?_) _ _ fun x u hu => sound_wr hu _ _) _ _) _
  unfold State.half
  split
  · exact (ht.1 hr).2.2.1
  · exact (ht.1 hr).2.2.2.1

theorem sound_loadVerifyEnd' {r s : State} (h : Sound r s) (ecc : Bool) : Sound r (loadVerifyEnd ecc s) := by
  unfold loadVerifyEnd
  try dsimp only
  with_reducible
    repeat' first
      | assumption | intro _ | apply sound_ite | apply sound_onDie | apply sound_loadEnd | apply sound_planEv
      | apply sound_setStage | apply sound_stageFail | split

theorem sound_slotRevoked {r s : State} (h : Sound r s) (k : ℕ) : Sound r (State.slotRevoked s k) := by
  unfold State.slotRevoked
  try dsimp only
  with_reducible
    repeat' first
      | assumption | intro _ | apply sound_ite | apply sound_stageFail | split

theorem sound_bootStep {r s : State} (h : Sound r s) (k : ℕ) : Sound r (State.bootStep s k) := by
  unfold State.bootStep
  try dsimp only
  with_reducible
    repeat' first
      | assumption | intro _ | apply sound_ite | split

theorem sound_bootHalt {r s : State} (h : Sound r s) (code : Option ℕ) : Sound r (State.bootHalt s code) := by
  unfold State.bootHalt
  try dsimp only
  with_reducible
    repeat' first
      | assumption | intro _ | apply sound_ite | apply sound_bootStep | apply sound_set | split

theorem sound_logicTests {r s : State} (h : Sound r s) (l : List (Fin 8 × Word × ℕ)) (same : List ResetCause) (next : State → State) (hnext : ∀ x0, Sound r x0 → Sound r (next x0)) : Sound r (State.logicTests s l same next) := by
  unfold State.logicTests
  try dsimp only
  with_reducible
    repeat' first
      | assumption | intro _ | apply sound_ite | apply sound_each | apply sound_set | apply sound_causes | apply sound_beside
      | apply hnext | split

theorem sound_loadLatch {r s : State} (h : Sound r s) : Sound r (State.loadLatch s) := by
  unfold State.loadLatch
  try dsimp only
  with_reducible
    repeat' first
      | assumption | intro _ | apply sound_ite | apply sound_set | split

theorem sound_showIsland {r s : State} (h : Sound r s) : Sound r (State.showIsland s) := by
  unfold State.showIsland
  try dsimp only
  with_reducible
    repeat' first
      | assumption | intro _ | apply sound_ite | apply sound_ite2 | apply sound_each | apply sound_when | apply sound_onDie
      | apply sound_onUmp | apply sound_foldl | apply sound_set | split | exact Sound.snd (by assumption)

theorem sound_logicPassed {r s : State} (h : Sound r s) : Sound r (State.logicPassed s) := by
  unfold State.logicPassed
  try dsimp only
  with_reducible
    repeat' first
      | assumption | intro _ | apply sound_ite | apply sound_ite2 | apply sound_each | apply sound_when | apply sound_onDie
      | apply sound_onUmp | apply sound_foldl | apply sound_bootStep | apply sound_set | apply sound_loadLatch
      | apply sound_showIsland | split | exact Sound.snd (by assumption)

theorem sound_analogueFails {r s : State} (h : Sound r s) (sd : ℕ) (sar : ℕ) (sensors : ℕ) : Sound r (State.analogueFails s sd sar sensors) := by
  unfold State.analogueFails
  try dsimp only
  with_reducible
    repeat' first
      | assumption | intro _ | apply sound_ite | apply sound_each | apply sound_when | apply sound_set | apply sound_ev
      | split

theorem sound_memoryTest {r s : State} (h : Sound r s) (fuseErr : Bool) (m : MemTest) (ms : ℕ) : Sound r (State.memoryTest s fuseErr m ms) := by
  unfold State.memoryTest
  refine sound_ite _ (sound_bootHalt (sound_set h _ _) _) ?_
  have h0 : Sound r { s with sram := [], half0 := [], half1 := [], locals := [], caches := [], boot := { s.boot with soft := m.soft } } :=
    ⟨fun hr => ⟨(h.1 hr).1, rfl, rfl, rfl, rfl, rfl⟩, h.2⟩
  have h1 := sound_set (sound_set (sound_set h0 F.BIST_MEM_FUSED (min s.fuses.repairs.length 255)) F.BIST_MEM_SOFT (min m.soft.length 255))
    F.BIST_RESULT_REPAIRED (if m.soft.isEmpty then 0 else 1)
  have h2 := sound_when h1 (!m.seats.isEmpty)
    (fun t => (t.each m.seats (fun x t => t.clearFldBit F.FAB_SEATS_HEALTHY x)).set F.BIST_RESULT_SEAT_RETIRED 1)
    (fun t ht => sound_set (sound_each ht _ _ fun x u hu => sound_clearFldBit hu _ _) _ _)
  dsimp only
  split
  · exact sound_bootHalt (sound_set (sound_set (sound_set h2 _ _) _ _) _ _) _
  · exact sound_bootStep (sound_set h2 _ _) _

theorem sound_umpireFails {r s : State} (h : Sound r s) : Sound r (State.umpireFails s) := by
  unfold State.umpireFails
  try dsimp only
  with_reducible
    repeat' first
      | assumption | intro _ | apply sound_ite | apply sound_ctrToOpen | apply sound_set | split

theorem sound_bistPhaseEnd' {r s : State} (h : Sound r s) (e : BistEnd) (same : List ResetCause) : Sound r (bistPhaseEnd e same s) := by
  unfold bistPhaseEnd
  try dsimp only
  with_reducible
    repeat' first
      | assumption | intro _ | apply sound_ite | apply sound_ite2 | apply sound_each | apply sound_when | apply sound_onDie
      | apply sound_onUmp | apply sound_foldl | apply sound_beside | apply sound_set | apply sound_umpireFails
      | apply sound_gatePathFail | apply sound_memoryTest | apply sound_logicTests | apply sound_bootStep
      | apply sound_logicPassed | apply sound_analogueFails | split | exact Sound.snd (by assumption)

theorem sound_keygenDone' {r s : State} (h : Sound r s) (ok : Bool) : Sound r (keygenDone ok s) := by
  unfold keygenDone
  try dsimp only
  with_reducible
    repeat' first
      | assumption | intro _ | apply sound_ite | apply sound_each | apply sound_onDie | apply sound_wr | apply sound_set
      | split

theorem sound_applyUmpRecord {r s : State} (h : Sound r s) (o : List Byte) : Sound r (State.applyUmpRecord s o) := by
  unfold State.applyUmpRecord
  try dsimp only
  with_reducible
    repeat' first
      | assumption | intro _ | apply sound_ite | apply sound_each | apply sound_set | apply sound_umpConfig | split

theorem sound_putRws {r s : State} (h : Sound r s) (a : ℕ) (v : ℕ) : Sound r (State.putRws s a v) := by
  unfold State.putRws
  try dsimp only
  with_reducible
    repeat' first
      | assumption | intro _ | apply sound_ite | apply sound_refuse | apply sound_wr | split

theorem sound_applyIfRecord {r s : State} (h : Sound r s) (o : List Byte) : Sound r (State.applyIfRecord s o) := by
  unfold State.applyIfRecord
  try dsimp only
  with_reducible
    repeat' first
      | assumption | intro _ | apply sound_ite | apply sound_each | apply sound_set | apply sound_putRws | split

theorem sound_applyPairing {r s : State} (h : Sound r s) (o : List Byte) : Sound r (State.applyPairing s o) := by
  unfold State.applyPairing
  try dsimp only
  with_reducible
    repeat' first
      | assumption | intro _ | apply sound_ite | split

theorem sound_sealPage {r s : State} (h : Sound r s) (p : ℕ) : Sound r (State.sealPage p s) := by
  unfold State.sealPage
  try dsimp only
  with_reducible
    repeat' first
      | assumption | intro _ | apply sound_ite | apply sound_set | split

theorem sound_autoPlan {r s : State} (h : Sound r s) : Sound r (State.autoPlan s) := by
  unfold State.autoPlan
  try dsimp only
  with_reducible
    repeat' first
      | assumption | intro _ | apply sound_ite | apply sound_loadStart | split | exact Sound.snd (by assumption)

theorem sound_startFirmware {r s : State} (h : Sound r s) : Sound r (State.startFirmware s) := by
  unfold State.startFirmware
  try dsimp only
  with_reducible
    repeat' first
      | assumption | intro _ | apply sound_ite | apply sound_each | apply sound_when | apply sound_applyPairing
      | apply sound_applyIfRecord | apply sound_applyUmpRecord | apply sound_sealPage | apply sound_set | apply sound_fresh
      | apply sound_wr | apply sound_autoPlan | apply sound_mbSkip | apply sound_bootStep | split
      | exact Sound.snd (by assumption)

theorem sound_testsEnd {r s : State} (h : Sound r s) : Sound r (State.testsEnd s) := by
  unfold State.testsEnd
  try dsimp only
  with_reducible
    repeat' first
      | assumption | intro _ | apply sound_ite | apply sound_startFirmware | split

theorem sound_fwLoaded {r s : State} (h : Sound r s) (slot : ℕ) (image : List Byte) : Sound r (State.fwLoaded s slot image) := by
  unfold State.fwLoaded
  try dsimp only
  with_reducible
    repeat' first
      | assumption | intro _ | apply sound_ite | apply sound_each | apply sound_set | apply sound_putSram
      | apply sound_bootStep | apply sound_wr | split

theorem sound_fwSlotVerified' {r s : State} (h : Sound r s) (flash : List (ℕ × List Byte)) (ms : ℕ) : Sound r (fwSlotVerified flash ms s) := by
  unfold fwSlotVerified
  try dsimp only
  with_reducible
    repeat' first
      | assumption | intro _ | apply sound_ite | apply sound_onDie | apply sound_set | apply sound_bootHalt
      | apply sound_fwLoaded | apply sound_testsEnd | split

theorem sound_fuseEnd {r s : State} (h : Sound r s) (code : ℕ) : Sound r (State.fuseEnd s code) := by
  unfold State.fuseEnd
  try dsimp only
  with_reducible
    repeat' first
      | assumption | intro _ | apply sound_ite | apply sound_ev | apply sound_set | split

theorem sound_fuseGo {r s : State} (h : Sound r s) : Sound r (State.fuseGo s) := by
  unfold State.fuseGo
  try dsimp only
  with_reducible
    repeat' first
      | assumption | intro _ | apply sound_ite | apply sound_ev | apply sound_set | apply sound_fuseEnd | split

theorem sound_blow {r s : State} (h : Sound r s) (a : ℕ) (w : Word) : Sound r (State.blow s a w) := by
  unfold State.blow
  try dsimp only
  with_reducible
    repeat' first
      | assumption | intro _ | apply sound_ite | apply sound_wr | split

theorem sound_fuseBlow {r s : State} (h : Sound r s) (o : List Byte) : Sound r (State.fuseBlow s o) := by
  unfold State.fuseBlow
  try dsimp only
  with_reducible
    repeat' first
      | assumption | intro _ | apply sound_ite | apply sound_each | apply sound_blow | apply sound_slotRevoked
      | apply sound_set | split

theorem sound_secFcmdGo' {r s : State} (h : Sound r s) (m : Master) : Sound r (secFcmdGo m s) := by
  unfold secFcmdGo
  try dsimp only
  with_reducible
    repeat' first
      | assumption | intro _ | apply sound_ite | apply sound_onDie | apply sound_blockWrite | apply sound_fuseGo | split

theorem sound_fuseCommandDone' {r s : State} (h : Sound r s) (ok : Bool) : Sound r (fuseCommandDone ok s) := by
  unfold fuseCommandDone
  try dsimp only
  with_reducible
    repeat' first
      | assumption | intro _ | apply sound_ite | apply sound_onDie | apply sound_fuseBlow | apply sound_fuseEnd
      | apply sound_freshBool | split | exact Sound.snd (by assumption)

theorem sound_entryRequest {r s : State} (h : Sound r s) (e : ℕ) : Sound r (State.entryRequest s e) := by
  unfold State.entryRequest
  try dsimp only
  with_reducible
    repeat' first
      | assumption | intro _ | apply sound_ite | apply sound_set | apply sound_recheck | apply sound_overrides | split

theorem sound_debugAttach' {r s : State} (h : Sound r s) (x : Fin 2) : Sound r (debugAttach x s) := by
  unfold debugAttach
  try dsimp only
  with_reducible
    repeat' first
      | assumption | intro _ | apply sound_ite | apply sound_ev | apply sound_bump | apply sound_attach
      | apply sound_entryRequest | split

theorem sound_testenEntry' {r s : State} (h : Sound r s) : Sound r (testenEntry s) := by
  unfold testenEntry
  try dsimp only
  with_reducible
    repeat' first
      | assumption | intro _ | apply sound_ite | apply sound_onDie | apply sound_ev | apply sound_entryRequest | split

theorem sound_wipe {r s : State} (h : Sound r s) : Sound r (State.wipe s) := by
  unfold State.wipe
  generalize List.range 648 = l
  have h1 := sound_each h l (fun k t => t.wr (R.SEC_PK k) 0) fun x t ht => sound_wr ht _ _
  dsimp only
  generalize s.each l (fun k t => t.wr (R.SEC_PK k) 0) = t at h1 ⊢
  exact ⟨fun hr => ⟨(h1.1 hr).1, rfl, (h1.1 hr).2.2.1, (h1.1 hr).2.2.2.1, rfl, rfl⟩, h1.2⟩

theorem sound_wipeEnds {r s : State} (h : Sound r s) : Sound r (State.wipeEnds s) := by
  unfold State.wipeEnds
  try dsimp only
  with_reducible
    repeat' first
      | assumption | intro _ | apply sound_ite | apply sound_set | apply sound_wipe | split

theorem sound_wipePassed {r s : State} (h : Sound r s) (e : ℕ) : Sound r (State.wipePassed s e) := by
  unfold State.wipePassed
  try dsimp only
  with_reducible
    repeat' first
      | assumption | intro _ | apply sound_ite | apply sound_each | apply sound_set | apply sound_wr | apply sound_ev | split

theorem sound_repeatBoot {r s : State} (h : Sound r s) : Sound r (State.repeatBoot s) := by
  unfold State.repeatBoot
  try dsimp only
  with_reducible
    repeat' first
      | assumption | intro _ | apply sound_ite | apply sound_set | split

theorem sound_entryOpens {r s : State} (h : Sound r s) (e : ℕ) : Sound r (State.entryOpens s e) := by
  unfold State.entryOpens
  try dsimp only
  with_reducible
    repeat' first
      | assumption | intro _ | apply sound_ite | apply sound_bootStep | apply sound_repeatBoot | split

theorem sound_wipeDone' {r s : State} (h : Sound r s) (ok : Bool) : Sound r (wipeDone ok s) := by
  unfold wipeDone
  try dsimp only
  with_reducible
    repeat' first
      | assumption | intro _ | apply sound_ite | apply sound_onDie | apply sound_entryOpens | apply sound_wipePassed
      | apply sound_wipeEnds | apply sound_ev | split

theorem sound_loadVerifyAuto' {r s : State} (h : Sound r s) (ecc : Bool) : Sound r (loadVerifyAuto ecc s) := by
  unfold loadVerifyAuto
  try dsimp only
  with_reducible
    repeat' first
      | assumption | intro _ | apply sound_ite | apply sound_loadVerifyEnd' | apply sound_planActivate | split
      | exact Sound.snd (by assumption)

end Sys2Proof.Machine
end

