-- ==== Sys2Proof/Laws/Sound4.lean ====
section
/-! SUPPORT. One lemma `sound_<name>` per operation of the model, in the order of the model's files (part 4 of 4):
the operation keeps the maps' canonical form and the queue (Laws/Sound.lean). -/

namespace Sys2Proof.Machine
set_option linter.all false

variable {r s : State}

theorem sound_mbAbort {r s : State} (h : Sound r s) (c : ℕ) : Sound r (State.mbAbort s c) := by
  unfold State.mbAbort
  try dsimp only
  with_reducible
    repeat' first
      | assumption | intro _ | apply sound_ite | apply sound_setCal | apply sound_mbEnd | split

theorem sound_mbSubmit {r s : State} (h : Sound r s) (c : ℕ) (v : Word) : Sound r (State.mbSubmit s c v).2 := by
  unfold State.mbSubmit
  try dsimp only
  with_reducible
    repeat' first
      | assumption | intro _ | apply sound_ite | apply sound_ite2 | apply sound_mbAbort | apply sound_stopTest
      | apply sound_hostEvent | apply sound_setFldBit | apply sound_set | apply sound_wr | apply sound_mbResults
      | apply sound_mbSkip | split | exact Sound.snd (by assumption)

theorem sound_mbAbort' {r s : State} (h : Sound r s) (m : Master) (c : Fin 4) : Sound r (mbAbort m c s) := by
  unfold mbAbort
  try dsimp only
  with_reducible
    repeat' first
      | assumption | intro _ | apply sound_ite | apply sound_onDie | apply sound_blockWrite | apply sound_mbSubmit
      | apply sound_refuse | split | exact Sound.snd (by assumption)

theorem sound_mbTake {r s : State} (h : Sound r s) (c : Fin 4) (sv : ℕ) (act : State → State) (hact : ∀ x0, Sound r x0 → Sound r (act x0)) : Sound r (State.mbTake s c sv act) := by
  unfold State.mbTake
  try dsimp only
  with_reducible
    repeat' first
      | assumption | intro _ | apply sound_ite | apply sound_onDie | apply sound_mbSkip | apply sound_set | apply hact | split

theorem sound_cox0Write {r s : State} (h : Sound r s) (c : ℕ) (a : ℕ) (quiet : State → State) (act : State → State) (hquiet : ∀ x0, Sound r x0 → Sound r (quiet x0)) (hact : ∀ x0, Sound r x0 → Sound r (act x0)) : Sound r (State.cox0Write s c a quiet act) := by
  unfold State.cox0Write
  try dsimp only
  with_reducible
    repeat' first
      | assumption | intro _ | apply sound_ite | apply sound_refuse | apply sound_mbRefuse | apply hquiet | apply hact | split

theorem sound_cox0Access {r s : State} (h : Sound r s) (c : ℕ) (a : ℕ) (act : State → ℕ × State) (hact : ∀ x0, Sound r x0 → Sound r ((act x0).2)) : Sound r (State.cox0Access s c a act) := by
  unfold State.cox0Access
  try dsimp only
  with_reducible
    repeat' first
      | assumption | intro _ | apply sound_ite | apply sound_cox0Write | apply sound_mbEnd | apply sound_mbRefuse
      | apply sound_refuse | apply hact | split

theorem sound_info' {r s : State} (h : Sound r s) (c : Fin 4) : Sound r (info c s) := by
  unfold info
  try dsimp only
  with_reducible
    repeat' first
      | assumption | intro _ | apply sound_ite | apply sound_mbTake | apply sound_mbEnd | split

theorem sound_planLoad' {r s : State} (h : Sound r s) (c : Fin 4) : Sound r (planLoad c s) := by
  unfold planLoad
  refine sound_mbTake h _ _ _ fun t ht => sound_ite _ (sound_mbEnd ht _ _ _) ?_
  split
  · exact sound_mbEnd ht _ _ _
  · next heq => exact Sound.snd heq (sound_loadStart ht _ _)

theorem sound_planActivate' {r s : State} (h : Sound r s) (c : Fin 4) : Sound r (planActivate c s) := by
  unfold planActivate
  try dsimp only
  with_reducible
    repeat' first
      | assumption | intro _ | apply sound_ite | apply sound_ite2 | apply sound_each | apply sound_when | apply sound_onDie
      | apply sound_onUmp | apply sound_foldl | apply sound_mbTake | apply sound_cox0Write | apply sound_planActivate
      | apply sound_mbRefuse | (unfold id; assumption) | split | exact Sound.snd (by assumption)

theorem sound_planCancel' {r s : State} (h : Sound r s) (c : Fin 4) : Sound r (planCancel c s) := by
  unfold planCancel
  try dsimp only
  with_reducible
    repeat' first
      | assumption | intro _ | apply sound_ite | apply sound_mbTake | apply sound_cox0Write | apply sound_mbEnd
      | apply sound_planCancel | apply sound_mbRefuse | split | exact Sound.snd (by assumption)

theorem sound_mbExisting {r s : State} (h : Sound r s) (c : ℕ) (l : List ℕ) : Sound r (State.mbExisting s c l) := by
  unfold State.mbExisting
  try dsimp only
  with_reducible
    repeat' first
      | assumption | intro _ | apply sound_ite | apply sound_mbEnd | split

theorem sound_calFits {r s : State} (h : Sound r s) (u : ℕ) (log : ℕ) : Sound r (State.calFits s u log).2 := by
  unfold State.calFits
  try dsimp only
  with_reducible
    repeat' first
      | assumption | intro _ | apply sound_ite | apply sound_ite2 | apply sound_freshBool | split
      | exact Sound.snd (by assumption)

theorem sound_calibrate' {r s : State} (h : Sound r s) (c : Fin 4) : Sound r (calibrate c s) := by
  unfold calibrate
  try dsimp only
  with_reducible
    repeat' first
      | assumption | intro _ | apply sound_ite | apply sound_mbTake | apply sound_mbEnd | apply sound_mbExisting
      | apply sound_setCal | apply sound_calFits | apply sound_mbQueue | split | exact Sound.snd (by assumption)

theorem sound_addTest {r s : State} (h : Sound r s) (kind : ℕ) (u : ℕ) (c : ℕ) (phase : ℕ) : Sound r (State.addTest s kind u c phase) := by
  unfold State.addTest
  try dsimp only
  with_reducible
    repeat' first
      | assumption | intro _ | apply sound_ite | split

theorem sound_selftest' {r s : State} (h : Sound r s) (c : Fin 4) : Sound r (selftest c s) := by
  unfold selftest
  try dsimp only
  with_reducible
    repeat' first
      | assumption | intro _ | apply sound_ite | apply sound_mbTake | apply sound_mbEnd | apply sound_addTest
      | apply sound_mbQueue | split

theorem sound_selftestStart' {r s : State} (h : Sound r s) (c : Fin 4) : Sound r (selftestStart c s) := by
  unfold selftestStart
  try dsimp only
  with_reducible
    repeat' first
      | assumption | intro _ | apply sound_ite | apply sound_onDie | apply sound_dieReset | apply sound_mbResults
      | apply sound_set | split

theorem sound_selftestEnd' {r s : State} (h : Sound r s) (c : Fin 4) (loops : List Loopback) (refs : List SarRefs) (gates : List GateRead) (reads : List (List (BitVec 16))) : Sound r (selftestEnd c loops refs gates reads s) := by
  unfold selftestEnd
  try dsimp only
  with_reducible
    repeat' first
      | assumption | intro _ | apply sound_ite | apply sound_onDie | apply sound_analogueFails | apply sound_gatePathFail
      | apply sound_mbEnd | apply sound_ev | split

theorem sound_fsClear' {r s : State} (h : Sound r s) (c : Fin 4) : Sound r (fsClear c s) := by
  unfold fsClear
  try dsimp only
  with_reducible
    repeat' first
      | assumption | intro _ | apply sound_ite | apply sound_mbTake | apply sound_mbEnd | apply sound_cox0Access
      | apply sound_fsClear | split | exact Sound.snd (by assumption)

theorem sound_brkClear' {r s : State} (h : Sound r s) (c : Fin 4) : Sound r (brkClear c s) := by
  unfold brkClear
  try dsimp only
  with_reducible
    repeat' first
      | assumption | intro _ | apply sound_ite | apply sound_mbTake | apply sound_mbEnd | apply sound_cox0Access
      | apply sound_brkClear | split | exact Sound.snd (by assumption)

theorem sound_releaseDieStep {r s : State} (h : Sound r s) (c : ℕ) (u : ℕ) : Sound r (State.releaseDieStep s c u) := by
  unfold State.releaseDieStep
  try dsimp only
  with_reducible
    repeat' first
      | assumption | intro _ | apply sound_ite | apply sound_cox0Access | apply sound_protRelease | apply sound_mbEnd | split
      | exact Sound.snd (by assumption)

theorem sound_release' {r s : State} (h : Sound r s) (c : Fin 4) : Sound r (release c s) := by
  unfold release
  try dsimp only
  with_reducible
    repeat' first
      | assumption | intro _ | apply sound_ite | apply sound_mbTake | apply sound_mbEnd | apply sound_mbRefuse
      | apply sound_cox0Write | apply sound_releaseDieStep | apply sound_umpRelease | split | exact Sound.snd (by assumption)

theorem sound_discharge' {r s : State} (h : Sound r s) (c : Fin 4) : Sound r (discharge c s) := by
  unfold discharge
  try dsimp only
  with_reducible
    repeat' first
      | assumption | intro _ | apply sound_ite | apply sound_ite2 | apply sound_each | apply sound_when | apply sound_onDie
      | apply sound_onUmp | apply sound_foldl | apply sound_mbTake | apply sound_cox0Write | apply sound_dischargeStart
      | apply sound_mbRefuse | apply sound_mbEnd | apply sound_dischargeAbort | (unfold id; assumption) | split
      | exact Sound.snd (by assumption)

theorem sound_contactor' {r s : State} (h : Sound r s) (c : Fin 4) : Sound r (contactor c s) := by
  unfold contactor
  try dsimp only
  with_reducible
    repeat' first
      | assumption | intro _ | apply sound_ite | apply sound_ite2 | apply sound_each | apply sound_when | apply sound_onDie
      | apply sound_onUmp | apply sound_foldl | apply sound_mbTake | apply sound_mbEnd | apply sound_cox0Write
      | apply sound_ctrSettle | apply sound_ctrCommand | (unfold id; assumption) | split | exact Sound.snd (by assumption)

theorem sound_signStart {r s : State} (h : Sound r s) (chan : Option ℕ) (nonce : List Byte) : Sound r (State.signStart s chan nonce).2 := by
  unfold State.signStart
  try dsimp only
  with_reducible
    repeat' first
      | assumption | intro _ | apply sound_ite | apply sound_ite2 | split | exact Sound.snd (by assumption)

theorem sound_signEnd {r s : State} (h : Sound r s) (g : Signing) : Sound r (State.signEnd s g).2 := by
  unfold State.signEnd
  try dsimp only
  with_reducible
    repeat' first
      | assumption | intro _ | apply sound_ite | apply sound_ite2 | apply sound_putSram | split
      | exact Sound.snd (by assumption)

theorem sound_attest' {r s : State} (h : Sound r s) (c : Fin 4) : Sound r (attest c s) := by
  unfold attest
  try dsimp only
  with_reducible
    repeat' first
      | assumption | intro _ | apply sound_ite | apply sound_mbTake | apply sound_signStart | apply sound_mbRefuse | split
      | exact Sound.snd (by assumption)

theorem sound_pairing' {r s : State} (h : Sound r s) (c : Fin 4) : Sound r (pairing c s) := by
  unfold pairing
  try dsimp only
  with_reducible
    repeat' first
      | assumption | intro _ | apply sound_ite | apply sound_mbTake | apply sound_mbEnd | apply sound_mbRefuse | split

theorem sound_sendPiece {r s : State} (h : Sound r s) (x : Xfer) : Sound r (State.sendPiece s x) := by
  unfold State.sendPiece
  try dsimp only
  with_reducible
    repeat' first
      | assumption | intro _ | apply sound_ite | apply sound_sendTxn | split

theorem sound_xferStart {r s : State} (h : Sound r s) (x : Xfer) : Sound r (State.xferStart s x) := by
  unfold State.xferStart
  try dsimp only
  with_reducible
    repeat' first
      | assumption | intro _ | apply sound_ite | apply sound_sendPiece | split

theorem sound_startFail {r s : State} (h : Sound r s) (step : ℕ) (pos : ℕ) (detail : ℕ) : Sound r (State.startFail s step pos detail) := by
  unfold State.startFail
  try dsimp only
  with_reducible
    repeat' first
      | assumption | intro _ | apply sound_ite | apply sound_set | apply sound_ev | split

theorem sound_xferEnd {r s : State} (h : Sound r s) (pos : ℕ) (code : ℕ) : Sound r (State.xferEnd s pos code) := by
  unfold State.xferEnd
  try dsimp only
  with_reducible
    repeat' first
      | assumption | intro _ | apply sound_ite | apply sound_when | apply sound_set | apply sound_ev | apply sound_startFail
      | split

theorem sound_xferGo {r s : State} (h : Sound r s) (pos : ℕ) (len : ℕ) : Sound r (State.xferGo s pos len) := by
  unfold State.xferGo
  try dsimp only
  with_reducible
    repeat' first
      | assumption | intro _ | apply sound_ite | apply sound_set | apply sound_xferStart | split

theorem sound_cascXferWrite {r s : State} (h : Sound r s) (v : Word) : Sound r (State.cascXferWrite s v).2 := by
  unfold State.cascXferWrite
  try dsimp only
  with_reducible
    repeat' first
      | assumption | intro _ | apply sound_ite | apply sound_ite2 | apply sound_xferGo | split
      | exact Sound.snd (by assumption)

theorem sound_dropLocks {r s : State} (h : Sound r s) (owner : ℕ) : Sound r (State.dropLocks s owner) := by
  unfold State.dropLocks
  try dsimp only
  with_reducible
    repeat' first
      | assumption | intro _ | apply sound_ite | apply sound_each | apply sound_set | split

theorem sound_toStep4 {r s : State} (h : Sound r s) : Sound r (State.toStep4 s) := by
  unfold State.toStep4
  try dsimp only
  with_reducible
    repeat' first
      | assumption | intro _ | apply sound_ite | apply sound_each | apply sound_set | apply sound_dropLocks | apply sound_wr
      | split

theorem sound_cascRestart {r s : State} (h : Sound r s) : Sound r (State.cascRestart s).2 := by
  unfold State.cascRestart
  try dsimp only
  with_reducible
    repeat' first
      | assumption | intro _ | apply sound_ite | apply sound_ite2 | apply sound_freshBool | apply sound_sendCtl
      | apply sound_toStep4 | split | exact Sound.snd (by assumption)

theorem sound_fixRole {r s : State} (h : Sound r s) : Sound r (State.fixRole s) := by
  unfold State.fixRole
  try dsimp only
  with_reducible
    repeat' first
      | assumption | intro _ | apply sound_ite | apply sound_set | split

theorem sound_plainWrite {r s : State} (h : Sound r s) (a : ℕ) (v : Word) : Sound r (State.plainWrite s a v) := by
  unfold State.plainWrite
  try dsimp only
  with_reducible
    repeat' first
      | assumption | intro _ | apply sound_ite | apply sound_wr | split

theorem sound_pwmDisable {r s : State} (h : Sound r s) (p : ℕ) : Sound r (State.pwmDisable s p) := by
  unfold State.pwmDisable
  try dsimp only
  with_reducible
    repeat' first
      | assumption | intro _ | apply sound_ite | apply sound_each | apply sound_endGrant | apply sound_releaseUnit
      | apply sound_chopOff | split

theorem sound_pageCtrl {r s : State} (h : Sound r s) (p : ℕ) (v : Word) : Sound r (State.pageCtrl s p v).2 := by
  unfold State.pageCtrl
  try dsimp only
  with_reducible
    repeat' first
      | assumption | intro _ | apply sound_ite | apply sound_ite2 | apply sound_sealPage | apply sound_set
      | apply sound_pwmDisable | split | exact Sound.snd (by assumption)

theorem sound_pageLock {r s : State} (h : Sound r s) (m : Master) (p : ℕ) (lock : Bool) : Sound r (State.pageLock s m p lock) := by
  unfold State.pageLock
  try dsimp only
  with_reducible
    repeat' first
      | assumption | intro _ | apply sound_ite | apply sound_set | split

theorem sound_pageErrClear {r s : State} (h : Sound r s) (p : ℕ) : Sound r (State.pageErrClear s p) := by
  unfold State.pageErrClear
  try dsimp only
  with_reducible
    repeat' first
      | assumption | intro _ | apply sound_ite | apply sound_wr | split

theorem sound_canRecover {r s : State} (h : Sound r s) (i : ℕ) : Sound r (State.canRecover s i) := by
  unfold State.canRecover
  try dsimp only
  with_reducible
    repeat' first
      | assumption | intro _ | apply sound_ite | apply sound_modIf | split

theorem sound_headerWrite {r s : State} (h : Sound r s) (m : Master) (a : ℕ) (v : Word) : Sound r (State.headerWrite s m a v).2 := by
  unfold State.headerWrite
  try dsimp only
  with_reducible
    repeat' first
      | assumption | intro _ | apply sound_ite | apply sound_ite2 | apply sound_pageCtrl | apply sound_pageLock
      | apply sound_pageErrClear | apply sound_plainWrite | split | exact Sound.snd (by assumption)

theorem sound_pwmWrite {r s : State} (h : Sound r s) (a : ℕ) (v : Word) : Sound r (State.pwmWrite s a v).2 := by
  unfold State.pwmWrite
  try dsimp only
  with_reducible
    repeat' first
      | assumption | intro _ | apply sound_ite | apply sound_ite2 | apply sound_gateSet | apply sound_gateClear
      | apply sound_fsClear | apply sound_plainWrite | split | exact Sound.snd (by assumption)

theorem sound_protWrite {r s : State} (h : Sound r s) (a : ℕ) (v : Word) : Sound r (State.protWrite s a v).2 := by
  unfold State.protWrite
  try dsimp only
  with_reducible
    repeat' first
      | assumption | intro _ | apply sound_ite | apply sound_ite2 | apply sound_dischargeStart | apply sound_dischargeAbort
      | apply sound_protReq | apply sound_brkClear | apply sound_dropChoppers | apply sound_set | apply sound_protRelease
      | apply sound_plainWrite | split | exact Sound.snd (by assumption)

theorem sound_injWrite {r s : State} (h : Sound r s) (m : Master) (a : ℕ) (v : Word) : Sound r (State.injWrite s m a v).2 := by
  unfold State.injWrite
  try dsimp only
  with_reducible
    repeat' first
      | assumption | intro _ | apply sound_ite | apply sound_ite2 | apply sound_spCtrlWrite | apply sound_injStart
      | apply sound_injStop | apply sound_injAbort | apply sound_plainWrite | apply sound_injAmp | apply sound_capArm
      | apply sound_capStop | split | exact Sound.snd (by assumption)

theorem sound_umpWrite {r s : State} (h : Sound r s) (a : ℕ) (v : Word) : Sound r (State.umpWrite s a v).2 := by
  unfold State.umpWrite
  try dsimp only
  with_reducible
    repeat' first
      | assumption | intro _ | apply sound_ite | apply sound_ite2 | apply sound_ctrSettle | apply sound_ctrCommand
      | apply sound_umpRelease | apply sound_wdInTimeBy | apply sound_wdService | apply sound_umpConfig
      | apply sound_plainWrite | split | exact Sound.snd (by assumption)

theorem sound_mboxWrite {r s : State} (h : Sound r s) (a : ℕ) (v : Word) : Sound r (State.mboxWrite s a v).2 := by
  unfold State.mboxWrite
  try dsimp only
  with_reducible
    repeat' first
      | assumption | intro _ | apply sound_ite | apply sound_ite2 | apply sound_plainWrite | apply sound_mbSubmit
      | split | exact Sound.snd (by assumption)

theorem sound_regWrite {r s : State} (h : Sound r s) (m : Master) (a : ℕ) (v : Word) : Sound r (State.regWrite s m a v).2 := by
  unfold State.regWrite
  try dsimp only
  with_reducible
    repeat' first
      | assumption | intro _ | apply sound_ite | apply sound_ite2 | apply sound_headerWrite | apply sound_pwmWrite
      | apply sound_protWrite | apply sound_injWrite | apply sound_mboxWrite | apply sound_umpWrite | apply sound_causes
      | apply sound_plainWrite | apply sound_ofsWrite | apply sound_planCmd | apply sound_drvCmdWrite
      | apply sound_trqWriteAll | apply sound_canRecover | apply sound_cascXferWrite | apply sound_cascRestart
      | apply sound_fuseGo | apply sound_set | apply sound_wdHold | split | exact Sound.snd (by assumption)

theorem sound_busWrite {r s : State} (h : Sound r s) (m : Master) (a : ℕ) (v : Word) : Sound r (State.busWrite s m a v).2 := by
  unfold State.busWrite
  try dsimp only
  with_reducible
    repeat' first
      | assumption | intro _ | apply sound_ite | apply sound_ite2 | apply sound_refuse | apply sound_regWrite
      | apply sound_setSramWord | split | exact Sound.snd (by assumption)

theorem sound_readWord {r s : State} (h : Sound r s) (a : ℕ) : Sound r (State.readWord s a).2 := by
  unfold State.readWord
  try dsimp only
  with_reducible
    repeat' first
      | assumption | intro _ | apply sound_ite | apply sound_ite2 | apply sound_set | apply sound_fresh | apply sound_wr
      | split | exact Sound.snd (by assumption)

theorem sound_badWord {r s : State} (h : Sound r s) (a : ℕ) : Sound r (State.badWord s a).2 := by
  unfold State.badWord
  try dsimp only
  with_reducible
    repeat' first
      | assumption | intro _ | apply sound_ite | apply sound_ite2 | apply sound_ev | apply sound_wr | apply sound_bump
      | split | exact Sound.snd (by assumption)

theorem sound_storeRead {r s : State} (h : Sound r s) (stage : Bool) (w : Word) (err : Option MemErr) : Sound r (State.storeRead s stage w err).2 := by
  unfold State.storeRead
  try dsimp only
  with_reducible
    repeat' first
      | assumption | intro _ | apply sound_ite | apply sound_ite2 | apply sound_bump | apply sound_fresh
      | apply sound_uncorrStage | split | exact Sound.snd (by assumption)

theorem sound_busRead {r s : State} (h : Sound r s) (m : Master) (a : ℕ) (err : Option MemErr) : Sound r (State.busRead s m a err).2.2 := by
  unfold State.busRead
  try dsimp only
  with_reducible
    repeat' first
      | assumption | intro _ | apply sound_ite | apply sound_ite2 | apply sound_refuse | apply sound_readWord
      | apply sound_storeRead | apply sound_badWord | split | exact Sound.snd (by assumption)

theorem sound_setBeside {r s : State} (h : Sound r s) (a : ℕ) (same : Word) : Sound r (State.setBeside s a same) := by
  unfold State.setBeside
  try dsimp only
  with_reducible
    repeat' first
      | assumption | intro _ | apply sound_ite | apply sound_wr | split

theorem sound_registerWrite' {r s : State} (h : Sound r s) (m : Master) (size : AccessSize) (addr : Word) (v : Word) (same : Word) : Sound r (registerWrite m size addr v same s) := by
  unfold registerWrite
  try dsimp only
  with_reducible
    repeat' first
      | assumption | intro _ | apply sound_ite | apply sound_onDie | apply sound_busWrite | apply sound_refuse
      | apply sound_setBeside | split | exact Sound.snd (by assumption)

theorem sound_pageEnableClear' {r s : State} (h : Sound r s) (m : Master) (page : Fin 32) : Sound r (pageEnableClear m page s) := by
  unfold pageEnableClear
  try dsimp only
  with_reducible
    repeat' first
      | assumption | intro _ | apply sound_ite | apply sound_onDie | apply sound_busWrite | split
      | exact Sound.snd (by assumption)

theorem sound_blockIdle' {r s : State} (h : Sound r s) (page : Fin 32) : Sound r (blockIdle page s) := by
  unfold blockIdle
  try dsimp only
  with_reducible
    repeat' first
      | assumption | intro _ | apply sound_ite | apply sound_onDie | apply sound_set | split

theorem sound_pageSeal' {r s : State} (h : Sound r s) (m : Master) (page : Fin 32) : Sound r (pageSeal m page s) := by
  unfold pageSeal
  try dsimp only
  with_reducible
    repeat' first
      | assumption | intro _ | apply sound_ite | apply sound_onDie | apply sound_busWrite | split
      | exact Sound.snd (by assumption)

theorem sound_pageLockWrite' {r s : State} (h : Sound r s) (m : Master) (page : Fin 32) (lock : Bool) : Sound r (pageLockWrite m page lock s) := by
  unfold pageLockWrite
  try dsimp only
  with_reducible
    repeat' first
      | assumption | intro _ | apply sound_ite | apply sound_onDie | apply sound_busWrite | split
      | exact Sound.snd (by assumption)

theorem sound_pageErrClear' {r s : State} (h : Sound r s) (m : Master) (page : Fin 32) : Sound r (pageErrClear m page s) := by
  unfold pageErrClear
  try dsimp only
  with_reducible
    repeat' first
      | assumption | intro _ | apply sound_ite | apply sound_onDie | apply sound_busWrite | split
      | exact Sound.snd (by assumption)

theorem sound_canRecover' {r s : State} (h : Sound r s) (m : Master) (i : Fin 2) : Sound r (canRecover m i s) := by
  unfold canRecover
  try dsimp only
  with_reducible
    repeat' first
      | assumption | intro _ | apply sound_ite | apply sound_onDie | apply sound_busWrite | split
      | exact Sound.snd (by assumption)

theorem sound_drvTrqWrite' {r s : State} (h : Sound r s) (m : Master) (d : DriveIx) (v : Word) : Sound r (drvTrqWrite m d v s) := by
  unfold drvTrqWrite
  try dsimp only
  with_reducible
    repeat' first
      | assumption | intro _ | apply sound_ite | apply sound_onDie | apply sound_busWrite | split
      | exact Sound.snd (by assumption)

theorem sound_cascXfer' {r s : State} (h : Sound r s) (m : Master) (v : Word) : Sound r (cascXfer m v s) := by
  unfold cascXfer
  try dsimp only
  with_reducible
    repeat' first
      | assumption | intro _ | apply sound_ite | apply sound_onDie | apply sound_busWrite | split
      | exact Sound.snd (by assumption)

theorem sound_cascCmdRestart' {r s : State} (h : Sound r s) (m : Master) : Sound r (cascCmdRestart m s) := by
  unfold cascCmdRestart
  try dsimp only
  with_reducible
    repeat' first
      | assumption | intro _ | apply sound_ite | apply sound_onDie | apply sound_busWrite | split
      | exact Sound.snd (by assumption)

theorem sound_seatError {r s : State} (h : Sound r s) (r' : OpRec) (err : SeatErr) : Sound r (State.seatError s r' err) := by
  unfold State.seatError
  try dsimp only
  with_reducible
    repeat' first
      | assumption | intro _ | apply sound_ite | apply sound_seatFault | apply sound_uncorrLive | apply sound_bump | split

theorem sound_issue {r s : State} (h : Sound r s) (r' : OpRec) (err : SeatErr) (f : State → State) (hf : ∀ x0, Sound r x0 → Sound r (f x0)) : Sound r (State.issue s r' err f) := by
  unfold State.issue
  try dsimp only
  with_reducible
    repeat' first
      | assumption | intro _ | apply sound_ite | apply sound_seatError | apply sound_flushOwn | apply hf | split

theorem sound_xfer {r s : State} (h : Sound r s) (slot : ℕ) (n : ℕ) : Sound r (State.xfer s slot n) := by
  unfold State.xfer
  try dsimp only
  with_reducible
    repeat' first
      | assumption | intro _ | apply sound_ite | apply sound_set | split

theorem sound_putRef {r s : State} (h : Sound r s) (r' : OpRec) (ref : Fin 16384) (ws : List Word) : Sound r (State.putRef s r' ref ws) := by
  unfold State.putRef
  try dsimp only
  with_reducible
    repeat' first
      | assumption | intro _ | apply sound_ite | apply sound_xfer | split

theorem sound_raiseUnits {r s : State} (h : Sound r s) (us : List ℕ) (fl : ℕ) : Sound r (State.raiseUnits s us fl) := by
  unfold State.raiseUnits
  try dsimp only
  with_reducible
    repeat' first
      | assumption | intro _ | apply sound_ite | split

theorem sound_raise {r s : State} (h : Sound r s) (r' : OpRec) (fl : ℕ) : Sound r (State.raise s r' fl) := by
  unfold State.raise
  try dsimp only
  with_reducible
    repeat' first
      | assumption | intro _ | apply sound_ite | apply sound_raiseUnits | split

theorem sound_putInt {r s : State} (h : Sound r s) (r' : OpRec) (ref : Fin 16384) (wide : Bool) (v : ℤ) : Sound r (State.putInt s r' ref wide v) := by
  unfold State.putInt
  try dsimp only
  with_reducible
    repeat' first
      | assumption | intro _ | apply sound_ite | apply sound_raise | apply sound_putRef | split

theorem sound_putFl {r s : State} (h : Sound r s) (r' : OpRec) (ref : Fin 16384) (vs : List FV) (fl : ℕ) : Sound r (State.putFl s r' ref vs fl) := by
  unfold State.putFl
  try dsimp only
  with_reducible
    repeat' first
      | assumption | intro _ | apply sound_ite | apply sound_raise | apply sound_putRef | split

theorem sound_putState {r s : State} (h : Sound r s) (r' : OpRec) (ref : Fin 16384) (ws : List Word) (valid : Bool) (sat : Bool) : Sound r (State.putState s r' ref ws valid sat) := by
  unfold State.putState
  try dsimp only
  with_reducible
    repeat' first
      | assumption | intro _ | apply sound_ite | apply sound_putRef | split

theorem sound_consume {r s : State} (h : Sound r s) (r' : OpRec) (ref : Fin 16384) : Sound r (State.consume s r' ref).2 := by
  unfold State.consume
  try dsimp only
  with_reducible
    repeat' first
      | assumption | intro _ | apply sound_ite | apply sound_ite2 | apply sound_deadline | apply sound_xfer
      | split | exact Sound.snd (by assumption)

theorem sound_opLoadSmp {r s : State} (h : Sound r s) (r' : OpRec) : Sound r (State.opLoadSmp s r') := by
  unfold State.opLoadSmp
  try dsimp only
  with_reducible
    repeat' first
      | assumption | intro _ | apply sound_ite | apply sound_consume | apply sound_putFl | apply sound_raise
      | apply sound_putRef | split | exact Sound.snd (by assumption)

theorem sound_opBandSel {r s : State} (h : Sound r s) (r' : OpRec) : Sound r (State.opBandSel s r') := by
  unfold State.opBandSel
  try dsimp only
  with_reducible
    repeat' first
      | assumption | intro _ | apply sound_ite | apply sound_consume | apply sound_raise | apply sound_putRef
      | apply sound_putFl | split | exact Sound.snd (by assumption)

theorem sound_sendWords {r s : State} (h : Sound r s) (r' : OpRec) (ix : Fin 8192) (ws : List Word) : Sound r (State.sendWords s r' ix ws) := by
  unfold State.sendWords
  try dsimp only
  with_reducible
    repeat' first
      | assumption | intro _ | apply sound_ite | apply sound_sign | apply sound_xfer | split

theorem sound_seatWrite {r s : State} (h : Sound r s) (slot : ℕ) (a : ℕ) (act : State → State) (hact : ∀ x0, Sound r x0 → Sound r (act x0)) : Sound r (State.seatWrite s slot a act) := by
  unfold State.seatWrite
  try dsimp only
  with_reducible
    repeat' first
      | assumption | intro _ | apply sound_ite | apply sound_blockWrite | apply sound_keepWord | apply hact | split

theorem sound_slotCommit {r s : State} (h : Sound r s) (slot : ℕ) (page : ℕ) (legs : List ℕ) (per : Option ℕ) (atNs : ℕ) : Sound r (State.slotCommit s slot page legs per atNs) := by
  unfold State.slotCommit
  try dsimp only
  with_reducible
    repeat' first
      | assumption | intro _ | apply sound_ite | apply sound_each | apply sound_keep | apply sound_commit | split

theorem sound_opEmitPwm {r s : State} (h : Sound r s) (r' : OpRec) (ix : Fin 8192) (atNs : ℕ) : Sound r (State.opEmitPwm s r' ix atNs) := by
  unfold State.opEmitPwm
  try dsimp only
  with_reducible
    repeat' first
      | assumption | intro _ | apply sound_ite | apply sound_each | apply sound_sendWords | apply sound_raise
      | apply sound_seatWrite | apply sound_set | apply sound_slotCommit | split

theorem sound_opExch {r s : State} (h : Sound r s) (r' : OpRec) (ix : Fin 8192) : Sound r (State.opExch s r' ix) := by
  unfold State.opExch
  try dsimp only
  with_reducible
    repeat' first
      | assumption | intro _ | apply sound_ite | apply sound_when | apply sound_sendWords | split

theorem sound_keepCapture {r s : State} (h : Sound r s) (slot : ℕ) (c : ℕ) (n : ℕ) : Sound r (State.keepCapture s slot c n) := by
  unfold State.keepCapture
  try dsimp only
  with_reducible
    repeat' first
      | assumption | intro _ | apply sound_ite | apply sound_ite2 | apply sound_each | apply sound_when | apply sound_onDie
      | apply sound_onUmp | apply sound_foldl | apply sound_keepWord | split
      | exact Sound.snd (by assumption)

theorem sound_opCapture {r s : State} (h : Sound r s) (r' : OpRec) (ix : Fin 8192) : Sound r (State.opCapture s r' ix) := by
  unfold State.opCapture
  try dsimp only
  with_reducible
    repeat' first
      | assumption | intro _ | apply sound_ite | apply sound_sendWords | apply sound_capWrite | apply sound_keepCapture
      | split

theorem sound_opTrqEst {r s : State} (h : Sound r s) (r' : OpRec) : Sound r (State.opTrqEst s r') := by
  unfold State.opTrqEst
  try dsimp only
  with_reducible
    repeat' first
      | assumption | intro _ | apply sound_ite | apply sound_xfer | split

theorem sound_opInject {r s : State} (h : Sound r s) (r' : OpRec) (late : Bool) : Sound r (State.opInject s r' late) := by
  unfold State.opInject
  try dsimp only
  with_reducible
    repeat' first
      | assumption | intro _ | apply sound_ite | apply sound_setInput | apply sound_consume | apply sound_raise
      | apply sound_putRef | apply sound_putFl | split | exact Sound.snd (by assumption)

theorem sound_opCheck {r s : State} (h : Sound r s) (r' : OpRec) (ix : Fin 8192) : Sound r (State.opCheck s r' ix) := by
  unfold State.opCheck
  try dsimp only
  with_reducible
    repeat' first
      | assumption | intro _ | apply sound_ite | apply sound_sendWords | apply sound_raise | apply sound_putRef
      | apply sound_keep | split

theorem sound_opClarke3 {r s : State} (h : Sound r s) (r' : OpRec) : Sound r (State.opClarke3 s r') := by
  unfold State.opClarke3
  try dsimp only
  with_reducible
    repeat' first
      | assumption | intro _ | apply sound_ite | apply sound_putFl | split

theorem sound_opClarkeN {r s : State} (h : Sound r s) (r' : OpRec) : Sound r (State.opClarkeN s r') := by
  unfold State.opClarkeN
  try dsimp only
  with_reducible
    repeat' first
      | assumption | intro _ | apply sound_ite | apply sound_putFl | split

theorem sound_opPark {r s : State} (h : Sound r s) (r' : OpRec) : Sound r (State.opPark s r') := by
  unfold State.opPark
  try dsimp only
  with_reducible
    repeat' first
      | assumption | intro _ | apply sound_ite | apply sound_putFl | split

theorem sound_opIpark {r s : State} (h : Sound r s) (r' : OpRec) : Sound r (State.opIpark s r') := by
  unfold State.opIpark
  try dsimp only
  with_reducible
    repeat' first
      | assumption | intro _ | apply sound_ite | apply sound_putFl | split

theorem sound_opSincos {r s : State} (h : Sound r s) (r' : OpRec) : Sound r (State.opSincos s r') := by
  unfold State.opSincos
  try dsimp only
  with_reducible
    repeat' first
      | assumption | intro _ | apply sound_ite | apply sound_putRef | split

theorem sound_opSvm3 {r s : State} (h : Sound r s) (r' : OpRec) : Sound r (State.opSvm3 s r') := by
  unfold State.opSvm3
  try dsimp only
  with_reducible
    repeat' first
      | assumption | intro _ | apply sound_ite | apply sound_putFl | split

theorem sound_opSpwmN {r s : State} (h : Sound r s) (r' : OpRec) : Sound r (State.opSpwmN s r') := by
  unfold State.opSpwmN
  try dsimp only
  with_reducible
    repeat' first
      | assumption | intro _ | apply sound_ite | apply sound_putFl | split

theorem sound_opDeadcomp {r s : State} (h : Sound r s) (r' : OpRec) : Sound r (State.opDeadcomp s r') := by
  unfold State.opDeadcomp
  try dsimp only
  with_reducible
    repeat' first
      | assumption | intro _ | apply sound_ite | apply sound_putFl | split

theorem sound_opPi {r s : State} (h : Sound r s) (r' : OpRec) : Sound r (State.opPi s r') := by
  unfold State.opPi
  try dsimp only
  with_reducible
    repeat' first
      | assumption | intro _ | apply sound_ite | apply sound_putState | apply sound_putFl | split

theorem sound_opPidFd {r s : State} (h : Sound r s) (r' : OpRec) : Sound r (State.opPidFd s r') := by
  unfold State.opPidFd
  try dsimp only
  with_reducible
    repeat' first
      | assumption | intro _ | apply sound_ite | apply sound_putState | apply sound_putFl | split

theorem sound_opFfAdd {r s : State} (h : Sound r s) (r' : OpRec) : Sound r (State.opFfAdd s r') := by
  unfold State.opFfAdd
  try dsimp only
  with_reducible
    repeat' first
      | assumption | intro _ | apply sound_ite | apply sound_putFl | split

theorem sound_opLimit {r s : State} (h : Sound r s) (r' : OpRec) : Sound r (State.opLimit s r') := by
  unfold State.opLimit
  try dsimp only
  with_reducible
    repeat' first
      | assumption | intro _ | apply sound_ite | apply sound_putFl | apply sound_raise | apply sound_putRef | split

theorem sound_opRateLim {r s : State} (h : Sound r s) (r' : OpRec) : Sound r (State.opRateLim s r') := by
  unfold State.opRateLim
  try dsimp only
  with_reducible
    repeat' first
      | assumption | intro _ | apply sound_ite | apply sound_putState | apply sound_putFl | split

theorem sound_opVlimCirc {r s : State} (h : Sound r s) (r' : OpRec) : Sound r (State.opVlimCirc s r') := by
  unfold State.opVlimCirc
  try dsimp only
  with_reducible
    repeat' first
      | assumption | intro _ | apply sound_ite | apply sound_putFl | split

theorem sound_opLpf1 {r s : State} (h : Sound r s) (r' : OpRec) : Sound r (State.opLpf1 s r') := by
  unfold State.opLpf1
  try dsimp only
  with_reducible
    repeat' first
      | assumption | intro _ | apply sound_ite | apply sound_putState | apply sound_putFl | split

theorem sound_opNotch2 {r s : State} (h : Sound r s) (r' : OpRec) : Sound r (State.opNotch2 s r') := by
  unfold State.opNotch2
  try dsimp only
  with_reducible
    repeat' first
      | assumption | intro _ | apply sound_ite | apply sound_putState | apply sound_putFl | split

theorem sound_opLut1 {r s : State} (h : Sound r s) (r' : OpRec) : Sound r (State.opLut1 s r') := by
  unfold State.opLut1
  try dsimp only
  with_reducible
    repeat' first
      | assumption | intro _ | apply sound_ite | apply sound_putFl | split

theorem sound_opLut2 {r s : State} (h : Sound r s) (r' : OpRec) : Sound r (State.opLut2 s r') := by
  unfold State.opLut2
  try dsimp only
  with_reducible
    repeat' first
      | assumption | intro _ | apply sound_ite | apply sound_putFl | split

theorem sound_opMul {r s : State} (h : Sound r s) (r' : OpRec) : Sound r (State.opMul s r') := by
  unfold State.opMul
  try dsimp only
  with_reducible
    repeat' first
      | assumption | intro _ | apply sound_ite | apply sound_putFl | apply sound_putInt | split

theorem sound_opMac {r s : State} (h : Sound r s) (r' : OpRec) : Sound r (State.opMac s r') := by
  unfold State.opMac
  try dsimp only
  with_reducible
    repeat' first
      | assumption | intro _ | apply sound_ite | apply sound_putFl | apply sound_putInt | split

theorem sound_opAdd {r s : State} (h : Sound r s) (r' : OpRec) : Sound r (State.opAdd s r') := by
  unfold State.opAdd
  try dsimp only
  with_reducible
    repeat' first
      | assumption | intro _ | apply sound_ite | apply sound_putFl | apply sound_putRef | apply sound_putInt | split

theorem sound_opSub {r s : State} (h : Sound r s) (r' : OpRec) : Sound r (State.opSub s r') := by
  unfold State.opSub
  try dsimp only
  with_reducible
    repeat' first
      | assumption | intro _ | apply sound_ite | apply sound_putFl | apply sound_putRef | apply sound_putInt | split

theorem sound_opAbs {r s : State} (h : Sound r s) (r' : OpRec) : Sound r (State.opAbs s r') := by
  unfold State.opAbs
  try dsimp only
  with_reducible
    repeat' first
      | assumption | intro _ | apply sound_ite | apply sound_putFl | apply sound_putInt | split

theorem sound_opSat {r s : State} (h : Sound r s) (r' : OpRec) : Sound r (State.opSat s r') := by
  unfold State.opSat
  try dsimp only
  with_reducible
    repeat' first
      | assumption | intro _ | apply sound_ite | apply sound_putInt | apply sound_raise | apply sound_putRef
      | apply sound_putFl | split

theorem sound_opSqrt {r s : State} (h : Sound r s) (r' : OpRec) : Sound r (State.opSqrt s r') := by
  unfold State.opSqrt
  try dsimp only
  with_reducible
    repeat' first
      | assumption | intro _ | apply sound_ite | apply sound_putFl | split

theorem sound_opRecip {r s : State} (h : Sound r s) (r' : OpRec) : Sound r (State.opRecip s r') := by
  unfold State.opRecip
  try dsimp only
  with_reducible
    repeat' first
      | assumption | intro _ | apply sound_ite | apply sound_putFl | split

theorem sound_opAtan2 {r s : State} (h : Sound r s) (r' : OpRec) : Sound r (State.opAtan2 s r') := by
  unfold State.opAtan2
  try dsimp only
  with_reducible
    repeat' first
      | assumption | intro _ | apply sound_ite | apply sound_raise | apply sound_putRef | split

theorem sound_opCmp {r s : State} (h : Sound r s) (r' : OpRec) : Sound r (State.opCmp s r') := by
  unfold State.opCmp
  try dsimp only
  with_reducible
    repeat' first
      | assumption | intro _ | apply sound_ite | apply sound_raise | apply sound_putRef | split

theorem sound_opSel {r s : State} (h : Sound r s) (r' : OpRec) : Sound r (State.opSel s r') := by
  unfold State.opSel
  try dsimp only
  with_reducible
    repeat' first
      | assumption | intro _ | apply sound_ite | apply sound_putRef | split

theorem sound_opHold {r s : State} (h : Sound r s) (r' : OpRec) : Sound r (State.opHold s r') := by
  unfold State.opHold
  try dsimp only
  with_reducible
    repeat' first
      | assumption | intro _ | apply sound_ite | apply sound_putState | apply sound_putRef | split

theorem sound_opObsEmf {r s : State} (h : Sound r s) (r' : OpRec) : Sound r (State.opObsEmf s r') := by
  unfold State.opObsEmf
  try dsimp only
  with_reducible
    repeat' first
      | assumption | intro _ | apply sound_ite | apply sound_putFl | apply sound_putState | split

theorem sound_opPllTrk {r s : State} (h : Sound r s) (r' : OpRec) : Sound r (State.opPllTrk s r') := by
  unfold State.opPllTrk
  try dsimp only
  with_reducible
    repeat' first
      | assumption | intro _ | apply sound_ite | apply sound_raise | apply sound_putRef | apply sound_putState | split

theorem sound_opHfiDemod {r s : State} (h : Sound r s) (r' : OpRec) : Sound r (State.opHfiDemod s r') := by
  unfold State.opHfiDemod
  try dsimp only
  with_reducible
    repeat' first
      | assumption | intro _ | apply sound_ite | apply sound_putFl | apply sound_putState | split

theorem sound_opRslvDemod {r s : State} (h : Sound r s) (r' : OpRec) : Sound r (State.opRslvDemod s r') := by
  unfold State.opRslvDemod
  try dsimp only
  with_reducible
    repeat' first
      | assumption | intro _ | apply sound_ite | apply sound_putFl | apply sound_putState | split

theorem sound_opShare {r s : State} (h : Sound r s) (r' : OpRec) : Sound r (State.opShare s r') := by
  unfold State.opShare
  try dsimp only
  with_reducible
    repeat' first
      | assumption | intro _ | apply sound_ite | apply sound_putState | apply sound_putFl | split

theorem sound_pstatOut {r s : State} (h : Sound r s) (d : ℕ) : Sound r (State.pstatOut s d) := by
  unfold State.pstatOut
  try dsimp only
  with_reducible
    repeat' first
      | assumption | intro _ | apply sound_ite | apply sound_set | apply sound_modDrive | split

theorem sound_spFault {r s : State} (h : Sound r s) (d : ℕ) : Sound r (State.spFault s d) := by
  unfold State.spFault
  try dsimp only
  with_reducible
    repeat' first
      | assumption | intro _ | apply sound_ite | apply sound_relay | apply sound_easyDue | split

theorem sound_spStatOut {r s : State} (h : Sound r s) (old : Word) : Sound r (State.spStatOut s old) := by
  unfold State.spStatOut
  try dsimp only
  with_reducible
    repeat' first
      | assumption | intro _ | apply sound_ite | apply sound_each | apply sound_when | apply sound_ev | apply sound_auxStart
      | apply sound_easyAux | apply sound_spFault | split

theorem sound_regOutput {r s : State} (h : Sound r s) (a : ℕ) (w : Word) : Sound r (State.regOutput s a w) := by
  unfold State.regOutput
  try dsimp only
  with_reducible
    repeat' first
      | assumption | intro _ | apply sound_ite | apply sound_wr | apply sound_encAlign | apply sound_pstatOut
      | apply sound_spStatOut | split

theorem sound_opEmitReg {r s : State} (h : Sound r s) (r' : OpRec) (ix : Fin 8192) : Sound r (State.opEmitReg s r' ix) := by
  unfold State.opEmitReg
  try dsimp only
  with_reducible
    repeat' first
      | assumption | intro _ | apply sound_ite | apply sound_sendWords | apply sound_seatWrite | apply sound_regOutput
      | apply sound_busWrite | apply sound_keepWord | split | exact Sound.snd (by assumption)

theorem sound_frfPoint' {r s : State} (h : Sound r s) (g : Fin 2) (io : Fin 8) (frf : Fin 8) (k : Fin 32) : Sound r (frfPoint g io frf k s) := by
  unfold frfPoint
  try dsimp only
  with_reducible
    repeat' first
      | assumption | intro _ | apply sound_ite | apply sound_onDie | apply sound_capWrite | apply sound_raiseUnits | split

theorem sound_showBusy {r s : State} (h : Sound r s) (i : ℕ) : Sound r (State.showBusy s i) := by
  unfold State.showBusy
  try dsimp only
  with_reducible
    repeat' first
      | assumption | intro _ | apply sound_ite | apply sound_set | split

theorem sound_putOut {r s : State} (h : Sound r s) (i : ℕ) (f : List Byte) (fmt : ℕ) : Sound r (State.putOut s i f fmt) := by
  unfold State.putOut
  try dsimp only
  with_reducible
    repeat' first
      | assumption | intro _ | apply sound_ite | apply sound_modIf | split

theorem sound_noteStatus {r s : State} (h : Sound r s) (i : ℕ) (tag : ℕ) (status : ℕ) : Sound r (State.noteStatus s i tag status) := by
  unfold State.noteStatus
  try dsimp only
  with_reducible
    repeat' first
      | assumption | intro _ | apply sound_ite | apply sound_when | apply sound_set | apply sound_ev | apply sound_bump
      | split

theorem sound_respond {r s : State} (h : Sound r s) (i : ℕ) (f : List Byte) (fmt : ℕ) (status : ℕ) (err : ℕ) (payload : List Byte) : Sound r (State.respond s i f fmt status err payload) := by
  unfold State.respond
  try dsimp only
  with_reducible
    repeat' first
      | assumption | intro _ | apply sound_ite | apply sound_when | apply sound_noteStatus | apply sound_showBusy
      | apply sound_modIf | apply sound_putOut | split

theorem sound_frameErr {r s : State} (h : Sound r s) (i : ℕ) (f : List Byte) (fmt : ℕ) (status : ℕ) : Sound r (State.frameErr s i f fmt status) := by
  unfold State.frameErr
  try dsimp only
  with_reducible
    repeat' first
      | assumption | intro _ | apply sound_ite | apply sound_noteStatus | apply sound_bump | apply sound_ev
      | apply sound_putOut | split

theorem sound_noteDup {r s : State} (h : Sound r s) (i : ℕ) : Sound r (State.noteDup s i) := by
  unfold State.noteDup
  try dsimp only
  with_reducible
    repeat' first
      | assumption | intro _ | apply sound_ite | apply sound_ev | apply sound_bump | split

theorem sound_newRequest {r s : State} (h : Sound r s) (i : ℕ) (f : List Byte) (fmt : ℕ) : Sound r (State.newRequest s i f fmt) := by
  unfold State.newRequest
  try dsimp only
  with_reducible
    repeat' first
      | assumption | intro _ | apply sound_ite | apply sound_respond | apply sound_set | apply sound_showBusy
      | apply sound_modIf | split

theorem sound_hostFrame {r s : State} (h : Sound r s) (i : ℕ) (f : List Byte) (fmt : ℕ) : Sound r (State.hostFrame s i f fmt) := by
  unfold State.hostFrame
  try dsimp only
  with_reducible
    repeat' first
      | assumption | intro _ | apply sound_ite | apply sound_bump | apply sound_noteDup | apply sound_respond
      | apply sound_putOut | apply sound_newRequest | apply sound_frameErr | split

theorem sound_flushEvents {r s : State} (h : Sound r s) (i : ℕ) : Sound r (State.flushEvents s i) := by
  unfold State.flushEvents
  try dsimp only
  with_reducible
    repeat' first
      | assumption | intro _ | apply sound_ite | apply sound_each | apply sound_modIf | split

theorem sound_spiTransaction' {r s : State} (h : Sound r s) (mosi : List Byte) : Sound r (spiTransaction mosi s) := by
  unfold spiTransaction
  try dsimp only
  with_reducible
    repeat' first
      | assumption | intro _ | apply sound_ite | apply sound_when | apply sound_onDie | apply sound_flushEvents
      | apply sound_modIf | apply sound_bump | apply sound_hostFrame | split

theorem sound_segFail {r s : State} (h : Sound r s) (i : ℕ) (partial' : List Byte) (fmt : ℕ) : Sound r (State.segFail s i partial' fmt) := by
  unfold State.segFail
  try dsimp only
  with_reducible
    repeat' first
      | assumption | intro _ | apply sound_ite | apply sound_modIf | apply sound_ev | apply sound_bump | apply sound_frameErr
      | split

theorem sound_segJoin {r s : State} (h : Sound r s) (i : ℕ) (sofar : List Byte) (seg : List Byte) (fmt : ℕ) : Sound r (State.segJoin s i sofar seg fmt) := by
  unfold State.segJoin
  try dsimp only
  with_reducible
    repeat' first
      | assumption | intro _ | apply sound_ite | apply sound_hostFrame | apply sound_modIf | split

theorem sound_canState {r s : State} (h : Sound r s) (i : ℕ) : Sound r (State.canState s i) := by
  unfold State.canState
  try dsimp only
  with_reducible
    repeat' first
      | assumption | intro _ | apply sound_ite | apply sound_set | split

theorem sound_canRxError {r s : State} (h : Sound r s) (i : ℕ) (e : CanErr) : Sound r (State.canRxError s i e) := by
  unfold State.canRxError
  try dsimp only
  with_reducible
    repeat' first
      | assumption | intro _ | apply sound_ite | apply sound_canState | apply sound_set | split

theorem sound_canTxError {r s : State} (h : Sound r s) (i : ℕ) (e : CanErr) : Sound r (State.canTxError s i e) := by
  unfold State.canTxError
  try dsimp only
  with_reducible
    repeat' first
      | assumption | intro _ | apply sound_ite | apply sound_set | apply sound_canState | apply sound_modIf | apply sound_ev
      | split

theorem sound_canGood {r s : State} (h : Sound r s) (i : ℕ) : Sound r (State.canGood s i) := by
  unfold State.canGood
  try dsimp only
  with_reducible
    repeat' first
      | assumption | intro _ | apply sound_ite | apply sound_canState | apply sound_set | apply sound_fresh | split
      | exact Sound.snd (by assumption)

theorem sound_canSegment' {r s : State} (h : Sound r s) (c : Fin 2) (errs : List CanErr) (f : CanFrame) : Sound r (canSegment c errs f s) := by
  unfold canSegment
  try dsimp only
  with_reducible
    repeat' first
      | assumption | intro _ | apply sound_ite | apply sound_each | apply sound_onDie | apply sound_canGood
      | apply sound_canRxError | apply sound_bump | apply sound_segFail | apply sound_segJoin | split

theorem sound_segTimeout' {r s : State} (h : Sound r s) (c : Fin 2) : Sound r (segTimeout c s) := by
  unfold segTimeout
  try dsimp only
  with_reducible
    repeat' first
      | assumption | intro _ | apply sound_ite | apply sound_onDie | apply sound_modIf | apply sound_ev | apply sound_bump
      | apply sound_frameErr | split

theorem sound_canBusOff' {r s : State} (h : Sound r s) (c : Fin 2) : Sound r (canBusOff c s) := by
  unfold canBusOff
  try dsimp only
  with_reducible
    repeat' first
      | assumption | intro _ | apply sound_ite | apply sound_onDie | apply sound_fresh | apply sound_set | apply sound_modIf
      | apply sound_ev | split | exact Sound.snd (by assumption)

theorem sound_canBusOffRecovered' {r s : State} (h : Sound r s) (c : Fin 2) : Sound r (canBusOffRecovered c s) := by
  unfold canBusOffRecovered
  try dsimp only
  with_reducible
    repeat' first
      | assumption | intro _ | apply sound_ite | apply sound_onDie | apply sound_modIf | apply sound_set | split

theorem sound_padBytes {r s : State} (h : Sound r s) (a : ℕ) : Sound r (State.padBytes s a).2 := by
  induction a generalizing s with
  | zero => exact h
  | succ n ih =>
    unfold State.padBytes
    exact ih (sound_fresh h 8)

theorem sound_canFrame {r s : State} (h : Sound r s) (i : ℕ) (f : OutFrame) : Sound r (State.canFrame s i f).2 := by
  unfold State.canFrame
  try dsimp only
  with_reducible
    repeat' first
      | assumption | intro _ | apply sound_ite | apply sound_ite2 | apply sound_padBytes | split
      | exact Sound.snd (by assumption)

theorem sound_canFrameSent' {r s : State} (h : Sound r s) (c : Fin 2) (errs : List CanErr) : Sound r (canFrameSent c errs s) := by
  unfold canFrameSent
  try dsimp only
  with_reducible
    repeat' first
      | assumption | intro _ | apply sound_ite | apply sound_each | apply sound_onDie | apply sound_canTxError
      | apply sound_canFrame | apply sound_modIf | apply sound_canState | apply sound_set | apply sound_flushEvents | split
      | exact Sound.snd (by assumption)

theorem sound_hostTake {r s : State} (h : Sound r s) (i : ℕ) (op : ℕ) (rootOk : List Byte → Bool) (act : List Byte → ℕ → State → State) (hact : ∀ x0 x1 x2, Sound r x2 → Sound r (act x0 x1 x2)) : Sound r (State.hostTake s i op rootOk act) := by
  unfold State.hostTake
  try dsimp only
  with_reducible
    repeat' first
      | assumption | intro _ | apply sound_ite | apply sound_onDie | apply sound_respond | apply hact | split

theorem sound_readLoop' {r s : State} (h : Sound r s) (m : Master) (bad : List (Nat × MemErr)) (n k a : Nat) (acc : List Word) : Sound r (readLoop m bad n k a acc s).2 := by
  induction n generalizing k acc s with
  | zero => exact h
  | succ n ih =>
    unfold readLoop
    dsimp only
    refine sound_ite2 _ (ih (sound_busRead h _ _ _) _ _) (sound_busRead h _ _ _)

theorem sound_writeLoop' {r s : State} (h : Sound r s) (m : Master) (ws : List Word) (k a : Nat) : Sound r (writeLoop m ws k a s).2 := by
  induction ws generalizing k s with
  | nil => exact h
  | cons w ws ih =>
    unfold writeLoop
    dsimp only
    refine sound_ite2 _ (ih (sound_busWrite h _ _ _) _) (sound_busWrite h _ _ _)

theorem sound_hostRead' {r s : State} (h : Sound r s) (i : Fin 3) (bad : List (ℕ × MemErr)) : Sound r (hostRead i bad s) := by
  unfold hostRead
  try dsimp only
  with_reducible
    repeat' first
      | assumption | intro _ | apply sound_ite | apply sound_ite2 | apply sound_each | apply sound_when | apply sound_onDie
      | apply sound_onUmp | apply sound_foldl | apply sound_hostTake | apply sound_readLoop' | apply sound_respond
      | split | exact Sound.snd (by assumption)

theorem sound_hostWrite' {r s : State} (h : Sound r s) (i : Fin 3) : Sound r (hostWrite i s) := by
  unfold hostWrite
  try dsimp only
  with_reducible
    repeat' first
      | assumption | intro _ | apply sound_ite | apply sound_hostTake | apply sound_writeLoop' | apply sound_respond | split
      | exact Sound.snd (by assumption)

theorem sound_hbExpire {r s : State} (h : Sound r s) (nowUs : ℕ) : Sound r (State.hbExpire s nowUs) := by
  unfold State.hbExpire
  try dsimp only
  with_reducible
    repeat' first
      | assumption | intro _ | apply sound_ite | apply sound_each | apply sound_modIf | split

theorem sound_renew {r s : State} (h : Sound r s) (i : ℕ) (counter : ℕ) (atUs : ℕ) : Sound r (State.renew s i counter atUs) := by
  unfold State.renew
  try dsimp only
  with_reducible
    repeat' first
      | assumption | intro _ | apply sound_ite | apply sound_when | apply sound_bump | apply sound_modIf | apply sound_set
      | apply sound_hbExpire | split

theorem sound_heartbeat' {r s : State} (h : Sound r s) (i : Fin 3) (atUs : ℕ) : Sound r (heartbeat i atUs s) := by
  unfold heartbeat
  try dsimp only
  with_reducible
    repeat' first
      | assumption | intro _ | apply sound_ite | apply sound_hostTake | apply sound_renew | apply sound_respond | split

theorem sound_reportDropped {r s : State} (h : Sound r s) (i : ℕ) : Sound r (State.reportDropped s i) := by
  unfold State.reportDropped
  try dsimp only
  with_reducible
    repeat' first
      | assumption | intro _ | apply sound_ite | apply sound_setIf | apply sound_raiseOn | split

theorem sound_sync' {r s : State} (h : Sound r s) (i : Fin 3) : Sound r (sync i s) := by
  unfold sync
  try dsimp only
  with_reducible
    repeat' first
      | assumption | intro _ | apply sound_ite | apply sound_hostTake | apply sound_modIf | apply sound_dropLocks
      | apply sound_set | apply sound_evPend | apply sound_reportDropped | apply sound_respond | split

theorem sound_eventAck' {r s : State} (h : Sound r s) (i : Fin 3) : Sound r (eventAck i s) := by
  unfold eventAck
  try dsimp only
  with_reducible
    repeat' first
      | assumption | intro _ | apply sound_ite | apply sound_hostTake | apply sound_evPend | apply sound_modIf
      | apply sound_reportDropped | apply sound_respond | split

theorem sound_eventResend' {r s : State} (h : Sound r s) (i : Fin 3) (tag : Fin 128) : Sound r (eventResend i tag s) := by
  unfold eventResend
  try dsimp only
  with_reducible
    repeat' first
      | assumption | intro _ | apply sound_ite | apply sound_onDie | apply sound_modIf | split

theorem sound_heartbeatLoss' {r s : State} (h : Sound r s) (nowUs : ℕ) : Sound r (heartbeatLoss nowUs s) := by
  unfold heartbeatLoss
  try dsimp only
  with_reducible
    repeat' first
      | assumption | intro _ | apply sound_ite | apply sound_each | apply sound_when | apply sound_onDie
      | apply sound_hbExpire | apply sound_modIf | apply sound_dropLocks | apply sound_ev | apply sound_hostEvent
      | apply sound_easyAll | apply sound_genAbort | split

theorem sound_gateReadbackMismatch' {r s : State} (h : Sound r s) (ball : Fin 52) (line : Bool) (level : Bool) : Sound r (gateReadbackMismatch ball line level s) := by
  unfold gateReadbackMismatch
  try dsimp only
  with_reducible
    repeat' first
      | assumption | intro _ | apply sound_ite | apply sound_onUmp | apply sound_gatePathFail | split

theorem sound_roundDiv {r s : State} (h : Sound r s) (num : ℤ) (den : ℕ) : Sound r (State.roundDiv s num den).2 := by
  unfold State.roundDiv
  try dsimp only
  with_reducible
    repeat' first
      | assumption | intro _ | apply sound_ite | apply sound_ite2 | apply sound_freshBool | split
      | exact Sound.snd (by assumption)

theorem sound_takeSet {r s : State} (h : Sound r s) (l : List Byte) (check : BitVec 8) (act : State → State) (hact : ∀ x0, Sound r x0 → Sound r (act x0)) : Sound r (State.takeSet s l check act) := by
  unfold State.takeSet
  try dsimp only
  with_reducible
    repeat' first
      | assumption | intro _ | apply sound_ite | apply sound_onDie | apply hact | split

theorem sound_ls' {r s : State} (h : Sound r s) (r' : Fin 2) (status : BitVec 8) (pos : BitVec 8) (check : BitVec 8) (fines : List (BitVec 14)) : Sound r (ls r' status pos check fines s) := by
  unfold ls
  try dsimp only
  with_reducible
    repeat' first
      | assumption | intro _ | apply sound_ite | apply sound_takeSet | apply sound_set | apply sound_refLost | split

theorem sound_characterLock' {r s : State} (h : Sound r s) (r' : Fin 2) (offset : ℤ) (same : Bool) : Sound r (characterLock r' offset same s) := by
  unfold characterLock
  try dsimp only
  with_reducible
    repeat' first
      | assumption | intro _ | apply sound_ite | apply sound_onDie | apply sound_set | apply sound_laneLock
      | apply sound_fresh | split | exact Sound.snd (by assumption)

theorem sound_laneDown' {r s : State} (h : Sound r s) (r' : Fin 2) (chars : List Bool) (lost : Bool) (fines : List (BitVec 14)) : Sound r (laneDown r' chars lost fines s) := by
  unfold laneDown
  try dsimp only
  with_reducible
    repeat' first
      | assumption | intro _ | apply sound_ite | apply sound_when | apply sound_onDie | apply sound_bump | apply sound_set
      | apply sound_ev | apply sound_laneUnlock | split

theorem sound_badFrame {r s : State} (h : Sound r s) (r' : ℕ) : Sound r (State.badFrame s r') := by
  unfold State.badFrame
  try dsimp only
  with_reducible
    repeat' first
      | assumption | intro _ | apply sound_ite | apply sound_ev | apply sound_bump | split

theorem sound_linkAbort' {r s : State} (h : Sound r s) (r' : Fin 2) : Sound r (linkAbort r' s) := by
  unfold linkAbort
  try dsimp only
  with_reducible
    repeat' first
      | assumption | intro _ | apply sound_ite | apply sound_onDie | apply sound_badFrame | split

theorem sound_forward {r s : State} (h : Sound r s) (h' : RingHdr) : Sound r (State.forward s h') := by
  unfold State.forward
  try dsimp only
  with_reducible
    repeat' first
      | assumption | intro _ | apply sound_ite | split

theorem sound_takeFrame {r s : State} (h : Sound r s) (h' : RingHdr) (typ : ℕ) (b3 : ℕ) (addr : ℕ) (payload : List Byte) (act : State → State) (hact : ∀ x0, Sound r x0 → Sound r (act x0)) : Sound r (State.takeFrame s h' typ b3 addr payload act) := by
  unfold State.takeFrame
  try dsimp only
  with_reducible
    repeat' first
      | assumption | intro _ | apply sound_ite | apply sound_onDie | apply sound_forward | apply sound_badFrame | apply hact
      | split

theorem sound_ssn' {r s : State} (h : Sound r s) (pos : Fin 8) (reason : BitVec 8) (check : BitVec 8) : Sound r (ssn pos reason check s) := by
  unfold ssn
  try dsimp only
  with_reducible
    repeat' first
      | assumption | intro _ | apply sound_ite | apply sound_each | apply sound_takeSet | apply sound_ev | apply sound_set
      | apply sound_protReq | split

theorem sound_rev' {r s : State} (h : Sound r s) (bits : BitVec 8) (pos : Fin 8) (check : BitVec 8) : Sound r (rev bits pos check s) := by
  unfold rev
  try dsimp only
  with_reducible
    repeat' first
      | assumption | intro _ | apply sound_ite | apply sound_takeSet | split

theorem sound_dly' {r s : State} (h : Sound r s) (r' : Fin 2) (round : BitVec 8) (check : BitVec 8) (arrival : ℕ) : Sound r (dly r' round check arrival s) := by
  unfold dly
  try dsimp only
  with_reducible
    repeat' first
      | assumption | intro _ | apply sound_ite | apply sound_takeSet | split

theorem sound_alignLost {r s : State} (h : Sound r s) : Sound r (State.alignLost s) := by
  unfold State.alignLost
  try dsimp only
  with_reducible
    repeat' first
      | assumption | intro _ | apply sound_ite | apply sound_ssn | apply sound_ev | apply sound_set | split

theorem sound_alignError {r s : State} (h : Sound r s) (e : ℤ) : Sound r (State.alignError s e) := by
  unfold State.alignError
  try dsimp only
  with_reducible
    repeat' first
      | assumption | intro _ | apply sound_ite | apply sound_iset | apply sound_set | apply sound_alignLost | split

theorem sound_cm' {r s : State} (h : Sound r s) (r' : Fin 2) (bits : BitVec 24) (flags : BitVec 8) (check : BitVec 8) (arrival : ℕ) : Sound r (cm r' bits flags check arrival s) := by
  unfold cm
  try dsimp only
  with_reducible
    repeat' first
      | assumption | intro _ | apply sound_ite | apply sound_takeSet | apply sound_set | apply sound_ssn | apply sound_ev
      | apply sound_alignError | split

theorem sound_exchFrame' {r s : State} (h : Sound r s) (h' : RingHdr) (ch : Fin 16) (num : Word) (words : List Word) : Sound r (exchFrame h' ch num words s) := by
  unfold exchFrame
  try dsimp only
  with_reducible
    repeat' first
      | assumption | intro _ | apply sound_ite | apply sound_each | apply sound_when | apply sound_takeFrame
      | apply sound_datum | split

theorem sound_sig' {r s : State} (h : Sound r s) (h' : RingHdr) (num : BitVec 48) (dig : List Byte) (wsig : Word) (flags : Word) : Sound r (sig h' num dig wsig flags s) := by
  unfold sig
  try dsimp only
  with_reducible
    repeat' first
      | assumption | intro _ | apply sound_ite | apply sound_takeFrame | apply sound_setFldBit | apply sound_easyAll | split

theorem sound_keepAnswer {r s : State} (h : Sound r s) (h' : RingHdr) (req : List Byte) (ans : List Byte) : Sound r (State.keepAnswer s h' req ans) := by
  unfold State.keepAnswer
  try dsimp only
  with_reducible
    repeat' first
      | assumption | intro _ | apply sound_ite | split

theorem sound_ringRequest {r s : State} (h : Sound r s) (h' : RingHdr) (typ : ℕ) (addr : ℕ) (body : List Byte) (act : List Byte → State → State) (hact : ∀ x0 x1, Sound r x1 → Sound r (act x0 x1)) : Sound r (State.ringRequest s h' typ addr body act) := by
  unfold State.ringRequest
  try dsimp only
  with_reducible
    repeat' first
      | assumption | intro _ | apply sound_ite | apply sound_takeFrame | apply hact | split

theorem sound_answerRsp {r s : State} (h : Sound r s) (h' : RingHdr) (req : List Byte) (status : ℕ) (err : ℕ) (data : List Byte) : Sound r (State.answerRsp s h' req status err data) := by
  unfold State.answerRsp
  try dsimp only
  with_reducible
    repeat' first
      | assumption | intro _ | apply sound_ite | apply sound_keepAnswer | split

theorem sound_rdTxn' {r s : State} (h : Sound r s) (h' : RingHdr) (addr : Word) (count : BitVec 16) (bad : List (ℕ × MemErr)) : Sound r (rdTxn h' addr count bad s) := by
  unfold rdTxn
  try dsimp only
  with_reducible
    repeat' first
      | assumption | intro _ | apply sound_ite | apply sound_ringRequest | apply sound_readLoop' | apply sound_answerRsp
      | split | exact Sound.snd (by assumption)

theorem sound_wrTxn' {r s : State} (h : Sound r s) (h' : RingHdr) (addr : Word) (words : List Word) : Sound r (wrTxn h' addr words s) := by
  unfold wrTxn
  try dsimp only
  with_reducible
    repeat' first
      | assumption | intro _ | apply sound_ite | apply sound_ringRequest | apply sound_writeLoop' | apply sound_answerRsp
      | split | exact Sound.snd (by assumption)

theorem sound_answerCtl {r s : State} (h : Sound r s) (h' : RingHdr) (req : List Byte) (code : ℕ) (status : ℕ) (body : List Byte) : Sound r (State.answerCtl s h' req code status body) := by
  unfold State.answerCtl
  try dsimp only
  with_reducible
    repeat' first
      | assumption | intro _ | apply sound_ite | apply sound_keepAnswer | split

theorem sound_ctl {r s : State} (h : Sound r s) (h' : RingHdr) (code : ℕ) (body : List Byte) (odd : Option CtlOdd) (lenOk : Bool) (act : State → (ℕ × List Byte) × State) (hact : ∀ x0, Sound r x0 → Sound r ((act x0).2)) : Sound r (State.ctl s h' code body odd lenOk act) := by
  unfold State.ctl
  try dsimp only
  with_reducible
    repeat' first
      | assumption | intro _ | apply sound_ite | apply sound_ringRequest | apply sound_answerCtl | apply hact | split

theorem sound_enum' {r s : State} (h : Sound r s) (h' : RingHdr) (ring : Fin 2) (odd : Option CtlOdd) : Sound r (enum h' ring odd s) := by
  unfold enum
  try dsimp only
  with_reducible
    repeat' first
      | assumption | intro _ | apply sound_ite | apply sound_when | apply sound_takeFrame | apply sound_startFail
      | apply sound_ctl | apply sound_wr | apply sound_set | split

theorem sound_loop' {r s : State} (h : Sound r s) (h' : RingHdr) (l : Word) (odd : Option CtlOdd) : Sound r (loop h' l odd s) := by
  unfold loop
  try dsimp only
  with_reducible
    repeat' first
      | assumption | intro _ | apply sound_ite | apply sound_ctl | apply sound_roundDiv | apply sound_iset | split
      | exact Sound.snd (by assumption)

theorem sound_nonce' {r s : State} (h : Sound r s) (h' : RingHdr) (nonce' : List Byte) : Sound r (nonce h' nonce' s) := by
  unfold nonce
  try dsimp only
  with_reducible
    repeat' first
      | assumption | intro _ | apply sound_ite | apply sound_ringRequest | apply sound_answerCtl | apply sound_signStart
      | split | exact Sound.snd (by assumption)

theorem sound_getNonce' {r s : State} (h : Sound r s) (h' : RingHdr) (odd : Option CtlOdd) : Sound r (getNonce h' odd s) := by
  unfold getNonce
  try dsimp only
  with_reducible
    repeat' first
      | assumption | intro _ | apply sound_ite | apply sound_ctl | apply sound_fresh | split | exact Sound.snd (by assumption)

theorem sound_verifyStroke' {r s : State} (h : Sound r s) (h' : RingHdr) (len : Word) (nonces : List (List Byte)) : Sound r (verifyStroke h' len nonces s) := by
  unfold verifyStroke
  try dsimp only
  with_reducible
    repeat' first
      | assumption | intro _ | apply sound_ite | apply sound_ctl | apply sound_wr | apply sound_startFail | split

theorem sound_align' {r s : State} (h : Sound r s) (h' : RingHdr) (num : BitVec 48) (odd : Option CtlOdd) : Sound r (align h' num odd s) := by
  unfold align
  try dsimp only
  with_reducible
    repeat' first
      | assumption | intro _ | apply sound_ite | apply sound_ctl | split

theorem sound_readyQ' {r s : State} (h : Sound r s) (h' : RingHdr) (odd : Option CtlOdd) : Sound r (readyQ h' odd s) := by
  unfold readyQ
  try dsimp only
  with_reducible
    repeat' first
      | assumption | intro _ | apply sound_ite | apply sound_ctl | split

theorem sound_driveMsg' {r s : State} (h : Sound r s) (h' : RingHdr) (unit : BitVec 8) (action : BitVec 8) (num : BitVec 48) (d0 : Word) (d1 : Word) (d2 : Word) (odd : Option CtlOdd) : Sound r (driveMsg h' unit action num d0 d1 d2 odd s) := by
  unfold driveMsg
  try dsimp only
  with_reducible
    repeat' first
      | assumption | intro _ | apply sound_ite | apply sound_ctl | split

theorem sound_prepare' {r s : State} (h : Sound r s) (h' : RingHdr) (num : BitVec 48) (old : List (List Byte)) (new : List (List Byte)) : Sound r (prepare h' num old new s) := by
  unfold prepare
  try dsimp only
  with_reducible
    repeat' first
      | assumption | intro _ | apply sound_ite | apply sound_ctl | apply sound_planArm | split
      | exact Sound.snd (by assumption)

theorem sound_go' {r s : State} (h : Sound r s) (h' : RingHdr) (num : BitVec 48) (odd : Option CtlOdd) : Sound r (go h' num odd s) := by
  unfold go
  try dsimp only
  with_reducible
    repeat' first
      | assumption | intro _ | apply sound_ite | apply sound_ctl | split

theorem sound_ctlAbort' {r s : State} (h : Sound r s) (h' : RingHdr) (num : BitVec 48) (odd : Option CtlOdd) : Sound r (ctlAbort h' num odd s) := by
  unfold ctlAbort
  try dsimp only
  with_reducible
    repeat' first
      | assumption | intro _ | apply sound_ite | apply sound_ctl | apply sound_dropSwitch | split

theorem sound_restart' {r s : State} (h : Sound r s) (h' : RingHdr) (odd : Option CtlOdd) : Sound r (restart h' odd s) := by
  unfold restart
  try dsimp only
  with_reducible
    repeat' first
      | assumption | intro _ | apply sound_ite | apply sound_ctl | apply sound_toStep4 | split

theorem sound_setDist {r s : State} (h : Sound r s) (p : ℕ) (d : List Byte) : Sound r (State.setDist s p d) := by
  unfold State.setDist
  try dsimp only
  with_reducible
    repeat' first
      | assumption | intro _ | apply sound_ite | split

theorem sound_distLive {r s : State} (h : Sound r s) : Sound r (State.distLive s) := by
  unfold State.distLive
  try dsimp only
  with_reducible
    repeat' first
      | assumption | intro _ | apply sound_ite | split

theorem sound_distSwap {r s : State} (h : Sound r s) : Sound r (State.distSwap s) := by
  unfold State.distSwap
  try dsimp only
  with_reducible
    repeat' first
      | assumption | intro _ | apply sound_ite | split

theorem sound_setNonce {r s : State} (h : Sound r s) (k : ℕ) (n : List Byte) : Sound r (State.setNonce s k n) := by
  unfold State.setNonce
  try dsimp only
  with_reducible
    repeat' first
      | assumption | intro _ | apply sound_ite | split

theorem sound_attestAt {r s : State} (h : Sound r s) (p : ℕ) : Sound r (State.attestAt s p) := by
  unfold State.attestAt
  try dsimp only
  with_reducible
    repeat' first
      | assumption | intro _ | apply sound_ite | apply sound_fresh | apply sound_sendCtl | apply sound_setNonce
      | apply sound_signStart | apply sound_startFail | split | exact Sound.snd (by assumption)

theorem sound_reportRead {r s : State} (h : Sound r s) (p : ℕ) : Sound r (State.reportRead s p) := by
  unfold State.reportRead
  try dsimp only
  with_reducible
    repeat' first
      | assumption | intro _ | apply sound_ite | apply sound_sendCtl | apply sound_startFail | split

theorem sound_reportTo {r s : State} (h : Sound r s) (p : ℕ) : Sound r (State.reportTo s p) := by
  unfold State.reportTo
  try dsimp only
  with_reducible
    repeat' first
      | assumption | intro _ | apply sound_ite | apply sound_xferStart | split

theorem sound_poll {r s : State} (h : Sound r s) (p : ℕ) : Sound r (State.poll s p) := by
  unfold State.poll
  try dsimp only
  with_reducible
    repeat' first
      | assumption | intro _ | apply sound_ite | apply sound_sendTxn | split

theorem sound_memberReq {r s : State} (h : Sound r s) (p : ℕ) (sv : ℕ) : Sound r (State.memberReq s p sv) := by
  unfold State.memberReq
  try dsimp only
  with_reducible
    repeat' first
      | assumption | intro _ | apply sound_ite | apply sound_sendTxn | split

theorem sound_tryActivate {r s : State} (h : Sound r s) : Sound r (State.tryActivate s) := by
  unfold State.tryActivate
  try dsimp only
  with_reducible
    repeat' first
      | assumption | intro _ | apply sound_ite | apply sound_each | apply sound_planActivate | apply sound_distLive
      | apply sound_memberReq | split | exact Sound.snd (by assumption)

theorem sound_loadRuns {r s : State} (h : Sound r s) (p : ℕ) : Sound r (State.loadRuns s p) := by
  unfold State.loadRuns
  try dsimp only
  with_reducible
    repeat' first
      | assumption | intro _ | apply sound_ite | apply sound_poll | split

theorem sound_xferPiece {r s : State} (h : Sound r s) (x : Xfer) (data : List Word) : Sound r (State.xferPiece s x data) := by
  unfold State.xferPiece
  try dsimp only
  with_reducible
    repeat' first
      | assumption | intro _ | apply sound_ite | apply sound_sendPiece | apply sound_sendTxn | apply sound_sendCtl
      | apply sound_reportRead | split

theorem sound_txnFailed {r s : State} (h : Sound r s) (x : RingTxn) (detail : ℕ) : Sound r (State.txnFailed s x detail) := by
  unfold State.txnFailed
  try dsimp only
  with_reducible
    repeat' first
      | assumption | intro _ | apply sound_ite | apply sound_startFail | apply sound_xferEnd | split

theorem sound_dropTxn {r s : State} (h : Sound r s) (x : RingTxn) : Sound r (State.dropTxn s x) := by
  unfold State.dropTxn
  try dsimp only
  with_reducible
    repeat' first
      | assumption | intro _ | apply sound_ite | apply sound_showTxns | split

theorem sound_rsp' {r s : State} (h : Sound r s) (h' : RingHdr) (status : BitVec 8) (err : BitVec 8) (data : List Word) : Sound r (rsp h' status err data s) := by
  unfold rsp
  try dsimp only
  with_reducible
    repeat' first
      | assumption | intro _ | apply sound_ite | apply sound_takeFrame | apply sound_dropTxn | apply sound_txnFailed
      | apply sound_xferPiece | apply sound_memberReq | apply sound_loadRuns | apply sound_sendTxn | apply sound_xferEnd
      | apply sound_poll | apply sound_tryActivate | apply sound_setDist | split

theorem sound_modeFail {r s : State} (h : Sound r s) (code : ℕ) (pos : ℕ) : Sound r (State.modeFail s code pos) := by
  unfold State.modeFail
  try dsimp only
  with_reducible
    repeat' first
      | assumption | intro _ | apply sound_ite | apply sound_set | apply sound_mbFinish | apply sound_planLast
      | apply sound_ev | split

theorem sound_modeAbort {r s : State} (h : Sound r s) (code : ℕ) (pos : ℕ) : Sound r (State.modeAbort s code pos) := by
  unfold State.modeAbort
  try dsimp only
  with_reducible
    repeat' first
      | assumption | intro _ | apply sound_ite | apply sound_sendCtl | apply sound_modeFail | apply sound_dropSwitch | split

theorem sound_modeGo {r s : State} (h : Sound r s) : Sound r (State.modeGo s) := by
  unfold State.modeGo
  try dsimp only
  with_reducible
    repeat' first
      | assumption | intro _ | apply sound_ite | apply sound_sendCtl | apply sound_set | split

theorem sound_modeReady {r s : State} (h : Sound r s) (p : ℕ) (dig : List Byte) : Sound r (State.modeReady s p dig) := by
  unfold State.modeReady
  try dsimp only
  with_reducible
    repeat' first
      | assumption | intro _ | apply sound_ite | apply sound_modeGo | apply sound_modeAbort | split

theorem sound_modeStart {r s : State} (h : Sound r s) (c : ℕ) (n : ℕ) : Sound r (State.modeStart s c n) := by
  unfold State.modeStart
  try dsimp only
  with_reducible
    repeat' first
      | assumption | intro _ | apply sound_ite | apply sound_mbRefuse | apply sound_planRefuse | apply sound_set
      | apply sound_modeFail | apply sound_planArm | apply sound_sendCtl | split | exact Sound.snd (by assumption)

theorem sound_planArmSv' {r s : State} (h : Sound r s) (c : Fin 4) : Sound r (planArmSv c s) := by
  unfold planArmSv
  try dsimp only
  with_reducible
    repeat' first
      | assumption | intro _ | apply sound_ite | apply sound_ite2 | apply sound_each | apply sound_when | apply sound_onDie
      | apply sound_onUmp | apply sound_foldl | apply sound_mbTake | apply sound_mbEnd | apply sound_planRefuse
      | apply sound_modeStart | apply sound_cox0Write | apply sound_localArm | apply sound_set | apply sound_mbRefuse
      | (unfold id; assumption) | split | exact Sound.snd (by assumption)

theorem sound_ctlr' {r s : State} (h : Sound r s) (h' : RingHdr) (code : BitVec 8) (status : BitVec 8) (body : List Byte) : Sound r (ctlr h' code status body s) := by
  unfold ctlr
  try dsimp only
  with_reducible
    repeat' first
      | assumption | intro _ | apply sound_ite | apply sound_takeFrame | apply sound_dropTxn | apply sound_startFail
      | apply sound_wr | apply sound_sendCtl | apply sound_set | apply sound_xferStart | apply sound_attestAt
      | apply sound_setNonce | apply sound_reportTo | apply sound_setFldBit | apply sound_modeReady | apply sound_modeAbort
      | split

theorem sound_txnTimeout' {r s : State} (h : Sound r s) (ring : Fin 2) (tag : Fin 128) : Sound r (txnTimeout ring tag s) := by
  unfold txnTimeout
  try dsimp only
  with_reducible
    repeat' first
      | assumption | intro _ | apply sound_ite | apply sound_onDie | apply sound_bump | apply sound_ev | apply sound_dropTxn
      | apply sound_txnFailed | split

theorem sound_delayRound' {r s : State} (h : Sound r s) (txAt : ℕ) : Sound r (delayRound txAt s) := by
  unfold delayRound
  try dsimp only
  with_reducible
    repeat' first
      | assumption | intro _ | apply sound_ite | apply sound_onDie | apply sound_notice | split

theorem sound_delayDone {r s : State} (h : Sound r s) : Sound r (State.delayDone s) := by
  unfold State.delayDone
  try dsimp only
  with_reducible
    repeat' first
      | assumption | intro _ | apply sound_ite | apply sound_roundDiv | apply sound_iset | apply sound_startFail
      | apply sound_sendCtl | split | exact Sound.snd (by assumption)

theorem sound_dlyAll' {r s : State} (h : Sound r s) (r' : Fin 2) (round : BitVec 8) (check : BitVec 8) (arrival : ℕ) : Sound r (dlyAll r' round check arrival s) := by
  unfold dlyAll
  try dsimp only
  with_reducible
    repeat' first
      | assumption | intro _ | apply sound_ite | apply sound_dly' | apply sound_delayDone | split

theorem sound_stepStart {r s : State} (h : Sound r s) (k : ℕ) : Sound r (State.stepStart s k) := by
  unfold State.stepStart
  refine sound_ite _ h ?_
  split
  · exact sound_sendCtl (sound_wr h _ _) _ _ _ _
  · exact sound_attestAt h _
  · split
    · next t heq => exact (Sound.snd heq (sound_loadStart h _ _) : Sound r t)
    · exact sound_startFail h _ _ _
  · exact sound_sendCtl h _ _ _ _
  · exact sound_sendCtl h _ _ _ _
  · exact h

theorem sound_startStepEnd' {r s : State} (h : Sound r s) (ok : Bool) (us : ℕ) (pos : Fin 8) (detail : BitVec 16) : Sound r (startStepEnd ok us pos detail s) := by
  unfold startStepEnd
  try dsimp only
  with_reducible
    repeat' first
      | assumption | intro _ | apply sound_ite | apply sound_onDie | apply sound_startFail | apply sound_ev | apply sound_set
      | apply sound_stepStart | split

theorem sound_lockedAll' {r s : State} (h : Sound r s) (errs : List (BitVec 16)) (lost : Bool) (tick : ℕ) (offset : ℤ) : Sound r (lockedAll errs lost tick offset s) := by
  unfold lockedAll
  try dsimp only
  with_reducible
    repeat' first
      | assumption | intro _ | apply sound_ite | apply sound_autoPlan | apply sound_fixRole | apply sound_locked' | split

theorem sound_flashRead' {r s : State} (h : Sound r s) (offset : ℕ) (bytes : List Byte) : Sound r (flashRead offset bytes s) := by
  unfold flashRead
  try dsimp only
  with_reducible
    repeat' first
      | assumption | intro _ | apply sound_ite | apply sound_onDie | apply sound_flashReadDone' | apply sound_xferGo
      | apply sound_putSram | split

theorem sound_loadVerifyAll' {r s : State} (h : Sound r s) (ecc : Bool) : Sound r (loadVerifyAll ecc s) := by
  unfold loadVerifyAll
  try dsimp only
  with_reducible
    repeat' first
      | assumption | intro _ | apply sound_ite | apply sound_when | apply sound_loadVerifyAuto' | apply sound_tryActivate
      | split

theorem sound_signingDone' {r s : State} (h : Sound r s) : Sound r (signingDone s) := by
  unfold signingDone
  try dsimp only
  with_reducible
    repeat' first
      | assumption | intro _ | apply sound_ite | apply sound_onDie | apply sound_signEnd | apply sound_mbEnd
      | apply sound_mbRefuse | apply sound_reportTo | apply sound_startFail | split | exact Sound.snd (by assumption)

theorem sound_sigCheck {r s : State} (h : Sound r s) (n : ℕ) (p : ℕ) : Sound r (State.sigCheck s n p) := by
  unfold State.sigCheck
  try dsimp only
  with_reducible
    repeat' first
      | assumption | intro _ | apply sound_ite | apply sound_when | apply sound_ssn | apply sound_ev | apply sound_clearFldBit
      | apply sound_setFldBit | apply sound_dropLocks | apply sound_coast | apply sound_modeFail | split

theorem sound_expectAll {r s : State} (h : Sound r s) (l : List (List Byte)) : Sound r (State.expectAll s l) := by
  unfold State.expectAll
  try dsimp only
  with_reducible
    repeat' first
      | assumption | intro _ | apply sound_ite | split

theorem sound_revertFailed {r s : State} (h : Sound r s) : Sound r (State.revertFailed s) := by
  unfold State.revertFailed
  try dsimp only
  with_reducible
    repeat' first
      | assumption | intro _ | apply sound_ite | apply sound_modeFail | apply sound_ssn | split

theorem sound_revert {r s : State} (h : Sound r s) : Sound r (State.revert s) := by
  unfold State.revert
  try dsimp only
  with_reducible
    repeat' first
      | assumption | intro _ | apply sound_ite | apply sound_set | apply sound_revertFailed | apply sound_setStage
      | apply sound_switchSwap | split

theorem sound_modeClose {r s : State} (h : Sound r s) (c : ℕ) : Sound r (State.modeClose s c) := by
  unfold State.modeClose
  try dsimp only
  with_reducible
    repeat' first
      | assumption | intro _ | apply sound_ite | apply sound_modeAbort | apply sound_set | apply sound_revert | apply sound_ev
      | apply sound_expectAll | apply sound_mbFinish | apply sound_distSwap | apply sound_modeFail | apply sound_notice
      | apply sound_revertFailed | split

theorem sound_ringClose {r s : State} (h : Sound r s) : Sound r (State.ringClose s) := by
  unfold State.ringClose
  try dsimp only
  with_reducible
    repeat' first
      | assumption | intro _ | apply sound_ite | apply sound_each | apply sound_when | apply sound_notice
      | apply sound_modeClose | apply sound_sigCheck | apply sound_alignLost | split

theorem sound_ringOpenCatch {r s : State} (h : Sound r s) (closed : Option ℕ) : Sound r (State.ringOpenCatch s closed) := by
  unfold State.ringOpenCatch
  try dsimp only
  with_reducible
    repeat' first
      | assumption | intro _ | apply sound_ite | split

theorem sound_catchCmd' {r s : State} (h : Sound r s) (bits : List (ℕ × List (Option Bool))) (done : ℕ) : Sound r (catchCmd bits done s) := by
  unfold catchCmd
  try dsimp only
  with_reducible
    repeat' first
      | assumption | intro _ | apply sound_ite | apply sound_onDie | apply sound_ringOpenCatch | apply sound_catchGo
      | apply sound_ringClose | split

end Sys2Proof.Machine
end

