-- ==== Sys2Proof/Laws/SoundExec.lean ====
section
/-! SUPPORT. One lemma per command's meaning: where it answers a next state, that state's maps are canonical if the maps before
were, and the queue is the queue before (Laws/Sound.lean). -/

namespace Sys2Proof.Machine
set_option linter.all false

theorem next_updatePoint {r s t : State} (h : Sound r s) {l : LegIx} {centre : Bool} {atNs : ℕ} (e : exec (.updatePoint l centre atNs) s = .next t) : Sound r t := by
  change execUpdatePoint l centre atNs s = _ at e
  unfold execUpdatePoint at e
  cases e
  try dsimp only
  with_reducible
    repeat' first
      | assumption | intro _ | apply sound_ite | apply sound_updatePoint' | split

theorem next_interlock {r s t : State} (h : Sound r s) {l : LegIx} (e : exec (.interlock l) s = .next t) : Sound r t := by
  change execInterlock l s = _ at e
  unfold execInterlock at e
  cases e
  try dsimp only
  with_reducible
    repeat' first
      | assumption | intro _ | apply sound_ite | apply sound_interlock' | split

theorem next_umpireInterlockReport {r s t : State} (h : Sound r s) {l : LegIx} (e : exec (.umpireInterlockReport l) s = .next t) : Sound r t := by
  change execUmpireInterlockReport l s = _ at e
  unfold execUmpireInterlockReport at e
  cases e
  try dsimp only
  with_reducible
    repeat' first
      | assumption | intro _ | apply sound_ite | apply sound_umpireInterlockReport' | split

theorem next_fsLeak {r s t : State} (h : Sound r s) {l : LegIx} (e : exec (.fsLeak l) s = .next t) : Sound r t := by
  change execFsLeak l s = _ at e
  unfold execFsLeak at e
  cases e
  try dsimp only
  with_reducible
    repeat' first
      | assumption | intro _ | apply sound_ite | apply sound_fsLeak' | split

theorem next_legFsClear {r s t : State} (h : Sound r s) {m : Master} {l : LegIx} (e : exec (.legFsClear m l) s = .next t) : Sound r t := by
  change execLegFsClear m l s = _ at e
  unfold execLegFsClear at e
  cases e
  try dsimp only
  with_reducible
    repeat' first
      | assumption | intro _ | apply sound_ite | apply sound_legFsClear' | split

theorem next_bootRefresh {r s t : State} (h : Sound r s) {l : LegIx} (e : exec (.bootRefresh l) s = .next t) : Sound r t := by
  change execBootRefresh l s = _ at e
  unfold execBootRefresh at e
  cases e
  try dsimp only
  with_reducible
    repeat' first
      | assumption | intro _ | apply sound_ite | apply sound_bootRefresh' | split

theorem next_bootUvCheck {r s t : State} (h : Sound r s) {l : LegIx} {periodEnd : Bool} (e : exec (.bootUvCheck l periodEnd) s = .next t) : Sound r t := by
  change execBootUvCheck l periodEnd s = _ at e
  unfold execBootUvCheck at e
  cases e
  try dsimp only
  with_reducible
    repeat' first
      | assumption | intro _ | apply sound_ite | apply sound_bootUvCheck' | split

theorem next_ntcAgeTimeout {r s t : State} (h : Sound r s) {n : Fin 6} (e : exec (.ntcAgeTimeout n) s = .next t) : Sound r t := by
  change execNtcAgeTimeout n s = _ at e
  unfold execNtcAgeTimeout at e
  cases e
  try dsimp only
  with_reducible
    repeat' first
      | assumption | intro _ | apply sound_ite | apply sound_ntcAgeTimeout' | split

theorem next_sdStuck {r s t : State} (h : Sound r s) {n : SdIx} {bits : List (Option Bool)} (e : exec (.sdStuck n bits) s = .next t) : Sound r t := by
  change execSdStuck n bits s = _ at e
  unfold execSdStuck at e
  cases e
  try dsimp only
  with_reducible
    repeat' first
      | assumption | intro _ | apply sound_ite | apply sound_sdStuck' | split

theorem next_sdStuckClear {r s t : State} (h : Sound r s) {n : SdIx} {bits : List (Option Bool)} (e : exec (.sdStuckClear n bits) s = .next t) : Sound r t := by
  change execSdStuckClear n bits s = _ at e
  unfold execSdStuckClear at e
  cases e
  try dsimp only
  with_reducible
    repeat' first
      | assumption | intro _ | apply sound_ite | apply sound_sdStuckClear' | split

theorem next_manchesterLock {r s t : State} (h : Sound r s) {n : SdIx} {bits : List (Option Bool)} (e : exec (.manchesterLock n bits) s = .next t) : Sound r t := by
  change execManchesterLock n bits s = _ at e
  unfold execManchesterLock at e
  cases e
  try dsimp only
  with_reducible
    repeat' first
      | assumption | intro _ | apply sound_ite | apply sound_manchesterLock' | split

theorem next_manchesterLockLoss {r s t : State} (h : Sound r s) {n : SdIx} {bits : List (Option Bool)} (e : exec (.manchesterLockLoss n bits) s = .next t) : Sound r t := by
  change execManchesterLockLoss n bits s = _ at e
  unfold execManchesterLockLoss at e
  cases e
  try dsimp only
  with_reducible
    repeat' first
      | assumption | intro _ | apply sound_ite | apply sound_manchesterLockLoss' | split

theorem next_manchesterViolation {r s t : State} (h : Sound r s) {n : SdIx} {bits : List (Option Bool)} (e : exec (.manchesterViolation n bits) s = .next t) : Sound r t := by
  change execManchesterViolation n bits s = _ at e
  unfold execManchesterViolation at e
  cases e
  try dsimp only
  with_reducible
    repeat' first
      | assumption | intro _ | apply sound_ite | apply sound_manchesterViolation' | split

theorem next_comparatorAssert {r s t : State} (h : Sound r s) {n : SdIx} {bits : List (Option Bool)} (e : exec (.comparatorAssert n bits) s = .next t) : Sound r t := by
  change execComparatorAssert n bits s = _ at e
  unfold execComparatorAssert at e
  cases e
  try dsimp only
  with_reducible
    repeat' first
      | assumption | intro _ | apply sound_ite | apply sound_comparatorAssert' | split

theorem next_comparatorDeassert {r s t : State} (h : Sound r s) {n : SdIx} {bits : List (Option Bool)} (e : exec (.comparatorDeassert n bits) s = .next t) : Sound r t := by
  change execComparatorDeassert n bits s = _ at e
  unfold execComparatorDeassert at e
  cases e
  try dsimp only
  with_reducible
    repeat' first
      | assumption | intro _ | apply sound_ite | apply sound_comparatorDeassert' | split

theorem next_sdOfsWrite {r s t : State} (h : Sound r s) {m : Master} {sar : Bool} {i : Fin 40} {v : Word} (e : exec (.sdOfsWrite m sar i v) s = .next t) : Sound r t := by
  change execSdOfsWrite m sar i v s = _ at e
  unfold execSdOfsWrite at e
  cases e
  try dsimp only
  with_reducible
    repeat' first
      | assumption | intro _ | apply sound_ite | apply sound_sdOfsWrite' | split

theorem next_calibrationStart {r s t : State} (h : Sound r s) {u : UnitIx} (e : exec (.calibrationStart u) s = .next t) : Sound r t := by
  change execCalibrationStart u s = _ at e
  unfold execCalibrationStart at e
  cases e
  try dsimp only
  with_reducible
    repeat' first
      | assumption | intro _ | apply sound_ite | apply sound_calibrationStart' | split

theorem next_calibrationSettled {r s t : State} (h : Sound r s) {u : UnitIx} (e : exec (.calibrationSettled u) s = .next t) : Sound r t := by
  change execCalibrationSettled u s = _ at e
  unfold execCalibrationSettled at e
  cases e
  try dsimp only
  with_reducible
    repeat' first
      | assumption | intro _ | apply sound_ite | apply sound_calibrationSettled' | split

theorem next_calibrationEnd {r s t : State} (h : Sound r s) {u : UnitIx} (e : exec (.calibrationEnd u) s = .next t) : Sound r t := by
  change execCalibrationEnd u s = _ at e
  unfold execCalibrationEnd at e
  cases e
  try dsimp only
  with_reducible
    repeat' first
      | assumption | intro _ | apply sound_ite | apply sound_calibrationEnd' | split

theorem next_sarEntryStart {r s t : State} (h : Sound r s) {e' : Fin 32} {at' : ℕ} (e : exec (.sarEntryStart e' at') s = .next t) : Sound r t := by
  change execSarEntryStart e' at' s = _ at e
  unfold execSarEntryStart at e
  cases e
  try dsimp only
  with_reducible
    repeat' first
      | assumption | intro _ | apply sound_ite | apply sound_sarEntryStart' | split

theorem next_sarConversionDone {r s t : State} (h : Sound r s) {e' : Fin 32} {codes : List (BitVec 12)} (e : exec (.sarConversionDone e' codes) s = .next t) : Sound r t := by
  change execSarConversionDone e' codes s = _ at e
  unfold execSarConversionDone at e
  cases e
  try dsimp only
  with_reducible
    repeat' first
      | assumption | intro _ | apply sound_ite | apply sound_sarConversionDone' | split

theorem next_pwmGateEnSet {r s t : State} (h : Sound r s) {m : Master} {page : Fin 3} {mask : BitVec 9} (e : exec (.pwmGateEnSet m page mask) s = .next t) : Sound r t := by
  change execPwmGateEnSet m page mask s = _ at e
  unfold execPwmGateEnSet at e
  cases e
  try dsimp only
  with_reducible
    repeat' first
      | assumption | intro _ | apply sound_ite | apply sound_pwmGateEnSet' | split

theorem next_pwmGateEnClear {r s t : State} (h : Sound r s) {m : Master} {page : Fin 3} {mask : BitVec 9} (e : exec (.pwmGateEnClear m page mask) s = .next t) : Sound r t := by
  change execPwmGateEnClear m page mask s = _ at e
  unfold execPwmGateEnClear at e
  cases e
  try dsimp only
  with_reducible
    repeat' first
      | assumption | intro _ | apply sound_ite | apply sound_pwmGateEnClear' | split

theorem next_gateGrant {r s t : State} (h : Sound r s) {u : UnitIx} {atNs : ℕ} (e : exec (.gateGrant u atNs) s = .next t) : Sound r t := by
  change execGateGrant u atNs s = _ at e
  unfold execGateGrant at e
  cases e
  try dsimp only
  with_reducible
    repeat' first
      | assumption | intro _ | apply sound_ite | apply sound_gateGrant' | split

theorem next_legStart {r s t : State} (h : Sound r s) {l : LegIx} {atNs : ℕ} (e : exec (.legStart l atNs) s = .next t) : Sound r t := by
  change execLegStart l atNs s = _ at e
  unfold execLegStart at e
  cases e
  try dsimp only
  with_reducible
    repeat' first
      | assumption | intro _ | apply sound_ite | apply sound_legStart' | split

theorem next_legFaultInput {r s t : State} (h : Sound r s) {i : FltIx} {samples : List Bool} {atNs : ℕ} (e : exec (.legFaultInput i samples atNs) s = .next t) : Sound r t := by
  change execLegFaultInput i samples atNs s = _ at e
  unfold execLegFaultInput at e
  cases e
  try dsimp only
  with_reducible
    repeat' first
      | assumption | intro _ | apply sound_ite | apply sound_legFaultInput' | split

theorem next_blankingEnd {r s t : State} (h : Sound r s) {l : LegIx} {atNs : ℕ} (e : exec (.blankingEnd l atNs) s = .next t) : Sound r t := by
  change execBlankingEnd l atNs s = _ at e
  unfold execBlankingEnd at e
  cases e
  try dsimp only
  with_reducible
    repeat' first
      | assumption | intro _ | apply sound_ite | apply sound_blankingEnd' | split

theorem next_chopperOn {r s t : State} (h : Sound r s) {b : BrkIx} {tick : ℕ} (e : exec (.chopperOn b tick) s = .next t) : Sound r t := by
  change execChopperOn b tick s = _ at e
  unfold execChopperOn at e
  cases e
  try dsimp only
  with_reducible
    repeat' first
      | assumption | intro _ | apply sound_ite | apply sound_chopperOn' | split

theorem next_chopperOff {r s t : State} (h : Sound r s) {b : BrkIx} {tick : ℕ} (e : exec (.chopperOff b tick) s = .next t) : Sound r t := by
  change execChopperOff b tick s = _ at e
  unfold execChopperOff at e
  cases e
  try dsimp only
  with_reducible
    repeat' first
      | assumption | intro _ | apply sound_ite | apply sound_chopperOff' | split

theorem next_brkArmWrite {r s t : State} (h : Sound r s) {m : Master} {b : BrkIx} {arm : Bool} (e : exec (.brkArmWrite m b arm) s = .next t) : Sound r t := by
  change execBrkArmWrite m b arm s = _ at e
  unfold execBrkArmWrite at e
  cases e
  try dsimp only
  with_reducible
    repeat' first
      | assumption | intro _ | apply sound_ite | apply sound_brkArmWrite' | split

theorem next_brakeFaultInput {r s t : State} (h : Sound r s) {b : BrkIx} {samples : List Bool} (e : exec (.brakeFaultInput b samples) s = .next t) : Sound r t := by
  change execBrakeFaultInput b samples s = _ at e
  unfold execBrakeFaultInput at e
  cases e
  try dsimp only
  with_reducible
    repeat' first
      | assumption | intro _ | apply sound_ite | apply sound_brakeFaultInput' | split

theorem next_brkLatchClear {r s t : State} (h : Sound r s) {m : Master} {b : BrkIx} (e : exec (.brkLatchClear m b) s = .next t) : Sound r t := by
  change execBrkLatchClear m b s = _ at e
  unfold execBrkLatchClear at e
  cases e
  try dsimp only
  with_reducible
    repeat' first
      | assumption | intro _ | apply sound_ite | apply sound_brkLatchClear' | split

theorem next_protReq {r s t : State} (h : Sound r s) {m : Master} {u : UnitIx} {cls : Fin 4} {useCls : Bool} {go : Bool} (e : exec (.protReq m u cls useCls go) s = .next t) : Sound r t := by
  change execProtReq m u cls useCls go s = _ at e
  unfold execProtReq at e
  cases e
  try dsimp only
  with_reducible
    repeat' first
      | assumption | intro _ | apply sound_ite | apply sound_protReq' | split

theorem next_protRelease {r s t : State} (h : Sound r s) {m : Master} {u : UnitIx} (e : exec (.protRelease m u) s = .next t) : Sound r t := by
  change execProtRelease m u s = _ at e
  unfold execProtRelease at e
  cases e
  try dsimp only
  with_reducible
    repeat' first
      | assumption | intro _ | apply sound_ite | apply sound_protRelease' | split

theorem next_hwExit {r s t : State} (h : Sound r s) {d : DriveIx} (e : exec (.hwExit d) s = .next t) : Sound r t := by
  change execHwExit d s = _ at e
  unfold execHwExit at e
  cases e
  try dsimp only
  with_reducible
    repeat' first
      | assumption | intro _ | apply sound_ite | apply sound_hwExit' | split

theorem next_dischargeStart {r s t : State} (h : Sound r s) {m : Master} (e : exec (.dischargeStart m) s = .next t) : Sound r t := by
  change execDischargeStart m s = _ at e
  unfold execDischargeStart at e
  cases e
  try dsimp only
  with_reducible
    repeat' first
      | assumption | intro _ | apply sound_ite | apply sound_dischargeStart' | split

theorem next_dischargeStop {r s t : State} (h : Sound r s) {m : Master} (e : exec (.dischargeStop m) s = .next t) : Sound r t := by
  change execDischargeStop m s = _ at e
  unfold execDischargeStop at e
  cases e
  try dsimp only
  with_reducible
    repeat' first
      | assumption | intro _ | apply sound_ite | apply sound_dischargeStop' | split

theorem next_dischargeCheckpoint {r s t : State} (h : Sound r s) (e : exec (.dischargeCheckpoint) s = .next t) : Sound r t := by
  change execDischargeCheckpoint s = _ at e
  unfold execDischargeCheckpoint at e
  cases e
  try dsimp only
  with_reducible
    repeat' first
      | assumption | intro _ | apply sound_ite | apply sound_dischargeCheckpoint' | split

theorem next_dischargeDone {r s t : State} (h : Sound r s) (e : exec (.dischargeDone) s = .next t) : Sound r t := by
  change execDischargeDone s = _ at e
  unfold execDischargeDone at e
  cases e
  try dsimp only
  with_reducible
    repeat' first
      | assumption | intro _ | apply sound_ite | apply sound_dischargeDone' | split

theorem next_dischargeTimeout {r s t : State} (h : Sound r s) (e : exec (.dischargeTimeout) s = .next t) : Sound r t := by
  change execDischargeTimeout s = _ at e
  unfold execDischargeTimeout at e
  cases e
  try dsimp only
  with_reducible
    repeat' first
      | assumption | intro _ | apply sound_ite | apply sound_dischargeTimeout' | split

theorem next_driverTransaction {r s t : State} (h : Sound r s) {frames : List (BitVec 40)} (e : exec (.driverTransaction frames) s = .next t) : Sound r t := by
  change execDriverTransaction frames s = _ at e
  unfold execDriverTransaction at e
  cases e
  try dsimp only
  with_reducible
    repeat' first
      | assumption | intro _ | apply sound_ite | apply sound_driverTransaction' | split

theorem next_driverAlert {r s t : State} (h : Sound r s) (e : exec (.driverAlert) s = .next t) : Sound r t := by
  change execDriverAlert s = _ at e
  unfold execDriverAlert at e
  cases e
  try dsimp only
  with_reducible
    repeat' first
      | assumption | intro _ | apply sound_ite | apply sound_driverAlert' | split

theorem next_alertStuck {r s t : State} (h : Sound r s) (e : exec (.alertStuck) s = .next t) : Sound r t := by
  change execAlertStuck s = _ at e
  unfold execAlertStuck at e
  cases e
  try dsimp only
  with_reducible
    repeat' first
      | assumption | intro _ | apply sound_ite | apply sound_alertStuck' | split

theorem next_driverAlertRelease {r s t : State} (h : Sound r s) (e : exec (.driverAlertRelease) s = .next t) : Sound r t := by
  change execDriverAlertRelease s = _ at e
  unfold execDriverAlertRelease at e
  cases e
  try dsimp only
  with_reducible
    repeat' first
      | assumption | intro _ | apply sound_ite | apply sound_driverAlertRelease' | split

theorem next_benchHv {r s t : State} (h : Sound r s) {rising : Bool} (e : exec (.benchHv rising) s = .next t) : Sound r t := by
  change execBenchHv rising s = _ at e
  unfold execBenchHv at e
  cases e
  try dsimp only
  with_reducible
    repeat' first
      | assumption | intro _ | apply sound_ite | apply sound_benchHv' | split

theorem next_umpStatusFrame {r s t : State} (h : Sound r s) (e : exec (.umpStatusFrame) s = .next t) : Sound r t := by
  change execUmpStatusFrame s = _ at e
  unfold execUmpStatusFrame at e
  cases e
  try dsimp only
  with_reducible
    repeat' first
      | assumption | intro _ | apply sound_ite | apply sound_umpStatusFrame' | split

theorem next_umpSafetyStatus {r s t : State} (h : Sound r s) (e : exec (.umpSafetyStatus) s = .next t) : Sound r t := by
  change execUmpSafetyStatus s = _ at e
  unfold execUmpSafetyStatus at e
  cases e
  try dsimp only
  with_reducible
    repeat' first
      | assumption | intro _ | apply sound_ite | apply sound_umpSafetyStatus' | split

theorem next_umpWdChallenge {r s t : State} (h : Sound r s) {x : Fin 2} (e : exec (.umpWdChallenge x) s = .next t) : Sound r t := by
  change execUmpWdChallenge x s = _ at e
  unfold execUmpWdChallenge at e
  cases e
  try dsimp only
  with_reducible
    repeat' first
      | assumption | intro _ | apply sound_ite | apply sound_umpWdChallenge' | split

theorem next_umpCheckReport {r s t : State} (h : Sound r s) {k : Fin 32} (e : exec (.umpCheckReport k) s = .next t) : Sound r t := by
  change execUmpCheckReport k s = _ at e
  unfold execUmpCheckReport at e
  cases e
  try dsimp only
  with_reducible
    repeat' first
      | assumption | intro _ | apply sound_ite | apply sound_umpCheckReport' | split

theorem next_umpXval {r s t : State} (h : Sound r s) {kind : Fin 3} (e : exec (.umpXval kind) s = .next t) : Sound r t := by
  change execUmpXval kind s = _ at e
  unfold execUmpXval at e
  cases e
  try dsimp only
  with_reducible
    repeat' first
      | assumption | intro _ | apply sound_ite | apply sound_umpXval' | split

theorem next_umpMeas {r s t : State} (h : Sound r s) {ch : Fin 6} {code : BitVec 10} {usd : BitVec 64} (e : exec (.umpMeas ch code usd) s = .next t) : Sound r t := by
  change execUmpMeas ch code usd s = _ at e
  unfold execUmpMeas at e
  cases e
  try dsimp only
  with_reducible
    repeat' first
      | assumption | intro _ | apply sound_ite | apply sound_umpMeas' | split

theorem next_umpTqFrame {r s t : State} (h : Sound r s) (e : exec (.umpTqFrame) s = .next t) : Sound r t := by
  change execUmpTqFrame s = _ at e
  unfold execUmpTqFrame at e
  cases e
  try dsimp only
  with_reducible
    repeat' first
      | assumption | intro _ | apply sound_ite | apply sound_umpTqFrame' | split

theorem next_tqStall {r s t : State} (h : Sound r s) {d : DriveIx} (e : exec (.tqStall d) s = .next t) : Sound r t := by
  change execTqStall d s = _ at e
  unfold execTqStall at e
  cases e
  try dsimp only
  with_reducible
    repeat' first
      | assumption | intro _ | apply sound_ite | apply sound_tqStall' | split

theorem next_tqPatternTimeout {r s t : State} (h : Sound r s) {d : DriveIx} (e : exec (.tqPatternTimeout d) s = .next t) : Sound r t := by
  change execTqPatternTimeout d s = _ at e
  unfold execTqPatternTimeout at e
  cases e
  try dsimp only
  with_reducible
    repeat' first
      | assumption | intro _ | apply sound_ite | apply sound_tqPatternTimeout' | split

theorem next_checkMissing {r s t : State} (h : Sound r s) {k : Fin 32} (e : exec (.checkMissing k) s = .next t) : Sound r t := by
  change execCheckMissing k s = _ at e
  unfold execCheckMissing at e
  cases e
  try dsimp only
  with_reducible
    repeat' first
      | assumption | intro _ | apply sound_ite | apply sound_checkMissing' | split

theorem next_gateValidStop {r s t : State} (h : Sound r s) {same : List ResetCause} (e : exec (.gateValidStop same) s = .next t) : Sound r t := by
  change execGateValidStop same s = _ at e
  unfold execGateValidStop at e
  cases e
  try dsimp only
  with_reducible
    repeat' first
      | assumption | intro _ | apply sound_ite | apply sound_gateValidStop' | split

theorem next_framesMissing {r s t : State} (h : Sound r s) {nops : ℕ} {frames : List (Option Word)} {same : List ResetCause} (e : exec (.framesMissing nops frames same) s = .next t) : Sound r t := by
  change execFramesMissing nops frames same s = _ at e
  unfold execFramesMissing at e
  cases e
  try dsimp only
  with_reducible
    repeat' first
      | assumption | intro _ | apply sound_ite | apply sound_framesMissing' | split

theorem next_linkOc {r s t : State} (h : Sound r s) {usd1 : BitVec 7} (e : exec (.linkOc usd1) s = .next t) : Sound r t := by
  change execLinkOc usd1 s = _ at e
  unfold execLinkOc at e
  cases e
  try dsimp only
  with_reducible
    repeat' first
      | assumption | intro _ | apply sound_ite | apply sound_linkOc' | split

theorem next_linkOv {r s t : State} (h : Sound r s) {usd0 : BitVec 9} (e : exec (.linkOv usd0) s = .next t) : Sound r t := by
  change execLinkOv usd0 s = _ at e
  unfold execLinkOv at e
  cases e
  try dsimp only
  with_reducible
    repeat' first
      | assumption | intro _ | apply sound_ite | apply sound_linkOv' | split

theorem next_linkPathDeassert {r s t : State} (h : Sound r s) {ov : Bool} {usd : BitVec 7} (e : exec (.linkPathDeassert ov usd) s = .next t) : Sound r t := by
  change execLinkPathDeassert ov usd s = _ at e
  unfold execLinkPathDeassert at e
  cases e
  try dsimp only
  with_reducible
    repeat' first
      | assumption | intro _ | apply sound_ite | apply sound_linkPathDeassert' | split

theorem next_hwChopperOn {r s t : State} (h : Sound r s) {usd0 : BitVec 8} (e : exec (.hwChopperOn usd0) s = .next t) : Sound r t := by
  change execHwChopperOn usd0 s = _ at e
  unfold execHwChopperOn at e
  cases e
  try dsimp only
  with_reducible
    repeat' first
      | assumption | intro _ | apply sound_ite | apply sound_hwChopperOn' | split

theorem next_hwChopperOff {r s t : State} (h : Sound r s) {usd0 : BitVec 7} {onNs : ℕ} (e : exec (.hwChopperOff usd0 onNs) s = .next t) : Sound r t := by
  change execHwChopperOff usd0 onNs s = _ at e
  unfold execHwChopperOff at e
  cases e
  try dsimp only
  with_reducible
    repeat' first
      | assumption | intro _ | apply sound_ite | apply sound_hwChopperOff' | split

theorem next_tempPath {r s t : State} (h : Sound r s) {k : Fin 3} {codes : List (BitVec 10)} (e : exec (.tempPath k codes) s = .next t) : Sound r t := by
  change execTempPath k codes s = _ at e
  unfold execTempPath at e
  cases e
  try dsimp only
  with_reducible
    repeat' first
      | assumption | intro _ | apply sound_ite | apply sound_tempPath' | split

theorem next_tempPathDeassert {r s t : State} (h : Sound r s) {k : Fin 3} {code : BitVec 10} (e : exec (.tempPathDeassert k code) s = .next t) : Sound r t := by
  change execTempPathDeassert k code s = _ at e
  unfold execTempPathDeassert at e
  cases e
  try dsimp only
  with_reducible
    repeat' first
      | assumption | intro _ | apply sound_ite | apply sound_tempPathDeassert' | split

theorem next_xchk {r s t : State} (h : Sound r s) (e : exec (.xchk) s = .next t) : Sound r t := by
  change execXchk s = _ at e
  unfold execXchk at e
  cases e
  try dsimp only
  with_reducible
    repeat' first
      | assumption | intro _ | apply sound_ite | apply sound_xchk' | split

theorem next_stoInput {r s t : State} (h : Sound r s) {b : Bool} {high : Bool} (e : exec (.stoInput b high) s = .next t) : Sound r t := by
  change execStoInput b high s = _ at e
  unfold execStoInput at e
  cases e
  try dsimp only
  with_reducible
    repeat' first
      | assumption | intro _ | apply sound_ite | apply sound_stoInput' | split

theorem next_stoDisc {r s t : State} (h : Sound r s) (e : exec (.stoDisc) s = .next t) : Sound r t := by
  change execStoDisc s = _ at e
  unfold execStoDisc at e
  cases e
  try dsimp only
  with_reducible
    repeat' first
      | assumption | intro _ | apply sound_ite | apply sound_stoDisc' | split

theorem next_umpWdsvc {r s t : State} (h : Sound r s) {m : Master} {x : Fin 2} {resp : BitVec 12} {cycles : ℕ} {same : List ResetCause} (e : exec (.umpWdsvc m x resp cycles same) s = .next t) : Sound r t := by
  change execUmpWdsvc m x resp cycles same s = _ at e
  unfold execUmpWdsvc at e
  cases e
  try dsimp only
  with_reducible
    repeat' first
      | assumption | intro _ | apply sound_ite | apply sound_umpWdsvc' | split

theorem next_watchdogTimeout {r s t : State} (h : Sound r s) {x : Fin 2} {same : List ResetCause} (e : exec (.watchdogTimeout x same) s = .next t) : Sound r t := by
  change execWatchdogTimeout x same s = _ at e
  unfold execWatchdogTimeout at e
  cases e
  try dsimp only
  with_reducible
    repeat' first
      | assumption | intro _ | apply sound_ite | apply sound_watchdogTimeout' | split

theorem next_umpRelease {r s t : State} (h : Sound r s) {m : Master} {u : UnitIx} {same : BitVec 16} (e : exec (.umpRelease m u same) s = .next t) : Sound r t := by
  change execUmpRelease m u same s = _ at e
  unfold execUmpRelease at e
  cases e
  try dsimp only
  with_reducible
    repeat' first
      | assumption | intro _ | apply sound_ite | apply sound_umpReleaseCmd' | split

theorem next_connect {r s t : State} (h : Sound r s) {m : Master} (e : exec (.connect m) s = .next t) : Sound r t := by
  change execConnect m s = _ at e
  unfold execConnect at e
  cases e
  try dsimp only
  with_reducible
    repeat' first
      | assumption | intro _ | apply sound_ite | apply sound_connect' | split

theorem next_disconnect {r s t : State} (h : Sound r s) {m : Master} (e : exec (.disconnect m) s = .next t) : Sound r t := by
  change execDisconnect m s = _ at e
  unfold execDisconnect at e
  cases e
  try dsimp only
  with_reducible
    repeat' first
      | assumption | intro _ | apply sound_ite | apply sound_disconnect' | split

theorem next_emergencyOpen {r s t : State} (h : Sound r s) {m : Master} (e : exec (.emergencyOpen m) s = .next t) : Sound r t := by
  change execEmergencyOpen m s = _ at e
  unfold execEmergencyOpen at e
  cases e
  try dsimp only
  with_reducible
    repeat' first
      | assumption | intro _ | apply sound_ite | apply sound_emergencyOpen' | split

theorem next_auxOn {r s t : State} (h : Sound r s) {m : Master} (e : exec (.auxOn m) s = .next t) : Sound r t := by
  change execAuxOn m s = _ at e
  unfold execAuxOn at e
  cases e
  try dsimp only
  with_reducible
    repeat' first
      | assumption | intro _ | apply sound_ite | apply sound_auxOn' | split

theorem next_auxOff {r s t : State} (h : Sound r s) {m : Master} (e : exec (.auxOff m) s = .next t) : Sound r t := by
  change execAuxOff m s = _ at e
  unfold execAuxOff at e
  cases e
  try dsimp only
  with_reducible
    repeat' first
      | assumption | intro _ | apply sound_ite | apply sound_auxOff' | split

theorem next_contactorStepEnd {r s t : State} (h : Sound r s) {aux : Bool} (e : exec (.contactorStepEnd aux) s = .next t) : Sound r t := by
  change execContactorStepEnd aux s = _ at e
  unfold execContactorStepEnd at e
  cases e
  try dsimp only
  with_reducible
    repeat' first
      | assumption | intro _ | apply sound_ite | apply sound_contactorStepEnd' | split

theorem next_breakCurrentWait {r s t : State} (h : Sound r s) (e : exec (.breakCurrentWait) s = .next t) : Sound r t := by
  change execBreakCurrentWait s = _ at e
  unfold execBreakCurrentWait at e
  cases e
  try dsimp only
  with_reducible
    repeat' first
      | assumption | intro _ | apply sound_ite | apply sound_breakCurrentWait' | split

theorem next_contactorDrop {r s t : State} (h : Sound r s) {k : Fin 4} (e : exec (.contactorDrop k) s = .next t) : Sound r t := by
  change execContactorDrop k s = _ at e
  unfold execContactorDrop at e
  cases e
  try dsimp only
  with_reducible
    repeat' first
      | assumption | intro _ | apply sound_ite | apply sound_contactorDrop' | split

theorem next_contactorWeld {r s t : State} (h : Sound r s) {k : Fin 4} (e : exec (.contactorWeld k) s = .next t) : Sound r t := by
  change execContactorWeld k s = _ at e
  unfold execContactorWeld at e
  cases e
  try dsimp only
  with_reducible
    repeat' first
      | assumption | intro _ | apply sound_ite | apply sound_contactorWeld' | split

theorem next_umpCtrState {r s t : State} (h : Sound r s) {closed : BitVec 4} (e : exec (.umpCtrState closed) s = .next t) : Sound r t := by
  change execUmpCtrState closed s = _ at e
  unfold execUmpCtrState at e
  cases e
  try dsimp only
  with_reducible
    repeat' first
      | assumption | intro _ | apply sound_ite | apply sound_umpCtrState' | split

theorem next_umpCmd {r s t : State} (h : Sound r s) {off : Fin 4096} {v : Word} (e : exec (.umpCmd off v) s = .next t) : Sound r t := by
  change execUmpCmd off v s = _ at e
  unfold execUmpCmd at e
  cases e
  try dsimp only
  with_reducible
    repeat' first
      | assumption | intro _ | apply sound_ite | apply sound_umpCmd' | split

theorem next_umpAns {r s t : State} (h : Sound r s) (e : exec (.umpAns) s = .next t) : Sound r t := by
  change execUmpAns s = _ at e
  unfold execUmpAns at e
  cases e
  try dsimp only
  with_reducible
    repeat' first
      | assumption | intro _ | apply sound_ite | apply sound_umpAns' | split

theorem next_lockstepMismatch {r s t : State} (h : Sound r s) {x : Fin 2} {main : List ℕ} {checker : List ℕ} {same : List ResetCause} (e : exec (.lockstepMismatch x main checker same) s = .next t) : Sound r t := by
  change execLockstepMismatch x main checker same s = _ at e
  unfold execLockstepMismatch at e
  cases e
  try dsimp only
  with_reducible
    repeat' first
      | assumption | intro _ | apply sound_ite | apply sound_lockstepMismatch' | split

theorem next_lsTestWindowExpiry {r s t : State} (h : Sound r s) {x : Fin 2} {same : List ResetCause} (e : exec (.lsTestWindowExpiry x same) s = .next t) : Sound r t := by
  change execLsTestWindowExpiry x same s = _ at e
  unfold execLsTestWindowExpiry at e
  cases e
  try dsimp only
  with_reducible
    repeat' first
      | assumption | intro _ | apply sound_ite | apply sound_lsTestWindowExpiry' | split

theorem next_wdHoldWrite {r s t : State} (h : Sound r s) {m : Master} {hold : Bool} {pair : Fin 2} (e : exec (.wdHoldWrite m hold pair) s = .next t) : Sound r t := by
  change execWdHoldWrite m hold pair s = _ at e
  unfold execWdHoldWrite at e
  cases e
  try dsimp only
  with_reducible
    repeat' first
      | assumption | intro _ | apply sound_ite | apply sound_wdHoldWrite' | split

theorem next_drvStart {r s t : State} (h : Sound r s) {d : DriveIx} {vdc : Word} {te : Word} (e : exec (.drvStart d vdc te) s = .next t) : Sound r t := by
  change execDrvStart d vdc te s = _ at e
  unfold execDrvStart at e
  cases e
  try dsimp only
  with_reducible
    repeat' first
      | assumption | intro _ | apply sound_ite | apply sound_drvStart' | split

theorem next_drvStop {r s t : State} (h : Sound r s) {d : DriveIx} {te : Word} (e : exec (.drvStop d te) s = .next t) : Sound r t := by
  change execDrvStop d te s = _ at e
  unfold execDrvStop at e
  cases e
  try dsimp only
  with_reducible
    repeat' first
      | assumption | intro _ | apply sound_ite | apply sound_drvStop' | split

theorem next_catchSpinEnd {r s t : State} (h : Sound r s) {u : UnitIx} {vdc : Word} {tc : Word} {te : Word} {sets : List SpinSet} (e : exec (.catchSpinEnd u vdc tc te sets) s = .next t) : Sound r t := by
  change execCatchSpinEnd u vdc tc te sets s = _ at e
  unfold execCatchSpinEnd at e
  cases e
  try dsimp only
  with_reducible
    repeat' first
      | assumption | intro _ | apply sound_ite | apply sound_catchSpinEnd' | split

theorem next_startToRun {r s t : State} (h : Sound r s) {d : DriveIx} (e : exec (.startToRun d) s = .next t) : Sound r t := by
  change execStartToRun d s = _ at e
  unfold execStartToRun at e
  cases e
  try dsimp only
  with_reducible
    repeat' first
      | assumption | intro _ | apply sound_ite | apply sound_startToRun' | split

theorem next_reacqEntry {r s t : State} (h : Sound r s) {d : DriveIx} (e : exec (.reacqEntry d) s = .next t) : Sound r t := by
  change execReacqEntry d s = _ at e
  unfold execReacqEntry at e
  cases e
  try dsimp only
  with_reducible
    repeat' first
      | assumption | intro _ | apply sound_ite | apply sound_reacqEntry' | split

theorem next_reacqOk {r s t : State} (h : Sound r s) {d : DriveIx} (e : exec (.reacqOk d) s = .next t) : Sound r t := by
  change execReacqOk d s = _ at e
  unfold execReacqOk at e
  cases e
  try dsimp only
  with_reducible
    repeat' first
      | assumption | intro _ | apply sound_ite | apply sound_reacqOk' | split

theorem next_reacqTimeout {r s t : State} (h : Sound r s) {d : DriveIx} (e : exec (.reacqTimeout d) s = .next t) : Sound r t := by
  change execReacqTimeout d s = _ at e
  unfold execReacqTimeout at e
  cases e
  try dsimp only
  with_reducible
    repeat' first
      | assumption | intro _ | apply sound_ite | apply sound_reacqTimeout' | split

theorem next_easyAllComplete {r s t : State} (h : Sound r s) {u : UnitIx} (e : exec (.easyAllComplete u) s = .next t) : Sound r t := by
  change execEasyAllComplete u s = _ at e
  unfold execEasyAllComplete at e
  cases e
  try dsimp only
  with_reducible
    repeat' first
      | assumption | intro _ | apply sound_ite | apply sound_easyAllComplete' | split

theorem next_easyTimeout {r s t : State} (h : Sound r s) {d : DriveIx} (e : exec (.easyTimeout d) s = .next t) : Sound r t := by
  change execEasyTimeout d s = _ at e
  unfold execEasyTimeout at e
  cases e
  try dsimp only
  with_reducible
    repeat' first
      | assumption | intro _ | apply sound_ite | apply sound_easyTimeout' | split

theorem next_zeroToOff {r s t : State} (h : Sound r s) {d : DriveIx} (e : exec (.zeroToOff d) s = .next t) : Sound r t := by
  change execZeroToOff d s = _ at e
  unfold execZeroToOff at e
  cases e
  try dsimp only
  with_reducible
    repeat' first
      | assumption | intro _ | apply sound_ite | apply sound_zeroToOff' | split

theorem next_ztwOpen {r s t : State} (h : Sound r s) {d : DriveIx} {vdc : Word} (e : exec (.ztwOpen d vdc) s = .next t) : Sound r t := by
  change execZtwOpen d vdc s = _ at e
  unfold execZtwOpen at e
  cases e
  try dsimp only
  with_reducible
    repeat' first
      | assumption | intro _ | apply sound_ite | apply sound_ztwOpen' | split

theorem next_ztwClose {r s t : State} (h : Sound r s) {d : DriveIx} {vdc : Word} (e : exec (.ztwClose d vdc) s = .next t) : Sound r t := by
  change execZtwClose d vdc s = _ at e
  unfold execZtwClose at e
  cases e
  try dsimp only
  with_reducible
    repeat' first
      | assumption | intro _ | apply sound_ite | apply sound_ztwClose' | split

theorem next_brakeTimeout {r s t : State} (h : Sound r s) {d : DriveIx} (e : exec (.brakeTimeout d) s = .next t) : Sound r t := by
  change execBrakeTimeout d s = _ at e
  unfold execBrakeTimeout at e
  cases e
  try dsimp only
  with_reducible
    repeat' first
      | assumption | intro _ | apply sound_ite | apply sound_brakeTimeout' | split

theorem next_brakeToStart {r s t : State} (h : Sound r s) {d : DriveIx} (e : exec (.brakeToStart d) s = .next t) : Sound r t := by
  change execBrakeToStart d s = _ at e
  unfold execBrakeToStart at e
  cases e
  try dsimp only
  with_reducible
    repeat' first
      | assumption | intro _ | apply sound_ite | apply sound_brakeToStart' | split

theorem next_shareLim {r s t : State} (h : Sound r s) {d : DriveIx} (e : exec (.shareLim d) s = .next t) : Sound r t := by
  change execShareLim d s = _ at e
  unfold execShareLim at e
  cases e
  try dsimp only
  with_reducible
    repeat' first
      | assumption | intro _ | apply sound_ite | apply sound_shareLim' | split

theorem next_standstill {r s t : State} (h : Sound r s) {d : DriveIx} (e : exec (.standstill d) s = .next t) : Sound r t := by
  change execStandstill d s = _ at e
  unfold execStandstill at e
  cases e
  try dsimp only
  with_reducible
    repeat' first
      | assumption | intro _ | apply sound_ite | apply sound_standstill' | split

theorem next_torqueSnapshot {r s t : State} (h : Sound r s) {d : DriveIx} (e : exec (.torqueSnapshot d) s = .next t) : Sound r t := by
  change execTorqueSnapshot d s = _ at e
  unfold execTorqueSnapshot at e
  cases e
  try dsimp only
  with_reducible
    repeat' first
      | assumption | intro _ | apply sound_ite | apply sound_torqueSnapshot' | split

theorem next_tqDev {r s t : State} (h : Sound r s) {d : DriveIx} (e : exec (.tqDev d) s = .next t) : Sound r t := by
  change execTqDev d s = _ at e
  unfold execTqDev at e
  cases e
  try dsimp only
  with_reducible
    repeat' first
      | assumption | intro _ | apply sound_ite | apply sound_tqDev' | split

theorem next_dieSensorSample {r s t : State} (h : Sound r s) {control : List (BitVec 16)} {safety : Option (List (BitVec 16))} (e : exec (.dieSensorSample control safety) s = .next t) : Sound r t := by
  change execDieSensorSample control safety s = _ at e
  unfold execDieSensorSample at e
  cases e
  try dsimp only
  with_reducible
    repeat' first
      | assumption | intro _ | apply sound_ite | apply sound_dieSensorSample' | split

theorem next_sdGraceExpiry {r s t : State} (h : Sound r s) (e : exec (.sdGraceExpiry) s = .next t) : Sound r t := by
  change execSdGraceExpiry s = _ at e
  unfold execSdGraceExpiry at e
  cases e
  try dsimp only
  with_reducible
    repeat' first
      | assumption | intro _ | apply sound_ite | apply sound_sdGraceExpiry' | split

theorem next_derateUpdate {r s t : State} (h : Sound r s) (e : exec (.derateUpdate) s = .next t) : Sound r t := by
  change execDerateUpdate s = _ at e
  unfold execDerateUpdate at e
  cases e
  try dsimp only
  with_reducible
    repeat' first
      | assumption | intro _ | apply sound_ite | apply sound_derateUpdate' | split

theorem next_powerUp {r s t : State} (h : Sound r s) (e : exec (.powerUp) s = .next t) : Sound r t := by
  change execPowerUp s = _ at e
  unfold execPowerUp at e
  cases e
  try dsimp only
  with_reducible
    repeat' first
      | assumption | intro _ | apply sound_ite | apply sound_powerUp' | split

theorem next_railGood {r s t : State} (h : Sound r s) {r' : Rail} (e : exec (.railGood r') s = .next t) : Sound r t := by
  change execRailGood r' s = _ at e
  unfold execRailGood at e
  cases e
  try dsimp only
  with_reducible
    repeat' first
      | assumption | intro _ | apply sound_ite | apply sound_railGood' | split

theorem next_controlDieRelease {r s t : State} (h : Sound r s) {rstHigh : Bool} {nowMs : ℕ} (e : exec (.controlDieRelease rstHigh nowMs) s = .next t) : Sound r t := by
  change execControlDieRelease rstHigh nowMs s = _ at e
  unfold execControlDieRelease at e
  cases e
  try dsimp only
  with_reducible
    repeat' first
      | assumption | intro _ | apply sound_ite | apply sound_controlDieRelease' | split

theorem next_vsupOvWarn {r s t : State} (h : Sound r s) {rising : Bool} (e : exec (.vsupOvWarn rising) s = .next t) : Sound r t := by
  change execVsupOvWarn rising s = _ at e
  unfold execVsupOvWarn at e
  cases e
  try dsimp only
  with_reducible
    repeat' first
      | assumption | intro _ | apply sound_ite | apply sound_vsupOvWarn' | split

theorem next_vsupOv {r s t : State} (h : Sound r s) {same : List ResetCause} (e : exec (.vsupOv same) s = .next t) : Sound r t := by
  change execVsupOv same s = _ at e
  unfold execVsupOv at e
  cases e
  try dsimp only
  with_reducible
    repeat' first
      | assumption | intro _ | apply sound_ite | apply sound_vsupOv' | split

theorem next_brownOut {r s t : State} (h : Sound r s) {r' : Rail} {same : List ResetCause} (e : exec (.brownOut r' same) s = .next t) : Sound r t := by
  change execBrownOut r' same s = _ at e
  unfold execBrownOut at e
  cases e
  try dsimp only
  with_reducible
    repeat' first
      | assumption | intro _ | apply sound_ite | apply sound_brownOut' | split

theorem next_railOv {r s t : State} (h : Sound r s) {r' : Rail} {same : List ResetCause} (e : exec (.railOv r' same) s = .next t) : Sound r t := by
  change execRailOv r' same s = _ at e
  unfold execRailOv at e
  cases e
  try dsimp only
  with_reducible
    repeat' first
      | assumption | intro _ | apply sound_ite | apply sound_railOv' | split

theorem next_powerDown {r s t : State} (h : Sound r s) (e : exec (.powerDown) s = .next t) : Sound r t := by
  change execPowerDown s = _ at e
  unfold execPowerDown at e
  cases e
  try dsimp only
  with_reducible
    repeat' first
      | assumption | intro _ | apply sound_ite | apply sound_powerDown' | split

theorem next_extRst {r s t : State} (h : Sound r s) {widthNs : ℕ} {same : List ResetCause} (e : exec (.extRst widthNs same) s = .next t) : Sound r t := by
  change execExtRst widthNs same s = _ at e
  unfold execExtRst at e
  cases e
  try dsimp only
  with_reducible
    repeat' first
      | assumption | intro _ | apply sound_ite | apply sound_extRst' | split

theorem next_rstSwreq {r s t : State} (h : Sound r s) {m : Master} {key : Word} {same : List ResetCause} (e : exec (.rstSwreq m key same) s = .next t) : Sound r t := by
  change execRstSwreq m key same s = _ at e
  unfold execRstSwreq at e
  cases e
  try dsimp only
  with_reducible
    repeat' first
      | assumption | intro _ | apply sound_ite | apply sound_rstSwreq' | split

theorem next_automaticRestart {r s t : State} (h : Sound r s) {rstHigh : Bool} {nowMs : ℕ} {same : List ResetCause} (e : exec (.automaticRestart rstHigh nowMs same) s = .next t) : Sound r t := by
  change execAutomaticRestart rstHigh nowMs same s = _ at e
  unfold execAutomaticRestart at e
  cases e
  try dsimp only
  with_reducible
    repeat' first
      | assumption | intro _ | apply sound_ite | apply sound_automaticRestart' | split

theorem next_causeClear {r s t : State} (h : Sound r s) {c : RailCause} (e : exec (.causeClear c) s = .next t) : Sound r t := by
  change execCauseClear c s = _ at e
  unfold execCauseClear at e
  cases e
  try dsimp only
  with_reducible
    repeat' first
      | assumption | intro _ | apply sound_ite | apply sound_causeClear' | split

theorem next_retentionLoss {r s t : State} (h : Sound r s) (e : exec (.retentionLoss) s = .next t) : Sound r t := by
  change execRetentionLoss s = _ at e
  unfold execRetentionLoss at e
  cases e
  try dsimp only
  with_reducible
    repeat' first
      | assumption | intro _ | apply sound_ite | apply sound_retentionLoss' | split

theorem next_rcQualification {r s t : State} (h : Sound r s) {counts : List ℕ} {same : List ResetCause} (e : exec (.rcQualification counts same) s = .next t) : Sound r t := by
  change execRcQualification counts same s = _ at e
  unfold execRcQualification at e
  cases e
  try dsimp only
  with_reducible
    repeat' first
      | assumption | intro _ | apply sound_ite | apply sound_rcQualification' | split

theorem next_rcRetry {r s t : State} (h : Sound r s) (e : exec (.rcRetry) s = .next t) : Sound r t := by
  change execRcRetry s = _ at e
  unfold execRcRetry at e
  cases e
  try dsimp only
  with_reducible
    repeat' first
      | assumption | intro _ | apply sound_ite | apply sound_rcRetry' | split

theorem next_rcLadderCheck {r s t : State} (h : Sound r s) {count : ℕ} {same : List ResetCause} (e : exec (.rcLadderCheck count same) s = .next t) : Sound r t := by
  change execRcLadderCheck count same s = _ at e
  unfold execRcLadderCheck at e
  cases e
  try dsimp only
  with_reducible
    repeat' first
      | assumption | intro _ | apply sound_ite | apply sound_rcLadderCheck' | split

theorem next_rcEdgeLoss {r s t : State} (h : Sound r s) {same : List ResetCause} (e : exec (.rcEdgeLoss same) s = .next t) : Sound r t := by
  change execRcEdgeLoss same s = _ at e
  unfold execRcEdgeLoss at e
  cases e
  try dsimp only
  with_reducible
    repeat' first
      | assumption | intro _ | apply sound_ite | apply sound_rcEdgeLoss' | split

theorem next_rcTrimStep {r s t : State} (h : Sound r s) {errPpm : ℤ} (e : exec (.rcTrimStep errPpm) s = .next t) : Sound r t := by
  change execRcTrimStep errPpm s = _ at e
  unfold execRcTrimStep at e
  cases e
  try dsimp only
  with_reducible
    repeat' first
      | assumption | intro _ | apply sound_ite | apply sound_rcTrimStep' | split

theorem next_lockAttempt {r s t : State} (h : Sound r s) {refp : Bool} {refHz : ℕ} (e : exec (.lockAttempt refp refHz) s = .next t) : Sound r t := by
  change execLockAttempt refp refHz s = _ at e
  unfold execLockAttempt at e
  cases e
  try dsimp only
  with_reducible
    repeat' first
      | assumption | intro _ | apply sound_ite | apply sound_lockAttempt' | split

theorem next_bandSearchStep {r s t : State} (h : Sound r s) {count : ℕ} {count63 : ℕ} {lost : Bool} (e : exec (.bandSearchStep count count63 lost) s = .next t) : Sound r t := by
  change execBandSearchStep count count63 lost s = _ at e
  unfold execBandSearchStep at e
  cases e
  try dsimp only
  with_reducible
    repeat' first
      | assumption | intro _ | apply sound_ite | apply sound_bandSearchStep' | split

theorem next_acquireDone {r s t : State} (h : Sound r s) {errs : List (BitVec 16)} {lost : Bool} (e : exec (.acquireDone errs lost) s = .next t) : Sound r t := by
  change execAcquireDone errs lost s = _ at e
  unfold execAcquireDone at e
  cases e
  try dsimp only
  with_reducible
    repeat' first
      | assumption | intro _ | apply sound_ite | apply sound_acquireDone' | split

theorem next_acqTimeout {r s t : State} (h : Sound r s) {errs : List (BitVec 16)} {lost : Bool} (e : exec (.acqTimeout errs lost) s = .next t) : Sound r t := by
  change execAcqTimeout errs lost s = _ at e
  unfold execAcqTimeout at e
  cases e
  try dsimp only
  with_reducible
    repeat' first
      | assumption | intro _ | apply sound_ite | apply sound_acqTimeout' | split

theorem next_lockTimeout {r s t : State} (h : Sound r s) {errs : List (BitVec 16)} {lost : Bool} (e : exec (.lockTimeout errs lost) s = .next t) : Sound r t := by
  change execLockTimeout errs lost s = _ at e
  unfold execLockTimeout at e
  cases e
  try dsimp only
  with_reducible
    repeat' first
      | assumption | intro _ | apply sound_ite | apply sound_lockTimeout' | split

theorem next_dividerChange {r s t : State} (h : Sound r s) (e : exec (.dividerChange) s = .next t) : Sound r t := by
  change execDividerChange s = _ at e
  unfold execDividerChange at e
  cases e
  try dsimp only
  with_reducible
    repeat' first
      | assumption | intro _ | apply sound_ite | apply sound_dividerChange' | split

theorem next_refLoss {r s t : State} (h : Sound r s) {fines : List (BitVec 14)} (e : exec (.refLoss fines) s = .next t) : Sound r t := by
  change execRefLoss fines s = _ at e
  unfold execRefLoss at e
  cases e
  try dsimp only
  with_reducible
    repeat' first
      | assumption | intro _ | apply sound_ite | apply sound_refLoss' | split

theorem next_lol {r s t : State} (h : Sound r s) {errs : List (BitVec 16)} {fines : List (BitVec 14)} (e : exec (.lol errs fines) s = .next t) : Sound r t := by
  change execLol errs fines s = _ at e
  unfold execLol at e
  cases e
  try dsimp only
  with_reducible
    repeat' first
      | assumption | intro _ | apply sound_ite | apply sound_lol' | split

theorem next_coastExpired {r s t : State} (h : Sound r s) {same : List ResetCause} (e : exec (.coastExpired same) s = .next t) : Sound r t := by
  change execCoastExpired same s = _ at e
  unfold execCoastExpired at e
  cases e
  try dsimp only
  with_reducible
    repeat' first
      | assumption | intro _ | apply sound_ite | apply sound_coastExpired' | split

theorem next_tapStop {r s t : State} (h : Sound r s) {same : List ResetCause} (e : exec (.tapStop same) s = .next t) : Sound r t := by
  change execTapStop same s = _ at e
  unfold execTapStop at e
  cases e
  try dsimp only
  with_reducible
    repeat' first
      | assumption | intro _ | apply sound_ite | apply sound_tapStop' | split

theorem next_fastHigh {r s t : State} (h : Sound r s) {count : ℕ} {same : List ResetCause} (e : exec (.fastHigh count same) s = .next t) : Sound r t := by
  change execFastHigh count same s = _ at e
  unfold execFastHigh at e
  cases e
  try dsimp only
  with_reducible
    repeat' first
      | assumption | intro _ | apply sound_ite | apply sound_fastHigh' | split

theorem next_monitorWindow {r s t : State} (h : Sound r s) {count : BitVec 9} {full : Bool} {same : List ResetCause} (e : exec (.monitorWindow count full same) s = .next t) : Sound r t := by
  change execMonitorWindow count full same s = _ at e
  unfold execMonitorWindow at e
  cases e
  try dsimp only
  with_reducible
    repeat' first
      | assumption | intro _ | apply sound_ite | apply sound_monitorWindow' | split

theorem next_encStep {r s t : State} (h : Sound r s) {x : Fin 2} {a : List (ℕ × Bool)} {b : List (ℕ × Bool)} (e : exec (.encStep x a b) s = .next t) : Sound r t := by
  change execEncStep x a b s = _ at e
  unfold execEncStep at e
  cases e
  try dsimp only
  with_reducible
    repeat' first
      | assumption | intro _ | apply sound_ite | apply sound_encStep' | split

theorem next_encIndex {r s t : State} (h : Sound r s) {x : Fin 2} {z : List (ℕ × Bool)} (e : exec (.encIndex x z) s = .next t) : Sound r t := by
  change execEncIndex x z s = _ at e
  unfold execEncIndex at e
  cases e
  try dsimp only
  with_reducible
    repeat' first
      | assumption | intro _ | apply sound_ite | apply sound_encIndex' | split

theorem next_encZeroTimeout {r s t : State} (h : Sound r s) {x : Fin 2} (e : exec (.encZeroTimeout x) s = .next t) : Sound r t := by
  change execEncZeroTimeout x s = _ at e
  unfold execEncZeroTimeout at e
  cases e
  try dsimp only
  with_reducible
    repeat' first
      | assumption | intro _ | apply sound_ite | apply sound_encZeroTimeout' | split

theorem next_hallChange {r s t : State} (h : Sound r s) {x : Fin 2} {u : List (ℕ × Bool)} {v : List (ℕ × Bool)} {w : List (ℕ × Bool)} (e : exec (.hallChange x u v w) s = .next t) : Sound r t := by
  change execHallChange x u v w s = _ at e
  unfold execHallChange at e
  cases e
  try dsimp only
  with_reducible
    repeat' first
      | assumption | intro _ | apply sound_ite | apply sound_hallChange' | split

theorem next_hallQual {r s t : State} (h : Sound r s) {x : Fin 2} (e : exec (.hallQual x) s = .next t) : Sound r t := by
  change execHallQual x s = _ at e
  unfold execHallQual at e
  cases e
  try dsimp only
  with_reducible
    repeat' first
      | assumption | intro _ | apply sound_ite | apply sound_hallQual' | split

theorem next_hallTimeout {r s t : State} (h : Sound r s) {x : Fin 2} (e : exec (.hallTimeout x) s = .next t) : Sound r t := by
  change execHallTimeout x s = _ at e
  unfold execHallTimeout at e
  cases e
  try dsimp only
  with_reducible
    repeat' first
      | assumption | intro _ | apply sound_ite | apply sound_hallTimeout' | split

theorem next_serialFrameStart {r s t : State} (h : Sound r s) {x : Fin 2} {low : Bool} {n : ℕ} {tick : ℕ} (e : exec (.serialFrameStart x low n tick) s = .next t) : Sound r t := by
  change execSerialFrameStart x low n tick s = _ at e
  unfold execSerialFrameStart at e
  cases e
  try dsimp only
  with_reducible
    repeat' first
      | assumption | intro _ | apply sound_ite | apply sound_serialFrameStart' | split

theorem next_serialFrameEnd {r s t : State} (h : Sound r s) {x : Fin 2} {di : List (ℕ × Bool)} (e : exec (.serialFrameEnd x di) s = .next t) : Sound r t := by
  change execSerialFrameEnd x di s = _ at e
  unfold execSerialFrameEnd at e
  cases e
  try dsimp only
  with_reducible
    repeat' first
      | assumption | intro _ | apply sound_ite | apply sound_serialFrameEnd' | split

theorem next_serialTimeout {r s t : State} (h : Sound r s) {x : Fin 2} (e : exec (.serialTimeout x) s = .next t) : Sound r t := by
  change execSerialTimeout x s = _ at e
  unfold execSerialTimeout at e
  cases e
  try dsimp only
  with_reducible
    repeat' first
      | assumption | intro _ | apply sound_ite | apply sound_serialTimeout' | split

theorem next_spCtrlWrite {r s t : State} (h : Sound r s) {m : Master} {v : Word} (e : exec (.spCtrlWrite m v) s = .next t) : Sound r t := by
  change execSpCtrlWrite m v s = _ at e
  unfold execSpCtrlWrite at e
  cases e
  try dsimp only
  with_reducible
    repeat' first
      | assumption | intro _ | apply sound_ite | apply sound_spCtrlWrite' | split

theorem next_pinPeriod {r s t : State} (h : Sound r s) {k : Fin 2} {changes : List (ℕ × Bool)} (e : exec (.pinPeriod k changes) s = .next t) : Sound r t := by
  change execPinPeriod k changes s = _ at e
  unfold execPinPeriod at e
  cases e
  try dsimp only
  with_reducible
    repeat' first
      | assumption | intro _ | apply sound_ite | apply sound_pinPeriod' | split

theorem next_pinTimeout {r s t : State} (h : Sound r s) {k : Fin 2} (e : exec (.pinTimeout k) s = .next t) : Sound r t := by
  change execPinTimeout k s = _ at e
  unfold execPinTimeout at e
  cases e
  try dsimp only
  with_reducible
    repeat' first
      | assumption | intro _ | apply sound_ite | apply sound_pinTimeout' | split

theorem next_injStart {r s t : State} (h : Sound r s) {m : Master} {g : Fin 2} (e : exec (.injStart m g) s = .next t) : Sound r t := by
  change execInjStart m g s = _ at e
  unfold execInjStart at e
  cases e
  try dsimp only
  with_reducible
    repeat' first
      | assumption | intro _ | apply sound_ite | apply sound_injStart' | split

theorem next_injStop {r s t : State} (h : Sound r s) {m : Master} {g : Fin 2} (e : exec (.injStop m g) s = .next t) : Sound r t := by
  change execInjStop m g s = _ at e
  unfold execInjStop at e
  cases e
  try dsimp only
  with_reducible
    repeat' first
      | assumption | intro _ | apply sound_ite | apply sound_injStop' | split

theorem next_injAbort {r s t : State} (h : Sound r s) {m : Master} {g : Fin 2} (e : exec (.injAbort m g) s = .next t) : Sound r t := by
  change execInjAbort m g s = _ at e
  unfold execInjAbort at e
  cases e
  try dsimp only
  with_reducible
    repeat' first
      | assumption | intro _ | apply sound_ite | apply sound_injAbort' | split

theorem next_injAmpWrite {r s t : State} (h : Sound r s) {m : Master} {p : Fin 8} {v : Word} (e : exec (.injAmpWrite m p v) s = .next t) : Sound r t := by
  change execInjAmpWrite m p v s = _ at e
  unfold execInjAmpWrite at e
  cases e
  try dsimp only
  with_reducible
    repeat' first
      | assumption | intro _ | apply sound_ite | apply sound_injAmpWrite' | split

theorem next_capArm {r s t : State} (h : Sound r s) {m : Master} {c : Fin 8} (e : exec (.capArm m c) s = .next t) : Sound r t := by
  change execCapArm m c s = _ at e
  unfold execCapArm at e
  cases e
  try dsimp only
  with_reducible
    repeat' first
      | assumption | intro _ | apply sound_ite | apply sound_capArm' | split

theorem next_capStop {r s t : State} (h : Sound r s) {m : Master} {c : Fin 8} (e : exec (.capStop m c) s = .next t) : Sound r t := by
  change execCapStop m c s = _ at e
  unfold execCapStop at e
  cases e
  try dsimp only
  with_reducible
    repeat' first
      | assumption | intro _ | apply sound_ite | apply sound_capStop' | split

theorem next_datumArrival {r s t : State} (h : Sound r s) {b : Fin 2048} {tag : Fin 256} (e : exec (.datumArrival b tag) s = .next t) : Sound r t := by
  change execDatumArrival b tag s = _ at e
  unfold execDatumArrival at e
  cases e
  try dsimp only
  with_reducible
    repeat' first
      | assumption | intro _ | apply sound_ite | apply sound_datumArrival' | split

theorem next_inputDeadline {r s t : State} (h : Sound r s) {b : Fin 2048} {u : Fin 5} (e : exec (.inputDeadline b u) s = .next t) : Sound r t := by
  change execInputDeadline b u s = _ at e
  unfold execInputDeadline at e
  cases e
  try dsimp only
  with_reducible
    repeat' first
      | assumption | intro _ | apply sound_ite | apply sound_inputDeadline' | split

theorem next_catchNumLoRead {r s t : State} (h : Sound r s) (e : exec (.catchNumLoRead) s = .next t) : Sound r t := by
  change execCatchNumLoRead s = _ at e
  unfold execCatchNumLoRead at e
  cases e
  try dsimp only
  with_reducible
    repeat' first
      | assumption | intro _ | apply sound_ite | apply sound_catchNumLoRead' | split

theorem next_rotationTimer {r s t : State} (h : Sound r s) (e : exec (.rotationTimer) s = .next t) : Sound r t := by
  change execRotationTimer s = _ at e
  unfold execRotationTimer at e
  cases e
  try dsimp only
  with_reducible
    repeat' first
      | assumption | intro _ | apply sound_ite | apply sound_rotationTimer' | split

theorem next_copyStart {r s t : State} (h : Sound r s) (e : exec (.copyStart) s = .next t) : Sound r t := by
  change execCopyStart s = _ at e
  unfold execCopyStart at e
  cases e
  try dsimp only
  with_reducible
    repeat' first
      | assumption | intro _ | apply sound_ite | apply sound_copyStart' | split

theorem next_copyComplete {r s t : State} (h : Sound r s) {uncorr : Bool} (e : exec (.copyComplete uncorr) s = .next t) : Sound r t := by
  change execCopyComplete uncorr s = _ at e
  unfold execCopyComplete at e
  cases e
  try dsimp only
  with_reducible
    repeat' first
      | assumption | intro _ | apply sound_ite | apply sound_copyComplete' | split

theorem next_subTakeover {r s t : State} (h : Sound r s) (e : exec (.subTakeover) s = .next t) : Sound r t := by
  change execSubTakeover s = _ at e
  unfold execSubTakeover at e
  cases e
  try dsimp only
  with_reducible
    repeat' first
      | assumption | intro _ | apply sound_ite | apply sound_subTakeover' | split

theorem next_istComplete {r s t : State} (h : Sound r s) {sig : Word} {march : List ℕ} {corrected : Bool} {detected : Bool} (e : exec (.istComplete sig march corrected detected) s = .next t) : Sound r t := by
  change execIstComplete sig march corrected detected s = _ at e
  unfold execIstComplete at e
  cases e
  try dsimp only
  with_reducible
    repeat' first
      | assumption | intro _ | apply sound_ite | apply sound_istComplete' | split

theorem next_xbarCreditReturn {r s t : State} (h : Sound r s) {i : ℕ} {last : Bool} {cycles : ℕ} (e : exec (.xbarCreditReturn i last cycles) s = .next t) : Sound r t := by
  change execXbarCreditReturn i last cycles s = _ at e
  unfold execXbarCreditReturn at e
  cases e
  try dsimp only
  with_reducible
    repeat' first
      | assumption | intro _ | apply sound_ite | apply sound_xbarCreditReturn' | split

theorem next_scrubRead {r s t : State} (h : Sound r s) {outcome : Fin 3} (e : exec (.scrubRead outcome) s = .next t) : Sound r t := by
  change execScrubRead outcome s = _ at e
  unfold execScrubRead at e
  cases e
  try dsimp only
  with_reducible
    repeat' first
      | assumption | intro _ | apply sound_ite | apply sound_scrubRead' | split

theorem next_activate {r s t : State} (h : Sound r s) {m : Master} (e : exec (.activate m) s = .next t) : Sound r t := by
  change execActivate m s = _ at e
  unfold execActivate at e
  cases e
  try dsimp only
  with_reducible
    repeat' first
      | assumption | intro _ | apply sound_ite | apply sound_activate' | split

theorem next_arm {r s t : State} (h : Sound r s) {m : Master} (e : exec (.arm m) s = .next t) : Sound r t := by
  change execArm m s = _ at e
  unfold execArm at e
  cases e
  try dsimp only
  with_reducible
    repeat' first
      | assumption | intro _ | apply sound_ite | apply sound_arm' | split

theorem next_cancel {r s t : State} (h : Sound r s) {m : Master} (e : exec (.cancel m) s = .next t) : Sound r t := by
  change execCancel m s = _ at e
  unfold execCancel at e
  cases e
  try dsimp only
  with_reducible
    repeat' first
      | assumption | intro _ | apply sound_ite | apply sound_cancel' | split

theorem next_activationEffect {r s t : State} (h : Sound r s) {tick : ℕ} (e : exec (.activationEffect tick) s = .next t) : Sound r t := by
  change execActivationEffect tick s = _ at e
  unfold execActivationEffect at e
  cases e
  try dsimp only
  with_reducible
    repeat' first
      | assumption | intro _ | apply sound_ite | apply sound_activationEffect' | split

theorem next_fabricReactivate {r s t : State} (h : Sound r s) {tick : ℕ} (e : exec (.fabricReactivate tick) s = .next t) : Sound r t := by
  change execFabricReactivate tick s = _ at e
  unfold execFabricReactivate at e
  cases e
  try dsimp only
  with_reducible
    repeat' first
      | assumption | intro _ | apply sound_ite | apply sound_fabricReactivate' | split

theorem next_switchCommit {r s t : State} (h : Sound r s) (e : exec (.switchCommit) s = .next t) : Sound r t := by
  change execSwitchCommit s = _ at e
  unfold execSwitchCommit at e
  cases e
  try dsimp only
  with_reducible
    repeat' first
      | assumption | intro _ | apply sound_ite | apply sound_switchCommit' | split

theorem next_switchSwap {r s t : State} (h : Sound r s) (e : exec (.switchSwap) s = .next t) : Sound r t := by
  change execSwitchSwap s = _ at e
  unfold execSwitchSwap at e
  cases e
  try dsimp only
  with_reducible
    repeat' first
      | assumption | intro _ | apply sound_ite | apply sound_switchSwap' | split

theorem next_loadSramPhaseEnd {r s t : State} (h : Sound r s) {ecc : Bool} (e : exec (.loadSramPhaseEnd ecc) s = .next t) : Sound r t := by
  change execLoadSramPhaseEnd ecc s = _ at e
  unfold execLoadSramPhaseEnd at e
  cases e
  try dsimp only
  with_reducible
    repeat' first
      | assumption | intro _ | apply sound_ite | apply sound_loadSramPhaseEnd' | split

theorem next_loadCopyEnd {r s t : State} (h : Sound r s) (e : exec (.loadCopyEnd) s = .next t) : Sound r t := by
  change execLoadCopyEnd s = _ at e
  unfold execLoadCopyEnd at e
  cases e
  try dsimp only
  with_reducible
    repeat' first
      | assumption | intro _ | apply sound_ite | apply sound_loadCopyEnd' | split

theorem next_bistPhaseEnd {r s t : State} (h : Sound r s) {e' : BistEnd} {same : List ResetCause} (e : exec (.bistPhaseEnd e' same) s = .next t) : Sound r t := by
  change execBistPhaseEnd e' same s = _ at e
  unfold execBistPhaseEnd at e
  cases e
  try dsimp only
  with_reducible
    repeat' first
      | assumption | intro _ | apply sound_ite | apply sound_bistPhaseEnd' | split

theorem next_keygenDone {r s t : State} (h : Sound r s) {ok : Bool} (e : exec (.keygenDone ok) s = .next t) : Sound r t := by
  change execKeygenDone ok s = _ at e
  unfold execKeygenDone at e
  cases e
  try dsimp only
  with_reducible
    repeat' first
      | assumption | intro _ | apply sound_ite | apply sound_keygenDone' | split

theorem next_fwSlotVerified {r s t : State} (h : Sound r s) {flash : List (ℕ × List Byte)} {ms : ℕ} (e : exec (.fwSlotVerified flash ms) s = .next t) : Sound r t := by
  change execFwSlotVerified flash ms s = _ at e
  unfold execFwSlotVerified at e
  cases e
  try dsimp only
  with_reducible
    repeat' first
      | assumption | intro _ | apply sound_ite | apply sound_fwSlotVerified' | split

theorem next_secFcmdGo {r s t : State} (h : Sound r s) {m : Master} (e : exec (.secFcmdGo m) s = .next t) : Sound r t := by
  change execSecFcmdGo m s = _ at e
  unfold execSecFcmdGo at e
  cases e
  try dsimp only
  with_reducible
    repeat' first
      | assumption | intro _ | apply sound_ite | apply sound_secFcmdGo' | split

theorem next_fuseCommandDone {r s t : State} (h : Sound r s) {ok : Bool} (e : exec (.fuseCommandDone ok) s = .next t) : Sound r t := by
  change execFuseCommandDone ok s = _ at e
  unfold execFuseCommandDone at e
  cases e
  try dsimp only
  with_reducible
    repeat' first
      | assumption | intro _ | apply sound_ite | apply sound_fuseCommandDone' | split

theorem next_debugAttach {r s t : State} (h : Sound r s) {x : Fin 2} (e : exec (.debugAttach x) s = .next t) : Sound r t := by
  change execDebugAttach x s = _ at e
  unfold execDebugAttach at e
  cases e
  try dsimp only
  with_reducible
    repeat' first
      | assumption | intro _ | apply sound_ite | apply sound_debugAttach' | split

theorem next_testenEntry {r s t : State} (h : Sound r s) (e : exec (.testenEntry) s = .next t) : Sound r t := by
  change execTestenEntry s = _ at e
  unfold execTestenEntry at e
  cases e
  try dsimp only
  with_reducible
    repeat' first
      | assumption | intro _ | apply sound_ite | apply sound_testenEntry' | split

theorem next_wipeDone {r s t : State} (h : Sound r s) {ok : Bool} (e : exec (.wipeDone ok) s = .next t) : Sound r t := by
  change execWipeDone ok s = _ at e
  unfold execWipeDone at e
  cases e
  try dsimp only
  with_reducible
    repeat' first
      | assumption | intro _ | apply sound_ite | apply sound_wipeDone' | split

theorem next_lsTest {r s t : State} (h : Sound r s) {x : Fin 2} {ended : Bool} {same : List ResetCause} (e : exec (.lsTest x ended same) s = .next t) : Sound r t := by
  change execLsTest x ended same s = _ at e
  unfold execLsTest at e
  cases e
  try dsimp only
  with_reducible
    repeat' first
      | assumption | intro _ | apply sound_ite | apply sound_testsEnd | apply sound_lsTest' | split

theorem next_mbAbort {r s t : State} (h : Sound r s) {m : Master} {c : Fin 4} (e : exec (.mbAbort m c) s = .next t) : Sound r t := by
  change execMbAbort m c s = _ at e
  unfold execMbAbort at e
  cases e
  try dsimp only
  with_reducible
    repeat' first
      | assumption | intro _ | apply sound_ite | apply sound_mbAbort' | split

theorem next_info {r s t : State} (h : Sound r s) {c : Fin 4} (e : exec (.info c) s = .next t) : Sound r t := by
  change execInfo c s = _ at e
  unfold execInfo at e
  cases e
  try dsimp only
  with_reducible
    repeat' first
      | assumption | intro _ | apply sound_ite | apply sound_info' | split

theorem next_planLoad {r s t : State} (h : Sound r s) {c : Fin 4} (e : exec (.planLoad c) s = .next t) : Sound r t := by
  change execPlanLoad c s = _ at e
  unfold execPlanLoad at e
  cases e
  try dsimp only
  with_reducible
    repeat' first
      | assumption | intro _ | apply sound_ite | apply sound_planLoad' | split

theorem next_planActivate {r s t : State} (h : Sound r s) {c : Fin 4} (e : exec (.planActivate c) s = .next t) : Sound r t := by
  change execPlanActivate c s = _ at e
  unfold execPlanActivate at e
  cases e
  try dsimp only
  with_reducible
    repeat' first
      | assumption | intro _ | apply sound_ite | apply sound_planActivate' | split

theorem next_planCancel {r s t : State} (h : Sound r s) {c : Fin 4} (e : exec (.planCancel c) s = .next t) : Sound r t := by
  change execPlanCancel c s = _ at e
  unfold execPlanCancel at e
  cases e
  try dsimp only
  with_reducible
    repeat' first
      | assumption | intro _ | apply sound_ite | apply sound_planCancel' | split

theorem next_calibrate {r s t : State} (h : Sound r s) {c : Fin 4} (e : exec (.calibrate c) s = .next t) : Sound r t := by
  change execCalibrate c s = _ at e
  unfold execCalibrate at e
  cases e
  try dsimp only
  with_reducible
    repeat' first
      | assumption | intro _ | apply sound_ite | apply sound_calibrate' | split

theorem next_selftest {r s t : State} (h : Sound r s) {c : Fin 4} (e : exec (.selftest c) s = .next t) : Sound r t := by
  change execSelftest c s = _ at e
  unfold execSelftest at e
  cases e
  try dsimp only
  with_reducible
    repeat' first
      | assumption | intro _ | apply sound_ite | apply sound_selftest' | split

theorem next_selftestStart {r s t : State} (h : Sound r s) {c : Fin 4} (e : exec (.selftestStart c) s = .next t) : Sound r t := by
  change execSelftestStart c s = _ at e
  unfold execSelftestStart at e
  cases e
  try dsimp only
  with_reducible
    repeat' first
      | assumption | intro _ | apply sound_ite | apply sound_selftestStart' | split

theorem next_selftestEnd {r s t : State} (h : Sound r s) {c : Fin 4} {loops : List Loopback} {refs : List SarRefs} {gates : List GateRead} {reads : List (List (BitVec 16))} (e : exec (.selftestEnd c loops refs gates reads) s = .next t) : Sound r t := by
  change execSelftestEnd c loops refs gates reads s = _ at e
  unfold execSelftestEnd at e
  cases e
  try dsimp only
  with_reducible
    repeat' first
      | assumption | intro _ | apply sound_ite | apply sound_selftestEnd' | split

theorem next_fsClear {r s t : State} (h : Sound r s) {c : Fin 4} (e : exec (.fsClear c) s = .next t) : Sound r t := by
  change execFsClear c s = _ at e
  unfold execFsClear at e
  cases e
  try dsimp only
  with_reducible
    repeat' first
      | assumption | intro _ | apply sound_ite | apply sound_fsClear' | split

theorem next_brkClear {r s t : State} (h : Sound r s) {c : Fin 4} (e : exec (.brkClear c) s = .next t) : Sound r t := by
  change execBrkClear c s = _ at e
  unfold execBrkClear at e
  cases e
  try dsimp only
  with_reducible
    repeat' first
      | assumption | intro _ | apply sound_ite | apply sound_brkClear' | split

theorem next_release {r s t : State} (h : Sound r s) {c : Fin 4} (e : exec (.release c) s = .next t) : Sound r t := by
  change execRelease c s = _ at e
  unfold execRelease at e
  cases e
  try dsimp only
  with_reducible
    repeat' first
      | assumption | intro _ | apply sound_ite | apply sound_release' | split

theorem next_discharge {r s t : State} (h : Sound r s) {c : Fin 4} (e : exec (.discharge c) s = .next t) : Sound r t := by
  change execDischarge c s = _ at e
  unfold execDischarge at e
  cases e
  try dsimp only
  with_reducible
    repeat' first
      | assumption | intro _ | apply sound_ite | apply sound_discharge' | split

theorem next_contactor {r s t : State} (h : Sound r s) {c : Fin 4} (e : exec (.contactor c) s = .next t) : Sound r t := by
  change execContactor c s = _ at e
  unfold execContactor at e
  cases e
  try dsimp only
  with_reducible
    repeat' first
      | assumption | intro _ | apply sound_ite | apply sound_contactor' | split

theorem next_attest {r s t : State} (h : Sound r s) {c : Fin 4} (e : exec (.attest c) s = .next t) : Sound r t := by
  change execAttest c s = _ at e
  unfold execAttest at e
  cases e
  try dsimp only
  with_reducible
    repeat' first
      | assumption | intro _ | apply sound_ite | apply sound_attest' | split

theorem next_pairing {r s t : State} (h : Sound r s) {c : Fin 4} (e : exec (.pairing c) s = .next t) : Sound r t := by
  change execPairing c s = _ at e
  unfold execPairing at e
  cases e
  try dsimp only
  with_reducible
    repeat' first
      | assumption | intro _ | apply sound_ite | apply sound_pairing' | split

theorem next_registerWrite {r s t : State} (h : Sound r s) {m : Master} {size : AccessSize} {addr : Word} {v : Word} {same : Word} (e : exec (.registerWrite m size addr v same) s = .next t) : Sound r t := by
  change execRegisterWrite m size addr v same s = _ at e
  unfold execRegisterWrite at e
  cases e
  try dsimp only
  with_reducible
    repeat' first
      | assumption | intro _ | apply sound_ite | apply sound_registerWrite' | split

theorem next_pageEnableClear {r s t : State} (h : Sound r s) {m : Master} {page : Fin 32} (e : exec (.pageEnableClear m page) s = .next t) : Sound r t := by
  change execPageEnableClear m page s = _ at e
  unfold execPageEnableClear at e
  cases e
  try dsimp only
  with_reducible
    repeat' first
      | assumption | intro _ | apply sound_ite | apply sound_pageEnableClear' | split

theorem next_blockIdle {r s t : State} (h : Sound r s) {page : Fin 32} (e : exec (.blockIdle page) s = .next t) : Sound r t := by
  change execBlockIdle page s = _ at e
  unfold execBlockIdle at e
  cases e
  try dsimp only
  with_reducible
    repeat' first
      | assumption | intro _ | apply sound_ite | apply sound_blockIdle' | split

theorem next_pageSeal {r s t : State} (h : Sound r s) {m : Master} {page : Fin 32} (e : exec (.pageSeal m page) s = .next t) : Sound r t := by
  change execPageSeal m page s = _ at e
  unfold execPageSeal at e
  cases e
  try dsimp only
  with_reducible
    repeat' first
      | assumption | intro _ | apply sound_ite | apply sound_pageSeal' | split

theorem next_pageLockWrite {r s t : State} (h : Sound r s) {m : Master} {page : Fin 32} {lock : Bool} (e : exec (.pageLockWrite m page lock) s = .next t) : Sound r t := by
  change execPageLockWrite m page lock s = _ at e
  unfold execPageLockWrite at e
  cases e
  try dsimp only
  with_reducible
    repeat' first
      | assumption | intro _ | apply sound_ite | apply sound_pageLockWrite' | split

theorem next_pageErrClear {r s t : State} (h : Sound r s) {m : Master} {page : Fin 32} (e : exec (.pageErrClear m page) s = .next t) : Sound r t := by
  change execPageErrClear m page s = _ at e
  unfold execPageErrClear at e
  cases e
  try dsimp only
  with_reducible
    repeat' first
      | assumption | intro _ | apply sound_ite | apply sound_pageErrClear' | split

theorem next_canRecover {r s t : State} (h : Sound r s) {m : Master} {i : Fin 2} (e : exec (.canRecover m i) s = .next t) : Sound r t := by
  change execCanRecover m i s = _ at e
  unfold execCanRecover at e
  cases e
  try dsimp only
  with_reducible
    repeat' first
      | assumption | intro _ | apply sound_ite | apply sound_canRecover' | split

theorem next_drvTrqWrite {r s t : State} (h : Sound r s) {m : Master} {d : DriveIx} {v : Word} (e : exec (.drvTrqWrite m d v) s = .next t) : Sound r t := by
  change execDrvTrqWrite m d v s = _ at e
  unfold execDrvTrqWrite at e
  cases e
  try dsimp only
  with_reducible
    repeat' first
      | assumption | intro _ | apply sound_ite | apply sound_drvTrqWrite' | split

theorem next_cascXfer {r s t : State} (h : Sound r s) {m : Master} {v : Word} (e : exec (.cascXfer m v) s = .next t) : Sound r t := by
  change execCascXfer m v s = _ at e
  unfold execCascXfer at e
  cases e
  try dsimp only
  with_reducible
    repeat' first
      | assumption | intro _ | apply sound_ite | apply sound_cascXfer' | split

theorem next_cascCmdRestart {r s t : State} (h : Sound r s) {m : Master} (e : exec (.cascCmdRestart m) s = .next t) : Sound r t := by
  change execCascCmdRestart m s = _ at e
  unfold execCascCmdRestart at e
  cases e
  try dsimp only
  with_reducible
    repeat' first
      | assumption | intro _ | apply sound_ite | apply sound_cascCmdRestart' | split

theorem next_loadSmp {r s t : State} (h : Sound r s) {r' : OpRec} {ix0 : Fin 8192} {err : SeatErr} (e : exec (.loadSmp r' ix0 err) s = .next t) : Sound r t := by
  change execLoadSmp r' ix0 err s = _ at e
  unfold execLoadSmp State.seatOp at e
  split at e
  case isFalse => cases e
  cases e
  try dsimp only
  with_reducible
    repeat' first
      | assumption | intro _ | apply sound_issue | apply sound_ite | apply sound_onDie | apply sound_opLoadSmp | split

theorem next_emitPwm {r s t : State} (h : Sound r s) {r' : OpRec} {ix : Fin 8192} {err : SeatErr} {atNs : ℕ} (e : exec (.emitPwm r' ix err atNs) s = .next t) : Sound r t := by
  change execEmitPwm r' ix err atNs s = _ at e
  unfold execEmitPwm State.seatOp at e
  split at e
  case isFalse => cases e
  cases e
  try dsimp only
  with_reducible
    repeat' first
      | assumption | intro _ | apply sound_issue | apply sound_ite | apply sound_onDie | apply sound_opEmitPwm | split

theorem next_exch {r s t : State} (h : Sound r s) {r' : OpRec} {ix : Fin 8192} {err : SeatErr} (e : exec (.exch r' ix err) s = .next t) : Sound r t := by
  change execExch r' ix err s = _ at e
  unfold execExch State.seatOp at e
  split at e
  case isFalse => cases e
  cases e
  try dsimp only
  with_reducible
    repeat' first
      | assumption | intro _ | apply sound_issue | apply sound_ite | apply sound_onDie | apply sound_opExch | split

theorem next_capture {r s t : State} (h : Sound r s) {r' : OpRec} {ix : Fin 8192} {err : SeatErr} (e : exec (.capture r' ix err) s = .next t) : Sound r t := by
  change execCapture r' ix err s = _ at e
  unfold execCapture State.seatOp at e
  split at e
  case isFalse => cases e
  cases e
  try dsimp only
  with_reducible
    repeat' first
      | assumption | intro _ | apply sound_issue | apply sound_ite | apply sound_onDie | apply sound_opCapture | split

theorem next_inject {r s t : State} (h : Sound r s) {r' : OpRec} {ix0 : Fin 8192} {err : SeatErr} {late : Bool} (e : exec (.inject r' ix0 err late) s = .next t) : Sound r t := by
  change execInject r' ix0 err late s = _ at e
  unfold execInject State.seatOp at e
  split at e
  case isFalse => cases e
  cases e
  try dsimp only
  with_reducible
    repeat' first
      | assumption | intro _ | apply sound_issue | apply sound_ite | apply sound_onDie | apply sound_opInject | split

theorem next_trqEst {r s t : State} (h : Sound r s) {r' : OpRec} {ix0 : Fin 8192} {err : SeatErr} (e : exec (.trqEst r' ix0 err) s = .next t) : Sound r t := by
  change execTrqEst r' ix0 err s = _ at e
  unfold execTrqEst State.seatOp at e
  split at e
  case isFalse => cases e
  cases e
  try dsimp only
  with_reducible
    repeat' first
      | assumption | intro _ | apply sound_issue | apply sound_ite | apply sound_onDie | apply sound_opTrqEst | split

theorem next_bandSel {r s t : State} (h : Sound r s) {r' : OpRec} {ix0 : Fin 8192} {err : SeatErr} (e : exec (.bandSel r' ix0 err) s = .next t) : Sound r t := by
  change execBandSel r' ix0 err s = _ at e
  unfold execBandSel State.seatOp at e
  split at e
  case isFalse => cases e
  cases e
  try dsimp only
  with_reducible
    repeat' first
      | assumption | intro _ | apply sound_issue | apply sound_ite | apply sound_onDie | apply sound_opBandSel | split

theorem next_check {r s t : State} (h : Sound r s) {r' : OpRec} {ix : Fin 8192} {err : SeatErr} (e : exec (.check r' ix err) s = .next t) : Sound r t := by
  change execCheck r' ix err s = _ at e
  unfold execCheck State.seatOp at e
  split at e
  case isFalse => cases e
  cases e
  try dsimp only
  with_reducible
    repeat' first
      | assumption | intro _ | apply sound_issue | apply sound_ite | apply sound_onDie | apply sound_opCheck | split

theorem next_clarke3 {r s t : State} (h : Sound r s) {r' : OpRec} {ix0 : Fin 8192} {err : SeatErr} (e : exec (.clarke3 r' ix0 err) s = .next t) : Sound r t := by
  change execClarke3 r' ix0 err s = _ at e
  unfold execClarke3 State.seatOp at e
  split at e
  case isFalse => cases e
  cases e
  try dsimp only
  with_reducible
    repeat' first
      | assumption | intro _ | apply sound_issue | apply sound_ite | apply sound_onDie | apply sound_opClarke3 | split

theorem next_clarkeN {r s t : State} (h : Sound r s) {r' : OpRec} {ix0 : Fin 8192} {err : SeatErr} (e : exec (.clarkeN r' ix0 err) s = .next t) : Sound r t := by
  change execClarkeN r' ix0 err s = _ at e
  unfold execClarkeN State.seatOp at e
  split at e
  case isFalse => cases e
  cases e
  try dsimp only
  with_reducible
    repeat' first
      | assumption | intro _ | apply sound_issue | apply sound_ite | apply sound_onDie | apply sound_opClarkeN | split

theorem next_park {r s t : State} (h : Sound r s) {r' : OpRec} {ix0 : Fin 8192} {err : SeatErr} (e : exec (.park r' ix0 err) s = .next t) : Sound r t := by
  change execPark r' ix0 err s = _ at e
  unfold execPark State.seatOp at e
  split at e
  case isFalse => cases e
  cases e
  try dsimp only
  with_reducible
    repeat' first
      | assumption | intro _ | apply sound_issue | apply sound_ite | apply sound_onDie | apply sound_opPark | split

theorem next_ipark {r s t : State} (h : Sound r s) {r' : OpRec} {ix0 : Fin 8192} {err : SeatErr} (e : exec (.ipark r' ix0 err) s = .next t) : Sound r t := by
  change execIpark r' ix0 err s = _ at e
  unfold execIpark State.seatOp at e
  split at e
  case isFalse => cases e
  cases e
  try dsimp only
  with_reducible
    repeat' first
      | assumption | intro _ | apply sound_issue | apply sound_ite | apply sound_onDie | apply sound_opIpark | split

theorem next_sincos {r s t : State} (h : Sound r s) {r' : OpRec} {ix0 : Fin 8192} {err : SeatErr} (e : exec (.sincos r' ix0 err) s = .next t) : Sound r t := by
  change execSincos r' ix0 err s = _ at e
  unfold execSincos State.seatOp at e
  split at e
  case isFalse => cases e
  cases e
  try dsimp only
  with_reducible
    repeat' first
      | assumption | intro _ | apply sound_issue | apply sound_ite | apply sound_onDie | apply sound_opSincos | split

theorem next_svm3 {r s t : State} (h : Sound r s) {r' : OpRec} {ix0 : Fin 8192} {err : SeatErr} (e : exec (.svm3 r' ix0 err) s = .next t) : Sound r t := by
  change execSvm3 r' ix0 err s = _ at e
  unfold execSvm3 State.seatOp at e
  split at e
  case isFalse => cases e
  cases e
  try dsimp only
  with_reducible
    repeat' first
      | assumption | intro _ | apply sound_issue | apply sound_ite | apply sound_onDie | apply sound_opSvm3 | split

theorem next_spwmN {r s t : State} (h : Sound r s) {r' : OpRec} {ix0 : Fin 8192} {err : SeatErr} (e : exec (.spwmN r' ix0 err) s = .next t) : Sound r t := by
  change execSpwmN r' ix0 err s = _ at e
  unfold execSpwmN State.seatOp at e
  split at e
  case isFalse => cases e
  cases e
  try dsimp only
  with_reducible
    repeat' first
      | assumption | intro _ | apply sound_issue | apply sound_ite | apply sound_onDie | apply sound_opSpwmN | split

theorem next_deadcomp {r s t : State} (h : Sound r s) {r' : OpRec} {ix0 : Fin 8192} {err : SeatErr} (e : exec (.deadcomp r' ix0 err) s = .next t) : Sound r t := by
  change execDeadcomp r' ix0 err s = _ at e
  unfold execDeadcomp State.seatOp at e
  split at e
  case isFalse => cases e
  cases e
  try dsimp only
  with_reducible
    repeat' first
      | assumption | intro _ | apply sound_issue | apply sound_ite | apply sound_onDie | apply sound_opDeadcomp | split

theorem next_pi {r s t : State} (h : Sound r s) {r' : OpRec} {ix0 : Fin 8192} {err : SeatErr} (e : exec (.pi r' ix0 err) s = .next t) : Sound r t := by
  change execPi r' ix0 err s = _ at e
  unfold execPi State.seatOp at e
  split at e
  case isFalse => cases e
  cases e
  try dsimp only
  with_reducible
    repeat' first
      | assumption | intro _ | apply sound_issue | apply sound_ite | apply sound_onDie | apply sound_opPi | split

theorem next_pidFd {r s t : State} (h : Sound r s) {r' : OpRec} {ix0 : Fin 8192} {err : SeatErr} (e : exec (.pidFd r' ix0 err) s = .next t) : Sound r t := by
  change execPidFd r' ix0 err s = _ at e
  unfold execPidFd State.seatOp at e
  split at e
  case isFalse => cases e
  cases e
  try dsimp only
  with_reducible
    repeat' first
      | assumption | intro _ | apply sound_issue | apply sound_ite | apply sound_onDie | apply sound_opPidFd | split

theorem next_ffAdd {r s t : State} (h : Sound r s) {r' : OpRec} {ix0 : Fin 8192} {err : SeatErr} (e : exec (.ffAdd r' ix0 err) s = .next t) : Sound r t := by
  change execFfAdd r' ix0 err s = _ at e
  unfold execFfAdd State.seatOp at e
  split at e
  case isFalse => cases e
  cases e
  try dsimp only
  with_reducible
    repeat' first
      | assumption | intro _ | apply sound_issue | apply sound_ite | apply sound_onDie | apply sound_opFfAdd | split

theorem next_limit {r s t : State} (h : Sound r s) {r' : OpRec} {ix0 : Fin 8192} {err : SeatErr} (e : exec (.limit r' ix0 err) s = .next t) : Sound r t := by
  change execLimit r' ix0 err s = _ at e
  unfold execLimit State.seatOp at e
  split at e
  case isFalse => cases e
  cases e
  try dsimp only
  with_reducible
    repeat' first
      | assumption | intro _ | apply sound_issue | apply sound_ite | apply sound_onDie | apply sound_opLimit | split

theorem next_rateLim {r s t : State} (h : Sound r s) {r' : OpRec} {ix0 : Fin 8192} {err : SeatErr} (e : exec (.rateLim r' ix0 err) s = .next t) : Sound r t := by
  change execRateLim r' ix0 err s = _ at e
  unfold execRateLim State.seatOp at e
  split at e
  case isFalse => cases e
  cases e
  try dsimp only
  with_reducible
    repeat' first
      | assumption | intro _ | apply sound_issue | apply sound_ite | apply sound_onDie | apply sound_opRateLim | split

theorem next_vlimCirc {r s t : State} (h : Sound r s) {r' : OpRec} {ix0 : Fin 8192} {err : SeatErr} (e : exec (.vlimCirc r' ix0 err) s = .next t) : Sound r t := by
  change execVlimCirc r' ix0 err s = _ at e
  unfold execVlimCirc State.seatOp at e
  split at e
  case isFalse => cases e
  cases e
  try dsimp only
  with_reducible
    repeat' first
      | assumption | intro _ | apply sound_issue | apply sound_ite | apply sound_onDie | apply sound_opVlimCirc | split

theorem next_lpf1 {r s t : State} (h : Sound r s) {r' : OpRec} {ix0 : Fin 8192} {err : SeatErr} (e : exec (.lpf1 r' ix0 err) s = .next t) : Sound r t := by
  change execLpf1 r' ix0 err s = _ at e
  unfold execLpf1 State.seatOp at e
  split at e
  case isFalse => cases e
  cases e
  try dsimp only
  with_reducible
    repeat' first
      | assumption | intro _ | apply sound_issue | apply sound_ite | apply sound_onDie | apply sound_opLpf1 | split

theorem next_notch2 {r s t : State} (h : Sound r s) {r' : OpRec} {ix0 : Fin 8192} {err : SeatErr} (e : exec (.notch2 r' ix0 err) s = .next t) : Sound r t := by
  change execNotch2 r' ix0 err s = _ at e
  unfold execNotch2 State.seatOp at e
  split at e
  case isFalse => cases e
  cases e
  try dsimp only
  with_reducible
    repeat' first
      | assumption | intro _ | apply sound_issue | apply sound_ite | apply sound_onDie | apply sound_opNotch2 | split

theorem next_lut1 {r s t : State} (h : Sound r s) {r' : OpRec} {ix0 : Fin 8192} {err : SeatErr} (e : exec (.lut1 r' ix0 err) s = .next t) : Sound r t := by
  change execLut1 r' ix0 err s = _ at e
  unfold execLut1 State.seatOp at e
  split at e
  case isFalse => cases e
  cases e
  try dsimp only
  with_reducible
    repeat' first
      | assumption | intro _ | apply sound_issue | apply sound_ite | apply sound_onDie | apply sound_opLut1 | split

theorem next_lut2 {r s t : State} (h : Sound r s) {r' : OpRec} {ix0 : Fin 8192} {err : SeatErr} (e : exec (.lut2 r' ix0 err) s = .next t) : Sound r t := by
  change execLut2 r' ix0 err s = _ at e
  unfold execLut2 State.seatOp at e
  split at e
  case isFalse => cases e
  cases e
  try dsimp only
  with_reducible
    repeat' first
      | assumption | intro _ | apply sound_issue | apply sound_ite | apply sound_onDie | apply sound_opLut2 | split

theorem next_mul {r s t : State} (h : Sound r s) {r' : OpRec} {ix0 : Fin 8192} {err : SeatErr} (e : exec (.mul r' ix0 err) s = .next t) : Sound r t := by
  change execMul r' ix0 err s = _ at e
  unfold execMul State.seatOp at e
  split at e
  case isFalse => cases e
  cases e
  try dsimp only
  with_reducible
    repeat' first
      | assumption | intro _ | apply sound_issue | apply sound_ite | apply sound_onDie | apply sound_opMul | split

theorem next_mac {r s t : State} (h : Sound r s) {r' : OpRec} {ix0 : Fin 8192} {err : SeatErr} (e : exec (.mac r' ix0 err) s = .next t) : Sound r t := by
  change execMac r' ix0 err s = _ at e
  unfold execMac State.seatOp at e
  split at e
  case isFalse => cases e
  cases e
  try dsimp only
  with_reducible
    repeat' first
      | assumption | intro _ | apply sound_issue | apply sound_ite | apply sound_onDie | apply sound_opMac | split

theorem next_add {r s t : State} (h : Sound r s) {r' : OpRec} {ix0 : Fin 8192} {err : SeatErr} (e : exec (.add r' ix0 err) s = .next t) : Sound r t := by
  change execAdd r' ix0 err s = _ at e
  unfold execAdd State.seatOp at e
  split at e
  case isFalse => cases e
  cases e
  try dsimp only
  with_reducible
    repeat' first
      | assumption | intro _ | apply sound_issue | apply sound_ite | apply sound_onDie | apply sound_opAdd | split

theorem next_sub {r s t : State} (h : Sound r s) {r' : OpRec} {ix0 : Fin 8192} {err : SeatErr} (e : exec (.sub r' ix0 err) s = .next t) : Sound r t := by
  change execSub r' ix0 err s = _ at e
  unfold execSub State.seatOp at e
  split at e
  case isFalse => cases e
  cases e
  try dsimp only
  with_reducible
    repeat' first
      | assumption | intro _ | apply sound_issue | apply sound_ite | apply sound_onDie | apply sound_opSub | split

theorem next_abs {r s t : State} (h : Sound r s) {r' : OpRec} {ix0 : Fin 8192} {err : SeatErr} (e : exec (.abs r' ix0 err) s = .next t) : Sound r t := by
  change execAbs r' ix0 err s = _ at e
  unfold execAbs State.seatOp at e
  split at e
  case isFalse => cases e
  cases e
  try dsimp only
  with_reducible
    repeat' first
      | assumption | intro _ | apply sound_issue | apply sound_ite | apply sound_onDie | apply sound_opAbs | split

theorem next_sat {r s t : State} (h : Sound r s) {r' : OpRec} {ix0 : Fin 8192} {err : SeatErr} (e : exec (.sat r' ix0 err) s = .next t) : Sound r t := by
  change execSat r' ix0 err s = _ at e
  unfold execSat State.seatOp at e
  split at e
  case isFalse => cases e
  cases e
  try dsimp only
  with_reducible
    repeat' first
      | assumption | intro _ | apply sound_issue | apply sound_ite | apply sound_onDie | apply sound_opSat | split

theorem next_sqrt {r s t : State} (h : Sound r s) {r' : OpRec} {ix0 : Fin 8192} {err : SeatErr} (e : exec (.sqrt r' ix0 err) s = .next t) : Sound r t := by
  change execSqrt r' ix0 err s = _ at e
  unfold execSqrt State.seatOp at e
  split at e
  case isFalse => cases e
  cases e
  try dsimp only
  with_reducible
    repeat' first
      | assumption | intro _ | apply sound_issue | apply sound_ite | apply sound_onDie | apply sound_opSqrt | split

theorem next_recip {r s t : State} (h : Sound r s) {r' : OpRec} {ix0 : Fin 8192} {err : SeatErr} (e : exec (.recip r' ix0 err) s = .next t) : Sound r t := by
  change execRecip r' ix0 err s = _ at e
  unfold execRecip State.seatOp at e
  split at e
  case isFalse => cases e
  cases e
  try dsimp only
  with_reducible
    repeat' first
      | assumption | intro _ | apply sound_issue | apply sound_ite | apply sound_onDie | apply sound_opRecip | split

theorem next_atan2 {r s t : State} (h : Sound r s) {r' : OpRec} {ix0 : Fin 8192} {err : SeatErr} (e : exec (.atan2 r' ix0 err) s = .next t) : Sound r t := by
  change execAtan2 r' ix0 err s = _ at e
  unfold execAtan2 State.seatOp at e
  split at e
  case isFalse => cases e
  cases e
  try dsimp only
  with_reducible
    repeat' first
      | assumption | intro _ | apply sound_issue | apply sound_ite | apply sound_onDie | apply sound_opAtan2 | split

theorem next_cmp {r s t : State} (h : Sound r s) {r' : OpRec} {ix0 : Fin 8192} {err : SeatErr} (e : exec (.cmp r' ix0 err) s = .next t) : Sound r t := by
  change execCmp r' ix0 err s = _ at e
  unfold execCmp State.seatOp at e
  split at e
  case isFalse => cases e
  cases e
  try dsimp only
  with_reducible
    repeat' first
      | assumption | intro _ | apply sound_issue | apply sound_ite | apply sound_onDie | apply sound_opCmp | split

theorem next_sel {r s t : State} (h : Sound r s) {r' : OpRec} {ix0 : Fin 8192} {err : SeatErr} (e : exec (.sel r' ix0 err) s = .next t) : Sound r t := by
  change execSel r' ix0 err s = _ at e
  unfold execSel State.seatOp at e
  split at e
  case isFalse => cases e
  cases e
  try dsimp only
  with_reducible
    repeat' first
      | assumption | intro _ | apply sound_issue | apply sound_ite | apply sound_onDie | apply sound_opSel | split

theorem next_hold {r s t : State} (h : Sound r s) {r' : OpRec} {ix0 : Fin 8192} {err : SeatErr} (e : exec (.hold r' ix0 err) s = .next t) : Sound r t := by
  change execHold r' ix0 err s = _ at e
  unfold execHold State.seatOp at e
  split at e
  case isFalse => cases e
  cases e
  try dsimp only
  with_reducible
    repeat' first
      | assumption | intro _ | apply sound_issue | apply sound_ite | apply sound_onDie | apply sound_opHold | split

theorem next_obsEmf {r s t : State} (h : Sound r s) {r' : OpRec} {ix0 : Fin 8192} {err : SeatErr} (e : exec (.obsEmf r' ix0 err) s = .next t) : Sound r t := by
  change execObsEmf r' ix0 err s = _ at e
  unfold execObsEmf State.seatOp at e
  split at e
  case isFalse => cases e
  cases e
  try dsimp only
  with_reducible
    repeat' first
      | assumption | intro _ | apply sound_issue | apply sound_ite | apply sound_onDie | apply sound_opObsEmf | split

theorem next_pllTrk {r s t : State} (h : Sound r s) {r' : OpRec} {ix0 : Fin 8192} {err : SeatErr} (e : exec (.pllTrk r' ix0 err) s = .next t) : Sound r t := by
  change execPllTrk r' ix0 err s = _ at e
  unfold execPllTrk State.seatOp at e
  split at e
  case isFalse => cases e
  cases e
  try dsimp only
  with_reducible
    repeat' first
      | assumption | intro _ | apply sound_issue | apply sound_ite | apply sound_onDie | apply sound_opPllTrk | split

theorem next_hfiDemod {r s t : State} (h : Sound r s) {r' : OpRec} {ix0 : Fin 8192} {err : SeatErr} (e : exec (.hfiDemod r' ix0 err) s = .next t) : Sound r t := by
  change execHfiDemod r' ix0 err s = _ at e
  unfold execHfiDemod State.seatOp at e
  split at e
  case isFalse => cases e
  cases e
  try dsimp only
  with_reducible
    repeat' first
      | assumption | intro _ | apply sound_issue | apply sound_ite | apply sound_onDie | apply sound_opHfiDemod | split

theorem next_rslvDemod {r s t : State} (h : Sound r s) {r' : OpRec} {ix0 : Fin 8192} {err : SeatErr} (e : exec (.rslvDemod r' ix0 err) s = .next t) : Sound r t := by
  change execRslvDemod r' ix0 err s = _ at e
  unfold execRslvDemod State.seatOp at e
  split at e
  case isFalse => cases e
  cases e
  try dsimp only
  with_reducible
    repeat' first
      | assumption | intro _ | apply sound_issue | apply sound_ite | apply sound_onDie | apply sound_opRslvDemod | split

theorem next_share {r s t : State} (h : Sound r s) {r' : OpRec} {ix0 : Fin 8192} {err : SeatErr} (e : exec (.share r' ix0 err) s = .next t) : Sound r t := by
  change execShare r' ix0 err s = _ at e
  unfold execShare State.seatOp at e
  split at e
  case isFalse => cases e
  cases e
  try dsimp only
  with_reducible
    repeat' first
      | assumption | intro _ | apply sound_issue | apply sound_ite | apply sound_onDie | apply sound_opShare | split

theorem next_emitReg {r s t : State} (h : Sound r s) {r' : OpRec} {ix : Fin 8192} {err : SeatErr} (e : exec (.emitReg r' ix err) s = .next t) : Sound r t := by
  change execEmitReg r' ix err s = _ at e
  unfold execEmitReg State.seatOp at e
  split at e
  case isFalse => cases e
  cases e
  try dsimp only
  with_reducible
    repeat' first
      | assumption | intro _ | apply sound_issue | apply sound_ite | apply sound_onDie | apply sound_opEmitReg | split

theorem next_frfPoint {r s t : State} (h : Sound r s) {g : Fin 2} {io : Fin 8} {frf : Fin 8} {k : Fin 32} (e : exec (.frfPoint g io frf k) s = .next t) : Sound r t := by
  change execFrfPoint g io frf k s = _ at e
  unfold execFrfPoint at e
  cases e
  try dsimp only
  with_reducible
    repeat' first
      | assumption | intro _ | apply sound_ite | apply sound_frfPoint' | split

theorem next_hostRead {r s t : State} (h : Sound r s) {i : Fin 3} {bad : List (ℕ × MemErr)} (e : exec (.hostRead i bad) s = .next t) : Sound r t := by
  change execHostRead i bad s = _ at e
  unfold execHostRead at e
  cases e
  try dsimp only
  with_reducible
    repeat' first
      | assumption | intro _ | apply sound_ite | apply sound_hostRead' | split

theorem next_hostWrite {r s t : State} (h : Sound r s) {i : Fin 3} (e : exec (.hostWrite i) s = .next t) : Sound r t := by
  change execHostWrite i s = _ at e
  unfold execHostWrite at e
  cases e
  try dsimp only
  with_reducible
    repeat' first
      | assumption | intro _ | apply sound_ite | apply sound_hostWrite' | split

theorem next_heartbeat {r s t : State} (h : Sound r s) {i : Fin 3} {atUs : ℕ} (e : exec (.heartbeat i atUs) s = .next t) : Sound r t := by
  change execHeartbeat i atUs s = _ at e
  unfold execHeartbeat at e
  cases e
  try dsimp only
  with_reducible
    repeat' first
      | assumption | intro _ | apply sound_ite | apply sound_heartbeat' | split

theorem next_sync {r s t : State} (h : Sound r s) {i : Fin 3} (e : exec (.sync i) s = .next t) : Sound r t := by
  change execSync i s = _ at e
  unfold execSync at e
  cases e
  try dsimp only
  with_reducible
    repeat' first
      | assumption | intro _ | apply sound_ite | apply sound_sync' | split

theorem next_eventAck {r s t : State} (h : Sound r s) {i : Fin 3} (e : exec (.eventAck i) s = .next t) : Sound r t := by
  change execEventAck i s = _ at e
  unfold execEventAck at e
  cases e
  try dsimp only
  with_reducible
    repeat' first
      | assumption | intro _ | apply sound_ite | apply sound_eventAck' | split

theorem next_spiTransaction {r s t : State} (h : Sound r s) {mosi : List Byte} (e : exec (.spiTransaction mosi) s = .next t) : Sound r t := by
  change execSpiTransaction mosi s = _ at e
  unfold execSpiTransaction at e
  cases e
  try dsimp only
  with_reducible
    repeat' first
      | assumption | intro _ | apply sound_ite | apply sound_spiTransaction' | split

theorem next_canSegment {r s t : State} (h : Sound r s) {i : Fin 2} {errs : List CanErr} {f : CanFrame} (e : exec (.canSegment i errs f) s = .next t) : Sound r t := by
  change execCanSegment i errs f s = _ at e
  unfold execCanSegment at e
  cases e
  try dsimp only
  with_reducible
    repeat' first
      | assumption | intro _ | apply sound_ite | apply sound_canSegment' | split

theorem next_segTimeout {r s t : State} (h : Sound r s) {i : Fin 2} (e : exec (.segTimeout i) s = .next t) : Sound r t := by
  change execSegTimeout i s = _ at e
  unfold execSegTimeout at e
  cases e
  try dsimp only
  with_reducible
    repeat' first
      | assumption | intro _ | apply sound_ite | apply sound_segTimeout' | split

theorem next_canBusOff {r s t : State} (h : Sound r s) {i : Fin 2} (e : exec (.canBusOff i) s = .next t) : Sound r t := by
  change execCanBusOff i s = _ at e
  unfold execCanBusOff at e
  cases e
  try dsimp only
  with_reducible
    repeat' first
      | assumption | intro _ | apply sound_ite | apply sound_canBusOff' | split

theorem next_canBusOffRecovered {r s t : State} (h : Sound r s) {i : Fin 2} (e : exec (.canBusOffRecovered i) s = .next t) : Sound r t := by
  change execCanBusOffRecovered i s = _ at e
  unfold execCanBusOffRecovered at e
  cases e
  try dsimp only
  with_reducible
    repeat' first
      | assumption | intro _ | apply sound_ite | apply sound_canBusOffRecovered' | split

theorem next_canFrameSent {r s t : State} (h : Sound r s) {i : Fin 2} {errs : List CanErr} (e : exec (.canFrameSent i errs) s = .next t) : Sound r t := by
  change execCanFrameSent i errs s = _ at e
  unfold execCanFrameSent at e
  cases e
  try dsimp only
  with_reducible
    repeat' first
      | assumption | intro _ | apply sound_ite | apply sound_canFrameSent' | split

theorem next_eventResend {r s t : State} (h : Sound r s) {i : Fin 3} {tag : Fin 128} (e : exec (.eventResend i tag) s = .next t) : Sound r t := by
  change execEventResend i tag s = _ at e
  unfold execEventResend at e
  cases e
  try dsimp only
  with_reducible
    repeat' first
      | assumption | intro _ | apply sound_ite | apply sound_eventResend' | split

theorem next_heartbeatLoss {r s t : State} (h : Sound r s) {nowUs : ℕ} (e : exec (.heartbeatLoss nowUs) s = .next t) : Sound r t := by
  change execHeartbeatLoss nowUs s = _ at e
  unfold execHeartbeatLoss at e
  cases e
  try dsimp only
  with_reducible
    repeat' first
      | assumption | intro _ | apply sound_ite | apply sound_heartbeatLoss' | split

theorem next_gateReadbackMismatch {r s t : State} (h : Sound r s) {ball : Fin 52} {line : Bool} {level : Bool} (e : exec (.gateReadbackMismatch ball line level) s = .next t) : Sound r t := by
  change execGateReadbackMismatch ball line level s = _ at e
  unfold execGateReadbackMismatch at e
  cases e
  try dsimp only
  with_reducible
    repeat' first
      | assumption | intro _ | apply sound_ite | apply sound_gateReadbackMismatch' | split

theorem next_ls {r s t : State} (h : Sound r s) {r' : Fin 2} {status : BitVec 8} {pos : BitVec 8} {check : BitVec 8} {fines : List (BitVec 14)} (e : exec (.ls r' status pos check fines) s = .next t) : Sound r t := by
  change execLs r' status pos check fines s = _ at e
  unfold execLs at e
  cases e
  try dsimp only
  with_reducible
    repeat' first
      | assumption | intro _ | apply sound_ite | apply sound_ls' | split

theorem next_characterLock {r s t : State} (h : Sound r s) {r' : Fin 2} {offset : ℤ} {same : Bool} (e : exec (.characterLock r' offset same) s = .next t) : Sound r t := by
  change execCharacterLock r' offset same s = _ at e
  unfold execCharacterLock at e
  cases e
  try dsimp only
  with_reducible
    repeat' first
      | assumption | intro _ | apply sound_ite | apply sound_characterLock' | split

theorem next_laneDown {r s t : State} (h : Sound r s) {r' : Fin 2} {chars : List Bool} {lost : Bool} {fines : List (BitVec 14)} (e : exec (.laneDown r' chars lost fines) s = .next t) : Sound r t := by
  change execLaneDown r' chars lost fines s = _ at e
  unfold execLaneDown at e
  cases e
  try dsimp only
  with_reducible
    repeat' first
      | assumption | intro _ | apply sound_ite | apply sound_laneDown' | split

theorem next_linkAbort {r s t : State} (h : Sound r s) {r' : Fin 2} (e : exec (.linkAbort r') s = .next t) : Sound r t := by
  change execLinkAbort r' s = _ at e
  unfold execLinkAbort at e
  cases e
  try dsimp only
  with_reducible
    repeat' first
      | assumption | intro _ | apply sound_ite | apply sound_linkAbort' | split

theorem next_ssn {r s t : State} (h : Sound r s) {pos : Fin 8} {reason : BitVec 8} {check : BitVec 8} (e : exec (.ssn pos reason check) s = .next t) : Sound r t := by
  change execSsn pos reason check s = _ at e
  unfold execSsn at e
  cases e
  try dsimp only
  with_reducible
    repeat' first
      | assumption | intro _ | apply sound_ite | apply sound_ssn' | split

theorem next_rev {r s t : State} (h : Sound r s) {bits : BitVec 8} {pos : Fin 8} {check : BitVec 8} (e : exec (.rev bits pos check) s = .next t) : Sound r t := by
  change execRev bits pos check s = _ at e
  unfold execRev at e
  cases e
  try dsimp only
  with_reducible
    repeat' first
      | assumption | intro _ | apply sound_ite | apply sound_rev' | split

theorem next_cm {r s t : State} (h : Sound r s) {r' : Fin 2} {bits : BitVec 24} {flags : BitVec 8} {check : BitVec 8} {arrival : ℕ} (e : exec (.cm r' bits flags check arrival) s = .next t) : Sound r t := by
  change execCm r' bits flags check arrival s = _ at e
  unfold execCm at e
  cases e
  try dsimp only
  with_reducible
    repeat' first
      | assumption | intro _ | apply sound_ite | apply sound_cm' | split

theorem next_exchFrame {r s t : State} (h : Sound r s) {h' : RingHdr} {ch : Fin 16} {num : Word} {words : List Word} (e : exec (.exchFrame h' ch num words) s = .next t) : Sound r t := by
  change execExchFrame h' ch num words s = _ at e
  unfold execExchFrame at e
  cases e
  try dsimp only
  with_reducible
    repeat' first
      | assumption | intro _ | apply sound_ite | apply sound_exchFrame' | split

theorem next_sig {r s t : State} (h : Sound r s) {h' : RingHdr} {num : BitVec 48} {dig : List Byte} {wsig : Word} {flags : Word} (e : exec (.sig h' num dig wsig flags) s = .next t) : Sound r t := by
  change execSig h' num dig wsig flags s = _ at e
  unfold execSig at e
  cases e
  try dsimp only
  with_reducible
    repeat' first
      | assumption | intro _ | apply sound_ite | apply sound_sig' | split

theorem next_rd {r s t : State} (h : Sound r s) {h' : RingHdr} {addr : Word} {count : BitVec 16} {bad : List (ℕ × MemErr)} (e : exec (.rd h' addr count bad) s = .next t) : Sound r t := by
  change execRd h' addr count bad s = _ at e
  unfold execRd at e
  cases e
  try dsimp only
  with_reducible
    repeat' first
      | assumption | intro _ | apply sound_ite | apply sound_rdTxn' | split

theorem next_wr {r s t : State} (h : Sound r s) {h' : RingHdr} {addr : Word} {words : List Word} (e : exec (.wr h' addr words) s = .next t) : Sound r t := by
  change execWr h' addr words s = _ at e
  unfold execWr at e
  cases e
  try dsimp only
  with_reducible
    repeat' first
      | assumption | intro _ | apply sound_ite | apply sound_wrTxn' | split

theorem next_enum {r s t : State} (h : Sound r s) {h' : RingHdr} {ring : Fin 2} {odd : Option CtlOdd} (e : exec (.enum h' ring odd) s = .next t) : Sound r t := by
  change execEnum h' ring odd s = _ at e
  unfold execEnum at e
  cases e
  try dsimp only
  with_reducible
    repeat' first
      | assumption | intro _ | apply sound_ite | apply sound_enum' | split

theorem next_loop {r s t : State} (h : Sound r s) {h' : RingHdr} {l : Word} {odd : Option CtlOdd} (e : exec (.loop h' l odd) s = .next t) : Sound r t := by
  change execLoop h' l odd s = _ at e
  unfold execLoop at e
  cases e
  try dsimp only
  with_reducible
    repeat' first
      | assumption | intro _ | apply sound_ite | apply sound_loop' | split

theorem next_nonce {r s t : State} (h : Sound r s) {h' : RingHdr} {n : List Byte} (e : exec (.nonce h' n) s = .next t) : Sound r t := by
  change execNonce h' n s = _ at e
  unfold execNonce at e
  cases e
  try dsimp only
  with_reducible
    repeat' first
      | assumption | intro _ | apply sound_ite | apply sound_nonce' | split

theorem next_getNonce {r s t : State} (h : Sound r s) {h' : RingHdr} {odd : Option CtlOdd} (e : exec (.getNonce h' odd) s = .next t) : Sound r t := by
  change execGetNonce h' odd s = _ at e
  unfold execGetNonce at e
  cases e
  try dsimp only
  with_reducible
    repeat' first
      | assumption | intro _ | apply sound_ite | apply sound_getNonce' | split

theorem next_verifyStroke {r s t : State} (h : Sound r s) {h' : RingHdr} {len : Word} {nonces : List (List Byte)} (e : exec (.verifyStroke h' len nonces) s = .next t) : Sound r t := by
  change execVerifyStroke h' len nonces s = _ at e
  unfold execVerifyStroke at e
  cases e
  try dsimp only
  with_reducible
    repeat' first
      | assumption | intro _ | apply sound_ite | apply sound_verifyStroke' | split

theorem next_align {r s t : State} (h : Sound r s) {h' : RingHdr} {num : BitVec 48} {odd : Option CtlOdd} (e : exec (.align h' num odd) s = .next t) : Sound r t := by
  change execAlign h' num odd s = _ at e
  unfold execAlign at e
  cases e
  try dsimp only
  with_reducible
    repeat' first
      | assumption | intro _ | apply sound_ite | apply sound_align' | split

theorem next_readyQ {r s t : State} (h : Sound r s) {h' : RingHdr} {odd : Option CtlOdd} (e : exec (.readyQ h' odd) s = .next t) : Sound r t := by
  change execReadyQ h' odd s = _ at e
  unfold execReadyQ at e
  cases e
  try dsimp only
  with_reducible
    repeat' first
      | assumption | intro _ | apply sound_ite | apply sound_readyQ' | split

theorem next_drive {r s t : State} (h : Sound r s) {h' : RingHdr} {unit : BitVec 8} {action : BitVec 8} {num : BitVec 48} {d0 : Word} {d1 : Word} {d2 : Word} {odd : Option CtlOdd} (e : exec (.drive h' unit action num d0 d1 d2 odd) s = .next t) : Sound r t := by
  change execDrive h' unit action num d0 d1 d2 odd s = _ at e
  unfold execDrive at e
  cases e
  try dsimp only
  with_reducible
    repeat' first
      | assumption | intro _ | apply sound_ite | apply sound_driveMsg' | split

theorem next_prepare {r s t : State} (h : Sound r s) {h' : RingHdr} {num : BitVec 48} {old : List (List Byte)} {new : List (List Byte)} (e : exec (.prepare h' num old new) s = .next t) : Sound r t := by
  change execPrepare h' num old new s = _ at e
  unfold execPrepare at e
  cases e
  try dsimp only
  with_reducible
    repeat' first
      | assumption | intro _ | apply sound_ite | apply sound_prepare' | split

theorem next_go {r s t : State} (h : Sound r s) {h' : RingHdr} {num : BitVec 48} {odd : Option CtlOdd} (e : exec (.go h' num odd) s = .next t) : Sound r t := by
  change execGo h' num odd s = _ at e
  unfold execGo at e
  cases e
  try dsimp only
  with_reducible
    repeat' first
      | assumption | intro _ | apply sound_ite | apply sound_go' | split

theorem next_ctlAbort {r s t : State} (h : Sound r s) {h' : RingHdr} {num : BitVec 48} {odd : Option CtlOdd} (e : exec (.ctlAbort h' num odd) s = .next t) : Sound r t := by
  change execCtlAbort h' num odd s = _ at e
  unfold execCtlAbort at e
  cases e
  try dsimp only
  with_reducible
    repeat' first
      | assumption | intro _ | apply sound_ite | apply sound_ctlAbort' | split

theorem next_restart {r s t : State} (h : Sound r s) {h' : RingHdr} {odd : Option CtlOdd} (e : exec (.restart h' odd) s = .next t) : Sound r t := by
  change execRestart h' odd s = _ at e
  unfold execRestart at e
  cases e
  try dsimp only
  with_reducible
    repeat' first
      | assumption | intro _ | apply sound_ite | apply sound_restart' | split

theorem next_catch {r s t : State} (h : Sound r s) {bits : List (ℕ × List (Option Bool))} {done : ℕ} (e : exec (.catch bits done) s = .next t) : Sound r t := by
  change execCatch bits done s = _ at e
  unfold execCatch at e
  cases e
  try dsimp only
  with_reducible
    repeat' first
      | assumption | intro _ | apply sound_ite | apply sound_catchCmd' | split

theorem next_locked {r s t : State} (h : Sound r s) {errs : List (BitVec 16)} {lost : Bool} {tick : ℕ} {offset : ℤ} (e : exec (.locked errs lost tick offset) s = .next t) : Sound r t := by
  change execLocked errs lost tick offset s = _ at e
  unfold execLocked at e
  cases e
  try dsimp only
  with_reducible
    repeat' first
      | assumption | intro _ | apply sound_ite | apply sound_lockedAll' | split

theorem next_flashReadDone {r s t : State} (h : Sound r s) {offset : ℕ} {bytes : List Byte} (e : exec (.flashReadDone offset bytes) s = .next t) : Sound r t := by
  change execFlashReadDone offset bytes s = _ at e
  unfold execFlashReadDone at e
  cases e
  try dsimp only
  with_reducible
    repeat' first
      | assumption | intro _ | apply sound_ite | apply sound_flashRead' | split

theorem next_loadVerifyEnd {r s t : State} (h : Sound r s) {ecc : Bool} (e : exec (.loadVerifyEnd ecc) s = .next t) : Sound r t := by
  change execLoadVerifyEnd ecc s = _ at e
  unfold execLoadVerifyEnd at e
  cases e
  try dsimp only
  with_reducible
    repeat' first
      | assumption | intro _ | apply sound_ite | apply sound_loadVerifyAll' | split

theorem next_planArm {r s t : State} (h : Sound r s) {c : Fin 4} (e : exec (.planArm c) s = .next t) : Sound r t := by
  change execPlanArm c s = _ at e
  unfold execPlanArm at e
  cases e
  try dsimp only
  with_reducible
    repeat' first
      | assumption | intro _ | apply sound_ite | apply sound_planArmSv' | split

theorem next_dly {r s t : State} (h : Sound r s) {r' : Fin 2} {round : BitVec 8} {check : BitVec 8} {arrival : ℕ} (e : exec (.dly r' round check arrival) s = .next t) : Sound r t := by
  change execDly r' round check arrival s = _ at e
  unfold execDly at e
  cases e
  try dsimp only
  with_reducible
    repeat' first
      | assumption | intro _ | apply sound_ite | apply sound_dlyAll' | split

theorem next_rsp {r s t : State} (h : Sound r s) {h' : RingHdr} {status : BitVec 8} {err : BitVec 8} {data : List Word} (e : exec (.rsp h' status err data) s = .next t) : Sound r t := by
  change execRsp h' status err data s = _ at e
  unfold execRsp at e
  cases e
  try dsimp only
  with_reducible
    repeat' first
      | assumption | intro _ | apply sound_ite | apply sound_rsp' | split

theorem next_ctlr {r s t : State} (h : Sound r s) {h' : RingHdr} {code : BitVec 8} {status : BitVec 8} {body : List Byte} (e : exec (.ctlr h' code status body) s = .next t) : Sound r t := by
  change execCtlr h' code status body s = _ at e
  unfold execCtlr at e
  cases e
  try dsimp only
  with_reducible
    repeat' first
      | assumption | intro _ | apply sound_ite | apply sound_ctlr' | split

theorem next_txnTimeout {r s t : State} (h : Sound r s) {ring : Fin 2} {tag : Fin 128} (e : exec (.txnTimeout ring tag) s = .next t) : Sound r t := by
  change execTxnTimeout ring tag s = _ at e
  unfold execTxnTimeout at e
  cases e
  try dsimp only
  with_reducible
    repeat' first
      | assumption | intro _ | apply sound_ite | apply sound_txnTimeout' | split

theorem next_startStepEnd {r s t : State} (h : Sound r s) {ok : Bool} {us : ℕ} {pos : Fin 8} {detail : BitVec 16} (e : exec (.startStepEnd ok us pos detail) s = .next t) : Sound r t := by
  change execStartStepEnd ok us pos detail s = _ at e
  unfold execStartStepEnd at e
  cases e
  try dsimp only
  with_reducible
    repeat' first
      | assumption | intro _ | apply sound_ite | apply sound_startStepEnd' | split

theorem next_delayRound {r s t : State} (h : Sound r s) {txAt : ℕ} (e : exec (.delayRound txAt) s = .next t) : Sound r t := by
  change execDelayRound txAt s = _ at e
  unfold execDelayRound at e
  cases e
  try dsimp only
  with_reducible
    repeat' first
      | assumption | intro _ | apply sound_ite | apply sound_delayRound' | split

theorem next_signingDone {r s t : State} (h : Sound r s) (e : exec (.signingDone) s = .next t) : Sound r t := by
  change execSigningDone s = _ at e
  unfold execSigningDone at e
  cases e
  try dsimp only
  with_reducible
    repeat' first
      | assumption | intro _ | apply sound_ite | apply sound_signingDone' | split

end Sys2Proof.Machine
end

