-- ==== Sys2Proof/Tests/Slice0.lean ====
section
/-! SUPPORT. Tests of the model: an ill-formed term for each check of well-formedness, the values of the spec's worked
examples, and for every statement of Certificates/Slice0/Obligations.lean a theorem that shows, for each clause with
hypotheses, a concrete state and operands that meet them (`test_met_<statement>`, where there are many in numbered parts
from 1 on, the clauses in the statement's order).
A premise about a value that the opaque functions of Config give (a signature check, a digest) stands inside a clause's
conclusion in the statements, and no witness can settle it. -/

set_option linter.all false
set_option Elab.async false

namespace Sys2Proof.Tests

open Sys2Proof.Machine

/-! ### Small states and operands -/

/-- A state with fields of registers set. -/
def on (l : List (Field × Nat)) (s : State) : State := l.foldl (fun s e => s.set e.1 e.2) s
def mSup (f : Supply → Supply) (s : State) : State := { s with sup := f s.sup }
def mUmp (f : Umpire → Umpire) (s : State) : State := { s with ump := f s.ump }
def mFab (f : Fab → Fab) (s : State) : State := { s with fab := f s.fab }
def mLoad (f : Load → Load) (s : State) : State := { s with load := f s.load }
def mBoot (f : Boot → Boot) (s : State) : State := { s with boot := f s.boot }
def mRing (f : Ring → Ring) (s : State) : State := { s with ring := f s.ring }
def mPll (f : Pll → Pll) (s : State) : State := { s with pll := f s.pll }
def mCat (f : Catch → Catch) (s : State) : State := { s with cat := f s.cat }
def mProt (f : Prot → Prot) (s : State) : State := { s with prot := f s.prot }
def mMail (f : Mail → Mail) (s : State) : State := { s with mail := f s.mail }
def mSelf (f : SelfT → SelfT) (s : State) : State := { s with self := f s.self }
def mSense (f : Sense → Sense) (s : State) : State := { s with sense := f s.sense }
def mInj (f : Inj → Inj) (s : State) : State := { s with inj := f s.inj }
def mTherm (f : Therm → Therm) (s : State) : State := { s with therm := f s.therm }
def mConv (f : Conv → Conv) (s : State) : State := { s with conv := f s.conv }
def mChecks (f : Checks → Checks) (s : State) : State := { s with checks := f s.checks }
def mBus (f : ChainBus → ChainBus) (s : State) : State := { s with chainBus := f s.chainBus }
def binds (l : List Bind) (s : State) : State := { s with live := { s.live with bind := l, slots := 2, cw := 1, w := 100 } }

/-- The block after a start: the rails are good, the umpire and the control die run, and the firmware runs. -/
def up : State :=
  { State.reset with
    sup := { Supply.init with vsup := true, good := [.v5, .vcsd, .uref, .vio, .v18, .vcore, .vdda], umpire := true, die := .running },
    boot := { Boot.init with step := 6 } }

/-- The same with every page enabled. -/
def run : State := on ((List.range 32).map (fun p => (F.PAGE_CTRL_ENABLE p, 1))) up


/-- The same with a plan of two slots live and the seats running. -/
def rdy : State :=
  on [(F.CATCH_CTRL_RUN, 1), (F.FAB_CFG_SLOTS, 2), (F.PLAN_STATUS_LIVE_VALID, 1), (F.FAB_SEATS_HEALTHY, 0xFFFF)] (mCat (fun c => { c with first := false }) (binds [] up))

/-- A record of slot 0 and unit 0, due in every catch. -/
def opRec (t : Fin 4) (n : Fin 32) (m : Fin 8) (mode : Fin 256) (f : List (Fin 16384)) : OpRec :=
  ⟨t, 0, 0, 0, false, 0, 0x3000, f.getD 0 0x3000, f.getD 1 0x3000, f.getD 2 0x3000, f.getD 3 0x3000, f.getD 4 0x3000, n, m, mode⟩

def words (l : List (Nat × Word)) (s : State) : State := l.foldl (fun s e => s.setLocal 0 e.1 e.2) s

/-- Unit 0 bound to legs 0 to 2, with and without leg 0 running. -/
def u0 (s : State) : State := binds [.unit 0 0 2 1 0] s
def gate (s : State) : State := on [(F.LEG_STAT_EN 0, 1)] (u0 s)

/-- A plan of one slot and W = 1 VERIFIED in STAGE, the one that was LIVE before, beside a LIVE plan. -/
def armable (s : State) : State :=
  on [(F.PLAN_STATUS_STAGE_STATE, sVerified), (F.PLAN_STATUS_LIVE_VALID, 1), (F.FAB_SEATS_HEALTHY, 3), (F.PLAN_TARGET_LO_N_LO, 4),
    (F.CATCH_PERIOD_CARRIER, 32), (F.PLL_STATUS_STATE, 4)]
    { s with stage := { PlanInfo.empty with slots := 1, w := 1, bind := [.catchE 0 16 0 32] }, live := { PlanInfo.empty with slots := 1, w := 1, bind := [.catchE 0 16 0 32] },
             fab := { s.fab with prevDig := List.replicate 16 0 } }

/-- Channel 0 asks for a service, and its request is next. -/
def ask (sv : Nat) (args : List Word) (s : State) : State :=
  on [(F.MB_STATE_STATE 0, mbPending)] { s with mail := { req := [(0, ⟨sv, 0, args⟩)], order := [0] } }

/-- A request frame; the interfaces open; a request waiting. -/
def req (op tag addr : Nat) (pl : List Byte) : List Byte :=
  closeFrame ([BitVec.ofNat 8 op, BitVec.ofNat 8 tag] ++ le 2 pl.length ++ le 4 addr ++ pl)
def opened (s : State) : State :=
  on [(F.PLL_STATUS_STATE, 4), (F.CONV_CFG_INTF_EN (ifPage 0), 1), (F.CONV_CFG_INTF_EN (ifPage 1), 1)] s
def host (f : List Byte) (s : State) : State := { opened s with conv := { s.conv with queue := [(0, f, 0)] } }

/-- The header of a frame on ring 0 from the stroke to position 1, its CRC set to that of the frame. -/
def hdr (src : Fin 8) (dst : Fin 16) (typ b3 addr : Nat) (payload : List Byte) : RingHdr :=
  let h : RingHdr := ⟨0, src, dst, 0, 5, 0, false, 0⟩
  { h with crc := crcBytes (ringBytes h typ b3 addr payload) }
def hd (typ b3 addr : Nat) (payload : List Byte) : RingHdr := hdr 0 1 typ b3 addr payload
def h0 : RingHdr := ⟨0, 0, 1, 0, 5, 0, true, 0⟩

/-- The member at position 1 of eight after attestation, the stroke, and a frame from position 2 to the stroke. -/
def crew : State :=
  mRing (fun r => { r with trusted := true })
    (on [(F.CASC_CFG_DEVICES, 8), (F.CASC_STATE_ROLE, roleCrew), (F.CASC_STATE_POS, 1), (F.CASC_STATE_READY, 1)] up)
def strk : State := on [(F.CASC_CFG_DEVICES, 8), (F.CASC_STATE_ROLE, roleStroke)] up
def hs (typ : Nat) (payload : List Byte) : RingHdr := hdr 2 0 typ 5 0 payload

/-- A transaction of the stroke that the frame `hs` answers. -/
def txn (typ dst addr : Nat) (body : List Byte) : RingTxn := ⟨0, 5, typ, dst, addr, body, 0, 0⟩
def sent (x : RingTxn) : State := mRing (fun r => { r with txns := [x] }) strk

/-! ### Well-formedness: each check refuses an ill-formed term -/

theorem test_wf_record_type : (Instr.add (opRec 1 0 0 0 [0x10, 0x20, 0x30]) 0 .none).wf = true ∧
    (Instr.sqrt (opRec 1 0 0 0 [0x10, 0x20]) 0 .none).wf = false := by decide
theorem test_wf_record_range : (Instr.add (opRec 2 0 0 0 [0xFFF, 0x20, 0x30]) 0 .none).wf = false := by decide
theorem test_wf_record_field : (Instr.add (opRec 1 0 0 0 [0x10, 0x20, 0x30, 0x40]) 0 .none).wf = false := by decide
theorem test_wf_record_rate : (Instr.abs { opRec 1 0 0 0 [0x10, 0x20] with k := 2, phase := 4 } 0 .none).wf = false := by decide
theorem test_wf_record_count : (Instr.exch (opRec 0 9 0 0 [0x10, 0x3800]) 0 .none).wf = false := by decide
theorem test_wf_record_mode : (Instr.cmp (opRec 0 0 0 6 [0x10, 0x20, 0x30]) 0 .none).wf = false := by decide
theorem test_wf_rcQualification : (Instr.rcQualification [256] []).wf = false := by decide
theorem test_wf_sdOfsWrite : (Instr.sdOfsWrite .root true 32 0).wf = false ∧ (Instr.sdOfsWrite .root false 39 0).wf = true := by decide
theorem test_wf_canSegment : (Instr.canSegment 0 [] ⟨1, false, false, 0, false, false, 0, 0, 0, List.replicate 9 0⟩).wf = false := by decide
theorem test_wf_exchFrame : (Instr.exchFrame h0 0 0 []).wf = false := by decide
theorem test_wf_ctlOdd : (Instr.enum h0 0 (some ⟨1, [0, 0, 0, 0]⟩)).wf = false ∧ (Instr.enum h0 0 (some ⟨13, []⟩)).wf = true ∧
    (Instr.go h0 0 (some ⟨2, []⟩)).wf = false := by decide
theorem test_wf_sig : (Instr.sig h0 0 [] 0 0).wf = false := by decide

/-! ### Values of the spec's worked examples -/

/-- The state a command ends in. -/
def out (o : Host.Outcome State Fault Refusal) : State := match o with | .next t => t | _ => State.reset

/-- 0xF000_0000 and 60° wrap to 0x1AAA_AAAB (00_scope.md, worked example). -/
theorem test_angle_wraps :
    ((out (exec (.add (opRec 3 0 0 0 [0x10, 0x20, 0x21]) 0 .none) (words [(0x20, 0xF0000000), (0x21, 0x2AAAAAAB)] rdy))).written
      (opRec 3 0 0 0 [0x10, 0x20, 0x21])).localWord 0 0x10 = 0x1AAAAAAB#32 := by decide +kernel

/-- The brown-out of VSUP logs CODE 0x05 (03_supply_reset_pin_states.md, worked example). -/
theorem test_brown_out_vsup : (out (exec (.brownOut .vsup []) up)).sup.code = 0x05 := by decide +kernel

/-- Step 2 of the band search drops band 48, and step 6 finds band 35 (04_clocks.md, worked example). -/
theorem test_band_step2 :
    (out (exec (.bandSearchStep 8312 0 false) (mPll (fun p => { p with step := 2, n := 160, refHz := 25000000 })
      (on [(F.PLL_STATUS_STATE, 1), (F.PLL_BAND_BAND, 48)] up)))).fld F.PLL_BAND_BAND = 40 := by decide +kernel
theorem test_band_step6 :
    let t := out (exec (.bandSearchStep 7987 0 false) (mPll (fun p => { p with step := 6, n := 160, refHz := 25000000 })
      (on [(F.PLL_STATUS_STATE, 1), (F.PLL_BAND_BAND, 35)] up)))
    t.pllState = 2 ∧ t.fld F.PLL_BAND_BAND = 35 := by decide +kernel

/-- With C = 250 latched a count of 258 fails the die, and one of 257 does not (04_clocks.md, worked example). -/
theorem test_freq_high :
    let s := on [(F.PLL_STATUS_STATE, 4), (F.CLK_MON_C, 250)] up
    (out (exec (.monitorWindow 258 true []) s)).sup.die = .held ∧ (out (exec (.monitorWindow 257 true []) s)).sup.die = .running := by
  decide +kernel

/-- W = 2280 gives MINPER 586; T = 625 gives a budget of 2436 cycles (05_catch_and_determinism.md, worked example). -/
theorem test_minper : ({ PlanInfo.empty with w := 2280 } : PlanInfo).minPer = 586 ∧ 4 * catchPeriod 1 1250 - 64 = 2436 := by decide

/-- R = 16: stages of 6, 6, 6 and G = 216; the calibration's new offset is 21 (06_sensing_front_end.md, worked example). -/
theorem test_control_filter : stages 16 = (6, 6, 6) ∧ sincGain 16 = 216 ∧ (sincWeights 16).sum = 216 := by decide
theorem test_calibration :
    calOne 10 0 64 ⟨1024, 307 * 32 + 717 * 16, false⟩ = .inr 21 := by decide +kernel

/-- 60° through SINCOS: 0x3F5D_B355 and 0x3EFF_FEAB (08_operation_set.md, worked example). -/
theorem test_sincos :
    let t := fun i => if i = 682 then (28361 : Int) else if i = 683 then 28386 else if i = 1706 then 16413 else 16369
    sinWith t 0x2AAAAAAB = 0x3F5DB355#32 ∧ sinWith t 0x6AAAAAAB = 0x3EFFFEAB#32 := by decide +kernel

/-- The coolant pump's compares: 213 901, 106 099 and 144 471 (08_operation_set.md, worked example). -/
theorem test_svm3 :
    let t := (out (exec (.svm3 (opRec 0 0 0 1 [0x10, 0x20, 0x22]) 0 .none)
      (words [(0x20, 0x42F00000), (0x21, 0xC2340000), (0x22, (frecip (fin 0x44228000)).w)] rdy))).written (opRec 0 0 0 1 [0x10, 0x20, 0x22])
    ([0, 1, 2].map (fun k => compareOf (fin (t.localWord 0 (0x10 + k))) 10000)) = [213901, 106099, 144471] := by decide +kernel

/-- The 45 % demand on the curve: p = 6.5625, so i = 6 and f = 0.5625 (11_loops_and_tuning.md, worked example). -/
theorem test_locate : locate (fin 0x3EE00000) fzero (fin 0x41700000) 16 = (6, fin 0x3F100000) := by decide +kernel

/-- The six periods of the minimum-pulse example: H and the carry (12_pwm_and_gate_outputs.md, worked example). -/
def pwmRow (k : Int) : Nat × Int :=
  let e := edges 0 1250 (onTime 900 k 40000)
  let j := judgeHigh 800 200 e.1 e.2
  let h := (closePeriod { Leg.init with rise := e.1, fall := j.2, dropped := j.1 } 1250 800 200 e.1 false).1
  (h, nextCarry k h 900 800)
theorem test_minimum_pulse :
    [0, 100, 200, 300, 400, -500].map pwmRow = [(1000, 100), (1000, 200), (1000, 300), (1000, 400), (0, -500), (1400, 0)] := by decide

/-- C − CREF = 1000 reads 0x8D00_0000 (13_position_feedback.md, worked example). -/
theorem test_encoder_angle :
    ((State.setEnc (on [(F.ENC_CPT_CPT 0, 8192), (F.ENC_CFG_PP 0, 4), (F.ENC_ZOFS_OFS 0, 0x10000000), (F.ENC_CREF_CREF 0, 5)] up) 0
      { Enc.init with c := 1005, src := 1 }).encAngle 0).1 = 0x8D000000#32 := by decide +kernel

/-- The hottest NTC reads 89.5 °C; the die at 154 °C gives KTH = 160 (17_thermal.md, worked example). -/
theorem test_ntc : (on [(F.THRM_CURVE_T 0 7, 1520), (F.THRM_CURVE_T 0 8, 1312)] up).ntcTemp 0 1900 = 1432 := by decide +kernel
theorem test_derate :
    (out (exec .derateUpdate (on [(F.THRM_STATUS_THROTTLE, 1), (F.THRM_DIE_TCD, 2464), (F.THRM_CFG_DSLOPE, 24), (F.THRM_CFG_KMIN, 64)] up))).fld
      F.THRM_DERATE_KTH = 160 := by decide +kernel

/-- The check value of the frame CRC over "123456789" (18_host_interfaces.md R453). -/
theorem test_crc16 : crc16 [0x31, 0x32, 0x33, 0x34, 0x35, 0x36, 0x37, 0x38, 0x39] = 0x29B1#16 := by decide +kernel

/-- Position 2 of the truck: D0 = 492 and D1 = 528 (19_cascade.md, worked example; steps of 125 ps). -/
theorem test_loop :
    let t := out (exec (.loop (hd tyCtl 5 0 (ctlBody ctLoop (le 4 1340))) 1340 none) (mRing (fun r => { r with res := 320, rounds := [(0, 36)] }) crew))
    t.fld F.CASC_DELAY_D0 = 492 ∧ t.fld F.CASC_DELAY_D1 = 528 := by decide +kernel

/-- Three fused repairs, a new row of array 17, and two columns of seat 9, which has one to spare (21_self_test.md, worked example). -/
theorem test_bist_memory :
    let s : State := { mBoot (fun b => { b with step := 0 }) up with
                       fuses := { Fuses.init with repairs := [⟨2, false, 5⟩, ⟨40, true, 1⟩, ⟨81, false, 9⟩] } }
    let t := out (exec (.bistPhaseEnd (.memory false [⟨17, false, 100⟩, ⟨73, true, 3⟩, ⟨73, true, 8⟩] [] 15) []) s)
    t.fld F.BIST_MEM_FUSED = 3 ∧ t.fld F.BIST_MEM_SOFT = 1 ∧ t.fld F.FAB_SEATS_HEALTHY = 0xFDFF ∧ t.on F.BIST_RESULT_REPAIRED = true ∧
      t.on F.BIST_RESULT_SEAT_RETIRED = true := by decide +kernel

/-- Addresses of the worked examples (22_register_pages.md, 18_host_interfaces.md). -/
theorem test_addresses : R.LEG_CMP 12 = 0x4000C1D0 ∧ R.PLL_DIV = 0x40003044 ∧ R.DRV_TRQ 0 = 0x40012044 := by decide

/-- The refused write to the sealed PLL page: what its header logs (22_register_pages.md, worked example). -/
theorem test_sealed_write :
    let t := out (exec (.registerWrite .can0 .word 0x40003044 0xFFFFFFFF 0) (on [(F.PAGE_CTRL_SEAL 3, 1)] up))
    t.rd (R.PAGE_ERR_ADDR 3) = 0x40003044#32 ∧ t.fld (F.PAGE_ERR_INFO_CODE 3) = 2 ∧ t.fld (F.PAGE_ERR_INFO_MASTER 3) = 4 := by
  decide +kernel

/-- The first bytes of SHA3-512 of "abc" and of the empty string (FIPS 202's examples). -/
theorem test_sha3 : (digestOf [0x61, 0x62, 0x63]).take 4 = [0xB7, 0x51, 0x85, 0x0B] ∧ (digestOf []).take 4 = [0xA6, 0x9F, 0x73, 0xCC] := by decide +kernel

/-- The sag of VSUP: low-side hold water stays on the bound legs of A while the control die is held, SAFE_N is low and UFLT_N is
released (03_supply_reset_pin_states.md, worked example). -/
theorem test_sag_balls :
    let s := out (exec (.brownOut .vsup []) (on [(F.UMP_MATRIX_A, 1)] (mUmp (fun u => { u with legsA := some (0, 2), emfA := some (0, 0) })
      (on [(F.UMP_STO_LEVEL, 3), (F.UMP_MEAS0_UAIN0, 100), (F.UMP_VSCALE_V, 256), (F.UMP_CLS_K01, 10), (F.UMP_CLS_AGE, 255)] up))))
    s.sup.die ≠ .running ∧ s.gateBall 0 false = .high ∧ s.gateBall 0 true = .low ∧ s.gateBall 3 false = .low ∧ s.safeBall = .low ∧
      s.ufltBall = .released ∧ s.liveBall = .toggle := by decide +kernel

/-- Unpowered, every gate ball is low and the open-drain flags read low (R84, R86). -/
theorem test_reset_balls : State.reset.gateBall 0 true = .low ∧ State.reset.safeBall = .low ∧ State.reset.ufltBall = .low ∧
    State.reset.hostBall 0 = .highZ := by decide +kernel

/-! ### The hypotheses of the statements can be met -/

theorem test_met_StepRunsFrontCommand :
    (∃ (s : State) (c : Instr) (rest : List Instr), s.pending = c :: rest) ∧
    (∃ (s : State), s.pending = []) :=
  ⟨⟨{ up with pending := [.powerUp] }, .powerUp, [], by decide +kernel⟩,
   ⟨up, by decide +kernel⟩⟩

theorem test_met_PowerUpSequence :
    (∃ (s : State), s.sup.vsup = false) ∧
    (∃ (s : State), s.sup.vsup = true) ∧
    (∃ (s : State) (r : Rail), r ≠ .vsup ∧ ((r = .v5 → s.sup.vsup = true)) ∧ ((r = .vcsd ∨ r = .uref → .v5 ∈ s.sup.good)) ∧ ((r = .vio ∨ r = .v18 ∨ r = .vcore ∨ r = .vdda → s.sup.umpire = true ∧ s.sup.umpTest = true)) ∧ ((r = .vcore ∨ r = .vdda → .vio ∈ s.sup.good ∧ .v18 ∈ s.sup.good))) ∧
    (∃ (s : State) (r : Rail), (r = .vcsd ∨ r = .uref) ∧ .v5 ∉ s.sup.good) ∧
    (∃ (s : State) (r : Rail), (r = .vcore ∨ r = .vdda) ∧ ((.vio ∉ s.sup.good ∨ .v18 ∉ s.sup.good))) ∧
    (∃ (s : State) (now : Nat), (s.sup.die = .down ∨ (s.sup.die = .held ∧ (s.sup.code = 0x10 ∨ s.sup.code = 0x16))) ∧ s.sup.umpire = true ∧ s.sup.umpTest = true ∧ s.sup.gateTest = true ∧ s.sup.rcFailed = false ∧ s.sup.bad = [] ∧ ((∀ r, r ≠ .vsup → r ∈ s.sup.good))) ∧
    (∃ (s : State) (now : Nat) (rst : Bool), (s.sup.umpTest = false ∨ s.sup.gateTest = false)) ∧
    (∃ (s : State) (r : Rail), .overVoltage r ∈ s.sup.bad) ∧
    (∃ (s : State) (r : Rail), .brownOut r ∈ s.sup.bad ∧ r ≠ .vsup ∧ s.sup.umpire = true) ∧
    (∃ (s : State) (now : Nat) (same : List ResetCause), s.sup.umpire = true ∧ s.sup.umpTest = true ∧ s.sup.gateTest = true ∧ s.sup.die = .held ∧ s.sup.code ≠ 0x10 ∧ s.sup.code ≠ 0x16 ∧ s.sup.bad = [] ∧ s.sup.rcFailed = false ∧ s.sup.restartTimes = []) :=
  ⟨⟨mSup (fun x => { x with vsup := false }) up, by decide +kernel⟩,
   ⟨mSup (fun x => { x with vsup := true }) up, by decide +kernel⟩,
   ⟨mSup (fun x => { x with umpTest := true }) up, .vio, by decide +kernel⟩,
   ⟨State.reset, .vcsd, Or.inl rfl, by decide +kernel⟩,
   ⟨State.reset, .vcore, Or.inl rfl, by decide +kernel⟩,
   ⟨mSup (fun x => { x with die := .down, umpTest := true, gateTest := true }) up, 0, by decide +kernel, by decide +kernel, by decide +kernel, by decide +kernel, by decide +kernel, by decide +kernel, by intro r hr; cases r <;> first | exact absurd rfl hr | decide +kernel⟩,
   ⟨up, 0, true, by decide +kernel⟩,
   ⟨mSup (fun x => { x with bad := [.overVoltage .vio] }) up, .vio, by decide +kernel⟩,
   ⟨mSup (fun x => { x with bad := [.brownOut .vio] }) up, .vio, by decide +kernel⟩,
   ⟨mSup (fun x => { x with umpTest := true, gateTest := true, die := .held, bad := [], rcFailed := false, restartTimes := [] }) up, 0, [], by decide +kernel⟩⟩

theorem test_met_RestartsAndRetention :
    (∃ (s : State), s.sup.vsup = false) ∧
    (∃ (s : State) (c : RailCause), c ∈ s.sup.bad) ∧
    (∃ (s : State) (c : RailCause), c ∉ s.sup.bad) ∧
    (∃ (s : State) (now : Nat) (same : List ResetCause), s.sup.umpire = true ∧ s.sup.die = .held ∧ s.sup.code ≠ 0x10 ∧ s.sup.code ≠ 0x16 ∧ s.sup.bad = [] ∧ s.sup.rcFailed = false ∧ s.sup.umpTest = true ∧ s.sup.gateTest = true ∧ (s.sup.restartTimes.filter (fun x => now < x + 60000)).length < 3) ∧
    (∃ (s : State) (now : Nat) (same : List ResetCause), s.sup.umpire = true ∧ s.sup.die = .held ∧ s.sup.code ≠ 0x10 ∧ s.sup.code ≠ 0x16 ∧ s.sup.bad = [] ∧ s.sup.rcFailed = false ∧ s.sup.umpTest = true ∧ s.sup.gateTest = true ∧ 3 ≤ (s.sup.restartTimes.filter (fun x => now < x + 60000)).length) :=
  ⟨⟨mSup (fun x => { x with vsup := false }) up, by decide +kernel⟩,
   ⟨mSup (fun x => { x with bad := [.brownOut .vio] }) up, .brownOut .vio, by decide +kernel⟩,
   ⟨up, .brownOut .vio, by decide +kernel⟩,
   ⟨mSup (fun x => { x with die := .held, bad := [], rcFailed := false, umpTest := true, gateTest := true }) up, 0, [], by decide +kernel⟩,
   ⟨mSup (fun x => { x with die := .held, bad := [], rcFailed := false, umpTest := true, gateTest := true, restartTimes := [0, 0, 0] }) up, 59999, [], by decide +kernel⟩⟩

theorem test_met_ResetCauses_1 :
    (∃ (s : State), s.sup.vsup = true) ∧
    (∃ (s : State), s.sup.vsup = true ∧ s.sup.die = .running) ∧
    (∃ (s : State), s.sup.vsup = true ∧ s.sup.die = .running) ∧
    (∃ (s : State), s.sup.umpire = true ∧ s.sup.die = .running ∧ s.sup.above82 = true) ∧
    (∃ (s : State) (same : List ResetCause), s.sup.vsup = true ∧ s.sup.die = .running ∧ ((∀ x ∈ same, resetScope x = 1))) ∧
    (∃ (s : State) (up : Bool), s.sup.umpire = true) ∧
    (∃ (s : State) (w : Nat) (same : List ResetCause), w < 200) ∧
    (∃ (s : State) (w : Nat), 1000 ≤ w ∧ s.sup.die = .running) ∧
    (∃ (s : State) (w : Nat), 1000 ≤ w ∧ s.sup.die = .resetHold ∧ s.sup.rcTries ≠ 3) ∧
    (∃ (s : State) (key : Word), s.sup.die = .running ∧ key.toNat % 65536 = 0xA5C3 ∧ s.anyOn = false) :=
  ⟨⟨mSup (fun x => { x with vsup := true }) up, by decide +kernel⟩,
   ⟨mSup (fun x => { x with vsup := true }) up, by decide +kernel⟩,
   ⟨mSup (fun x => { x with vsup := true }) up, by decide +kernel⟩,
   ⟨mSup (fun x => { x with above82 := true }) up, by decide +kernel⟩,
   ⟨mSup (fun x => { x with vsup := true }) up, [], by decide +kernel⟩,
   ⟨up, true, by decide +kernel⟩,
   ⟨up, 0, [], by decide +kernel⟩,
   ⟨up, 1000, by decide +kernel⟩,
   ⟨mSup (fun x => { x with die := .resetHold }) up, 1000, by decide +kernel⟩,
   ⟨up, 0xA5C3, by decide +kernel⟩⟩

theorem test_met_ResetCauses_2 :
    (∃ (s : State) (key : Word) (m : Master), s.sup.die = .running ∧ key.toNat % 65536 = 0xA5C3 ∧ s.anyOn = true ∧ (m = .root ∨ (s.on (F.PAGE_LOCK_LOCK 1) = false))) ∧
    (∃ (s : State) (r : Rail) (same : List ResetCause), s.sup.vsup = true) ∧
    (∃ (s : State) (same : List ResetCause), s.sup.umpire = true) ∧
    (∃ (s : State) (w : Nat) (same : List ResetCause), 1000 ≤ w ∧ s.sup.die = .running) ∧
    (∃ (s : State) (key : Word) (same : List ResetCause), s.sup.die = .running ∧ key.toNat % 65536 = 0xA5C3 ∧ s.anyOn = false) ∧
    (∃ (s : State) (t : State) (c : ResetCause) (same : List ResetCause), s.sup.die = .running ∧ ((∀ x ∈ c :: same, resetScope x = 1)) ∧ t = s.causes c same) ∧
    (∃ (s : State) (c : ResetCause) (same : List ResetCause), s.sup.die = .running ∧ ((∀ x ∈ c :: same, resetScope x ≠ 2)) ∧ ((∃ x ∈ c :: same, resetScope x = 0))) ∧
    (∃ (s : State) (t : State) (c : ResetCause) (same : List ResetCause), ((∃ x ∈ c :: same, resetScope x = 2)) ∧ t = s.causes c same) :=
  ⟨⟨gate up, 0xA5C3, .root, by decide +kernel⟩,
   ⟨mSup (fun x => { x with vsup := true }) up, .vio, [], by decide +kernel⟩,
   ⟨up, [], by decide +kernel⟩,
   ⟨up, 1000, [], by decide +kernel⟩,
   ⟨up, 0xA5C3, [], by decide +kernel⟩,
   ⟨up, _, .extRst, [], by decide +kernel, by decide +kernel, rfl⟩,
   ⟨up, .restartLimit, [.extRst], by decide +kernel⟩,
   ⟨up, _, .rail (.brownOut .v5), [], by decide +kernel, rfl⟩⟩

theorem test_met_RcOscillator_1 :
    (∃ (s : State) (c : List Nat) (same : List ResetCause), s.rcTrying = true ∧ rcQualOk c = true) ∧
    (∃ (s : State) (c : List Nat) (same : List ResetCause), s.rcTrying = true ∧ rcQualOk c = false ∧ s.sup.rcTries ≠ 2) ∧
    (∃ (s : State) (c : List Nat), s.rcTrying = true ∧ rcQualOk c = false ∧ s.sup.rcTries = 2) ∧
    (∃ (s : State) (same : List ResetCause), s.rcTrying = true ∧ s.sup.rcTries ≠ 2) ∧
    (∃ (s : State), s.sup.rcStopped = true ∧ s.sup.rcTries < 3) ∧
    (∃ (s : State) (c : Nat) (same : List ResetCause), s.sup.umpire = true ∧ 240 ≤ c ∧ c ≤ 272) ∧
    (∃ (s : State) (c : Nat) (same : List ResetCause), s.sup.umpire = true ∧ (c < 240 ∨ 272 < c) ∧ ((∀ x ∈ same, resetScope x = 1 ∧ 0x11 ≤ resetCode x))) ∧
    (∃ (s : State) (same : List ResetCause), s.sup.umpire = true ∧ ((∀ x ∈ same, resetScope x = 1 ∧ 0x11 ≤ resetCode x))) ∧
    (∃ (s : State) (e : Int), s.sup.die = .running ∧ s.pllState = 4 ∧ e ≤ -500 ∧ s.ump.trim < 30 ∧ -30 ≤ s.ump.trim) ∧
    (∃ (s : State) (e : Int), s.sup.die = .running ∧ s.pllState = 4 ∧ 500 ≤ e ∧ s.ump.trim ≤ 30 ∧ -30 < s.ump.trim) :=
  ⟨⟨mSup (fun x => { x with umpire := false, die := .down, rcTries := 0 }) up, [256, 256, 256, 256, 256, 256, 256, 256], [], by decide +kernel⟩,
   ⟨mSup (fun x => { x with umpire := false, die := .down, rcTries := 0 }) up, [256], [], by decide +kernel⟩,
   ⟨mSup (fun x => { x with umpire := false, die := .down, rcTries := 2 }) up, [256], by decide +kernel⟩,
   ⟨mSup (fun x => { x with umpire := false, die := .down, rcTries := 0 }) up, [], by decide +kernel⟩,
   ⟨mSup (fun x => { x with rcStopped := true }) up, by decide +kernel⟩,
   ⟨up, 240, [], by decide +kernel⟩,
   ⟨up, 0, [], by decide +kernel⟩,
   ⟨up, [], by decide +kernel⟩,
   ⟨on [(F.PLL_STATUS_STATE, 4)] up, -500, by decide +kernel⟩,
   ⟨on [(F.PLL_STATUS_STATE, 4)] up, 500, by decide +kernel⟩⟩

theorem test_met_RcOscillator_2 :
    (∃ (s : State) (e : Int), s.sup.die = .running ∧ s.pllState = 4 ∧ e ≤ -500 ∧ s.ump.trim = 30 ∧ s.ump.trimRange = false) ∧
    (∃ (s : State) (e : Int), s.sup.die = .running ∧ s.pllState ≠ 4) :=
  ⟨⟨mUmp (fun x => { x with trim := 30, trimRange := false }) (on [(F.PLL_STATUS_STATE, 4)] up), -500, by decide +kernel⟩,
   ⟨up, 0, by decide +kernel⟩⟩

theorem test_met_LockAttempt_1 :
    (∃ (s : State) (refp : Bool) (hz : Nat) (src : Nat), s.sup.die = .running ∧ s.pllState = 0 ∧ s.refSource refp = some src ∧ src < 4) ∧
    (∃ (s : State) (c : Nat) (c63 : Nat), s.sup.die = .running ∧ s.pllState = 1 ∧ s.pll.step < 6) ∧
    (∃ (s : State) (c : Nat) (c63 : Nat), s.sup.die = .running ∧ s.pllState = 1 ∧ s.pll.step = 6 ∧ c < s.targetCount ∧ 100 * (s.targetCount - c) ≤ s.targetCount) ∧
    (∃ (s : State) (c : Nat) (c63 : Nat), s.sup.die = .running ∧ s.pllState = 1 ∧ s.pll.step = 6 ∧ c < s.targetCount ∧ s.targetCount < 100 * (s.targetCount - c)) ∧
    (∃ (s : State) (c : Nat) (c63 : Nat), s.sup.die = .running ∧ s.pllState = 1 ∧ s.pll.step = 6 ∧ s.pll.kept = none ∧ s.targetCount ≤ c ∧ c63 < s.targetCount ∧ 100 * (s.targetCount - c63) ≤ s.targetCount) ∧
    (∃ (s : State) (errs : List (BitVec 16)), s.sup.die = .running ∧ s.pllState = 2 ∧ errs.length = 16 ∧ ((∀ e ∈ errs, (s.shifted e).natAbs ≤ s.pll.win))) ∧
    (∃ (s : State) (errs : List (BitVec 16)), s.sup.die = .running ∧ s.pllState = 2 ∧ s.runEnds 16 errs = false) ∧
    (∃ (s : State) (errs : List (BitVec 16)), s.sup.die = .running ∧ s.pllState = 2 ∧ s.noRun 16 errs = true) ∧
    (∃ (s : State) (errs : List (BitVec 16)), s.sup.die = .running ∧ s.pllState = 3 ∧ errs.length = 4 * s.pll.cycles ∧ s.noRun s.pll.cycles errs = true) ∧
    (∃ (s : State) (c : Instr) (errs : List (BitVec 16)) (n : Nat) (n63 : Nat), s.sup.die = .running ∧ ((s.pllState = 1 ∧ c = .bandSearchStep n n63 true) ∨ (s.pllState = 2 ∧ (c = .acquireDone errs true ∨ c = .acqTimeout errs true)) ∨ (s.pllState = 3 ∧ c = .lockTimeout errs true))) :=
  ⟨⟨on [(F.PLL_STATUS_STATE, 0), (F.PLL_CTRL_REF_SEL, 0)] up, true, 0, 1, by decide +kernel⟩,
   ⟨on [(F.PLL_STATUS_STATE, 1)] up, 0, 0, by decide +kernel⟩,
   ⟨mPll (fun x => { x with step := 6, refHz := 1000000, n := 1000 }) (on [(F.PLL_STATUS_STATE, 1)] up), 1980, 0, by decide +kernel⟩,
   ⟨mPll (fun x => { x with step := 6, refHz := 1000000, n := 1000 }) (on [(F.PLL_STATUS_STATE, 1)] up), 1979, 0, by decide +kernel⟩,
   ⟨mPll (fun x => { x with kept := none, refHz := 1000000, n := 1000, step := 6 }) (on [(F.PLL_STATUS_STATE, 1)] up), 1000000, 1990, by decide +kernel⟩,
   ⟨on [(F.PLL_STATUS_STATE, 2)] up, List.replicate 16 0, by decide +kernel, by decide +kernel, by decide +kernel, by intro e he; rw [List.eq_of_mem_replicate he]; decide +kernel⟩,
   ⟨on [(F.PLL_STATUS_STATE, 2)] up, [], by decide +kernel⟩,
   ⟨on [(F.PLL_STATUS_STATE, 2)] up, [], by decide +kernel⟩,
   ⟨mPll (fun x => { x with cycles := 2, win := 1 }) (on [(F.PLL_STATUS_STATE, 3)] up), List.replicate 8 1000, by decide +kernel⟩,
   ⟨on [(F.PLL_STATUS_STATE, 3)] up, .lockTimeout [] true, [], 0, 0, by decide +kernel, Or.inr (Or.inr (by decide +kernel))⟩⟩

theorem test_met_LockAttempt_2 :
    (∃ (s : State), s.sup.die = .running) ∧
    (∃ (s : State) (u : State) (errs : List (BitVec 16)) (tick : Nat) (off : Int), s.sup.die = .running ∧ s.pllState = 3 ∧ s.runEnds s.pll.cycles errs = true ∧ u = locked errs false tick off s) :=
  ⟨⟨up, by decide +kernel⟩,
   ⟨mPll (fun x => { x with cycles := 2, win := 1 }) (on [(F.PLL_STATUS_STATE, 3)] up), _, [0, 1], 0, 0, by decide +kernel, by decide +kernel, by decide +kernel, rfl⟩⟩

theorem test_met_ClockSupervision_1 :
    (∃ (s : State) (f : List (BitVec 14)), s.sup.die = .running ∧ s.attempting = true) ∧
    (∃ (s : State) (f : List (BitVec 14)) (r : Fin 2), s.sup.die = .running ∧ s.pllState = 4 ∧ s.fld F.PLL_STATUS_SRC = 2 + r.val ∧ s.on F.PLL_STATUS_STANDBY_OK = true) ∧
    (∃ (s : State) (f : List (BitVec 14)), s.sup.die = .running ∧ s.pllState = 4 ∧ ((s.fld F.PLL_STATUS_SRC < 2 ∨ s.on F.PLL_STATUS_STANDBY_OK = false))) ∧
    (∃ (s : State) (e : List (BitVec 16)) (f : List (BitVec 14)), s.sup.die = .running ∧ s.pllState = 4 ∧ e.length = 4 ∧ ((∀ x ∈ e, 2 * s.pll.lolWin < (s.shifted x).natAbs))) ∧
    (∃ (s : State) (same : List ResetCause), s.sup.die = .running ∧ s.pllState = 5 ∧ ((∀ x ∈ same, resetScope x = 1 ∧ 0x11 ≤ resetCode x))) ∧
    (∃ (s : State) (same : List ResetCause), s.sup.die = .running ∧ s.sup.umpire = true ∧ ((∀ x ∈ same, resetScope x = 1 ∧ 0x11 ≤ resetCode x))) ∧
    (∃ (s : State) (c : Nat) (same : List ResetCause), s.sup.die = .running ∧ (if s.attempting then 41 else 36) < c ∧ ((∀ x ∈ same, resetScope x = 1 ∧ 0x11 ≤ resetCode x))) ∧
    (∃ (s : State) (c : Nat) (same : List ResetCause), s.sup.die = .running ∧ c ≤ (if s.attempting then 41 else 36)) ∧
    (∃ (s : State) (c : BitVec 9) (same : List ResetCause), s.sup.die = .running ∧ s.pllState = 4 ∧ s.fld F.CLK_MON_C = 0 ∧ 221 ≤ c.toNat ∧ c.toNat ≤ 254) ∧
    (∃ (s : State) (c : BitVec 9) (same : List ResetCause), s.sup.die = .running ∧ s.pllState = 0 ∧ 207 ≤ c.toNat ∧ c.toNat ≤ 243) :=
  ⟨⟨on [(F.PLL_STATUS_STATE, 3)] up, [], by decide +kernel⟩,
   ⟨on [(F.PLL_STATUS_STATE, 4), (F.PLL_STATUS_STANDBY_OK, 1), (F.PLL_STATUS_SRC, 2)] up, [], 0, by decide +kernel⟩,
   ⟨on [(F.PLL_STATUS_STATE, 4)] up, [], by decide +kernel⟩,
   ⟨on [(F.PLL_STATUS_STATE, 4)] up, List.replicate 4 1000, [], by decide +kernel, by decide +kernel, by decide +kernel,
    fun x hx => by rw [List.eq_of_mem_replicate hx]; decide +kernel⟩,
   ⟨on [(F.PLL_STATUS_STATE, 5)] up, [], by decide +kernel⟩,
   ⟨up, [], by decide +kernel⟩,
   ⟨up, 100, [], by decide +kernel⟩,
   ⟨up, 0, [], by decide +kernel⟩,
   ⟨on [(F.PLL_STATUS_STATE, 4), (F.CLK_MON_C, 0)] up, 254, [], by decide +kernel⟩,
   ⟨on [(F.PLL_STATUS_STATE, 0)] up, 207, [], by decide +kernel⟩⟩

theorem test_met_ClockSupervision_2 : ∃ (s : State) (c : BitVec 9) (same : List ResetCause), s.sup.die = .running ∧ s.pllState = 4 ∧ 0 < s.fld F.CLK_MON_C ∧ 103 * s.fld F.CLK_MON_C < 100 * c.toNat ∧ ((∀ x ∈ same, resetScope x = 1 ∧ 0x11 ≤ resetCode x)) :=
  ⟨on [(F.PLL_STATUS_STATE, 4), (F.CLK_MON_C, 240)] up, 255, [], by decide +kernel⟩

theorem test_met_CatchAndInputs :
    (∃ (s : State) (bits : List (Nat × List (Option Bool))) (done : Nat), s.sup.die = .running ∧ s.catchDue = true ∧ s.catchPlaced = true) ∧
    (∃ (s : State) (b : Fin 2048) (e : Bind) (w : Word) (v : Bool), s.sup.die = .running ∧ s.live.bind[(b : Nat)]? = some e ∧ s.delivers e (s.cat.num % 256) = some (w, v) ∧ (s.input b).fifo = [] ∧ (s.input b).res = none) ∧
    (∃ (s : State) (b : Fin 2048) (tag : Fin 256) (e : Bind) (w : Word) (v : Bool), s.sup.die = .running ∧ s.live.bind[(b : Nat)]? = some e ∧ s.delivers e tag = some (w, v) ∧ (s.input b).fifo = [] ∧ 0 < tagDist tag s.cat.num) ∧
    (∃ (s : State) (b : Fin 2048) (tag : Fin 256) (e : Bind), s.sup.die = .running ∧ s.live.bind[(b : Nat)]? = some e ∧ (s.input b).fifo = [] ∧ tagDist tag s.cat.num < 0) ∧
    (∃ (s : State) (b : Fin 2048) (u : Fin 5) (e : Bind), s.sup.die = .running ∧ s.cat.num ≠ 0 ∧ s.on F.CATCH_CTRL_RUN = true ∧ s.live.bind[(b : Nat)]? = some e ∧ e.isInput = true ∧ (s.input b).res = none) ∧
    (∃ (s : State), s.sup.die = .running) :=
  ⟨⟨on [(F.CATCH_CTRL_RUN, 1)] up, default, 0, by decide +kernel⟩,
   ⟨binds [.sd 0 0 0 0 0 []] up, 0, .sd 0 0 0 0 0 [], 0, false, by decide +kernel⟩,
   ⟨binds [.sd 0 0 0 0 0 []] (on [((F.SD_STAT_TAG 0), 1)] up), 0, 1, .sd 0 0 0 0 0 [], 0, false, by decide +kernel⟩,
   ⟨binds [.sd 0 0 0 0 0 []] up, 0, 255, .sd 0 0 0 0 0 [], by decide +kernel⟩,
   ⟨binds [.sd 0 0 0 0 0 []] (mCat (fun x => { x with num := 1 }) (on [(F.CATCH_CTRL_RUN, 1)] up)), 0, 0, .sd 0 0 0 0 0 [], by decide +kernel⟩,
   ⟨up, by decide +kernel⟩⟩

theorem test_met_SigmaDeltaStreams :
    (∃ (s : State) (n : SdIx) (bits : List (Option Bool)), s.sup.die = .running ∧ s.clocked (sdPage n) = true) ∧
    (∃ (s : State) (n : SdIx) (b : Bool), s.sup.die = .running ∧ s.clocked (sdPage n) = true ∧ s.fld (F.SD_CFG_MODE n) = 1 ∧ s.fld (F.SD_CFG_PORD n) = 0) ∧
    (∃ (s : State) (n : SdIx), s.sup.die = .running ∧ s.clocked (sdPage n) = true ∧ s.fld (F.SD_CFG_MODE n) = 1 ∧ s.fld (F.SD_CFG_PORD n) = 0 ∧ (s.sd n).run = 63) ∧
    (∃ (s : State) (n : SdIx) (b : Bool), s.sup.die = .running ∧ s.clocked (sdPage n) = true ∧ s.fld (F.SD_CFG_MODE n) = 2 ∧ s.fld (F.SD_CFG_PORD n) = 0 ∧ s.on (F.SD_STAT_LOCK n) = false ∧ (s.sd n).good = 31) ∧
    (∃ (s : State) (n : SdIx), s.sup.die = .running ∧ s.clocked (sdPage n) = true ∧ s.fld (F.SD_CFG_MODE n) = 2 ∧ s.fld (F.SD_CFG_PORD n) = 0 ∧ s.on (F.SD_STAT_LOCK n) = true ∧ 4 ≤ ones32 ((2 * (s.sd n).viols + 1) % 2 ^ 32)) ∧
    (∃ (s : State) (n : SdIx), s.sup.die = .running ∧ s.clocked (sdPage n) = true ∧ s.fld (F.SD_CFG_MODE n) = 2 ∧ s.fld (F.SD_CFG_PORD n) = 0) ∧
    (∃ (s : State) (n : SdIx) (b : Bool) (hi : Bool) (p : Int), s.sup.die = .running ∧ s.clocked (sdPage n) = true ∧ s.fld (F.SD_CFG_MODE n) = 1 ∧ s.fld (F.SD_CFG_PORD n) ≠ 0 ∧ s.fld (F.SD_CFG_PORD n) * (s.fld (F.SD_CFG_M n) - 1) + 1 ≤ min 256 ((s.sd n).count + 1) ∧ p = weighBits (protWeights (s.fld (F.SD_CFG_PORD n)) (s.fld (F.SD_CFG_M n))) ((2 * (s.sd n).bits + (if b then 1 else 0)) % 2 ^ 256) ∧ s.pastThr n hi p = true ∧ s.pastThr n (!hi) p = false ∧ s.on (compFld n hi) = false ∧ s.on (compFld n (!hi)) = false ∧ s.fld (F.SD_CFG_DEB n) ≤ (if hi then (s.sd n).hiRun else (s.sd n).loRun) ∧ (s.fld (F.SD_MCFG_KIND n) = 0 ∨ 5 ≤ s.fld (F.SD_MCFG_KIND n))) ∧
    (∃ (s : State) (n : SdIx) (hi : Bool) (p : Int), s.pastThr n hi p = true ∧ s.on (compFld n hi) = false ∧ s.fld (F.SD_CFG_DEB n) ≤ (if hi then (s.sd n).hiRun else (s.sd n).loRun)) ∧
    (∃ (s : State) (n : SdIx) (b : Bool) (hi : Bool) (p : Int), s.sup.die = .running ∧ s.clocked (sdPage n) = true ∧ s.fld (F.SD_CFG_MODE n) = 1 ∧ s.fld (F.SD_CFG_PORD n) ≠ 0 ∧ s.fld (F.SD_CFG_PORD n) * (s.fld (F.SD_CFG_M n) - 1) + 1 ≤ min 256 ((s.sd n).count + 1) ∧ p = weighBits (protWeights (s.fld (F.SD_CFG_PORD n)) (s.fld (F.SD_CFG_M n))) ((2 * (s.sd n).bits + (if b then 1 else 0)) % 2 ^ 256) ∧ s.on (compFld n hi) = true ∧ s.pastHyst n hi p = true ∧ s.pastThr n (!hi) p = false ∧ s.on (compFld n (!hi)) = false) :=
  ⟨⟨run, 0, default, by decide +kernel⟩,
   ⟨on [((F.SD_CFG_MODE (0)), 1), ((F.SD_CFG_PORD (0)), 0)] run, 0, true, by decide +kernel⟩,
   ⟨State.setSd (on [((F.SD_CFG_MODE (0)), 1), ((F.SD_CFG_PORD (0)), 0)] run) 0 { SdIn.init with run := 63 }, 0, by decide +kernel⟩,
   ⟨State.setSd (on [((F.SD_CFG_MODE (0)), 2), ((F.SD_CFG_PORD (0)), 0), ((F.SD_STAT_LOCK (0)), 0)] run) 0 { SdIn.init with good := 31 }, 0, true, by decide +kernel⟩,
   ⟨State.setSd (on [((F.SD_CFG_MODE (0)), 2), ((F.SD_CFG_PORD (0)), 0), ((F.SD_STAT_LOCK (0)), 1)] run) 0 { SdIn.init with viols := 7 }, 0, by decide +kernel⟩,
   ⟨on [((F.SD_CFG_MODE (0)), 2), ((F.SD_CFG_PORD (0)), 0)] run, 0, by decide +kernel⟩,
   ⟨on [((F.SD_CFG_MODE (0)), 1), ((F.SD_CFG_MODE 0), 1), ((F.SD_CFG_PORD 0), 1), ((F.SD_CFG_M 0), 1), ((F.SD_THR_HI_HI 0), 1), ((F.SD_THR_LO_LO 0), 0x3FFFF)] run, 0, true, true, _, by decide +kernel, by decide +kernel, by decide +kernel, by decide +kernel, by decide +kernel, rfl, by decide +kernel⟩,
   ⟨up, 0, true, 0, by decide +kernel⟩,
   ⟨on [((F.SD_CFG_MODE (0)), 1), ((F.SD_CFG_MODE 0), 1), ((F.SD_CFG_PORD 0), 1), ((F.SD_CFG_M 0), 1), ((F.SD_THR_HI_HI 0), 1), ((F.SD_THR_LO_LO 0), 0x20000), ((compFld 0 true), 1)] run, 0, false, true, _, by decide +kernel, by decide +kernel, by decide +kernel, by decide +kernel, by decide +kernel, rfl, by decide +kernel⟩⟩

theorem test_met_OffsetsAndConversions_1 :
    (∃ (s : State) (i : Fin 40) (v : Word), s.sup.die = .running ∧ ((∀ u < 4, bit (s.sdUnits i) u = true → s.unitOn u = false))) ∧
    (∃ (s : State) (i : Fin 40) (v : Word), s.sup.die = .running ∧ i.val < 32 ∧ ((∀ u < 4, bit (s.sarUnits i) u = true → s.unitOn u = false)) ∧ s.sense.sarOld.get i = 0) ∧
    (∃ (s : State) (i : Fin 40) (v : Word) (u : Nat), s.sup.die = .running ∧ u < 4 ∧ bit (s.sdUnits i) u = true ∧ s.unitOn u = true) ∧
    (∃ (s : State) (u : UnitIx), s.sup.die = .running ∧ (s.calOf u).1 = .due ∧ s.unitOff u = true ∧ ((∀ v < 4, s.calRuns v = false)) ∧ s.mbWaiting svCalibrate (fun r => r.unit u) = []) ∧
    (∃ (s : State) (u : UnitIx), s.sup.die = .running ∧ (s.calOf u).1 = .settling) ∧
    (∃ (s : State) (u : Nat), s.calRuns u = true) ∧
    (∃ (s : State) (u : Nat) (key : Nat), (s.calOf u).1 = .summing ∧ (s.calSum key).n < 2 ^ (s.calOf u).2.1) ∧
    (∃ (s : State) (u : UnitIx) (k : Nat) (c : Nat), s.sup.die = .running ∧ (s.calOf u).1 = .summing ∧ s.calInputs u = [k] ∧ (s.calSum k).n = 2 ^ (s.calOf u).2.1 ∧ calOne (s.calOf u).2.1 (s.live.nominal k).1 (s.live.nominal k).2 (s.calSum k) = .inl c) ∧
    (∃ (s : State) (u : UnitIx) (k : Nat) (v : Int), s.sup.die = .running ∧ (s.calOf u).1 = .summing ∧ k < 40 ∧ s.calInputs u = [k] ∧ (s.calSum k).n = 2 ^ (s.calOf u).2.1 ∧ calOne (s.calOf u).2.1 (s.live.nominal k).1 (s.live.nominal k).2 (s.calSum k) = .inr v ∧ s.mbWaiting svCalibrate (fun r => r.unit u) = []) ∧
    (∃ (s : State) (e : Fin 32) (at' : Nat) (t0 : Int), s.sup.die = .running ∧ s.clocked 0x07 = true ∧ s.sarTrigger e = some t0 ∧ t0 + s.fld (F.SAR_SEQ_DELAY e) ≤ at' ∧ s.sarTurn e = true ∧ s.sense.sarAt.get e ≠ s.cat.num) :=
  ⟨⟨up, 0, 0, by decide +kernel⟩,
   ⟨up, 0, 0, by decide +kernel⟩,
   ⟨gate up, 0, 0, 0, by decide +kernel⟩,
   ⟨mSense (fun c => { c with cal := [(0, .due, 6, 0)] }) up, 0, by decide +kernel⟩,
   ⟨mSense (fun c => { c with cal := [(0, .settling, 6, 0)] }) up, 0, by decide +kernel⟩,
   ⟨mSense (fun c => { c with cal := [(0, .summing, 6, 0)], calSum := [] }) up, 0, by decide +kernel⟩,
   ⟨mSense (fun c => { c with cal := [(0, .summing, 6, 0)], calSum := [] }) up, 0, 0, by decide +kernel⟩,
   ⟨binds [.sd 0 0 0 0 2 []] (mSense (fun c => { c with cal := [(0, .summing, 6, 0)], calSum := [(0, ⟨64, 0, true⟩)] }) (on [((F.SD_CFG_MODE 0), 1), ((F.SD_MCFG_KIND 0), 1)] up)), 0, 0, _, by decide +kernel, by decide +kernel, by decide +kernel, by decide +kernel, rfl⟩,
   ⟨binds [.sd 0 0 0 0 2 []] (mSense (fun c => { c with cal := [(0, .summing, 6, 0)], calSum := [(0, ⟨64, 0, false⟩)] }) (on [((F.SD_CFG_MODE 0), 1), ((F.SD_MCFG_KIND 0), 1)] up)), 0, 0, _, by decide +kernel, by decide +kernel, by decide +kernel, by decide +kernel, by decide +kernel, rfl, by decide +kernel⟩,
   ⟨mCat (fun x => { x with num := 1 }) (on [(F.SAR_CTRL_LEN0, 1)] run), 0, 0, 0, by decide +kernel⟩⟩

theorem test_met_OffsetsAndConversions_2 :
    (∃ (s : State) (e : Fin 32) (at' : Nat), s.sup.die = .running ∧ s.clocked 0x07 = true ∧ ((s.sarTrigger e = none ∨ s.sarTurn e = false))) ∧
    (∃ (s : State) (e : Fin 32) (codes : List (BitVec 12)) (code : Nat), s.sup.die = .running ∧ s.clocked 0x07 = true ∧ bit s.sense.sarBusy e = true ∧ bit s.sense.sarFailed (sarConv e) = false ∧ s.fld (F.SAR_SEQ_INPUT e) < 8 ∧ ((∀ n < 6, s.fld (F.THRM_NTC_EN n) = 0)) ∧ ((∀ u < 4, (s.calOf u).1 ≠ .summing)) ∧ codes.length = 2 ^ s.fld (F.SAR_SEQ_AVG e) ∧ code = (codes.map (fun c => c.toNat)).sum / codes.length ∧ s.sense.sarOfs.get e < 4096) ∧
    (∃ (s : State) (n : Fin 6), s.sup.die = .running ∧ s.clocked 0x14 = true ∧ s.on (F.THRM_NTC_EN n) = true) :=
  ⟨⟨run, 0, 0, by decide +kernel⟩,
   ⟨mSense (fun c => { c with sarBusy := 1 }) run, 0, [7], 7, by decide +kernel⟩,
   ⟨on [((F.THRM_NTC_EN (0)), 1)] run, 0, by decide +kernel⟩⟩

theorem test_met_RotationAndScrub_1 :
    (∃ (s : State), s.sup.die = .running ∧ s.liveValid = true ∧ s.fld F.FAB_ROT_STATE ≠ 3) ∧
    (∃ (s : State), s.sup.die = .running ∧ s.liveValid = true ∧ s.fab.timerDue = true ∧ s.fld F.FAB_ROT_STATE = 0 ∧ s.fab.pool ≠ [] ∧ s.stageState ≠ sCommitted ∧ s.cat.num ≠ s.fab.armN ∧ s.cat.num + 1 ≠ s.fab.armN) ∧
    (∃ (s : State), s.sup.die = .running ∧ s.fld F.FAB_ROT_STATE = 1) ∧
    (∃ (s : State), s.sup.die = .running ∧ s.fld F.FAB_ROT_STATE = 1) ∧
    (∃ (s : State) (sub : Nat) (rest : List Nat), s.sup.die = .running ∧ s.fab.pool = sub :: rest ∧ sub < 16 ∧ s.fld F.FAB_ROT_TARGET < 15 ∧ s.fld F.FAB_ROT_STATE = 1 ∧ s.fab.copied = true) ∧
    (∃ (s : State) (k : Nat), s.fab.taken = some k ∧ 0 < s.slots) ∧
    (∃ (s : State), s.fab.taken = none) ∧
    (∃ (s : State) (seat : Nat) (sig : Word), s.sup.die = .running ∧ s.fab.testing = some seat ∧ s.fld F.FAB_ROT_STATE = 2 ∧ sig.toNat = s.fuses.sigs.get (16 + seat)) ∧
    (∃ (s : State) (seat : Nat) (sig : Word) (march : List Nat) (c : Bool) (d : Bool), s.sup.die = .running ∧ s.fab.testing = some seat ∧ seat < 16 ∧ (sig.toNat ≠ s.fuses.sigs.get (16 + seat) ∨ march ≠ [] ∨ c = false ∨ d = false)) ∧
    (∃ (s : State) (i : Nat) (last : Bool) (c : Nat) (slot : Nat) (l : List Nat), s.sup.die = .running ∧ s.fab.flight[i]? = none ∧ s.fab.stalled = slot :: l) :=
  ⟨⟨on [(F.PLAN_STATUS_LIVE_VALID, 1)] up, by decide +kernel⟩,
   ⟨mFab (fun x => { x with timerDue := true, pool := [3], armN := 9 }) (on [(F.PLAN_STATUS_LIVE_VALID, 1), (F.FAB_ROT_STATE, 0)] up), by decide +kernel⟩,
   ⟨on [(F.FAB_ROT_STATE, 1)] up, by decide +kernel⟩,
   ⟨on [(F.FAB_ROT_STATE, 1)] up, by decide +kernel⟩,
   ⟨mFab (fun x => { x with copied := true, pool := [3, 4] }) (on [(F.FAB_ROT_STATE, 1)] up), 3, [4], by decide +kernel⟩,
   ⟨binds [] (mFab (fun x => { x with taken := some 0 }) (on [(F.FAB_CFG_SLOTS, 2)] up)), 0, by decide +kernel⟩,
   ⟨mFab (fun x => { x with taken := none }) up, by decide +kernel⟩,
   ⟨mFab (fun x => { x with testing := some (0) }) (on [(F.FAB_ROT_STATE, 2)] up), 0, 0, by decide +kernel⟩,
   ⟨mFab (fun x => { x with testing := some 0 }) up, 0, 0, [1], true, true, by decide +kernel, by decide +kernel, by decide +kernel, Or.inr (Or.inl (by decide))⟩,
   ⟨mFab (fun x => { x with stalled := [2, 5] }) up, 0, true, 0, 2, [5], by decide +kernel⟩⟩

theorem test_met_RotationAndScrub_2 :
    (∃ (s : State) (i : Nat) (last : Bool) (c : Nat), s.sup.die = .running ∧ s.fab.flight[i]? = none ∧ s.fab.stalled = []) ∧
    (∃ (s : State) (i : Nat) (c : Nat) (seat : Nat) (w : Nat) (slot : Nat) (v : Word), s.sup.die = .running ∧ s.fab.flight[i]? = some (seat, w, [v], slot) ∧ w < 4096 ∧ s.fab.stalled = []) ∧
    (∃ (s : State) (i : Nat) (c : Nat) (seat : Nat) (w : Nat) (slot : Nat) (v : Word), s.sup.die = .running ∧ s.fab.flight[i]? = some (seat, w, [v], slot) ∧ w < 4096) ∧
    (∃ (s : State), s.sup.die = .running ∧ s.fab.scrubStage = false ∧ s.fab.scrubAt ≠ 16383) ∧
    (∃ (s : State), s.sup.die = .running ∧ s.fab.scrubStage = false ∧ s.fab.scrubAt ≠ 16383) ∧
    (∃ (s : State) (src : Nat) (dst : Nat), mapWf (fun _ => 0#32) s.locals = true) :=
  ⟨⟨mFab (fun x => { x with stalled := [] }) up, 0, true, 0, by decide +kernel⟩,
   ⟨mFab (fun f => { f with flight := [(0, 0, [7], 1)], credits := 1 }) (mFab (fun x => { x with stalled := [] }) up), 0, 0, 0, 0, 1, 7, by decide +kernel⟩,
   ⟨mFab (fun f => { f with flight := [(0, 0, [7], 1)], credits := 1 }) up, 0, 0, 0, 0, 1, 7, by decide +kernel⟩,
   ⟨mFab (fun x => { x with scrubStage := false }) up, by decide +kernel⟩,
   ⟨mFab (fun x => { x with scrubStage := false }) up, by decide +kernel⟩,
   ⟨up, 0, 0, by decide +kernel⟩⟩

theorem test_met_PlanCommands_1 :
    (∃ (s : State), s.sup.die = .running ∧ s.pageOn 0x0A = true ∧ s.on (F.PAGE_LOCK_LOCK 0x0A) = false ∧ 4 ≤ s.pllState ∧ s.stage.dcoMin * 1000000 ≤ s.pll.n * s.pll.refHz ∧ s.fab.waiting = false ∧ s.stageState = sVerified ∧ s.stage.fits = true ∧ s.seatsFit s.stage = true ∧ ((s.liveValid = false ∨ s.outputsOff = true)) ∧ ((∀ d < 2, s.stage.catchLow d = false)) ∧ s.load.phase = 0) ∧
    (∃ (s : State), s.sup.die = .running ∧ s.pageOn 0x0A = true ∧ 4 ≤ s.pllState ∧ s.fab.waiting = false ∧ s.stageState ≠ sVerified) ∧
    (∃ (s : State), s.sup.die = .running ∧ s.pageOn 0x0A = true ∧ 4 ≤ s.pllState ∧ s.stage.dcoMin * 1000000 ≤ s.pll.n * s.pll.refHz ∧ s.fab.waiting = false ∧ s.stageState = sVerified ∧ s.stage.fits = true ∧ s.seatsFit s.stage = true ∧ s.liveValid = true ∧ s.outputsOff = false) ∧
    (∃ (s : State), s.sup.die = .running ∧ s.pageOn 0x0A = true ∧ s.cascaded = false ∧ 4 ≤ s.pllState ∧ s.armCode s.planTarget false (decide (s.stage.dcoMin * 1000000 ≤ s.pll.n * s.pll.refHz)) = 0 ∧ s.load.phase = 0) ∧
    (∃ (s : State), s.sup.die = .running ∧ s.pageOn 0x0A = true ∧ s.cascaded = true) ∧
    (∃ (s : State), s.sup.die = .running ∧ s.pageOn 0x0A = true ∧ s.stageState = sArmed ∧ s.cat.num + 2 < s.fab.armN) ∧
    (∃ (s : State), s.sup.die = .running ∧ s.pageOn 0x0A = true ∧ (s.stageState = sCommitted ∨ (s.stageState = sArmed ∧ s.fab.armN ≤ s.cat.num + 2))) ∧
    (∃ (s : State) (m : Master), s.sup.die = .running ∧ m ≠ .cox0 ∧ s.pageOn 0x0A = true) ∧
    (∃ (s : State) (tick : Nat), s.sup.die = .running ∧ s.fab.waiting = true) ∧
    (∃ (s : State) (tick : Nat), s.sup.die = .running ∧ s.reactivateDue = true) :=
  ⟨⟨on [(F.PLAN_STATUS_LIVE_VALID, 0)] (armable run), by decide +kernel⟩,
   ⟨mFab (fun x => { x with waiting := false }) (on [(F.PLL_STATUS_STATE, 4)] run), by decide +kernel⟩,
   ⟨on [(F.LEG_STAT_EN 0, 1)] (mPll (fun x => { x with n := 160, refHz := 25000000 }) (armable run)), by decide +kernel⟩,
   ⟨armable run, by decide +kernel⟩,
   ⟨on [(F.CASC_CFG_DEVICES, 8)] run, by decide +kernel⟩,
   ⟨mFab (fun x => { x with armN := 9 }) (on [(F.PLAN_STATUS_STAGE_STATE, sArmed)] run), by decide +kernel⟩,
   ⟨on [(F.PLAN_STATUS_STAGE_STATE, sCommitted)] run, by decide +kernel, by decide +kernel, Or.inl (by decide +kernel)⟩,
   ⟨run, .cox1, by decide +kernel⟩,
   ⟨mFab (fun x => { x with waiting := true }) up, 0, by decide +kernel⟩,
   ⟨mFab (fun x => { x with reactivate := true }) (on [(F.PLAN_STATUS_LIVE_VALID, 1)] up), 0, by decide +kernel⟩⟩

theorem test_met_PlanCommands_2 :
    (∃ (s : State), s.sup.die = .running ∧ s.stageState = sArmed ∧ s.cat.num + 2 = s.fab.armN ∧ s.cascaded = false ∧ s.switchFits = true) ∧
    (∃ (s : State), s.sup.die = .running ∧ s.stageState = sCommitted ∧ s.cat.num + 1 = s.fab.armN) :=
  ⟨⟨on [(F.PLAN_STATUS_STAGE_STATE, sArmed)] (mFab (fun f => { f with armN := 2 }) (armable run)), by decide +kernel⟩,
   ⟨mFab (fun x => { x with armN := 1 }) (on [(F.PLAN_STATUS_STAGE_STATE, sCommitted)] up), by decide +kernel⟩⟩

theorem test_met_PlanLoads :
    (∃ (s : State) (o : Nat) (l : List Byte), s.sup.die = .running ∧ s.load.phase = 1 ∧ o ≠ planArea (if s.cascaded then s.fld F.CASC_STATE_POS else 0)) ∧
    (∃ (s : State) (l : List Byte), s.sup.die = .running ∧ s.load.phase = 1) ∧
    (∃ (s : State) (ecc : Bool), s.sup.die = .running ∧ s.load.phase = 2) ∧
    (∃ (s : State) (ecc : Bool), s.sup.die = .running ∧ s.load.phase = 2 ∧ s.sramCode ecc ≠ 0) ∧
    (∃ (s : State), s.sup.die = .running ∧ s.load.phase = 3) ∧
    (∃ (s : State) (ecc : Bool), s.sup.die = .running ∧ s.load.phase = 4) :=
  ⟨⟨mLoad (fun x => { x with phase := 1 }) up, 0, [], by decide +kernel⟩,
   ⟨mLoad (fun x => { x with phase := 1 }) up, [], by decide +kernel⟩,
   ⟨mLoad (fun x => { x with phase := 2 }) up, true, by decide +kernel⟩,
   ⟨mLoad (fun x => { x with phase := 2 }) up, true, by decide +kernel⟩,
   ⟨mLoad (fun x => { x with phase := 3 }) up, by decide +kernel⟩,
   ⟨mLoad (fun x => { x with phase := 4 }) up, true, by decide +kernel⟩⟩

theorem test_met_RecordIssue :
    (∃ (s : State) (i : Instr) (op : Nat) (r : OpRec), i.record = some (op, r) ∧ r.ok op = false) ∧
    (∃ (s : State) (i : Instr) (op : Nat) (r : OpRec), i.record = some (op, r) ∧ r.ok op = true ∧ s.sup.die = .running ∧ s.seatReady r = false) ∧
    (∃ (s : State) (r : OpRec) (ix : Fin 8192), r.ok 0x42 = true ∧ s.sup.die = .running ∧ s.seatReady r = true ∧ (s.written r).recDue r = false) ∧
    (∃ (s : State) (r : OpRec) (ix : Fin 8192), r.ok 0x42 = true ∧ s.sup.die = .running ∧ s.seatReady r = true ∧ r.slot.val < 15) ∧
    (∃ (s : State) (r : OpRec) (ix : Fin 8192), r.ok 0x42 = true ∧ s.sup.die = .running ∧ s.seatReady r = true) ∧
    (∃ (s : State) (r : OpRec) (ref : Fin 16384) (ws : List Word), refKind ref = 0 ∧ refIx ref + ws.length ≤ 4096 ∧ ((∀ e ∈ s.fab.own, e.1 ≠ s.opSeat r))) ∧
    (∃ (s : State) (r : OpRec) (ref : Fin 16384) (ws : List Word), refKind ref ≠ 0) ∧
    (∃ (s : State) (i : Nat) (seat : Nat) (w : Nat) (slot : Nat) (ws : List Word), s.fab.flight[i]? = some (seat, w, ws, slot) ∧ w + ws.length ≤ 4096) ∧
    (∃ (s : State) (r : OpRec) (fl : Nat) (u : Nat), r.unit.val < 4) :=
  ⟨⟨up, .add (opRec 3 0 0 0 []) 0 .none, 0x42, opRec 3 0 0 0 [], by decide +kernel⟩,
   ⟨up, .add (opRec 3 0 0 0 [0x10, 0x30, 0x50]) 0 .none, 0x42, opRec 3 0 0 0 [0x10, 0x30, 0x50], by decide +kernel⟩,
   ⟨rdy, { opRec 3 0 0 0 [0x10, 0x30, 0x50] with k := 7, phase := 127 }, 0, by decide +kernel⟩,
   ⟨rdy, (opRec 0 0 0 0 [0x10, 0x30, 0x50]), 0, by decide +kernel⟩,
   ⟨rdy, (opRec 0 0 0 0 [0x10, 0x30, 0x50]), 0, by decide +kernel⟩,
   ⟨up, opRec 3 0 0 0 [], 0xFFF, [7], by decide +kernel, by decide +kernel, by decide +kernel⟩,
   ⟨up, opRec 3 0 0 0 [], 0x2000, [7], by decide +kernel⟩,
   ⟨mFab (fun f => { f with flight := [(0, 0, [7], 1)], credits := 1 }) up, 0, 0, 0, 1, [7], by decide +kernel⟩,
   ⟨up, { opRec 3 0 0 0 [] with unit := 3 }, 0, 0, by decide +kernel⟩⟩

theorem test_met_IntegerRecords_1 :
    (∃ (s0 : State) (s : State) (r : OpRec) (ix : Fin 8192), s = s0.written r ∧ Issues 0x42 r s ∧ r.t = 3 ∧ refKind r.f0 = 0) ∧
    (∃ (s0 : State) (s : State) (r : OpRec) (ix : Fin 8192), s = s0.written r ∧ Issues 0x43 r s ∧ r.t = 3 ∧ refKind r.f0 = 0) ∧
    (∃ (s0 : State) (s : State) (r : OpRec) (ix : Fin 8192), s = s0.written r ∧ Issues 0x42 r s ∧ r.t = 1 ∧ refKind r.f0 = 0) ∧
    (∃ (s0 : State) (s : State) (r : OpRec) (ix : Fin 8192), s = s0.written r ∧ Issues 0x43 r s ∧ r.t = 1 ∧ refKind r.f0 = 0) ∧
    (∃ (s0 : State) (s : State) (r : OpRec) (ix : Fin 8192), s = s0.written r ∧ Issues 0x40 r s ∧ r.t = 1 ∧ refKind r.f0 = 0) ∧
    (∃ (s0 : State) (s : State) (r : OpRec) (ix : Fin 8192), s = s0.written r ∧ Issues 0x41 r s ∧ r.t = 1 ∧ refKind r.f0 = 0) ∧
    (∃ (s0 : State) (s : State) (r : OpRec) (ix : Fin 8192), s = s0.written r ∧ Issues 0x44 r s ∧ r.t = 1 ∧ refKind r.f0 = 0) ∧
    (∃ (s0 : State) (s : State) (r : OpRec) (ix : Fin 8192), s = s0.written r ∧ Issues 0x49 r s ∧ r.t = 3 ∧ r.mode = 2 ∧ refKind r.f0 = 0) ∧
    (∃ (s0 : State) (s : State) (r : OpRec) (ix : Fin 8192), s = s0.written r ∧ Issues 0x4A r s ∧ r.t ≠ 2 ∧ refKind r.f0 = 0) ∧
    (∃ (s0 : State) (s : State) (r : OpRec) (ix : Fin 8192), s = s0.written r ∧ Issues 0x50 r s ∧ r.t ≠ 2 ∧ refKind r.f0 = 0 ∧ r.unit.val < 4 ∧ bit (s.fab.cur.get r.unit) 1 = false) :=
  ⟨⟨rdy, State.written (rdy) ((opRec 3 0 0 0 [0x10, 0x30, 0x50])), (opRec 3 0 0 0 [0x10, 0x30, 0x50]), 0, rfl, by unfold Issues; decide +kernel⟩,
   ⟨rdy, State.written (rdy) ((opRec 3 0 0 0 [0x10, 0x30, 0x50])), (opRec 3 0 0 0 [0x10, 0x30, 0x50]), 0, rfl, by unfold Issues; decide +kernel⟩,
   ⟨rdy, State.written (rdy) ((opRec 1 0 0 0 [0x10, 0x30, 0x50])), (opRec 1 0 0 0 [0x10, 0x30, 0x50]), 0, rfl, by unfold Issues; decide +kernel⟩,
   ⟨rdy, State.written (rdy) ((opRec 1 0 0 0 [0x10, 0x30, 0x50])), (opRec 1 0 0 0 [0x10, 0x30, 0x50]), 0, rfl, by unfold Issues; decide +kernel⟩,
   ⟨rdy, State.written (rdy) ((opRec 1 0 0 0 [0x10, 0x30, 0x50])), (opRec 1 0 0 0 [0x10, 0x30, 0x50]), 0, rfl, by unfold Issues; decide +kernel⟩,
   ⟨rdy, State.written (rdy) ((opRec 1 0 0 0 [0x10, 0x30, 0x50, 0x70])), (opRec 1 0 0 0 [0x10, 0x30, 0x50, 0x70]), 0, rfl, by unfold Issues; decide +kernel⟩,
   ⟨rdy, State.written (rdy) ((opRec 1 0 0 0 [0x10, 0x30])), (opRec 1 0 0 0 [0x10, 0x30]), 0, rfl, by unfold Issues; decide +kernel⟩,
   ⟨rdy, State.written (rdy) ((opRec 3 0 0 2 [0x10, 0x30, 0x50])), (opRec 3 0 0 2 [0x10, 0x30, 0x50]), 0, rfl, by unfold Issues; decide +kernel⟩,
   ⟨rdy, State.written (rdy) ((opRec 0 0 0 0 [0x10, 0x30, 0x50, 0x70])), (opRec 0 0 0 0 [0x10, 0x30, 0x50, 0x70]), 0, rfl, by unfold Issues; decide +kernel⟩,
   ⟨rdy, State.written (rdy) ((opRec 0 0 0 0 [0x10, 0x30, 0x50, 0x70])), (opRec 0 0 0 0 [0x10, 0x30, 0x50, 0x70]), 0, rfl, by unfold Issues; decide +kernel⟩⟩

theorem test_met_IntegerRecords_2 : ∃ (s0 : State) (s : State) (r : OpRec) (ix : Fin 8192), s = s0.written r ∧ Issues 0x45 r s ∧ r.t = 1 ∧ r.mode = 2 ∧ refKind r.f0 = 0 :=
  ⟨rdy, State.written (rdy) ((opRec 1 0 0 2 [0x10, 0x30])), (opRec 1 0 0 2 [0x10, 0x30]), 0, rfl, by unfold Issues; decide +kernel⟩

theorem test_met_FloatRecords_1 :
    (∃ (s0 : State) (s : State) (r : OpRec) (ix : Fin 8192), s = s0.written r ∧ Issues 0x40 r s ∧ r.t = 0) ∧
    (∃ (s0 : State) (s : State) (r : OpRec) (ix : Fin 8192), s = s0.written r ∧ Issues 0x41 r s ∧ r.t = 0) ∧
    (∃ (s0 : State) (s : State) (r : OpRec) (ix : Fin 8192), s = s0.written r ∧ Issues 0x42 r s ∧ r.t = 0) ∧
    (∃ (s0 : State) (s : State) (r : OpRec) (ix : Fin 8192), s = s0.written r ∧ Issues 0x43 r s ∧ r.t = 0) ∧
    (∃ (s0 : State) (s : State) (r : OpRec) (ix : Fin 8192), s = s0.written r ∧ Issues 0x44 r s ∧ r.t = 0) ∧
    (∃ (s0 : State) (s : State) (r : OpRec) (ix : Fin 8192), s = s0.written r ∧ Issues 0x46 r s) ∧
    (∃ (s0 : State) (s : State) (r : OpRec) (ix : Fin 8192), s = s0.written r ∧ Issues 0x47 r s) ∧
    (∃ (s0 : State) (s : State) (r : OpRec) (ix : Fin 8192), s = s0.written r ∧ Issues 0x48 r s ∧ (s.fop r r.f1).v.mant = 0 ∧ (s.fop r r.f2).v.mant = 0) ∧
    (∃ (s0 : State) (s : State) (r : OpRec) (ix : Fin 8192), s = s0.written r ∧ Issues 0x48 r s ∧ (s.fop r r.f1).v.mant ≠ 0) ∧
    (∃ (s0 : State) (s : State) (r : OpRec) (ix : Fin 8192), s = s0.written r ∧ Issues 0x45 r s ∧ r.t = 0 ∧ r.mode = 1) :=
  ⟨⟨rdy, State.written (rdy) ((opRec 0 0 0 0 [0x10, 0x30, 0x50])), (opRec 0 0 0 0 [0x10, 0x30, 0x50]), 0, rfl, by unfold Issues; decide +kernel⟩,
   ⟨rdy, State.written (rdy) ((opRec 0 0 0 0 [0x10, 0x30, 0x50, 0x70])), (opRec 0 0 0 0 [0x10, 0x30, 0x50, 0x70]), 0, rfl, by unfold Issues; decide +kernel⟩,
   ⟨rdy, State.written (rdy) ((opRec 0 0 0 0 [0x10, 0x30, 0x50])), (opRec 0 0 0 0 [0x10, 0x30, 0x50]), 0, rfl, by unfold Issues; decide +kernel⟩,
   ⟨rdy, State.written (rdy) ((opRec 0 0 0 0 [0x10, 0x30, 0x50])), (opRec 0 0 0 0 [0x10, 0x30, 0x50]), 0, rfl, by unfold Issues; decide +kernel⟩,
   ⟨rdy, State.written (rdy) ((opRec 0 0 0 0 [0x10, 0x30])), (opRec 0 0 0 0 [0x10, 0x30]), 0, rfl, by unfold Issues; decide +kernel⟩,
   ⟨rdy, State.written (rdy) ((opRec 0 0 0 0 [0x10, 0x30])), (opRec 0 0 0 0 [0x10, 0x30]), 0, rfl, by unfold Issues; decide +kernel⟩,
   ⟨rdy, State.written (rdy) ((opRec 0 0 0 0 [0x10, 0x30])), (opRec 0 0 0 0 [0x10, 0x30]), 0, rfl, by unfold Issues; decide +kernel⟩,
   ⟨rdy, State.written (rdy) ((opRec 0 0 0 0 [0x10, 0x30, 0x50])), (opRec 0 0 0 0 [0x10, 0x30, 0x50]), 0, rfl, by unfold Issues; decide +kernel⟩,
   ⟨words [(0x30, 0x3F800000)] rdy, State.written (words [(0x30, 0x3F800000)] rdy) ((opRec 0 0 0 0 [0x10, 0x30, 0x50])), (opRec 0 0 0 0 [0x10, 0x30, 0x50]), 0, rfl, by unfold Issues; decide +kernel⟩,
   ⟨rdy, State.written (rdy) ((opRec 0 0 0 1 [0x10, 0x30])), (opRec 0 0 0 1 [0x10, 0x30]), 0, rfl, by unfold Issues; decide +kernel⟩⟩

theorem test_met_FloatRecords_2 :
    (∃ (s0 : State) (s : State) (r : OpRec) (ix : Fin 8192), s = s0.written r ∧ Issues 0x45 r s ∧ r.t = 0 ∧ r.mode = 3) ∧
    (∃ (s0 : State) (s : State) (r : OpRec) (ix : Fin 8192), s = s0.written r ∧ Issues 0x49 r s ∧ r.t = 0 ∧ r.mode = 2) ∧
    (∃ (s0 : State) (s : State) (r : OpRec) (ix : Fin 8192), s = s0.written r ∧ Issues 0x22 r s) :=
  ⟨⟨rdy, State.written (rdy) ((opRec 0 0 0 3 [0x10, 0x30])), (opRec 0 0 0 3 [0x10, 0x30]), 0, rfl, by unfold Issues; decide +kernel⟩,
   ⟨rdy, State.written (rdy) ((opRec 0 0 0 2 [0x10, 0x30, 0x50])), (opRec 0 0 0 2 [0x10, 0x30, 0x50]), 0, rfl, by unfold Issues; decide +kernel⟩,
   ⟨rdy, State.written (rdy) ((opRec 0 0 0 0 [0x10, 0x30, 0x50, 0x70])), (opRec 0 0 0 0 [0x10, 0x30, 0x50, 0x70]), 0, rfl, by unfold Issues; decide +kernel⟩⟩

theorem test_met_TransformRecords :
    (∃ (s0 : State) (s : State) (r : OpRec) (ix : Fin 8192) (ph : Nat → FV), s = s0.written r ∧ Issues 0x10 r s ∧ ((∀ p, ph p = fsumL ((List.range r.n).map (fun j => s.fop r r.f1 (p * r.n + j)))))) ∧
    (∃ (s0 : State) (s : State) (r : OpRec) (ix : Fin 8192), s = s0.written r ∧ Issues 0x11 r s) ∧
    (∃ (s0 : State) (s : State) (r : OpRec) (ix : Fin 8192), s = s0.written r ∧ Issues 0x12 r s) ∧
    (∃ (s0 : State) (s : State) (r : OpRec) (ix : Fin 8192), s = s0.written r ∧ Issues 0x13 r s) ∧
    (∃ (s0 : State) (s : State) (r : OpRec) (ix : Fin 8192) (th : Nat), s = s0.written r ∧ Issues 0x14 r s ∧ r.f2 = 0x3000 ∧ th = (s.refWord r r.f1 0).toNat) ∧
    (∃ (s0 : State) (s : State) (r : OpRec) (ix : Fin 8192) (vb : FV) (vc : FV), s = s0.written r ∧ Issues 0x15 r s ∧ vb = ffma cKH (s.fop r r.f1 1) (fneg (fmul fhalf (s.fop r r.f1))) ∧ vc = ffma (fneg cKH) (s.fop r r.f1 1) (fneg (fmul fhalf (s.fop r r.f1)))) ∧
    (∃ (s0 : State) (s : State) (r : OpRec) (ix : Fin 8192), s = s0.written r ∧ Issues 0x16 r s) ∧
    (∃ (s0 : State) (s : State) (r : OpRec) (ix : Fin 8192) (d : Nat → FV), s = s0.written r ∧ Issues 0x17 r s ∧ flt fzero (s.fop r r.f3) = true ∧ ((∀ k, d k = ffma (fclamp (fmul (s.fop r r.f2 k) (s.fop r r.f3)) (fneg fone) fone) (s.fop r r.f4) (s.fop r r.f1 k))) ∧ ((∀ k < 3, fclamped (d k) fzero fone = false))) :=
  ⟨⟨rdy, State.written (rdy) ((opRec 0 1 0 0 [0x10, 0x30])), (opRec 0 1 0 0 [0x10, 0x30]), 0, fun p => fsumL ((List.range 1).map (fun j => (State.written rdy (opRec 0 1 0 0 [0x10, 0x30])).fop (opRec 0 1 0 0 [0x10, 0x30]) 0x30 (p * 1 + j))), rfl, by unfold Issues; decide +kernel, fun _ => rfl⟩,
   ⟨rdy, State.written (rdy) ((opRec 0 2 1 0 [0x10, 0x30, 0x1000])), (opRec 0 2 1 0 [0x10, 0x30, 0x1000]), 0, rfl, by unfold Issues; decide +kernel⟩,
   ⟨rdy, State.written (rdy) ((opRec 0 0 0 0 [0x10, 0x30, 0x50])), (opRec 0 0 0 0 [0x10, 0x30, 0x50]), 0, rfl, by unfold Issues; decide +kernel⟩,
   ⟨rdy, State.written (rdy) ((opRec 0 0 0 0 [0x10, 0x30, 0x50])), (opRec 0 0 0 0 [0x10, 0x30, 0x50]), 0, rfl, by unfold Issues; decide +kernel⟩,
   ⟨rdy, State.written (rdy) ((opRec 3 0 0 0 [0x10, 0x30, 0x3000, 0x3400])), (opRec 3 0 0 0 [0x10, 0x30, 0x3000, 0x3400]), 0, _, rfl, by unfold Issues; decide +kernel, by decide +kernel, rfl⟩,
   ⟨rdy, State.written (rdy) ((opRec 0 0 0 0 [0x10, 0x30, 0x50, 0x3000])), (opRec 0 0 0 0 [0x10, 0x30, 0x50, 0x3000]), 0, _, _, rfl, by unfold Issues; decide +kernel, rfl, rfl⟩,
   ⟨rdy, State.written (rdy) ((opRec 0 1 0 0 [0x10, 0x30, 0x50, 0x70])), (opRec 0 1 0 0 [0x10, 0x30, 0x50, 0x70]), 0, rfl, by unfold Issues; decide +kernel⟩,
   ⟨words [(112, 0x3F800000)] rdy, State.written (words [(112, 0x3F800000)] rdy) ((opRec 0 0 0 0 [0x10, 0x30, 0x50, 0x70, 0x90])), (opRec 0 0 0 0 [0x10, 0x30, 0x50, 0x70, 0x90]), 0, fun k => ffma (fclamp (fmul ((State.written (words [(112, 0x3F800000)] rdy) (opRec 0 0 0 0 [0x10, 0x30, 0x50, 0x70, 0x90])).fop (opRec 0 0 0 0 [0x10, 0x30, 0x50, 0x70, 0x90]) 0x50 k) ((State.written (words [(112, 0x3F800000)] rdy) (opRec 0 0 0 0 [0x10, 0x30, 0x50, 0x70, 0x90])).fop (opRec 0 0 0 0 [0x10, 0x30, 0x50, 0x70, 0x90]) 0x70)) (fneg fone) fone) ((State.written (words [(112, 0x3F800000)] rdy) (opRec 0 0 0 0 [0x10, 0x30, 0x50, 0x70, 0x90])).fop (opRec 0 0 0 0 [0x10, 0x30, 0x50, 0x70, 0x90]) 0x90) ((State.written (words [(112, 0x3F800000)] rdy) (opRec 0 0 0 0 [0x10, 0x30, 0x50, 0x70, 0x90])).fop (opRec 0 0 0 0 [0x10, 0x30, 0x50, 0x70, 0x90]) 0x30 k), rfl, by unfold Issues; decide +kernel, by decide +kernel, fun _ => rfl, by decide +kernel⟩⟩

theorem test_met_ControlRecords :
    (∃ (s0 : State) (s : State) (r : OpRec) (ix : Fin 8192) (e : FV) (itry : FV) (u : FV) (out : FV) (i : FV) (sat : Bool), s = s0.written r ∧ Issues 0x20 r s ∧ flt (s.fop r r.f3 3) (s.fop r r.f3 2) = false ∧ e = fsub (s.fop r r.f1) (s.fop r r.f2) ∧ itry = ffma (s.fop r r.f3 1) e (s.fop r r.f4) ∧ u = fadd (fmul (s.fop r r.f3) e) itry ∧ (out, i, sat) = piClamp u e (s.fop r r.f4) itry (s.fop r r.f3 2) (s.fop r r.f3 3)) ∧
    (∃ (u : FV) (e : FV) (i : FV) (itry : FV) (lo : FV) (hi : FV), flt hi u = true) ∧
    (∃ (u : FV) (e : FV) (i : FV) (itry : FV) (lo : FV) (hi : FV), flt hi u = false ∧ flt u lo = true) ∧
    (∃ (u : FV) (e : FV) (i : FV) (itry : FV) (lo : FV) (hi : FV), flt hi u = false ∧ flt u lo = false) ∧
    (∃ (s0 : State) (s : State) (r : OpRec) (ix : Fin 8192) (e : FV) (d : FV) (itry : FV) (u : FV) (out : FV) (i : FV) (sat : Bool), s = s0.written r ∧ Issues 0x21 r s ∧ flt (s.fop r r.f3 5) (s.fop r r.f3 4) = false ∧ s.refWord r r.f3 6 ≠ 0 ∧ s.stValid r r.f4 3 = true ∧ e = fsub (s.fop r r.f1) (s.fop r r.f2) ∧ d = ffma (s.fop r r.f3 3) (s.fop r r.f4 1) (fmul (s.fop r r.f3 2) (fsub e (s.fop r r.f4 2))) ∧ itry = ffma (s.fop r r.f3 1) e (s.fop r r.f4) ∧ u = fadd (fadd (fmul (s.fop r r.f3) e) itry) d ∧ (out, i, sat) = piClamp u e (s.fop r r.f4) itry (s.fop r r.f3 4) (s.fop r r.f3 5)) ∧
    (∃ (s0 : State) (s : State) (r : OpRec) (ix : Fin 8192), s = s0.written r ∧ Issues 0x23 r s ∧ r.t = 0 ∧ flt (s.fop r r.f2 1) (s.fop r r.f2) = false) ∧
    (∃ (s0 : State) (s : State) (r : OpRec) (ix : Fin 8192), s = s0.written r ∧ Issues 0x23 r s ∧ r.t = 1 ∧ (s.refWord r r.f2 1).toInt < (s.refWord r r.f2 0).toInt) ∧
    (∃ (s0 : State) (s : State) (r : OpRec) (ix : Fin 8192) (y : FV) (d : FV), s = s0.written r ∧ Issues 0x24 r s ∧ r.mode = 0 ∧ flt (s.fop r r.f2) fzero = false ∧ flt (s.fop r r.f2 1) fzero = false ∧ d = fsub (s.fop r r.f1) (s.fop r r.f3) ∧ y = fadd (s.fop r r.f3) (fclamp d (fneg (s.fop r r.f2 1)) (s.fop r r.f2))) ∧
    (∃ (s0 : State) (s : State) (r : OpRec) (ix : Fin 8192), s = s0.written r ∧ Issues 0x25 r s ∧ r.mode = 0 ∧ flt (s.fop r r.f2) fzero = false ∧ fle (ffma (s.fop r r.f1) (s.fop r r.f1) (fmul (s.fop r r.f1 1) (s.fop r r.f1 1))) (fmul (s.fop r r.f2) (s.fop r r.f2)) = true) ∧
    (∃ (s0 : State) (s : State) (r : OpRec) (ix : Fin 8192) (vd : FV) (q : FV), s = s0.written r ∧ Issues 0x25 r s ∧ r.mode = 1 ∧ flt (s.fop r r.f2) fzero = false ∧ vd = fclamp (s.fop r r.f1) (fneg (s.fop r r.f2)) (s.fop r r.f2) ∧ q = fsqrt (fmax (ffma (fneg vd) vd (fmul (s.fop r r.f2) (s.fop r r.f2))) fzero)) :=
  ⟨⟨rdy, State.written (rdy) ((opRec 0 0 0 0 [0x10, 0x30, 0x50, 0x70, 0x90])), (opRec 0 0 0 0 [0x10, 0x30, 0x50, 0x70, 0x90]), 0, _, _, _, _, _, _, rfl, by unfold Issues; decide +kernel, by decide +kernel, rfl, rfl, rfl, rfl⟩,
   ⟨fone, fzero, fzero, fzero, fzero, fzero, by decide +kernel⟩,
   ⟨fneg fone, fzero, fzero, fzero, fzero, fzero, by decide +kernel⟩,
   ⟨fzero, fzero, fzero, fzero, fzero, fzero, by decide +kernel⟩,
   ⟨words [(118, 1), (147, 1)] rdy, State.written (words [(118, 1), (147, 1)] rdy) ((opRec 0 0 0 0 [0x10, 0x30, 0x50, 0x70, 0x90])), (opRec 0 0 0 0 [0x10, 0x30, 0x50, 0x70, 0x90]), 0, _, _, _, _, _, _, _, rfl, by unfold Issues; decide +kernel, by decide +kernel, by decide +kernel, by decide +kernel, rfl, rfl, rfl, rfl, rfl⟩,
   ⟨rdy, State.written (rdy) ((opRec 0 0 0 0 [0x10, 0x30, 0x50])), (opRec 0 0 0 0 [0x10, 0x30, 0x50]), 0, rfl, by unfold Issues; decide +kernel⟩,
   ⟨words [(80, 1)] rdy, State.written (words [(80, 1)] rdy) ((opRec 1 0 0 0 [0x10, 0x30, 0x50])), (opRec 1 0 0 0 [0x10, 0x30, 0x50]), 0, rfl, by unfold Issues; decide +kernel⟩,
   ⟨rdy, State.written (rdy) ((opRec 0 0 0 0 [0x10, 0x30, 0x50, 0x70])), (opRec 0 0 0 0 [0x10, 0x30, 0x50, 0x70]), 0, _, _, rfl, by unfold Issues; decide +kernel, by decide +kernel, by decide +kernel, by decide +kernel, rfl, rfl⟩,
   ⟨rdy, State.written (rdy) ((opRec 0 0 0 0 [0x10, 0x30, 0x50])), (opRec 0 0 0 0 [0x10, 0x30, 0x50]), 0, rfl, by unfold Issues; decide +kernel⟩,
   ⟨rdy, State.written (rdy) ((opRec 0 0 0 1 [0x10, 0x30, 0x50])), (opRec 0 0 0 1 [0x10, 0x30, 0x50]), 0, _, _, rfl, by unfold Issues; decide +kernel, by decide +kernel, by decide +kernel, rfl, rfl⟩⟩

theorem test_met_FilterAndTableRecords :
    (∃ (s0 : State) (s : State) (r : OpRec) (ix : Fin 8192) (y : FV), s = s0.written r ∧ Issues 0x28 r s ∧ r.mode = 0 ∧ y = ffma (s.fop r r.f2) (fsub (s.fop r r.f1) (s.fop r r.f3)) (s.fop r r.f3)) ∧
    (∃ (s0 : State) (s : State) (r : OpRec) (ix : Fin 8192), s = s0.written r ∧ Issues 0x28 r s ∧ r.mode = 1 ∧ s.stValid r r.f3 1 = false) ∧
    (∃ (s0 : State) (s : State) (r : OpRec) (ix : Fin 8192) (y : FV) (s1 : FV) (s2 : FV), s = s0.written r ∧ Issues 0x29 r s ∧ y = ffma (s.fop r r.f2) (s.fop r r.f1) (s.fop r r.f3) ∧ s1 = ffma (s.fop r r.f2 1) (s.fop r r.f1) (ffma (fneg (s.fop r r.f2 3)) y (s.fop r r.f3 1)) ∧ s2 = ffma (s.fop r r.f2 2) (s.fop r r.f1) (fneg (fmul (s.fop r r.f2 4) y))) ∧
    (∃ (s0 : State) (s : State) (r : OpRec) (ix : Fin 8192) (t : Nat) (i : Nat) (f : FV), s = s0.written r ∧ Issues 0x2A r s ∧ t = tableOf r.f2 ∧ (i, f) = locate (s.fop r r.f1) (s.tableF t 2) (s.tableF t 3) (s.tableNx t)) ∧
    (∃ (s0 : State) (s : State) (r : OpRec) (ix : Fin 8192) (t : Nat) (i : Nat) (j : Nat) (nx : Nat) (fx : FV) (fy : FV) (r0 : FV) (r1 : FV), s = s0.written r ∧ Issues 0x2B r s ∧ t = tableOf r.f2 ∧ nx = s.tableNx t ∧ (i, fx) = locate (s.fop r r.f1) (s.tableF t 2) (s.tableF t 3) nx ∧ (j, fy) = locate (s.fop r r.f1 1) (s.tableF t 4) (s.tableF t 5) (s.tableNy t) ∧ r0 = ffma fx (fsub (s.entry t (j * nx + (i + 1))) (s.entry t (j * nx + i))) (s.entry t (j * nx + i)) ∧ r1 = ffma fx (fsub (s.entry t ((j + 1) * nx + (i + 1))) (s.entry t ((j + 1) * nx + i))) (s.entry t ((j + 1) * nx + i))) :=
  ⟨⟨rdy, State.written (rdy) ((opRec 0 0 0 0 [0x10, 0x30, 0x50, 0x70])), (opRec 0 0 0 0 [0x10, 0x30, 0x50, 0x70]), 0, _, rfl, by unfold Issues; decide +kernel, by decide +kernel, rfl⟩,
   ⟨rdy, State.written (rdy) ((opRec 0 0 0 1 [0x10, 0x30, 0x50, 0x70])), (opRec 0 0 0 1 [0x10, 0x30, 0x50, 0x70]), 0, rfl, by unfold Issues; decide +kernel⟩,
   ⟨rdy, State.written (rdy) ((opRec 0 0 0 0 [0x10, 0x30, 0x50, 0x70])), (opRec 0 0 0 0 [0x10, 0x30, 0x50, 0x70]), 0, _, _, _, rfl, by unfold Issues; decide +kernel, rfl, rfl, rfl⟩,
   ⟨rdy, State.written (rdy) ((opRec 0 0 0 0 [0x10, 0x30, 0x3400])), (opRec 0 0 0 0 [0x10, 0x30, 0x3400]), 0, _, _, _, rfl, by unfold Issues; decide +kernel, rfl, rfl⟩,
   ⟨rdy, State.written (rdy) ((opRec 0 0 0 0 [0x10, 0x30, 0x3400])), (opRec 0 0 0 0 [0x10, 0x30, 0x3400]), 0, _, _, _, _, _, _, _, _, rfl, by unfold Issues; decide +kernel, rfl, rfl, rfl, rfl, rfl, rfl⟩⟩

theorem test_met_EstimationRecords :
    (∃ (s0 : State) (s : State) (r : OpRec) (ix : Fin 8192) (ra : FV) (iha : FV) (eha : FV) (rb : FV) (ihb : FV) (ehb : FV) (q : FV) (qf : FV), s = s0.written r ∧ Issues 0x30 r s ∧ (ra, iha, eha) = obsAxis (s.fop r r.f3) (s.fop r r.f3 1) (s.fop r r.f3 2) (s.fop r r.f3 3) (s.fop r r.f1) (s.fop r r.f2) (s.fop r r.f4) (s.fop r r.f4 2) ∧ (rb, ihb, ehb) = obsAxis (s.fop r r.f3) (s.fop r r.f3 1) (s.fop r r.f3 2) (s.fop r r.f3 3) (s.fop r r.f1 1) (s.fop r r.f2 1) (s.fop r r.f4 1) (s.fop r r.f4 3) ∧ q = ffma ra ra (fmul rb rb) ∧ qf = ffma (s.fop r r.f3 4) (fsub q (s.fop r r.f4 4)) (s.fop r r.f4 4)) ∧
    (∃ (s0 : State) (s : State) (r : OpRec) (ix : Fin 8192) (x : FV) (w : FV) (delta : FV) (th : Word), s = s0.written r ∧ Issues 0x31 r s ∧ r.mode = 0 ∧ x = ffma (s.fop r r.f2 1) (s.fop r r.f1) (s.fop r r.f3 1) ∧ w = fclamp x (fneg (s.fop r r.f2 2)) (s.fop r r.f2 2) ∧ delta = ffma (s.fop r r.f2) (s.fop r r.f1) w ∧ th = s.refWord r r.f3 0 + BitVec.ofInt 32 (max (-2147483648) (min 2147483647 (rneFl delta.v 32)))) ∧
    (∃ (s0 : State) (s : State) (r : OpRec) (ix : Fin 8192) (e : FV), s = s0.written r ∧ Issues 0x32 r s ∧ s.stValid r r.f3 3 = true ∧ s.refWord r r.f3 1 = 0x3F800000 ∧ e = ffma (s.fop r r.f2 1) (fsub (fmul (fmul fone (fsub (s.fop r r.f1) (s.fop r r.f3))) (s.fop r r.f2 2)) (s.fop r r.f3 2)) (s.fop r r.f3 2)) ∧
    (∃ (s0 : State) (s : State) (r : OpRec) (ix : Fin 8192) (rho : FV) (sd : FV) (cd : FV), s = s0.written r ∧ Issues 0x33 r s ∧ rho = (s.sinCos s.live.sineTable ((s.refWord r r.f2 0).toNat + (s.refWord r r.f3 0).toNat)).1 ∧ sd = ffma (s.fop r r.f3 1) (fsub (fmul (s.fop r r.f1) rho) (s.fop r r.f4)) (s.fop r r.f4) ∧ cd = ffma (s.fop r r.f3 1) (fsub (fmul (s.fop r r.f1 1) rho) (s.fop r r.f4 1)) (s.fop r r.f4 1)) ∧
    (∃ (s0 : State) (s : State) (r : OpRec) (ix : Fin 8192) (ts : List FV), s = s0.written r ∧ Issues 0x34 r s ∧ fle (s.fop r r.f3 2) (fabs (fsumL ((List.range r.n).map (fun j => s.fop r r.f2 j)))) = false ∧ ts = (List.range r.n).map (fun j => s.fop r r.f4 j)) :=
  ⟨⟨rdy, State.written (rdy) ((opRec 0 0 0 0 [0x10, 0x30, 0x50, 0x70, 0x90])), (opRec 0 0 0 0 [0x10, 0x30, 0x50, 0x70, 0x90]), 0, _, _, _, _, _, _, _, _, rfl, by unfold Issues; decide +kernel, rfl, rfl, rfl, rfl⟩,
   ⟨rdy, State.written (rdy) ((opRec 0 0 0 0 [0x10, 0x30, 0x50, 0x70])), (opRec 0 0 0 0 [0x10, 0x30, 0x50, 0x70]), 0, _, _, _, _, rfl, by unfold Issues; decide +kernel, by decide +kernel, rfl, rfl, rfl, rfl⟩,
   ⟨words [(115, 1), (113, 0x3F800000)] rdy, State.written (words [(115, 1), (113, 0x3F800000)] rdy) ((opRec 0 0 0 0 [0x10, 0x30, 0x50, 0x70])), (opRec 0 0 0 0 [0x10, 0x30, 0x50, 0x70]), 0, _, rfl, by unfold Issues; decide +kernel, by decide +kernel, by decide +kernel, rfl⟩,
   ⟨rdy, State.written (rdy) ((opRec 0 0 0 0 [0x10, 0x30, 0x50, 0x70, 0x90])), (opRec 0 0 0 0 [0x10, 0x30, 0x50, 0x70, 0x90]), 0, _, _, _, rfl, by unfold Issues; decide +kernel, rfl, rfl, rfl⟩,
   ⟨words [(114, 0x3F800000)] rdy, State.written (words [(114, 0x3F800000)] rdy) ((opRec 0 2 0 0 [0x10, 0x30, 0x50, 0x70, 0x90])), (opRec 0 2 0 0 [0x10, 0x30, 0x50, 0x70, 0x90]), 0, _, rfl, by unfold Issues; decide +kernel, by decide +kernel, rfl⟩⟩

theorem test_met_TransferRecords_1 :
    (∃ (s0 : State) (s : State) (r : OpRec) (ix : Fin 8192) (t : State) (w : Word) (v : Bool) (late : Bool), s = s0.written r ∧ Issues 0x01 r s ∧ r.t = 3 ∧ t = (s.deadline (bindIx r.f1) r.unit).xfer r.slot 1 ∧ (t.input (bindIx r.f1)).res = some ([w], v, late)) ∧
    (∃ (s0 : State) (s : State) (r : OpRec) (ix : Fin 8192) (t : State) (w : Word) (n : Nat) (c : Nat) (m : Nat) (o : Nat) (h : List (Nat × Nat)), s = s0.written r ∧ Issues 0x01 r s ∧ r.t = 0 ∧ s.live.bind[bindIx r.f1]? = some (.sd n c m o 0 h) ∧ t = (s.deadline (bindIx r.f1) r.unit).xfer r.slot 1 ∧ (t.input (bindIx r.f1)).res = some ([w], true, false)) ∧
    (∃ (s0 : State) (s : State) (r : OpRec) (ix : Fin 8192) (t : State) (w : Word) (b : Nat), s = s0.written r ∧ Issues 0x2C r s ∧ r.t = 0 ∧ t = (s.deadline (bindIx r.f1) r.unit).xfer r.slot 1 ∧ (t.input (bindIx r.f1)).res = some ([w], true, false) ∧ b = w.toNat % 8) ∧
    (∃ (s0 : State) (s : State) (r : OpRec) (ix : Fin 8192) (cs : List Nat) (ds : List FV) (atNs : Nat), s = s0.written r ∧ Issues 0x02 r s ∧ r.mode = 0 ∧ ds = (List.range (s.groupLegs r.f2).length).map (fun j => s.fop r r.f0 j) ∧ ((∀ d ∈ ds, fclamped d fzero fone = false ∧ d.fl = 0)) ∧ cs = ((s.groupLegs r.f2).zip ds).map (fun e => compareOf e.2 (s.emitPeriod e.1 none))) ∧
    (∃ (s0 : State) (s : State) (r : OpRec) (ix : Fin 8192) (p : Nat) (o : Nat), s = s0.written r ∧ Issues 0x03 r s ∧ s.live.bind[bindIx r.f1]? = some (.regOut p o)) ∧
    (∃ (s0 : State) (s : State) (r : OpRec) (ix : Fin 8192) (c : Nat) (body : List Nat), s = s0.written r ∧ Issues 0x04 r s ∧ s.live.bind[bindIx r.f1]? = some (.exch c body)) ∧
    (∃ (s0 : State) (s : State) (r : OpRec) (ix : Fin 8192) (c : Nat) (body : List Nat), s = s0.written r ∧ Issues 0x05 r s ∧ s.live.bind[bindIx r.f1]? = some (.capture c body)) ∧
    (∃ (s0 : State) (s : State) (r : OpRec) (ix : Fin 8192) (p : Nat) (body : List Nat), s = s0.written r ∧ Issues 0x06 r s ∧ s.live.bind[bindIx r.f2]? = some (.inject p body) ∧ s.on (F.INJ_PTCTL_EN p) = false ∧ (s.input (bindIx r.f2)).res = none ∧ refKind r.f0 = 0) ∧
    (∃ (s0 : State) (s : State) (r : OpRec) (ix : Fin 8192) (p : Nat) (body : List Nat) (g : FV), s = s0.written r ∧ Issues 0x06 r s ∧ s.live.bind[bindIx r.f2]? = some (.inject p body) ∧ s.pointSample p = some g ∧ (s.input (bindIx r.f2)).res = none) ∧
    (∃ (s0 : State) (s : State) (r : OpRec) (ix : Fin 8192) (p : Nat) (body : List Nat) (t : State) (g : Word) (v : Bool) (late : Bool), s = s0.written r ∧ Issues 0x06 r s ∧ s.live.bind[bindIx r.f2]? = some (.inject p body) ∧ t = (s.deadline (bindIx r.f2) r.unit).xfer r.slot 1 ∧ (t.input (bindIx r.f2)).res = some ([g], v, late)) :=
  ⟨⟨mCat (fun c => { c with inputs := [(0, { Input.init with res := some ([7], true, false) })] }) (binds [.bandIn] rdy), State.written (mCat (fun c => { c with inputs := [(0, { Input.init with res := some ([7], true, false) })] }) (binds [.bandIn] rdy)) ((opRec 3 0 0 0 [0x10, 0x3800, 0x3000])), (opRec 3 0 0 0 [0x10, 0x3800, 0x3000]), 0, _, 7, true, false, rfl, by unfold Issues; decide +kernel, by decide +kernel, rfl, by decide +kernel⟩,
   ⟨mCat (fun c => { c with inputs := [(0, { Input.init with res := some ([7], true, false) })] }) (binds [.sd 0 0 0 0 0 []] rdy), State.written (mCat (fun c => { c with inputs := [(0, { Input.init with res := some ([7], true, false) })] }) (binds [.sd 0 0 0 0 0 []] rdy)) ((opRec 0 0 0 0 [0x10, 0x3800, 0x30])), (opRec 0 0 0 0 [0x10, 0x3800, 0x30]), 0, _, 7, 0, 0, 0, 0, [], rfl, by unfold Issues; decide +kernel, by decide +kernel, by decide +kernel, rfl, by decide +kernel⟩,
   ⟨mCat (fun c => { c with inputs := [(0, { Input.init with res := some ([7], true, false) })] }) (binds [.bandIn] rdy), State.written (mCat (fun c => { c with inputs := [(0, { Input.init with res := some ([7], true, false) })] }) (binds [.bandIn] rdy)) ((opRec 0 1 0 0 [0x10, 0x3800, 0x3400])), (opRec 0 1 0 0 [0x10, 0x3800, 0x3400]), 0, _, 7, _, rfl, by unfold Issues; decide +kernel, by decide +kernel, rfl, by decide +kernel, rfl⟩,
   ⟨binds [.legGroup 0 1 0] rdy, State.written (binds [.legGroup 0 1 0] rdy) (opRec 0 1 0 0 [0x10, 0x3000, 0x3800]), opRec 0 1 0 0 [0x10, 0x3000, 0x3800], 0, _, _, 0, rfl, by unfold Issues; decide +kernel, by decide +kernel, rfl, by decide +kernel, rfl⟩,
   ⟨binds [.regOut 0 0] rdy, State.written (binds [.regOut 0 0] rdy) ((opRec 0 0 0 0 [0x10, 0x3800])), (opRec 0 0 0 0 [0x10, 0x3800]), 0, 0, 0, rfl, by unfold Issues; decide +kernel⟩,
   ⟨binds [.exch 0 []] rdy, State.written (binds [.exch 0 []] rdy) ((opRec 0 1 0 0 [0x10, 0x3800])), (opRec 0 1 0 0 [0x10, 0x3800]), 0, 0, [], rfl, by unfold Issues; decide +kernel⟩,
   ⟨binds [.capture 0 []] rdy, State.written (binds [.capture 0 []] rdy) ((opRec 0 1 0 0 [0x10, 0x3800])), (opRec 0 1 0 0 [0x10, 0x3800]), 0, 0, [], rfl, by unfold Issues; decide +kernel⟩,
   ⟨binds [.inject 0 []] (on [((F.INJ_PTCTL_EN (0)), 0)] rdy), State.written (binds [.inject 0 []] (on [((F.INJ_PTCTL_EN (0)), 0)] rdy)) ((opRec 0 0 0 0 [0x10, 0x30, 0x3800])), (opRec 0 0 0 0 [0x10, 0x30, 0x3800]), 0, 0, [], rfl, by unfold Issues; decide +kernel⟩,
   ⟨binds [.inject 0 []] (on [((F.INJ_PTCTL_EN 0), 1), ((F.INJ_STATUS_STATE 0), 2)] rdy), State.written (binds [.inject 0 []] (on [((F.INJ_PTCTL_EN 0), 1), ((F.INJ_STATUS_STATE 0), 2)] rdy)) ((opRec 0 0 0 0 [0x10, 0x30, 0x3800])), (opRec 0 0 0 0 [0x10, 0x30, 0x3800]), 0, 0, [], _, rfl, by unfold Issues; decide +kernel, by decide +kernel, rfl, by decide +kernel⟩,
   ⟨mCat (fun c => { c with inputs := [(0, { Input.init with res := some ([7], true, false) })] }) (binds [.inject 0 []] rdy), State.written (mCat (fun c => { c with inputs := [(0, { Input.init with res := some ([7], true, false) })] }) (binds [.inject 0 []] rdy)) ((opRec 0 0 0 0 [0x10, 0x30, 0x3800])), (opRec 0 0 0 0 [0x10, 0x30, 0x3800]), 0, 0, [], _, 7, true, false, rfl, by unfold Issues; decide +kernel, by decide +kernel, rfl, by decide +kernel⟩⟩

theorem test_met_TransferRecords_2 :
    (∃ (s0 : State) (s : State) (r : OpRec) (ix : Fin 8192), s = s0.written r ∧ Issues 0x35 r s) ∧
    (∃ (s0 : State) (s : State) (r : OpRec) (ix : Fin 8192) (x : Word) (lo : Word) (hi : Word) (ok : Bool), s = s0.written r ∧ Issues 0x51 r s ∧ r.t = 1 ∧ r.unit.val < 4 ∧ refKind r.f0 = 0 ∧ x = s.refWord r r.f1 0 ∧ lo = s.refWord r r.f2 0 ∧ hi = s.refWord r r.f2 1 ∧ ok = (decide (lo.toInt ≤ x.toInt) && decide (x.toInt ≤ hi.toInt) && (r.mode == 1 || !bit (s.fab.cur.get r.unit) 1))) :=
  ⟨⟨rdy, State.written (rdy) ((opRec 0 1 0 0 [0x10, 0x3800])), (opRec 0 1 0 0 [0x10, 0x3800]), 0, rfl, by unfold Issues; decide +kernel⟩,
   ⟨rdy, State.written (rdy) ((opRec 1 0 0 0 [0x10, 0x30, 0x50])), (opRec 1 0 0 0 [0x10, 0x30, 0x50]), 0, _, _, _, _, rfl, by unfold Issues; decide +kernel, by decide +kernel, by decide +kernel, by decide +kernel, rfl, rfl, rfl, rfl⟩⟩

theorem test_met_PwmUpdatePoints : ∃ (s : State) (l : LegIx) (c : Bool) (n : Nat), s.sup.die = .running ∧ s.unitOf l = none :=
  ⟨up, 0, true, 0, by decide +kernel⟩

theorem test_met_TripsAndBootstrap_1 :
    (∃ (s : State) (l : LegIx), s.sup.die = .running ∧ s.unitOf l = none) ∧
    (∃ (s : State) (l : LegIx), s.sup.die = .running ∧ (s.unitOf l).isSome = true ∧ s.fld (F.LEG_FS_COUNT l) + 1 < s.fsLimit (legPage l)) ∧
    (∃ (s : State) (l : LegIx) (u : Nat), s.sup.die = .running ∧ s.unitOf l = some u ∧ s.on (F.LEG_FS_LATCH l) = false ∧ s.fld (F.LEG_FS_COUNT l) + 1 = s.fsLimit (legPage l)) ∧
    (∃ (s : State) (l : LegIx), s.sup.die = .running) ∧
    (∃ (s : State) (l : LegIx) (u : Nat), s.sup.die = .running ∧ s.pageOn (legPage l) = true ∧ s.unitOf l = some u ∧ s.unitOff u = true) ∧
    (∃ (s : State) (l : LegIx) (u : Nat), s.sup.die = .running ∧ s.pageOn (legPage l) = true ∧ s.unitOf l = some u ∧ s.unitOff u = false) ∧
    (∃ (s : State) (l : LegIx) (m : Master), s.sup.die = .running ∧ m ≠ .cox0 ∧ s.pageOn (legPage l) = true) ∧
    (∃ (s : State) (l : LegIx), s.sup.die = .running ∧ 18 ≤ l.val ∧ s.on (F.LEG_STAT_EN l) = true ∧ s.fld (F.AUX_CFG_MAXON (auxOf l)) ≤ ((s.endPeriod l).leg l).noLow) ∧
    (∃ (s : State) (l : LegIx), s.sup.die = .running ∧ 18 ≤ l.val ∧ ((s.endPeriod l).leg l).noLow < s.fld (F.AUX_CFG_MAXON (auxOf l))) ∧
    (∃ (s : State) (l : LegIx) (e : Bool) (n : Nat), s.sup.die = .running ∧ (s.leg l).refreshEnd ≠ none ∧ (s.leg l).refreshTag = some n ∧ s.on (F.SAR_RES_VALID (s.bootEntry l)) = true ∧ (s.fld (F.SAR_RES_TAG (s.bootEntry l)) + 256 - n) % 256 < 128) :=
  ⟨⟨up, 0, by decide +kernel⟩,
   ⟨u0 (on [((F.PWM_FSCFG_LIMIT (legPage 0)), 3), ((F.LEG_FS_COUNT 0), 1)] up), 0, by decide +kernel⟩,
   ⟨u0 (on [((F.LEG_FS_LATCH (0)), 0), ((F.PWM_FSCFG_LIMIT (legPage 0)), 3), ((F.LEG_FS_COUNT 0), 2)] up), 0, 0, by decide +kernel⟩,
   ⟨up, 0, by decide +kernel⟩,
   ⟨u0 run, 0, 0, by decide +kernel⟩,
   ⟨gate run, 0, 0, by decide +kernel⟩,
   ⟨run, 0, .cox1, by decide +kernel⟩,
   ⟨on [((F.LEG_STAT_EN (18)), 1)] up, 18, by decide +kernel⟩,
   ⟨on [((F.AUX_CFG_MAXON 0), 3)] up, 18, by decide +kernel⟩,
   ⟨State.modLeg (on [((F.SAR_RES_VALID 0), 1), ((F.SAR_RES_TAG 0), 5)] up) 0 (fun x => { x with refreshTag := some 3, refreshEnd := some 0 }), 0, true, 3, by decide +kernel⟩⟩

theorem test_met_TripsAndBootstrap_2 :
    (∃ (s : State) (l : LegIx), s.sup.die = .running ∧ (s.leg l).refreshEnd ≠ none ∧ s.on (F.SAR_RES_VALID (s.bootEntry l)) = false) ∧
    (∃ (s : State) (l : LegIx) (e : Bool), s.sup.die = .running ∧ (s.leg l).refreshEnd = none) :=
  ⟨⟨State.modLeg up 0 (fun x => { x with refreshEnd := some 0 }), 0, by decide +kernel⟩,
   ⟨up, 0, true, by decide +kernel⟩⟩

theorem test_met_GateEnableAndGrant_1 :
    (∃ (s : State) (l : LegIx) (k : Fin 3) (u : Nat), s.sup.die = .running ∧ s.pageOn (legPage l) = true ∧ legPage l = pwmPage k ∧ s.liveValid = true ∧ s.unitOf l = some u ∧ s.enableRefusal u = none ∧ s.calRuns u = false) ∧
    (∃ (s : State) (l : LegIx) (k : Fin 3) (u : Nat) (c : Nat) (x : Nat), s.sup.die = .running ∧ s.pageOn (legPage l) = true ∧ legPage l = pwmPage k ∧ s.liveValid = true ∧ s.unitOf l = some u ∧ s.enableRefusal u = some (c, x)) ∧
    (∃ (s : State) (l : LegIx) (k : Fin 3), s.sup.die = .running ∧ s.pageOn (legPage l) = true ∧ legPage l = pwmPage k ∧ s.unitOf l = none) ∧
    (∃ (s : State) (m : Master) (k : Fin 3) (x : BitVec 9), s.sup.die = .running ∧ m ≠ .cox0 ∧ s.pageOn (pwmPage k) = true) ∧
    (∃ (s : State) (l : LegIx) (k : Fin 3), s.sup.die = .running ∧ s.pageOn (legPage l) = true ∧ legPage l = pwmPage k ∧ l.val < 18) ∧
    (∃ (s : State) (u : UnitIx) (n : Nat) (w : State), s.sup.umpire = true ∧ bit s.ump.requests u = true ∧ w = { s with ump := { s.ump with requests := clearBit s.ump.requests u } }) ∧
    (∃ (s : State) (u : UnitIx) (n : Nat), s.sup.umpire = true ∧ s.granted u = false ∧ bit s.ump.requests u = false) ∧
    (∃ (s : State) (l : LegIx) (u : Nat) (n : Nat), s.sup.die = .running ∧ (s.leg l).granted = true ∧ (s.leg l).startAt ≤ n ∧ s.unitOf l = some u ∧ ((∀ j ∈ s.legsOf u, s.gateEn j = true)) ∧ s.on (F.LEG_STAT_EN l) = false ∧ s.on (F.LEG_FS_LATCH l) = false ∧ s.on (F.LEG_STAT_BOOT_UV l) = false) ∧
    (∃ (s : State) (l : LegIx) (n : Nat), s.sup.die = .running ∧ ((s.leg l).granted = false ∨ n < (s.leg l).startAt ∨ s.unitOf l = none ∨ (∃ u, s.unitOf l = some u ∧ ∃ j ∈ s.legsOf u, s.gateEn j = false) ∨ s.on (F.LEG_STAT_EN l) = true ∨ s.on (F.LEG_FS_LATCH l) = true ∨ s.on (F.LEG_STAT_BOOT_UV l) = true)) ∧
    (∃ (s : State) (l : LegIx) (high : Bool), s.sup.umpire = false) :=
  ⟨⟨[0, 1, 2].foldl (fun s k => s.modLeg k (fun x => { x with hasPer := true, hasCmp := true })) (u0 (on [(F.PLAN_STATUS_LIVE_VALID, 1), (F.FAB_SEATS_HEALTHY, 0xFFFF)] run)), 0, 0, 0, by decide +kernel⟩,
   ⟨u0 (mFab (fun x => { x with short := true }) (on [(F.PLAN_STATUS_LIVE_VALID, 1)] run)), 0, 0, 0, 1, 0, by decide +kernel⟩,
   ⟨run, 0, 0, by decide +kernel⟩,
   ⟨run, .cox1, 0, 0, by decide +kernel⟩,
   ⟨run, 0, 0, by decide +kernel⟩,
   ⟨mUmp (fun x => { x with requests := 1, lockedSince := true, pll := 4 }) (on [(F.UMP_STO_LEVEL, 3), (F.UMP_STO_TESTED, 1)] up), 0, 0, _, by decide +kernel, by decide +kernel, rfl⟩,
   ⟨up, 0, 0, by decide +kernel⟩,
   ⟨on [(F.PWM_GATE_EN_EN 0x0B, 7)] (u0 (State.modLeg up 0 (fun x => { x with granted := true }))), 0, 0, 0, by decide +kernel⟩,
   ⟨u0 up, 0, 0, by decide +kernel⟩,
   ⟨mSup (fun x => { x with umpire := false }) up, 0, true, by decide +kernel⟩⟩

theorem test_met_GateEnableAndGrant_2 :
    (∃ (s : State) (l : LegIx) (high : Bool) (p : Nat), s.sup.umpire = true ∧ s.overrideOf l = some p) ∧
    (∃ (s : State) (l : LegIx) (high : Bool), s.sup.umpire = true ∧ s.overrideOf l = none ∧ (s.sup.die ≠ .running ∨ s.ump.failed = true)) ∧
    (∃ (s : State) (l : LegIx) (high : Bool), (s.leg l).offUntil = true) :=
  ⟨⟨on [(F.UMP_STATE_HELD, 1), (F.UMP_STATE_PATTERN, 2)] (mUmp (fun u => { u with legsA := some (0, 2) }) up), 0, true, 2, by decide +kernel⟩,
   ⟨mUmp (fun u => { u with failed := true }) up, 0, true, by decide +kernel⟩,
   ⟨State.modLeg up 0 (fun x => { x with offUntil := true }), 0, true, by decide +kernel⟩⟩

theorem test_met_LegFaultInputs :
    (∃ (s : State) (i : FltIx) (h : Bool) (n : Nat), s.sup.die = .running ∧ s.clocked 0x0E = true ∧ (s.leg ((fltLegs i).headD 0)).flt = h) ∧
    (∃ (s : State) (i : FltIx) (h : Bool) (n : Nat), s.sup.die = .running ∧ s.clocked 0x0E = true ∧ (s.leg ((fltLegs i).headD 0)).flt ≠ h ∧ s.prot.fltRun.get i + 1 < s.fltNeed) ∧
    (∃ (s : State) (i : FltIx) (h : Bool) (n : Nat), s.sup.die = .running ∧ s.clocked 0x0E = true ∧ (s.leg ((fltLegs i).headD 0)).flt ≠ h ∧ s.fltNeed ≤ s.prot.fltRun.get i + 1) ∧
    (∃ (s : State) (l : Nat) (h : Bool) (n : Nat), s.unitOf l = none) ∧
    (∃ (s : State) (i : FltIx) (n : Nat) (u : Nat) (side : Bool), s.sup.die = .running ∧ s.clocked 0x0E = true ∧ i.val < 18 ∧ s.unitOf i = some u ∧ (s.leg i).flt = false ∧ s.fltNeed ≤ s.prot.fltRun.get i + 1 ∧ s.pendBit u i < 18 ∧ s.blanked u i (s.stepAt i n) = some side) ∧
    (∃ (s : State) (i : FltIx) (n : Nat) (u : Nat), s.sup.die = .running ∧ s.clocked 0x0E = true ∧ i.val < 18 ∧ s.unitOf i = some u ∧ (s.leg i).flt = true ∧ s.fltNeed ≤ s.prot.fltRun.get i + 1 ∧ s.pendBit u i < 18 ∧ bit (s.fld (F.PROT_PEND_PEND u)) (s.pendBit u i) = true) ∧
    (∃ (s : State) (t : State) (i : FltIx) (n : Nat) (u : Nat), s.sup.die = .running ∧ s.clocked 0x0E = true ∧ i.val < 18 ∧ s.unitOf i = some u ∧ (s.leg i).flt = false ∧ s.fltNeed ≤ s.prot.fltRun.get i + 1 ∧ t = (s.setFltRun i 0).modLeg i (fun x => { x with flt := true }) ∧ t.blanked u i (t.stepAt i n) = none) ∧
    (∃ (s : State) (l : LegIx) (n : Nat) (u : Nat), s.sup.die = .running ∧ s.clocked 0x0E = true ∧ s.unitOf l = some u ∧ s.pendBit u l < 18 ∧ (s.leg l).flt = false ∧ s.blanked u l (s.stepAt l n) = none ∧ bit (s.fld (F.PROT_PEND_PEND u)) (s.pendBit u l) = true) ∧
    (∃ (s : State) (l : LegIx) (n : Nat) (u : Nat), s.sup.die = .running ∧ s.clocked 0x0E = true ∧ s.unitOf l = some u ∧ (s.leg l).flt = true ∧ s.blanked u l (s.stepAt l n) = none ∧ bit (s.fld (F.PROT_PEND_PEND u)) (s.pendBit u l) = true) ∧
    (∃ (s : State) (l : LegIx) (n : Nat) (u : Nat), s.sup.die = .running ∧ s.unitOf l = some u ∧ bit (s.fld (F.PROT_PEND_PEND u)) (s.pendBit u l) = false) :=
  ⟨⟨run, 0, false, 0, by decide +kernel⟩,
   ⟨on [(F.PROT_FLTCFG_FILT, 3)] run, 0, true, 0, by decide +kernel⟩,
   ⟨run, 0, true, 0, by decide +kernel⟩,
   ⟨up, 0, true, 0, by decide +kernel⟩,
   ⟨State.modLeg (u0 (on [((F.PROT_UCFG_BLANK 0), 1), ((F.LEG_STAT_EN 0), 1)] run)) 0 (fun x => { x with lowOn := -10 }), 0, 0, 0, false, by decide +kernel⟩,
   ⟨State.modLeg (u0 (on [((F.PROT_PEND_PEND 0), 1)] run)) 0 (fun x => { x with flt := true }), 0, 0, 0, by decide +kernel⟩,
   ⟨u0 run, _, 0, 0, 0, by decide +kernel, by decide +kernel, by decide +kernel, by decide +kernel, by decide +kernel, by decide +kernel, rfl, by decide +kernel⟩,
   ⟨u0 (on [((F.PROT_PEND_PEND 0), 1)] run), 0, 0, 0, by decide +kernel⟩,
   ⟨State.modLeg (u0 (on [((F.PROT_PEND_PEND 0), 1)] run)) 0 (fun x => { x with flt := true }), 0, 0, 0, by decide +kernel⟩,
   ⟨u0 up, 0, 0, 0, by decide +kernel⟩⟩

theorem test_met_ChoppersAndBrakes_1 :
    (∃ (s : State) (b : BrkIx) (n : Nat), s.sup.die = .running ∧ s.clocked 0x0E = true ∧ s.chopAble b = true ∧ bit s.prot.chopSelf b = false ∧ s.ifld (F.PROT_CHON_ON b) ≤ s.ifld (F.SD_PROT_P (s.fld (F.PROT_CHON_SD b)))) ∧
    (∃ (s : State) (b : BrkIx) (n : Nat), s.sup.die = .running ∧ (s.chopAble b = false ∨ s.chopP b < s.ifld (F.PROT_CHON_ON b))) ∧
    (∃ (s : State) (b : BrkIx) (n : Nat), s.sup.die = .running ∧ s.clocked 0x0E = true ∧ bit s.prot.chopSelf b = true ∧ s.chopP b ≤ s.ifld (F.PROT_CHOFF_OFF b) ∧ s.prot.chopOn.get b + s.fld (F.PROT_CHOFF_MINON b) ≤ n) ∧
    (∃ (s : State) (b : BrkIx) (n : Nat), s.sup.die = .running ∧ (n < s.prot.chopOn.get b + s.fld (F.PROT_CHOFF_MINON b) ∨ bit s.prot.chopSelf b = false)) ∧
    (∃ (s : State) (b : BrkIx) (arm : Bool), s.sup.die = .running ∧ s.pageOn 0x0E = true) ∧
    (∃ (s : State) (b : BrkIx), s.sup.die = .running ∧ s.clocked 0x0E = true ∧ s.live.brakeMask b = none ∧ bit s.prot.brkFlt b = false ∧ s.fltNeed ≤ s.prot.fltRun.get (20 + b) + 1) ∧
    (∃ (s : State) (b : BrkIx) (m : Nat), s.sup.die = .running ∧ s.clocked 0x0E = true ∧ s.live.brakeMask b = some m ∧ bit s.prot.brkFlt b = false ∧ s.fltNeed ≤ s.prot.fltRun.get (20 + b) + 1) ∧
    (∃ (s : State) (b : BrkIx), s.sup.die = .running ∧ s.clocked 0x0E = true ∧ bit s.prot.brkFlt b = true ∧ s.fltNeed ≤ s.prot.fltRun.get (20 + b) + 1) ∧
    (∃ (s : State) (b : BrkIx) (h : Bool), s.sup.die = .running ∧ s.clocked 0x0E = true ∧ bit s.prot.brkFlt b ≠ h ∧ s.prot.fltRun.get (20 + b) + 1 < s.fltNeed) ∧
    (∃ (s : State) (b : BrkIx), s.sup.die = .running ∧ s.pageOn 0x0E = true ∧ bit s.prot.brkFlt b = false) :=
  ⟨⟨binds [.brake 0 3] (on [((F.PROT_BRKCTL_ARM 0), 1), ((F.PAGE_CTRL_ENABLE 0xD), 1)] run), 0, 0, by decide +kernel⟩,
   ⟨up, 0, 0, by decide +kernel⟩,
   ⟨mProt (fun x => { x with chopSelf := 1 }) run, 0, 0, by decide +kernel⟩,
   ⟨on [((F.PROT_CHOFF_MINON 0), 1)] up, 0, 0, by decide +kernel⟩,
   ⟨run, 0, true, by decide +kernel⟩,
   ⟨run, 0, by decide +kernel⟩,
   ⟨binds [.brake 0 3] run, 0, 3, by decide +kernel⟩,
   ⟨mProt (fun x => { x with brkFlt := 1, fltRun := [(20, 3)] }) (on [(F.PROT_FLTCFG_FILT, 3)] run), 0, by decide +kernel⟩,
   ⟨on [(F.PROT_FLTCFG_FILT, 3)] run, 0, true, by decide +kernel⟩,
   ⟨run, 0, by decide +kernel⟩⟩

theorem test_met_ChoppersAndBrakes_2 : ∃ (s : State) (b : BrkIx), s.sup.die = .running ∧ s.pageOn 0x0E = true ∧ bit s.prot.brkFlt b = true :=
  ⟨mProt (fun x => { x with brkFlt := 1 }) run, 0, by decide +kernel⟩

theorem test_met_SafeStateRules_1 :
    (∃ (s : State) (u : UnitIx) (c : Fin 4), s.sup.die = .running ∧ s.pageOn 0x0E = true) ∧
    (∃ (s : State) (u : UnitIx) (c : Fin 4) (a : Bool) (b : Bool) (m : Master), s.sup.die = .running ∧ s.pageOn 0x0E = true ∧ m ≠ .cox0) ∧
    (∃ (s : State) (u : UnitIx), s.sup.die = .running ∧ s.pageOn 0x0E = true ∧ 2 ≤ u.val ∧ s.ready u = true) ∧
    (∃ (s : State) (d : UnitIx), s.sup.die = .running ∧ s.pageOn 0x0E = true ∧ d.val < 2 ∧ s.ready d = true ∧ s.driveState d = dSafe ∧ s.umpHeld d = false) ∧
    (∃ (s : State) (u : UnitIx), s.sup.die = .running ∧ s.pageOn 0x0E = true ∧ s.ready u = false) ∧
    (∃ (s : State) (d : DriveIx), s.sup.die = .running ∧ isHoldWater (s.protPattern d) = true ∧ s.spdClass d = 0) ∧
    (∃ (s : State) (d : DriveIx), s.sup.die = .running ∧ (isHoldWater (s.protPattern d) = false ∨ s.spdClass d ≠ 0)) ∧
    (∃ (s : State) (u : Nat) (f : Nat) (loc : Nat) (cls : Nat), s.choose u f loc cls = patOff) ∧
    (∃ (s : State) (u : Nat) (f : Nat) (i : FaultInfo), s.live.bound u = false) ∧
    (∃ (s : State) (u : Nat) (f : Nat) (i : FaultInfo), u < 2 ∧ s.live.bound u = true ∧ s.protPattern u = patOff) :=
  ⟨⟨run, 0, 0, by decide +kernel⟩,
   ⟨run, 0, 0, true, true, .cox1, by decide +kernel⟩,
   ⟨run, 2, by decide +kernel⟩,
   ⟨on [((F.DRV_STATE_STATE (0)), dSafe)] run, 0, by decide +kernel⟩,
   ⟨on [((F.PROT_STATE_PATTERN 0), patLow)] run, 0, by decide +kernel⟩,
   ⟨on [((F.PROT_STATE_PATTERN 0), patLow), ((F.PROT_SPD_VALID 0), 1), ((F.PROT_SPD_CLS 0), 0)] up, 0, by decide +kernel⟩,
   ⟨up, 0, by decide +kernel⟩,
   ⟨up, 0, 0, 0, 0, by decide +kernel⟩,
   ⟨up, 0, 0, .plain, by decide +kernel⟩,
   ⟨u0 (on [((F.PROT_STATE_PATTERN (0)), patOff)] up), 0, 0, .plain, by decide +kernel⟩⟩

theorem test_met_SafeStateRules_2 : ∃ (s : State) (u : Nat) (f : Nat) (i : FaultInfo), u < 2 ∧ s.live.bound u = true ∧ isHoldWater (s.protPattern u) = true ∧ f < 16 :=
  ⟨u0 (on [((F.PROT_STATE_PATTERN 0), patHigh)] up), 0, 0, .plain, by decide +kernel⟩

theorem test_met_ActiveDischarge :
    (∃ (s : State) (c : Nat), s.sup.die = .running ∧ s.pageOn 0x0E = true ∧ s.dischargeRefusal = c ∧ c ≠ 0) ∧
    (∃ (s : State), s.sup.die = .running ∧ s.pageOn 0x0E = true ∧ s.dischargeRefusal = 0 ∧ s.on F.PROT_DISCFG_PATH = true) ∧
    (∃ (s : State) (u : Nat), u < 4 ∧ bit (s.fld F.UMP_LINKCFG_UNITS) u = true ∧ s.unitOn u = true) ∧
    (∃ (s : State), s.sup.die = .running ∧ s.pageOn 0x0E = true ∧ s.discharging = false) ∧
    (∃ (s : State), s.sup.die = .running ∧ s.pageOn 0x0E = true ∧ s.discharging = true) ∧
    (∃ (s : State), s.sup.die = .running ∧ s.clocked 0x0E = true ∧ s.discharging = true ∧ s.sdVal (s.fld F.PROT_DISCFG_SD) ≤ s.ifld F.PROT_DISTGT_TARGET) ∧
    (∃ (s : State), s.sup.die = .running ∧ s.clocked 0x0E = true ∧ s.discharging = true ∧ s.ifld F.PROT_DISTGT_TARGET < s.sdVal (s.fld F.PROT_DISCFG_SD) ∧ s.prot.disPrev * s.fld F.PROT_DISCHK_RATIO < 256 * s.sdVal (s.fld F.PROT_DISCFG_SD)) ∧
    (∃ (s : State), s.sup.die = .running ∧ s.clocked 0x0E = true ∧ s.discharging = true) ∧
    (∃ (s : State) (st : Nat) (c : Option Nat), s.mbWaiting svDischarge (fun r => r.unit 1) = [] ∧ st < 8) :=
  ⟨⟨run, 3, by decide +kernel⟩,
   ⟨on [(F.PROT_DISCFG_PATH, 1), ((F.SD_RES_VALID 0), 1)] run, by decide +kernel⟩,
   ⟨gate (on [(F.UMP_LINKCFG_UNITS, 1)] up), 0, by decide +kernel⟩,
   ⟨run, by decide +kernel⟩,
   ⟨on [(F.PROT_DISSTAT_STATE, 1)] run, by decide +kernel⟩,
   ⟨on [(F.PROT_DISSTAT_STATE, 1), ((F.SD_CFG_MODE 0), 1)] run, by decide +kernel⟩,
   ⟨State.iset (mProt (fun x => { x with disPrev := -100 }) (on [(F.PROT_DISSTAT_STATE, 1), (F.PROT_DISCHK_RATIO, 255)] run)) F.PROT_DISTGT_TARGET (-1), by decide +kernel⟩,
   ⟨on [(F.PROT_DISSTAT_STATE, 1)] run, by decide +kernel⟩,
   ⟨up, 0, default, by decide +kernel⟩⟩

theorem test_met_DriverChain :
    (∃ (s : State), s.sup.die = .running ∧ s.clocked 0x0F = true ∧ s.chainBus.ignore = false) ∧
    (∃ (s : State), s.sup.die = .running ∧ s.clocked 0x0F = true ∧ s.chainBus.low = true ∧ ((∀ p < 40, s.fld (F.DRVC_DSTAT_STATUS p) / 2 % 64 = 0)) ∧ s.fld F.DRVC_CFG_NDRV ≤ 40) ∧
    (∃ (s : State), s.sup.die = .running ∧ s.clocked 0x0F = true) ∧
    (∃ (s : State) (f : BitVec 40) (r : Nat) (v : Nat) (q : Nat), s.sup.die = .running ∧ s.clocked 0x0F = true ∧ s.liveValid = true ∧ s.fld F.DRVC_CFG_NDRV = 1 ∧ (s.chainAt 0).sent = some (.write r v, q) ∧ frameBad f (.write r v) q = 0 ∧ f.extractLsb' 38 2 ≠ 2#2 ∧ s.chainPos 0 = pOk) ∧
    (∃ (s : State) (c : ChainCmd) (q : Nat), s.sup.die = .running ∧ s.clocked 0x0F = true ∧ s.liveValid = true ∧ s.fld F.DRVC_CFG_NDRV = 1 ∧ (s.chainAt 0).sent = some (c, q) ∧ s.chainPos 0 = pOk ∧ s.fld (F.DRVC_DSTAT_FAILS 0) + 1 < s.chainRetry) ∧
    (∃ (f : BitVec 40) (c : ChainCmd) (q : Nat), frameBad f c q = 0) :=
  ⟨⟨mBus (fun x => { x with ignore := false }) run, by decide +kernel⟩,
   ⟨mBus (fun x => { x with low := true }) run, by decide +kernel⟩,
   ⟨run, by decide +kernel⟩,
   ⟨State.setChain (on [(F.PLAN_STATUS_LIVE_VALID, 1), (F.DRVC_CFG_NDRV, 1), ((F.DRVC_POS_STATE 0), 2)] run) 0 { Chain.init with sent := some (.write 0 0, 0) }, 0xC000000024#40, 0, 0, 0, by decide +kernel⟩,
   ⟨State.setChain (on [(F.PLAN_STATUS_LIVE_VALID, 1), (F.DRVC_CFG_NDRV, 1), (F.DRVC_CFG_RETRY, 3), ((F.DRVC_DSTAT_FAILS 0), 1), ((F.DRVC_POS_STATE 0), 2)] run) 0 { Chain.init with sent := some (.nop, 0) }, .nop, 0, by decide +kernel⟩,
   ⟨0x0000000012#40, .nop, 0, by decide +kernel⟩⟩

theorem test_met_UmpireChecks_1 :
    (∃ (s : State) (k : Fin 32), s.sup.die = .running ∧ s.checkDue = none) ∧
    (∃ (s : State) (k : Fin 32), s.sup.die = .running ∧ s.checkDue ≠ none ∧ s.checkDue ≠ some k.val) ∧
    (∃ (s : State) (k : Nat), s.checkDue = some k) ∧
    (∃ (s : State) (k : Nat) (j : Nat), s.checkDue = some k ∧ j < 32 ∧ s.checks.runs.get j ≠ 0) ∧
    (∃ (s : State) (k : Fin 32), s.sup.die = .running ∧ s.checkDue = some k.val ∧ s.fld (F.UMP_CKCFG_LIM k) ≠ 0 ∧ s.checks.fails.get k = 0) ∧
    (∃ (s : State) (k : Fin 32) (n : Nat), s.sup.die = .running ∧ s.checkDue = some k.val ∧ s.checks.fails.get k = n ∧ 0 < n ∧ n ≤ 7 ∧ s.fld (F.UMP_CKCNT_COUNT k) + n < s.fld (F.UMP_CKCFG_LIM k)) ∧
    (∃ (s : State) (k : Fin 32), s.sup.die = .running ∧ s.checkDue = some k.val ∧ s.checks.fails.get k ≠ 0 ∧ s.fld (F.UMP_CKCFG_LIM k) ≠ 0 ∧ s.fld (F.UMP_CKCFG_LIM k) ≤ s.fld (F.UMP_CKCNT_COUNT k) + 1) ∧
    (∃ (s : State) (k : Fin 32), s.sup.umpire = true ∧ s.fld (F.UMP_CKCFG_TMO k) ≠ 0 ∧ s.fld (F.UMP_CKCFG_LIM k) ≠ 0 ∧ ((∃ u < 4, bit (s.checkUnits k) u = true ∧ s.granted u = true ∧ s.elapsed (max (s.ump.ckAt.get k) (s.ump.grantAt.get u)) (s.fld (F.UMP_CKCFG_TMO k)) = true))) ∧
    (∃ (s : State) (k : Fin 32), s.sup.umpire = true ∧ ((∀ u < 4, s.granted u = false))) ∧
    (∃ (s : State) (d : DriveIx), s.sup.umpire = true) :=
  ⟨⟨up, 0, by decide +kernel⟩,
   ⟨mChecks (fun c => { c with runs := c.runs.set 3 1 }) up, 0, by decide +kernel⟩,
   ⟨mChecks (fun c => { c with runs := c.runs.set 3 1 }) up, 3, by decide +kernel⟩,
   ⟨mChecks (fun c => { c with runs := c.runs.set 3 1 }) up, 3, 3, by decide +kernel⟩,
   ⟨mChecks (fun c => { c with runs := [(0, 1)], fails := [] }) (on [((F.UMP_CKCFG_LIM 0), 3)] up), 0, by decide +kernel⟩,
   ⟨mChecks (fun c => { c with runs := [(0, 7)], fails := [(0, 7)] }) (on [((F.UMP_CKCFG_LIM 0), 9)] up), 0, 7, by decide +kernel⟩,
   ⟨mChecks (fun c => { c with runs := [(0, 1)], fails := [(0, 1)] }) (on [((F.UMP_CKCFG_LIM 0), 2), ((F.UMP_CKCNT_COUNT 0), 1)] up), 0, by decide +kernel⟩,
   ⟨mUmp (fun x => { x with windows := 100 }) (on [((F.UMP_CKCFG_LIM 0), 2), ((F.UMP_CKCFG_TMO 0), 1), (F.UMP_STATE_GRANT, 15)] up), 0, by decide +kernel⟩,
   ⟨up, 0, by decide +kernel⟩,
   ⟨up, 0, by decide +kernel⟩⟩

theorem test_met_UmpireChecks_2 :
    (∃ (s : State) (d : DriveIx), s.sup.umpire = true ∧ bit s.ump.tqWait d = true ∧ s.protPattern d ≠ patNone) ∧
    (∃ (s : State) (d : DriveIx), s.sup.umpire = true ∧ bit s.ump.tqWait d = true ∧ s.protPattern d = patNone) ∧
    (∃ (s : State) (same : List ResetCause), s.sup.umpire = true ∧ s.sup.die = .running) ∧
    (∃ (s : State) (d : Fin 256), s.sup.die = .running) ∧
    (∃ (s : State) (nops : Nat) (l : List (Option Word)) (i : Nat) (w : Word) (same : List ResetCause), i < 3 ∧ l.getD i none = some w ∧ frameGood (BitVec.ofNat 4 (s.ump.down.seq + nops + i + 1)) w = true ∧ s.sup.umpire = true) ∧
    (∃ (s : State) (b : Fin 52) (line : Bool), s.sup.umpire = true) ∧
    (∃ (s : State) (b : Fin 52) (line : Bool) (level : Bool), s.sup.umpire = true ∧ level ≠ s.outputLevel b line) ∧
    (∃ (s : State) (f : Nat) (m : Nat), f < 16) :=
  ⟨⟨mUmp (fun x => { x with tqWait := 1 }) (on [((F.PROT_STATE_PATTERN 0), patOff)] up), 0, by decide +kernel⟩,
   ⟨mUmp (fun x => { x with tqWait := 1 }) (on [((F.PROT_STATE_PATTERN (0)), patNone)] up), 0, by decide +kernel⟩,
   ⟨up, [], by decide +kernel⟩,
   ⟨up, 0, by decide +kernel⟩,
   ⟨up, 0, [some (umpFrame (BitVec.ofNat 4 (up.ump.down.seq + 1)) 0 0 0)], 0, _, [], by decide +kernel, rfl, by decide +kernel⟩,
   ⟨up, 0, true, by decide +kernel⟩,
   ⟨up, 0, true, true, by decide +kernel⟩,
   ⟨up, 0, 0, by decide +kernel⟩⟩

theorem test_met_UmpirePaths_1 :
    (∃ (s : State) (b : BitVec 7), s.sup.umpire = true ∧ ((s.ifld F.UMP_LINK_OC_HI ≤ sinc2 b.toNat 0 ∨ sinc2 b.toNat 0 ≤ s.ifld F.UMP_LINK_OC_LO))) ∧
    (∃ (s : State) (b : BitVec 7), s.sup.umpire = true ∧ s.ifld F.UMP_LINK_OC_LO < sinc2 b.toNat 0 ∧ sinc2 b.toNat 0 < s.ifld F.UMP_LINK_OC_HI) ∧
    (∃ (s : State) (b : BitVec 9), s.sup.umpire = true ∧ ((∀ k < 3, s.ifld F.UMP_LINK_OV ≤ sinc2 b.toNat k))) ∧
    (∃ (s : State) (b : BitVec 9), s.sup.umpire = true ∧ ((∃ k < 3, sinc2 b.toNat k < s.ifld F.UMP_LINK_OV))) ∧
    (∃ (s : State) (b : BitVec 7) (p : Int), s.sup.umpire = true ∧ p = sinc2 b.toNat 0) ∧
    (∃ (s : State) (b : BitVec 8), s.sup.umpire = true) ∧
    (∃ (s : State) (b : BitVec 7) (ns : Nat), s.sup.umpire = true) ∧
    (∃ (s : State) (k : Fin 3) (l : List (BitVec 10)), s.sup.umpire = true ∧ ((l.length < 4 ∨ ∃ c ∈ l.drop (l.length - 4), s.tempHot k c.toNat = false))) ∧
    (∃ (s : State) (k : Fin 3) (l : List (BitVec 10)), s.sup.umpire = true ∧ 4 ≤ l.length ∧ ((∀ c ∈ l.drop (l.length - 4), s.tempHot k c.toNat = true)) ∧ k ≠ 2) ∧
    (∃ (s : State) (l : List (BitVec 10)), s.sup.umpire = true ∧ 4 ≤ l.length ∧ ((∀ c ∈ l.drop (l.length - 4), s.tempHot 2 c.toNat = true))) :=
  ⟨⟨up, 0, by decide +kernel⟩,
   ⟨State.iset (on [(F.UMP_LINK_OC_HI, 2)] up) F.UMP_LINK_OC_LO (-2), 0xD, by decide +kernel⟩,
   ⟨up, 0x1FF, by decide +kernel⟩,
   ⟨on [(F.UMP_LINK_OV, 2)] up, 0, by decide +kernel⟩,
   ⟨up, 0, _, by decide +kernel, rfl⟩,
   ⟨up, 0, by decide +kernel⟩,
   ⟨up, 0, 0, by decide +kernel⟩,
   ⟨up, 0, default, by decide +kernel⟩,
   ⟨on [((F.UMP_TEMP_TH 0), 1)] up, 0, [0, 0, 0, 0], by decide +kernel⟩,
   ⟨on [((F.UMP_TEMP_TH 2), 1)] up, [0, 0, 0, 0], by decide +kernel⟩⟩

theorem test_met_UmpirePaths_2 :
    (∃ (s : State) (k : Fin 3) (c : BitVec 10), s.sup.umpire = true ∧ s.tempBack k c.toNat = true) ∧
    (∃ (s : State), s.sup.umpire = true ∧ s.xchkOff (flMul (flInt (s.ifld F.UMP_USD_USD0)) (flOf (s.rd R.UMP_USCALE))) = true) ∧
    (∃ (s : State) (v : Nat) (w : Nat), s.sup.umpire = true ∧ s.ump.linkV = some (v, w) ∧ (s.ump.windows - w) * 16 ≤ 1000 * s.fld F.UMP_CLS_AGE ∧ s.xchkOff ⟨false, 2 * v, 0⟩ = true) ∧
    (∃ (s : State), s.sup.umpire = true ∧ s.xchkOff (flMul (flInt (s.ifld F.UMP_USD_USD0)) (flOf (s.rd R.UMP_USCALE))) = false ∧ ((∀ v w, s.ump.linkV = some (v, w) → 1000 * s.fld F.UMP_CLS_AGE < (s.ump.windows - w) * 16 ∨ s.xchkOff ⟨false, 2 * v, 0⟩ = false))) ∧
    (∃ (s : State) (b : Bool), s.sup.umpire = true ∧ s.fld F.UMP_STO_LEVEL = (if b then 1 else 2) ∧ s.on F.UMP_STO_DISC = false) ∧
    (∃ (s : State) (b : Bool), s.sup.umpire = true) ∧
    (∃ (s : State), s.sup.umpire = true ∧ ((s.fld F.UMP_STO_LEVEL = 1 ∨ s.fld F.UMP_STO_LEVEL = 2))) ∧
    (∃ (s : State), s.sup.umpire = true ∧ ((s.fld F.UMP_STO_LEVEL = 0 ∨ s.fld F.UMP_STO_LEVEL = 3))) ∧
    (∃ (s : State), s.sup.umpire = true) ∧
    (∃ (s : State), s.sup.umpire = true ∧ s.ump.lockstepBroken = false ∧ s.ump.wdHold = 0) :=
  ⟨⟨up, 0, 0, by decide +kernel⟩,
   ⟨on [(F.UMP_MEAS0_UAIN0, 100), (F.UMP_VSCALE_V, 256)] up, by decide +kernel⟩,
   ⟨mUmp (fun x => { x with linkV := some (5, 0) }) up, 5, 0, by decide +kernel⟩,
   ⟨up, by decide +kernel, by decide +kernel, by intro v w h; exact absurd (show (none : Option (Nat × Nat)) = some (v, w) from h) (by simp)⟩,
   ⟨on [(F.UMP_STO_DISC, 0), (F.UMP_STO_LEVEL, 1)] up, true, by decide +kernel⟩,
   ⟨up, true, by decide +kernel⟩,
   ⟨on [(F.UMP_STO_LEVEL, 2)] up, by decide +kernel⟩,
   ⟨up, by decide +kernel⟩,
   ⟨up, by decide +kernel⟩,
   ⟨mUmp (fun x => { x with lockstepBroken := false, wdHold := 0 }) up, by decide +kernel⟩⟩

theorem test_met_WatchdogAndRelease_1 :
    (∃ (s : State) (m : Master) (x : Fin 2) (n : Nat), s.sup.die = .running ∧ s.blockStops m (R.UMP_WDSVC x) (s.wdWriter m x) = none ∧ bit s.ump.wdHold x = false ∧ bit s.ump.wdFirst x = false ∧ 64 * s.fld F.UMP_WDCFG_WMIN ≤ n ∧ n ≤ 64 * s.fld F.UMP_WDCFG_WMAX) ∧
    (∃ (s : State) (m : Master) (x : Fin 2) (r : BitVec 12) (n : Nat) (same : List ResetCause), s.sup.die = .running ∧ s.blockStops m (R.UMP_WDSVC x) (s.wdWriter m x) = none ∧ bit s.ump.wdHold x = false ∧ r ≠ wdResponse (BitVec.ofNat 12 (s.ump.wdCh.get x))) ∧
    (∃ (s : State) (m : Master) (x : Fin 2) (r : BitVec 12) (n : Nat) (same : List ResetCause), s.sup.die = .running ∧ s.blockStops m (R.UMP_WDSVC x) (s.wdWriter m x) = none ∧ bit s.ump.wdHold x = false ∧ bit s.ump.wdFirst x = false ∧ ((n < 64 * s.fld F.UMP_WDCFG_WMIN ∨ 64 * s.fld F.UMP_WDCFG_WMAX < n))) ∧
    (∃ (s : State) (x : Fin 2) (r : BitVec 12) (n : Nat), s.sup.die = .running ∧ s.pageOn 0x1E = true) ∧
    (∃ (s : State) (x : Fin 2), s.sup.die = .running) ∧
    (∃ (s : State) (x : Fin 2), s.sup.die = .running) ∧
    (∃ (s : State) (u : UnitIx), s.sup.die = .running ∧ s.releaseCode u ≠ 0 ∧ s.releaseCode u < 256) ∧
    (∃ (s : State) (u : UnitIx), s.sup.die = .running ∧ s.releaseCode u = 0) ∧
    (∃ (s : State) (u : UnitIx) (same : BitVec 16), s.sup.die = .running ∧ same ≠ 0) ∧
    (∃ (s : State) (u : Nat), ((∃ l ∈ s.legsOf u, bit s.prot.heldOff l = true))) :=
  ⟨⟨on [(F.UMP_WDCFG_WMIN, 2), (F.UMP_WDCFG_WMAX, 5)] run, .cox0, 0, 320, by decide +kernel⟩,
   ⟨run, .cox0, 0, 0, 0, [], by decide +kernel⟩,
   ⟨run, .cox0, 0, 0, 0, [], by decide +kernel⟩,
   ⟨run, 0, 0, 0, by decide +kernel⟩,
   ⟨up, 0, by decide +kernel⟩,
   ⟨up, 0, by decide +kernel⟩,
   ⟨up, 0, by decide +kernel⟩,
   ⟨mUmp (fun x => { x with pll := 4 }) (on [(F.UMP_STO_LEVEL, 3)] up), 0, by decide +kernel⟩,
   ⟨up, 0, 1, by decide +kernel⟩,
   ⟨u0 (mProt (fun x => { x with heldOff := 1 }) up), 0, by decide +kernel⟩⟩

theorem test_met_WatchdogAndRelease_2 : ∃ (s : State) (u : UnitIx) (m : Master) (same : BitVec 16), s.sup.die = .running ∧ m ≠ .cox0 :=
  ⟨up, 0, .cox1, 0, by decide +kernel⟩

theorem test_met_Contactors_1 :
    (∃ (s : State), s.sup.die = .running ∧ s.mbWaiting svContactor (fun _ => true) = [] ∧ s.ctrState = ctOpen ∧ s.linkDead = false) ∧
    (∃ (s : State), s.sup.die = .running ∧ s.mbWaiting svContactor (fun _ => true) = [] ∧ s.ctrState = ctOpen ∧ s.linkDead = true ∧ s.ctrUsed cMn = true) ∧
    (∃ (s : State), s.sup.die = .running ∧ s.mbWaiting svContactor (fun _ => true) = [] ∧ s.ctrState ≠ ctOpen) ∧
    (∃ (s : State), s.sup.die = .running ∧ s.mbWaiting svContactor (fun _ => true) = [] ∧ ((s.ctrState = ctClosed ∨ s.ctrState = ctConnecting))) ∧
    (∃ (s : State), s.sup.die = .running ∧ s.mbWaiting svContactor (fun _ => true) = []) ∧
    (∃ (s : State), s.sup.die = .running ∧ s.mbWaiting svContactor (fun _ => true) = [] ∧ s.ctrUsed cAux = true) ∧
    (∃ (s : State), s.sup.die = .running ∧ s.mbWaiting svContactor (fun _ => true) = []) ∧
    (∃ (s : State) (m : Master), s.sup.die = .running ∧ m ≠ .cox0) ∧
    (∃ (s : State), s.sup.umpire = true ∧ s.mbWaiting svContactor (fun _ => true) = [] ∧ s.ctrState = ctConnecting ∧ s.fld F.UMP_CTRSTAT_STEP = 1 ∧ s.linkDead = true ∧ s.ctrIsClosed cMn = false) ∧
    (∃ (s : State), s.sup.umpire = true ∧ s.mbWaiting svContactor (fun _ => true) = [] ∧ s.ctrState = ctConnecting ∧ s.fld F.UMP_CTRSTAT_STEP = 3 ∧ s.ctrUsed cMp = true) :=
  ⟨⟨on [(F.UMP_CTRSTAT_STATE, ctOpen)] up, by decide +kernel⟩,
   ⟨on [(F.UMP_CTRSTAT_STATE, ctOpen), (F.UMP_PRE_V_LIVE, 1), (F.UMP_CTRCFG_USE, 15)] up, by decide +kernel⟩,
   ⟨on [(F.UMP_CTRSTAT_STATE, ctClosed)] up, by decide +kernel⟩,
   ⟨on [(F.UMP_CTRSTAT_STATE, ctConnecting)] up, by decide +kernel⟩,
   ⟨up, by decide +kernel⟩,
   ⟨on [(F.UMP_CTRCFG_USE, 15)] up, by decide +kernel⟩,
   ⟨up, by decide +kernel⟩,
   ⟨up, .cox1, by decide +kernel⟩,
   ⟨on [(F.UMP_CTRSTAT_STATE, ctConnecting), (F.UMP_CTRSTAT_STEP, 1), (F.UMP_PRE_V_LIVE, 1), (F.UMP_CTRCFG_USE, 15)] up, by decide +kernel⟩,
   ⟨on [(F.UMP_CTRSTAT_STATE, ctConnecting), (F.UMP_CTRSTAT_STEP, 3), (F.UMP_CTRCFG_USE, 15)] up, by decide +kernel⟩⟩

theorem test_met_Contactors_2 :
    (∃ (s : State), s.sup.umpire = true ∧ s.mbWaiting svContactor (fun _ => true) = [] ∧ s.ctrState = ctConnecting ∧ s.fld F.UMP_CTRSTAT_STEP = 5 ∧ s.ctrIsOpen cPre = true) ∧
    (∃ (s : State), s.sup.umpire = true ∧ s.mbWaiting svContactor (fun _ => true) = [] ∧ s.ctrState = ctDisconnecting ∧ s.ump.ctrPhase = 2 ∧ s.ctrIsOpen cMn = true) ∧
    (∃ (s : State), s.sup.umpire = true ∧ s.ctrState = ctDisconnecting ∧ s.ump.ctrPhase = 0 ∧ (s.ifld F.UMP_USD_USD1).natAbs < s.fld F.UMP_IBREAK_I_BREAK) ∧
    (∃ (s : State) (k : Fin 4), s.sup.umpire = true ∧ s.ctrUsed k = true ∧ s.ctrCmd k = true ∧ s.ctrSensed k = false ∧ k ≠ 3) ∧
    (∃ (s : State) (k : Fin 4), s.sup.umpire = true ∧ (s.ctrCmd k = true ∨ s.ctrSensed k = false)) ∧
    (∃ (s : State) (k : Fin 4), s.sup.umpire = true ∧ s.ctrUsed k = true ∧ s.ctrCmd k = false ∧ s.ctrSensed k = true ∧ k ≠ 3) ∧
    (∃ (s : State), s.sup.umpire = true ∧ s.ctrUsed cAux = true ∧ s.ctrCmd cAux = false ∧ s.ctrSensed cAux = true) :=
  ⟨⟨on [(F.UMP_CTRSTAT_STATE, ctConnecting), (F.UMP_CTRSTAT_STEP, 5)] up, by decide +kernel⟩,
   ⟨mUmp (fun x => { x with ctrPhase := 2 }) (on [(F.UMP_CTRSTAT_STATE, ctDisconnecting)] up), by decide +kernel⟩,
   ⟨mUmp (fun x => { x with ctrPhase := 0 }) (on [(F.UMP_CTRSTAT_STATE, ctDisconnecting), (F.UMP_IBREAK_I_BREAK, 1)] up), by decide +kernel⟩,
   ⟨on [(F.UMP_CTRCFG_USE, 15), (F.UMP_CTRSTAT_CMDED, 15)] up, 0, by decide +kernel⟩,
   ⟨up, 0, by decide +kernel⟩,
   ⟨on [(F.UMP_CTRCFG_USE, 15), (F.UMP_CTRSTAT_SENSED, 15)] up, 0, by decide +kernel⟩,
   ⟨on [(F.UMP_CTRCFG_USE, 15), (F.UMP_CTRSTAT_SENSED, 15)] up, by decide +kernel⟩⟩

theorem test_met_Lockstep_1 :
    (∃ (s : State) (m : List Nat) (c : List Nat), s.sup.die = .running ∧ s.on F.LSTP_STATUS_CMP_EN0 = false) ∧
    (∃ (s : State) (x : Fin 2) (m : List Nat) (c : List Nat), s.sup.die = .running ∧ lockstepGroup m c = none) ∧
    (∃ (m : List Nat) (c : List Nat) (g : Fin 8), lockstepGroup m c = some g) ∧
    (∃ (s : State) (x : Fin 2) (m : List Nat) (c : List Nat) (g : Fin 8) (same : List ResetCause), s.sup.die = .running ∧ lockstepGroup m c = some g ∧ s.on (if x.val = 0 then F.LSTP_STATUS_CMP_EN0 else F.LSTP_STATUS_CMP_EN1) = true ∧ s.ump.lsWindow = some x.val) ∧
    (∃ (s : State) (x : Fin 2) (m : List Nat) (c : List Nat) (g : Fin 8) (k : Fin 16) (same : List ResetCause), s.sup.die = .running ∧ lockstepGroup m c = some g ∧ k.val = g.val ∧ s.on (if x.val = 0 then F.LSTP_STATUS_CMP_EN0 else F.LSTP_STATUS_CMP_EN1) = true ∧ s.ump.lsWindow ≠ some x.val) ∧
    (∃ (s : State) (x : Fin 2) (k : Fin 16), s.sup.die = .running) ∧
    (∃ (s : State) (x : Nat) (k : Nat), k < 16 ∧ x < 2) ∧
    (∃ (s : State) (same : List ResetCause), s.sup.die = .running ∧ s.boot.step = 5 ∧ s.lsOver 0 = false) ∧
    (∃ (s : State) (same : List ResetCause), s.sup.die = .running ∧ s.boot.step = 5 ∧ s.lsOver 0 = true ∧ s.lsOver 1 = false) ∧
    (∃ (s : State) (ended : Bool), (s.lsOver 0 = false ∨ s.boot.step ≠ 5)) :=
  ⟨⟨on [(F.LSTP_STATUS_CMP_EN0, 0)] up, default, default, by decide +kernel⟩,
   ⟨up, 0, default, default, by decide +kernel⟩,
   ⟨[1], [], 0, by decide +kernel⟩,
   ⟨mUmp (fun x => { x with lsWindow := some 0 }) (on [(F.LSTP_STATUS_CMP_EN0, 1)] up), 0, [1], [], 0, [], by decide +kernel⟩,
   ⟨on [(F.LSTP_STATUS_CMP_EN0, 1)] up, 0, [1], [], 0, 0, [], by decide +kernel⟩,
   ⟨up, 0, 0, by decide +kernel⟩,
   ⟨up, 0, 0, by decide +kernel⟩,
   ⟨mBoot (fun x => { x with step := 5 }) up, [], by decide +kernel⟩,
   ⟨mBoot (fun x => { x with step := 5 }) (on [(F.LSTP_STATUS_CTEST_OK0, 1)] up), [], by decide +kernel⟩,
   ⟨up, true, by decide +kernel⟩⟩

theorem test_met_Lockstep_2 :
    (∃ (s : State) (x : Fin 2) (ended : Bool), (s.lsOver x = true ∧ s.lsOver (1 - x.val) = false ∨ s.boot.step ≠ 5)) ∧
    (∃ (s : State) (same : List ResetCause), s.sup.die = .running ∧ s.boot.step = 5 ∧ s.lsOver 0 = false ∧ s.lsOver 1 = false ∧ s.ump.lsWindow = some 0 ∧ s.ump.lsSeen = lsInjected) ∧
    (∃ (s : State) (g : Fin 8) (k : Fin 16) (same : List ResetCause), s.sup.die = .running ∧ s.boot.step = 5 ∧ s.lsOver 0 = true ∧ s.lsOver 1 = false ∧ s.ump.lsWindow = some 1 ∧ lsBad s.ump.lsSeen = some g ∧ k.val = g.val) ∧
    (∃ (l : List (Fin 8)) (j : Nat) (g : Fin 8), 16 ≤ l.length ∧ ((∀ i < j, l[i]? = lsInjected[i]?)) ∧ l[j]? = some g ∧ lsInjected[j]? ≠ some g) ∧
    (∃ (s : State) (x : Fin 2) (same : List ResetCause), s.sup.die = .running ∧ s.ump.lsWindow = some x.val) ∧
    (∃ (s : State) (x : Fin 2), s.sup.die = .running ∧ s.ump.lsWindow = none) ∧
    (∃ (s : State) (m : Master), s.sup.die = .running ∧ external m = false ∧ s.on F.LSTP_STATUS_BROKEN1 = true ∧ s.deviceOff = true ∧ s.ump.benchHv = false) ∧
    (∃ (s : State) (m : Master), s.sup.die = .running ∧ external m = false ∧ s.on F.LSTP_STATUS_BROKEN1 = false) ∧
    (∃ (s : State) (m : Master) (k : Fin 2), s.sup.die = .running ∧ external m = false ∧ s.on F.LSTP_DBG_WD_HOLD = true ∧ s.ump.wdHold ≠ 0) ∧
    (∃ (s : State), s.sup.die = .running ∧ s.boot.step = 5 ∧ s.lsOver 0 = true ∧ s.lsOver 1 = false ∧ s.ump.lsWindow = some 1 ∧ s.ump.lsSeen = lsInjected) :=
  ⟨⟨up, 0, true, by decide +kernel⟩,
   ⟨mUmp (fun x => { x with lsWindow := some 0, lsSeen := lsInjected }) (mBoot (fun x => { x with step := 5 }) up), [], by decide +kernel⟩,
   ⟨mUmp (fun x => { x with lsWindow := some 1, lsSeen := [3] }) (mBoot (fun x => { x with step := 5 }) (on [(F.LSTP_STATUS_CTEST_OK0, 1)] up)), 0, 0, [], by decide +kernel⟩,
   ⟨1 :: List.replicate 20 0, 0, 1, by decide +kernel⟩,
   ⟨mUmp (fun x => { x with lsWindow := some (0) }) up, 0, [], by decide +kernel⟩,
   ⟨mUmp (fun x => { x with lsWindow := none }) up, 0, by decide +kernel⟩,
   ⟨mUmp (fun x => { x with benchHv := false }) (on [(F.LSTP_STATUS_BROKEN1, 1)] up), .cox0, by decide +kernel⟩,
   ⟨on [(F.LSTP_STATUS_BROKEN1, 0)] up, .cox0, by decide +kernel⟩,
   ⟨mUmp (fun x => { x with wdHold := 1 }) (on [(F.LSTP_DBG_WD_HOLD, 1)] up), .cox0, 0, by decide +kernel⟩,
   ⟨mUmp (fun x => { x with lsWindow := some 1, lsSeen := lsInjected }) (mBoot (fun x => { x with step := 5 }) (on [(F.LSTP_STATUS_CTEST_OK0, 1)] up)), by decide +kernel⟩⟩

theorem test_met_Lockstep_3 : ∃ (s : State), s.sup.die = .running ∧ s.boot.step = 5 ∧ s.lsOver 0 = false ∧ s.lsOver 1 = true ∧ s.ump.lsWindow = some 0 ∧ s.ump.lsSeen = lsInjected :=
  ⟨mUmp (fun x => { x with lsWindow := some 0, lsSeen := lsInjected }) (mBoot (fun x => { x with step := 5 }) (on [(F.LSTP_STATUS_CTEST_OK1, 1)] up)), by decide +kernel⟩

theorem test_met_DriveStartAndStop_1 :
    (∃ (s : State) (d : DriveIx) (vdc : Word) (te : Word), s.sup.die = .running ∧ (s.drive d).cmd = none) ∧
    (∃ (s : State) (t : State) (d : DriveIx) (vdc : Word) (te : Word) (c : BitVec 6), s.sup.die = .running ∧ s.selfRuns d = false ∧ (s.drive d).cmd = some c ∧ c.toNat % 16 = 1 ∧ s.settled d ∧ s.driveState d = dSafe ∧ t = (s.modDrive d (fun x => { x with cmd := none })).setTe d te) ∧
    (∃ (s : State) (d : DriveIx) (vdc : Word) (te : Word) (c : BitVec 6), s.sup.die = .running ∧ s.selfRuns d = false ∧ (s.drive d).cmd = some c ∧ c.toNat % 16 = 1 ∧ s.settled d ∧ s.driveState d = dOff ∧ s.planDrives d = true ∧ s.on F.THRM_STATUS_SHUTDOWN = false ∧ s.grantCode d = 0 ∧ s.ownBlock d = false ∧ s.sarFailedFor d = false ∧ s.cascadeOk = true ∧ s.hbSupervised = false ∧ (s.drive d).spun = false) ∧
    (∃ (s : State) (t : State) (d : DriveIx) (vdc : Word) (te : Word) (c : BitVec 6), s.sup.die = .running ∧ s.selfRuns d = false ∧ (s.drive d).cmd = some c ∧ c.toNat % 16 = 1 ∧ s.settled d ∧ s.driveState d = dOff ∧ s.planDrives d = false ∧ t = ((s.modDrive d (fun x => { x with cmd := none })).setTe d te).modDrive d (fun x => { x with want := c, trqHeld := false })) ∧
    (∃ (s : State) (t : State) (d : DriveIx) (vdc : Word) (te : Word) (c : BitVec 6), s.sup.die = .running ∧ s.selfRuns d = false ∧ (s.drive d).cmd = some c ∧ c.toNat % 16 = 1 ∧ s.settled d ∧ s.driveState d ≠ dSafe ∧ s.driveState d ≠ dOff ∧ s.planDrives d = false ∧ t = (s.modDrive d (fun x => { x with cmd := none })).setTe d te) ∧
    (∃ (s : State) (d : DriveIx) (vdc : Word) (te : Word) (c : BitVec 6), s.sup.die = .running ∧ s.selfRuns d = false ∧ (s.drive d).cmd = some c ∧ c.toNat % 16 = 1 ∧ s.settled d ∧ s.driveState d = dSpin ∧ s.planDrives d = true ∧ (s.drive d).want.toNat / 16 % 2 = c.toNat / 16 % 2) ∧
    (∃ (s : State) (d : DriveIx) (te : Word) (c : BitVec 6), s.sup.die = .running ∧ (s.drive d).cmd = some c ∧ c.toNat % 16 = 2 ∧ s.settled d ∧ s.on (F.DRV_PSTAT_OBS_LOSS d) = false ∧ s.driveState d = dSpin) ∧
    (∃ (s : State) (d : DriveIx) (te : Word) (c : BitVec 6), s.sup.die = .running ∧ (s.drive d).cmd = some c ∧ c.toNat % 16 = 2 ∧ s.settled d ∧ s.on (F.DRV_PSTAT_OBS_LOSS d) = false ∧ s.driveState d = dRun) ∧
    (∃ (s : State) (d : DriveIx) (te : Word) (c : BitVec 6), s.sup.die = .running ∧ (s.drive d).cmd = some c ∧ c.toNat % 16 = 2 ∧ s.settled d ∧ s.on (F.DRV_PSTAT_OBS_LOSS d) = true ∧ s.driveState d = dRun) ∧
    (∃ (s : State) (u : UnitIx) (vdc : Word) (tc : Word) (te : Word) (l : List SpinSet), s.sup.die = .running ∧ u.val < 2 ∧ s.settled u ∧ s.driveState u ≠ dSpin) :=
  ⟨⟨up, 0, 0, 0, by decide +kernel⟩,
   ⟨State.modDrive (on [((F.DRV_STATE_STATE (0)), dSafe)] up) 0 (fun x => { x with cmd := some 1 }), _, 0, 0, 0, 1, by decide +kernel, by decide +kernel, by decide +kernel, by decide +kernel, by unfold State.settled; decide +kernel, by decide +kernel, rfl⟩,
   ⟨mUmp (fun u => { u with lockedSince := true, pll := 4 }) (State.wr (binds [.regOut (pageOf (R.DRV_PSTAT 0)) (R.DRV_PSTAT 0 % 0x1000)] (State.modDrive (on [((F.DRV_STATE_STATE (0)), dOff), (F.THRM_STATUS_SHUTDOWN, 0), (F.PLAN_STATUS_LIVE_VALID, 1), (F.UMP_STO_LEVEL, 3), (F.UMP_STO_TESTED, 1)] up) 0 (fun x => { x with cmd := some 1 }))) (R.DRV_NCATCH 0) 0x42180000), 0, 0, 0, 1, by unfold State.settled; decide +kernel⟩,
   ⟨State.modDrive (on [((F.DRV_STATE_STATE (0)), dOff)] up) 0 (fun x => { x with cmd := some 1 }), _, 0, 0, 0, 1, by decide +kernel, by decide +kernel, by decide +kernel, by decide +kernel, by unfold State.settled; decide +kernel, by decide +kernel, by decide +kernel, rfl⟩,
   ⟨State.modDrive (on [((F.DRV_STATE_STATE 0), dSpin)] up) 0 (fun x => { x with cmd := some 1 }), _, 0, 0, 0, 1, by decide +kernel, by decide +kernel, by decide +kernel, by decide +kernel, by unfold State.settled; decide +kernel, by decide +kernel, by decide +kernel, by decide +kernel, rfl⟩,
   ⟨State.wr (binds [.regOut (pageOf (R.DRV_PSTAT 0)) (R.DRV_PSTAT 0 % 0x1000)] (State.modDrive (on [((F.DRV_STATE_STATE (0)), dSpin), ((F.DRV_STATE_STATE 0), dSpin), (F.PLAN_STATUS_LIVE_VALID, 1)] up) 0 (fun x => { x with cmd := some 1 }))) (R.DRV_NCATCH 0) 0x42180000, 0, 0, 0, 1, by unfold State.settled; decide +kernel⟩,
   ⟨State.modDrive (on [((F.DRV_PSTAT_OBS_LOSS (0)), 0), ((F.DRV_STATE_STATE (0)), dSpin)] up) 0 (fun x => { x with cmd := some 2 }), 0, 0, 2, by unfold State.settled; decide +kernel⟩,
   ⟨State.modDrive (on [((F.DRV_PSTAT_OBS_LOSS (0)), 0), ((F.DRV_STATE_STATE (0)), dRun)] up) 0 (fun x => { x with cmd := some 2 }), 0, 0, 2, by unfold State.settled; decide +kernel⟩,
   ⟨State.modDrive (on [((F.DRV_PSTAT_OBS_LOSS (0)), 1), ((F.DRV_STATE_STATE (0)), dRun)] up) 0 (fun x => { x with cmd := some 2 }), 0, 0, 2, by unfold State.settled; decide +kernel⟩,
   ⟨up, 0, 0, 0, 0, [], by unfold State.settled; decide +kernel⟩⟩

theorem test_met_DriveStartAndStop_2 :
    (∃ (s : State) (u : UnitIx) (vdc : Word) (tc : Word) (te : Word) (l : List SpinSet) (dir : Nat), s.sup.die = .running ∧ u.val < 2 ∧ s.settled u ∧ s.driveState u = dSpin ∧ s.isCrew = false ∧ dir = (s.drive u).want.toNat / 16 % 2) ∧
    (∃ (s : State) (u : UnitIx) (vdc : Word) (tc : Word) (te : Word) (l : List SpinSet), s.sup.die = .running ∧ 2 ≤ u.val ∧ bit s.inj.auxSpin u = false) ∧
    (∃ (s : State) (u : UnitIx) (vdc : Word) (tc : Word) (te : Word), s.sup.die = .running ∧ 2 ≤ u.val ∧ bit s.inj.auxSpin u = true) ∧
    (∃ (a : SpinSet) (b : SpinSet) (l : List SpinSet), a ∈ l ∧ b ∈ l ∧ (fval a.f).mant ≠ 0 ∧ (fval b.f).mant ≠ 0 ∧ (fval a.f).neg ≠ (fval b.f).neg) ∧
    (∃ (a : SpinSet) (l : List SpinSet), a ∈ l ∧ a.inSeq = false) :=
  ⟨⟨on [((F.DRV_STATE_STATE (0)), dSpin)] up, 0, 0, 0, 0, [], _, by decide +kernel, by decide +kernel, by unfold State.settled; decide +kernel, by decide +kernel, by decide +kernel, rfl⟩,
   ⟨up, 2, 0, 0, 0, [], by decide +kernel⟩,
   ⟨mInj (fun x => { x with auxSpin := 4 }) up, 2, 0, 0, 0, by decide +kernel⟩,
   ⟨⟨0x41200000, 0, true, true⟩, ⟨0xC1200000, 0, true, true⟩, [⟨0x41200000, 0, true, true⟩, ⟨0xC1200000, 0, true, true⟩], by decide, by decide, by decide +kernel⟩,
   ⟨⟨0, 0, true, false⟩, [⟨0, 0, true, false⟩], by decide, by decide +kernel⟩⟩

theorem test_met_DriveStates_1 :
    (∃ (s : State) (d : DriveIx), s.sup.die = .running ∧ s.settled d ∧ s.driveState d = dStart) ∧
    (∃ (s : State) (d : DriveIx), s.sup.die = .running ∧ s.settled d ∧ s.on (F.DRV_PSTAT_OBS_LOSS d) = true ∧ s.driveState d = dRun) ∧
    (∃ (s : State) (d : DriveIx), s.sup.die = .running ∧ s.settled d ∧ s.on (F.DRV_PSTAT_OBS_LOSS d) = false) ∧
    (∃ (s : State) (d : DriveIx), s.sup.die = .running ∧ s.settled d ∧ s.driveState d = dReacq ∧ s.on (F.DRV_PSTAT_REACQ_OK d) = true ∧ (s.drive d).heldState = dRun ∧ (s.drive d).rampDue = false) ∧
    (∃ (s : State) (d : DriveIx), s.sup.die = .running ∧ s.settled d ∧ s.driveState d = dReacq ∧ s.on (F.DRV_PSTAT_REACQ_OK d) = false ∧ (fval (s.drive d).lastSpeed).mant = 0) ∧
    (∃ (s : State) (d : DriveIx), s.sup.die = .running ∧ s.settled d ∧ s.on (F.DRV_PSTAT_REACQ_OK d) = true) ∧
    (∃ (s : State) (d : Nat) (f : Word), (fval f).mant ≠ 0 ∧ flLe (flInt s.linkVolts) (flScale 256 (flMul (fval (s.rd (R.DRV_KE d))) (flAbs (fval f)))) = true) ∧
    (∃ (s : State) (u : UnitIx), s.sup.die = .running ∧ s.settled u ∧ u.val < 2 ∧ s.driveState u = dEasy ∧ 4 ≤ (s.drive u).tzero ∧ (s.drive u).easyCause ≤ 2) ∧
    (∃ (s : State) (u : UnitIx), s.sup.die = .running ∧ s.settled u ∧ u.val < 2 ∧ s.driveState u = dEasy ∧ 4 ≤ (s.drive u).tzero ∧ 2 < (s.drive u).easyCause) ∧
    (∃ (s : State) (u : UnitIx), s.sup.die = .running ∧ s.settled u ∧ u.val < 2 ∧ (s.drive u).tzero < 4) :=
  ⟨⟨on [((F.DRV_STATE_STATE (0)), dStart)] up, 0, by unfold State.settled; decide +kernel⟩,
   ⟨on [((F.DRV_PSTAT_OBS_LOSS (0)), 1), ((F.DRV_STATE_STATE (0)), dRun)] up, 0, by unfold State.settled; decide +kernel⟩,
   ⟨on [((F.DRV_PSTAT_OBS_LOSS (0)), 0)] up, 0, by unfold State.settled; decide +kernel⟩,
   ⟨State.modDrive (on [((F.DRV_STATE_STATE (0)), dReacq), ((F.DRV_PSTAT_REACQ_OK (0)), 1)] up) 0 (fun x => { x with heldState := dRun }), 0, by unfold State.settled; decide +kernel⟩,
   ⟨on [((F.DRV_STATE_STATE (0)), dReacq), ((F.DRV_PSTAT_REACQ_OK (0)), 0)] up, 0, by unfold State.settled; decide +kernel⟩,
   ⟨on [((F.DRV_PSTAT_REACQ_OK (0)), 1)] up, 0, by unfold State.settled; decide +kernel⟩,
   ⟨up, 0, 0x3F800000, by decide +kernel⟩,
   ⟨State.modDrive (on [((F.DRV_STATE_STATE (0)), dEasy)] up) 0 (fun x => { x with tzero := 4, easyCause := 2 }), 0, by unfold State.settled; decide +kernel⟩,
   ⟨State.modDrive (on [((F.DRV_STATE_STATE (0)), dEasy)] up) 0 (fun x => { x with tzero := 4, easyCause := 3 }), 0, by unfold State.settled; decide +kernel⟩,
   ⟨up, 0, by unfold State.settled; decide +kernel⟩⟩

theorem test_met_DriveStates_2 :
    (∃ (s : State) (u : UnitIx), s.sup.die = .running ∧ 2 ≤ u.val ∧ s.inj.auxEasy.get u = 1) ∧
    (∃ (s : State) (u : UnitIx), s.sup.die = .running ∧ 2 ≤ u.val ∧ 2 < s.inj.auxEasy.get u) ∧
    (∃ (s : State) (d : DriveIx), s.sup.die = .running ∧ s.settled d ∧ s.driveState d = dEasy) ∧
    (∃ (s : State) (d : DriveIx), s.sup.die = .running ∧ s.on (F.DRV_PSTAT_OBS_LOSS d) = false ∧ s.settled d ∧ s.driveState d = dZero) ∧
    (∃ (s : State) (d : DriveIx), s.sup.die = .running ∧ s.on (F.DRV_PSTAT_OBS_LOSS d) = false ∧ s.settled d ∧ s.driveState d ≠ dZero) ∧
    (∃ (s : State) (d : DriveIx) (vdc : Word), s.sup.die = .running ∧ s.on (F.DRV_PSTAT_OBS_LOSS d) = false ∧ s.settled d ∧ s.driveState d = dRun ∧ (fval (s.rd (R.DRV_TRQ d))).mant = 0 ∧ s.windowWork d = true ∧ flLt (flScale 10 (flMul (fval (s.rd (R.DRV_KE d))) (flAbs (fval (s.rd (R.DRV_SPEED d)))))) (flScale 9 (fval vdc)) = true) ∧
    (∃ (s : State) (d : DriveIx) (vdc : Word), s.sup.die = .running ∧ s.on (F.DRV_PSTAT_OBS_LOSS d) = false ∧ s.settled d ∧ ((fval (s.rd (R.DRV_TRQ d))).mant ≠ 0 ∨ s.windowWork d = false)) ∧
    (∃ (s : State) (d : DriveIx) (vdc : Word), s.sup.die = .running ∧ s.settled d ∧ s.driveState d = dZtw ∧ (s.drive d).trqHeld = false) ∧
    (∃ (s : State) (d : DriveIx) (vdc : Word), s.sup.die = .running ∧ s.settled d ∧ s.driveState d = dZtw ∧ (s.drive d).trqHeld = true) ∧
    (∃ (s : State) (d : DriveIx) (vdc : Word), s.sup.die = .running ∧ s.settled d ∧ s.driveState d ≠ dZtw) :=
  ⟨⟨mInj (fun x => { x with auxEasy := [(2, 1)] }) up, 2, by decide +kernel⟩,
   ⟨mInj (fun x => { x with auxEasy := [(2, 3)] }) up, 2, by decide +kernel⟩,
   ⟨on [((F.DRV_STATE_STATE (0)), dEasy)] up, 0, by unfold State.settled; decide +kernel⟩,
   ⟨on [((F.DRV_PSTAT_OBS_LOSS (0)), 0), ((F.DRV_STATE_STATE (0)), dZero)] up, 0, by unfold State.settled; decide +kernel⟩,
   ⟨on [((F.DRV_PSTAT_OBS_LOSS (0)), 0)] up, 0, by unfold State.settled; decide +kernel⟩,
   ⟨mSense (fun c => { c with cal := [(0, .queuedWindow, 6, 0)] }) (on [((F.DRV_PSTAT_OBS_LOSS (0)), 0), ((F.DRV_STATE_STATE (0)), dRun)] up), 0, 0x3F800000, by unfold State.settled; decide +kernel⟩,
   ⟨on [((F.DRV_PSTAT_OBS_LOSS (0)), 0)] up, 0, 0, by unfold State.settled; decide +kernel⟩,
   ⟨on [((F.DRV_STATE_STATE (0)), dZtw)] up, 0, 0, by unfold State.settled; decide +kernel⟩,
   ⟨State.modDrive (on [((F.DRV_STATE_STATE (0)), dZtw)] up) 0 (fun x => { x with trqHeld := true }), 0, 0, by unfold State.settled; decide +kernel⟩,
   ⟨up, 0, 0, by unfold State.settled; decide +kernel⟩⟩

theorem test_met_DriveStates_3 :
    (∃ (s : State) (d : DriveIx), s.sup.die = .running ∧ s.on (F.DRV_PSTAT_OBS_LOSS d) = false ∧ s.settled d ∧ s.driveState d = dBrake) ∧
    (∃ (s : State) (d : DriveIx), s.sup.die = .running ∧ s.settled d ∧ s.driveState d = dBrake) ∧
    (∃ (s : State) (d : DriveIx), s.sup.die = .running ∧ s.on (F.DRV_PSTAT_OBS_LOSS d) = false ∧ s.settled d ∧ s.driveState d ≠ dBrake) ∧
    (∃ (s : State) (d : DriveIx), s.sup.die = .running ∧ s.on (F.DRV_PSTAT_SHARE_LIM d) = true) ∧
    (∃ (s : State) (d : DriveIx), s.sup.die = .running ∧ s.fld (F.DRV_PSTAT_SRC d) ≠ 3 ∧ (fval (s.rd (R.DRV_SPEED d))).mant = 0) ∧
    (∃ (s : State) (d : DriveIx) (vdc : Word), s.sup.die = .running ∧ s.settled d ∧ s.on (F.DRV_PSTAT_OBS_LOSS d) = true) ∧
    (∃ (s : State) (d : DriveIx) (c : Instr), s.sup.die = .running ∧ (s.drive d).safeDue = true ∧ (s.drive d).easyDue = 0 ∧ c ∈ [.startToRun d, .reacqEntry d, .reacqOk d, .reacqTimeout d, .easyTimeout d, .zeroToOff d, .brakeTimeout d, .brakeToStart d]) ∧
    (∃ (s : State) (d : DriveIx), s.on F.CATCH_CTRL_RUN = true ∧ s.driveState d ≠ dOff ∧ s.driveState d ≠ dSafe) ∧
    (∃ (s : State) (d : DriveIx), s.on F.CATCH_CTRL_RUN = false ∧ s.driveState d ≠ dOff) ∧
    (∃ (s : State) (d : DriveIx) (c : Nat), s.on F.CATCH_CTRL_RUN = true) :=
  ⟨⟨on [((F.DRV_PSTAT_OBS_LOSS (0)), 0), ((F.DRV_STATE_STATE (0)), dBrake)] up, 0, by unfold State.settled; decide +kernel⟩,
   ⟨on [((F.DRV_STATE_STATE (0)), dBrake)] up, 0, by unfold State.settled; decide +kernel⟩,
   ⟨on [((F.DRV_PSTAT_OBS_LOSS (0)), 0)] up, 0, by unfold State.settled; decide +kernel⟩,
   ⟨on [((F.DRV_PSTAT_SHARE_LIM (0)), 1)] up, 0, by decide +kernel⟩,
   ⟨on [(F.DRV_PSTAT_SRC 0, 0)] up, 0, by decide +kernel⟩,
   ⟨on [((F.DRV_PSTAT_OBS_LOSS (0)), 1)] up, 0, 0, by unfold State.settled; decide +kernel⟩,
   ⟨State.modDrive up 0 (fun x => { x with safeDue := true }), 0, .startToRun 0, by decide +kernel⟩,
   ⟨on [(F.CATCH_CTRL_RUN, 1), ((F.DRV_STATE_STATE 0), dRun), (F.CATCH_CTRL_RUN, 1)] up, 0, by decide +kernel⟩,
   ⟨on [(F.CATCH_CTRL_RUN, 0), ((F.DRV_STATE_STATE 0), dRun)] up, 0, by decide +kernel⟩,
   ⟨on [(F.CATCH_CTRL_RUN, 1)] up, 0, 0, by decide +kernel⟩⟩

theorem test_met_DriveStates_4 : ∃ (s : State) (d : DriveIx) (c : Nat), (s.drive d).safeDue = false ∧ (s.drive d).easyDue = c ∧ 1 < c ∧ s.on (F.DRV_PSTAT_OBS_LOSS d) = false ∧ s.driveState d = dRun :=
  ⟨State.modDrive (on [((F.DRV_PSTAT_OBS_LOSS (0)), 0), ((F.DRV_STATE_STATE (0)), dRun), ((F.DRV_STATE_STATE 0), dRun)] up) 0 (fun x => { x with easyDue := 2 }), 0, 2, by decide +kernel⟩

theorem test_met_DriveTorque :
    (∃ (s : State) (d : DriveIx), s.sup.die = .running ∧ s.snapshots ≠ []) ∧
    (∃ (s : State) (d : DriveIx), s.sup.die = .running ∧ s.snapshots = []) ∧
    (∃ (s : State) (d : DriveIx), s.sup.die = .running ∧ s.torqueDeviates d = true) ∧
    (∃ (s : State) (d : DriveIx), s.sup.die = .running ∧ s.torqueDeviates d = false) ∧
    (∃ (s : State) (d : Nat), s.driveState d = dBrake ∧ d < 2 ∧ s.speedMode d = false) ∧
    (∃ (s : State) (d : Nat), d < 2 ∧ s.speedMode d = true) ∧
    (∃ (s : State) (d : Nat) (v : Word), d < 2 ∧ s.driveState d = dRun ∧ s.speedMode d = false ∧ (s.drive d).rampDue = false ∧ f32Bad v = false) ∧
    (∃ (s : State) (d : Nat) (v : Word), d < 2 ∧ s.driveState d = dOff) :=
  ⟨⟨mFab (fun f => { f with snap := [(0, 0, [1])] }) (binds [.snapshot []] up), 0, by decide +kernel⟩,
   ⟨up, 0, by decide +kernel⟩,
   ⟨State.wr up (R.DRV_TQ 0) 0x3F800000, 0, by decide +kernel⟩,
   ⟨up, 0, by decide +kernel⟩,
   ⟨on [((F.DRV_STATE_STATE (0)), dBrake)] up, 0, by decide +kernel⟩,
   ⟨on [((F.SP_CTRL_LOOP 0), 1)] up, 0, by decide +kernel⟩,
   ⟨on [((F.DRV_STATE_STATE (0)), dRun)] up, 0, 0, by decide +kernel⟩,
   ⟨on [((F.DRV_STATE_STATE (0)), dOff)] up, 0, 0, by decide +kernel⟩⟩

theorem test_met_ThermalRules :
    (∃ (s : State) (v : BitVec 16), s.sup.die = .running ∧ ((∀ i < 16, s.excluded i = false)) ∧ ((∀ k < 4, s.therm.count.get k < 3)) ∧ s.therm.hard = false) ∧
    (∃ (s : State), s.sup.die = .running) ∧
    (∃ (s : State), s.sup.die = .running ∧ s.on F.THRM_STATUS_THROTTLE = false ∧ s.driveState 0 = dOff ∧ s.driveState 1 = dOff) ∧
    (∃ (s : State), s.sup.die = .running ∧ s.on F.THRM_STATUS_THROTTLE = true ∧ s.driveState 0 = dOff ∧ s.driveState 1 = dOff) ∧
    (∃ (s : State) (n : Nat) (v : Int), n < 6) ∧
    (∃ (s : State) (n : Fin 6), s.sup.die = .running ∧ s.clocked 0x14 = true ∧ s.on (F.THRM_NTC_EN n) = true) ∧
    (∃ (s : State) (n : Nat), n < 6) ∧
    (∃ (s : State), ((∀ n < 6, s.on (F.THRM_NTC_EN n) = false))) :=
  ⟨⟨mTherm (fun x => { x with hard := false }) up, 0, by decide +kernel⟩,
   ⟨up, by decide +kernel⟩,
   ⟨on [(F.THRM_STATUS_THROTTLE, 0), ((F.DRV_STATE_STATE 0), dOff), ((F.DRV_STATE_STATE 1), dOff)] up, by decide +kernel⟩,
   ⟨on [(F.THRM_STATUS_THROTTLE, 1), ((F.DRV_STATE_STATE 0), dOff), ((F.DRV_STATE_STATE 1), dOff)] up, by decide +kernel⟩,
   ⟨up, 0, 0, by decide +kernel⟩,
   ⟨on [((F.THRM_NTC_EN (0)), 1)] run, 0, by decide +kernel⟩,
   ⟨up, 0, by decide +kernel⟩,
   ⟨up, by decide +kernel⟩⟩

theorem test_met_TuningCommands_1 :
    (∃ (s : State) (m : Master) (v : Word), s.sup.die = .running ∧ s.blockStops m R.SP_CTRL true = none ∧ ((∀ u < 4, s.unitOn u = false))) ∧
    (∃ (s : State) (m : Master) (v : Word), s.sup.die = .running ∧ s.blockStops m R.SP_CTRL true = none ∧ s.unitOn 0 = true ∧ (F.SP_CTRL_SRC 0).get v ≠ s.fld (F.SP_CTRL_SRC 0)) ∧
    (∃ (s : State) (k : Fin 2) (a : Nat) (b : Nat) (c : Nat) (g : Nat), s.sup.die = .running ∧ s.clocked 0x13 = true ∧ g = s.fld (F.PIN_CFG_GLITCH k) ∧ (s.pin k).level = s.on (F.PIN_CFG_POL k) ∧ a + g ≤ b ∧ b + g ≤ c) ∧
    (∃ (s : State) (k : Fin 2) (a : Nat) (b : Nat), s.sup.die = .running ∧ s.clocked 0x13 = true ∧ b < a + s.fld (F.PIN_CFG_GLITCH k)) ∧
    (∃ (s : State) (k : Fin 2), s.sup.die = .running ∧ s.clocked 0x13 = true ∧ s.on (F.PIN_PER_VALID k) = true) ∧
    (∃ (s : State) (m : Master) (g : Fin 2) (st : Nat) (c : Nat), s.sup.die = .running ∧ s.blockStops m (R.INJ_CMD g) true = none ∧ st = s.num48 (F.INJ_START_LO_S_LO g) (F.INJ_START_HI_S_HI g) ∧ c = s.startCode g st ∧ c ≠ 0) ∧
    (∃ (s : State) (m : Master) (g : Fin 2) (st : Nat), s.sup.die = .running ∧ s.blockStops m (R.INJ_CMD g) true = none ∧ st = s.num48 (F.INJ_START_LO_S_LO g) (F.INJ_START_HI_S_HI g) ∧ s.startCode g st = 0) ∧
    (∃ (s : State) (m : Master) (g : Fin 2), s.sup.die = .running ∧ s.blockStops m (R.INJ_CMD g) true = none ∧ s.fld (F.INJ_STATUS_STATE g) = 2) ∧
    (∃ (s : State) (m : Master) (g : Fin 2), s.sup.die = .running ∧ s.blockStops m (R.INJ_CMD g) true = none ∧ s.fld (F.INJ_STATUS_STATE g) ≠ 2) ∧
    (∃ (s : State) (m : Master) (g : Fin 2), s.sup.die = .running ∧ s.blockStops m (R.INJ_CMD g) true = none ∧ s.genBusy g = true ∧ (s.gen g).abort = 0) :=
  ⟨⟨run, .cox0, 0, by decide +kernel⟩,
   ⟨gate run, .cox0, 0x7FFFFFFF, by decide +kernel⟩,
   ⟨run, 0, 0, 0, 0, _, by decide +kernel, by decide +kernel, rfl, by decide +kernel⟩,
   ⟨run, 0, 5, 4, by decide +kernel⟩,
   ⟨on [((F.PIN_PER_VALID (0)), 1)] run, 0, by decide +kernel⟩,
   ⟨run, .cox0, 0, _, _, by decide +kernel, by decide +kernel, rfl, rfl, by decide +kernel⟩,
   ⟨on [((F.INJ_CFG_WAVE 0), 2), ((F.INJ_LEN_LEN 0), 1)] run, .cox0, 0, _, by decide +kernel, by decide +kernel, rfl, by decide +kernel⟩,
   ⟨on [((F.INJ_STATUS_STATE (0)), 2)] run, .cox0, 0, by decide +kernel⟩,
   ⟨run, .cox0, 0, by decide +kernel⟩,
   ⟨on [((F.INJ_STATUS_STATE 0), 3)] run, .cox0, 0, by decide +kernel⟩⟩

theorem test_met_TuningCommands_2 :
    (∃ (s : State) (m : Master) (g : Fin 2), s.sup.die = .running ∧ s.blockStops m (R.INJ_CMD g) true = none ∧ s.genBusy g = false) ∧
    (∃ (s : State) (m : Master) (p : Fin 8) (v : Word), s.sup.die = .running ∧ s.blockStops m (R.INJ_AMP p) true = none ∧ s.genBusy (s.fld (F.INJ_PTCTL_GEN p)) = true) ∧
    (∃ (s : State) (m : Master) (p : Fin 8) (v : Word) (u : Nat) (k : Nat) (a : Nat), s.sup.die = .running ∧ s.blockStops m (R.INJ_AMP p) true = none ∧ s.genBusy (s.fld (F.INJ_PTCTL_GEN p)) = false ∧ s.live.point p = some (u, k, a)) :=
  ⟨⟨run, .cox0, 0, by decide +kernel⟩,
   ⟨on [((F.INJ_STATUS_STATE 0), 1)] run, .cox0, 0, 0, by decide +kernel⟩,
   ⟨binds [.inject 0 [0, 5]] run, .cox0, 0, 0, 0, 0, 5, by decide +kernel⟩⟩

theorem test_met_CaptureChannels :
    (∃ (s : State) (m : Master) (c : Fin 8), s.sup.die = .running ∧ s.blockStops m (R.CAP_CMD c) true = none ∧ ((s.capState c = capArmed ∨ s.capState c = capRun))) ∧
    (∃ (s : State) (m : Master) (c : Fin 8), s.sup.die = .running ∧ s.blockStops m (R.CAP_CMD c) true = none ∧ s.capState c ≠ capArmed ∧ s.capState c ≠ capRun) ∧
    (∃ (s : State) (c : Nat) (ws : List Word), c < 8 ∧ (s.capState c = capFull ∨ s.capState c = capFrozen)) ∧
    (∃ (s : State) (c : Nat) (a : Nat) (n : Nat) (ws : List Word), c < 8 ∧ s.capState c = capRun ∧ n = s.fld (F.CAP_WIDX_WIDX c) ∧ n + 1 < s.capSize c ∧ n + 1 < 2 ^ 32 ∧ s.inj.post = [] ∧ a = s.capAddr c n) ∧
    (∃ (s : State) (g : Fin 2) (io : Fin 8) (frf : Fin 8) (k : Fin 32), s.sup.die = .running ∧ (s.fld F.FAB_ROT_STATE = 0 ∨ s.fld F.FAB_ROT_STATE = 2) ∧ s.fab.pool ≠ []) ∧
    (∃ (s : State) (g : Fin 2) (io : Fin 8) (frf : Fin 8) (k : Fin 32), s.sup.die = .running ∧ (s.fld F.FAB_ROT_STATE = 1 ∨ s.fld F.FAB_ROT_STATE = 3)) :=
  ⟨⟨on [((F.CAP_STAT_STATE 0), capArmed)] run, .cox0, 0, by decide +kernel⟩,
   ⟨run, .cox0, 0, by decide +kernel⟩,
   ⟨on [((F.CAP_STAT_STATE 0), capFrozen)] up, 0, [7], by decide +kernel⟩,
   ⟨mInj (fun x => { x with post := [] }) (on [((F.CAP_STAT_STATE (0)), capRun), ((F.CAP_GEOM_LEN 0), 1), ((F.CAP_WIDX_WIDX 0), 14)] up), 0, _, _, [7], by decide +kernel, by decide +kernel, rfl, by decide +kernel, by decide +kernel, by decide +kernel, rfl⟩,
   ⟨mFab (fun x => { x with pool := [3] }) up, 0, 0, 0, 0, by decide +kernel⟩,
   ⟨on [(F.FAB_ROT_STATE, 3)] up, 0, 0, 0, 0, by decide +kernel⟩⟩

theorem test_met_EncoderFeedback :
    (∃ (s : State) (x : Fin 2) (a : List (Nat × Bool)) (b : List (Nat × Bool)) (z : List (Nat × Bool)), s.sup.die = .running ∧ s.live.hasPos x = false) ∧
    (∃ (s : State) (x : Fin 2) (n : Nat) (m : Nat), s.sup.die = .running ∧ s.clocked (0x10 + x) = true ∧ s.live.hasPos x = true ∧ m ≤ n + s.fld (F.ENC_CFG_FILT x)) ∧
    (∃ (s : State) (x : Fin 2) (n : Nat), s.sup.die = .running ∧ s.clocked (0x10 + x) = true ∧ s.live.hasPos x = true ∧ (s.enc x).rev = false ∧ (s.enc x).a = ((s.enc x).b != s.on (F.ENC_CFG_INV x))) ∧
    (∃ (s : State) (x : Fin 2) (n : Nat), s.sup.die = .running ∧ s.clocked (0x10 + x) = true ∧ s.live.hasPos x = true ∧ (s.enc x).rev = true ∧ (s.enc x).a = ((s.enc x).b != s.on (F.ENC_CFG_INV x))) ∧
    (∃ (s : State) (x : Fin 2) (n : Nat), s.sup.die = .running ∧ s.clocked (0x10 + x) = true ∧ s.live.hasPos x = true ∧ (s.enc x).rev = ((s.enc x).a == ((s.enc x).b != s.on (F.ENC_CFG_INV x)))) ∧
    (∃ (s : State) (x : Fin 2) (n : Nat), s.sup.die = .running ∧ s.clocked (0x10 + x) = true ∧ s.live.hasPos x = true) ∧
    (∃ (s : State) (x : Fin 2) (n : Nat), s.sup.die = .running ∧ s.clocked (0x10 + x) = true ∧ s.live.hasPos x = true ∧ ((s.fld (F.ENC_CFG_ZMODE x) = 1 ∨ s.fld (F.ENC_CFG_ZMODE x) = 2)) ∧ (s.enc x).z = false ∧ (s.enc x).src = 0 ∧ (s.enc x).indexSeen = false ∧ (s.enc x).c < 2 ^ 32) ∧
    (∃ (s : State) (x : Fin 2) (n : Nat), s.sup.die = .running ∧ s.clocked (0x10 + x) = true ∧ s.live.hasPos x = true ∧ s.fld (F.ENC_CFG_ZMODE x) = 0 ∧ (s.enc x).z = false) ∧
    (∃ (s : State) (x : Fin 2), s.sup.die = .running ∧ s.clocked (0x10 + x) = true ∧ s.live.hasPos x = true) :=
  ⟨⟨up, 0, default, default, default, by decide +kernel⟩,
   ⟨binds [.pos 0 []] run, 0, 0, 0, by decide +kernel⟩,
   ⟨binds [.pos 0 []] run, 0, 0, by decide +kernel⟩,
   ⟨State.setEnc (binds [.pos 0 []] run) 0 { Enc.init with rev := true }, 0, 0, by decide +kernel⟩,
   ⟨State.setEnc (binds [.pos 0 []] run) 0 { Enc.init with a := true, b := true, rev := true }, 0, 0, by decide +kernel⟩,
   ⟨binds [.pos 0 []] run, 0, 0, by decide +kernel⟩,
   ⟨State.setEnc (binds [.pos 0 []] (on [((F.ENC_CFG_ZMODE 0), 1)] run)) 0 { Enc.init with z := false }, 0, 0, by decide +kernel⟩,
   ⟨State.setEnc (binds [.pos 0 []] (on [((F.ENC_CFG_ZMODE (0)), 0)] run)) 0 { Enc.init with z := false }, 0, 0, by decide +kernel⟩,
   ⟨binds [.pos 0 []] run, 0, by decide +kernel⟩⟩

theorem test_met_HallAndSerialFeedback_1 :
    (∃ (s : State) (x : Fin 2) (u : List (Nat × Bool)) (v : List (Nat × Bool)) (w : List (Nat × Bool)), s.sup.die = .running ∧ s.live.hasPos (2 + x) = false) ∧
    (∃ (s : State) (x : Fin 2) (k : Fin 3) (n : Nat) (lev : Nat) (v : Bool) (ch : Fin 3 → List (Nat × Bool)), s.sup.die = .running ∧ s.clocked (0x10 + x) = true ∧ s.live.hasPos (2 + x) = true ∧ v ≠ bit (s.hall x).level k ∧ ((s.hall x).code ≠ none ∨ n < (s.hall x).since + 64 * s.fld (F.HALL_CFG_HFILT x)) ∧ ch = (fun i => if i = k then [(n, v)] else []) ∧ lev = (if v then setBit (s.hall x).level k else clearBit (s.hall x).level k)) ∧
    (∃ (s : State) (x : Fin 2) (k : Fin 3) (n : Nat) (m : Nat) (ch : Fin 3 → List (Nat × Bool)), s.sup.die = .running ∧ s.clocked (0x10 + x) = true ∧ s.live.hasPos (2 + x) = true ∧ n ≤ m ∧ m < n + 64 * s.fld (F.HALL_CFG_HFILT x) ∧ ((s.hall x).code ≠ none ∨ n < (s.hall x).since + 64 * s.fld (F.HALL_CFG_HFILT x)) ∧ ch = (fun i => if i = k then [(n, !bit (s.hall x).level k), (m, bit (s.hall x).level k)] else [])) ∧
    (∃ (s : State) (x : Fin 2) (n : Nat) (m : Nat), s.sup.die = .running ∧ s.clocked (0x10 + x) = true ∧ s.live.hasPos (2 + x) = true ∧ (s.hall x).code = none ∧ m = (s.hall x).since + 64 * s.fld (F.HALL_CFG_HFILT x) ∧ m ≤ n) ∧
    (∃ (s : State) (t : State) (x : Fin 2) (c : Fin 8) (n : Nat), ((c = 0 ∨ c = 7)) ∧ t = s.hallState x c n) ∧
    (∃ (s : State) (t : State) (x : Fin 2) (p : Fin 8) (c : Fin 8) (n : Nat) (j : Nat), s.live.hasPos x = false ∧ (s.hall x).code = some p.val ∧ j < 6 ∧ p.val = (hallSeq (s.on (F.HALL_CFG_ORDER x))).getD j 0 ∧ c.val = (hallSeq (s.on (F.HALL_CFG_ORDER x))).getD ((j + 1) % 6) 0 ∧ t = s.hallState x c n) ∧
    (∃ (s : State) (t : State) (x : Fin 2) (p : Fin 8) (c : Fin 8) (n : Nat) (j : Nat) (k : Nat), (s.hall x).code = some p.val ∧ j < 6 ∧ k < 6 ∧ k ≠ j ∧ k ≠ (j + 1) % 6 ∧ j ≠ (k + 1) % 6 ∧ p.val = (hallSeq (s.on (F.HALL_CFG_ORDER x))).getD j 0 ∧ c.val = (hallSeq (s.on (F.HALL_CFG_ORDER x))).getD k 0 ∧ t = s.hallState x c n) ∧
    (∃ (s : State) (x : Fin 2) (c : Nat), s.sup.die = .running ∧ s.clocked (0x10 + x) = true ∧ (s.hall x).code = some c ∧ c ≠ 0 ∧ c ≠ 7) ∧
    (∃ (s : State) (x : Fin 2), s.sup.die = .running ∧ s.clocked (0x10 + x) = true ∧ s.live.hasPos (2 + x) = true) ∧
    (∃ (s : State) (x : Fin 2) (n : Nat) (tick : Nat), s.sup.die = .running ∧ s.clocked (0x10 + x) = true ∧ s.live.hasPos (4 + x) = true ∧ n % 2 ^ s.fld (F.SER_CFG_K x) = 0 ∧ (s.ser x).busy = false) :=
  ⟨⟨up, 0, default, default, default, by decide +kernel⟩,
   ⟨binds [.pos 2 []] (on [((F.HALL_CFG_HFILT 0), 1)] run), 0, 0, 0, _, false, _, by decide +kernel, by decide +kernel, by decide +kernel, by decide +kernel, Or.inr (by decide +kernel), rfl, rfl⟩,
   ⟨binds [.pos 2 []] (on [((F.HALL_CFG_HFILT 0), 1)] run), 0, 0, 4, 5, _, by decide +kernel, by decide +kernel, by decide +kernel, by decide +kernel, by decide +kernel, by decide +kernel, rfl⟩,
   ⟨binds [.pos 2 []] run, 0, 0, _, by decide +kernel, by decide +kernel, by decide +kernel, by decide +kernel, rfl, by decide +kernel⟩,
   ⟨up, _, 0, 0, 0, by decide +kernel, rfl⟩,
   ⟨State.setHall (binds [.pos 2 []] up) 0 { Hall.init with code := some 5 }, _, 0, 5, 1, 0, 5, by decide +kernel, by decide +kernel, by decide +kernel, by decide +kernel, by decide +kernel, rfl⟩,
   ⟨State.setHall (binds [.pos 2 []] up) 0 { Hall.init with code := some 1 }, _, 0, 1, 2, 0, 0, 2, by decide +kernel, by decide +kernel, by decide +kernel, by decide +kernel, by decide +kernel, by decide +kernel, by decide +kernel, by decide +kernel, rfl⟩,
   ⟨State.setHall run 0 { Hall.init with code := some 1 }, 0, 1, by decide +kernel⟩,
   ⟨binds [.pos 2 []] run, 0, by decide +kernel⟩,
   ⟨binds [.pos 4 []] run, 0, 0, 0, by decide +kernel⟩⟩

theorem test_met_HallAndSerialFeedback_2 :
    (∃ (s : State) (x : Fin 2) (low : Bool) (n : Nat) (tick : Nat), s.sup.die = .running ∧ s.clocked (0x10 + x) = true ∧ s.live.hasPos (4 + x) = true ∧ n % 2 ^ s.fld (F.SER_CFG_K x) = 0 ∧ ((s.ser x).busy = true ∨ low = true)) ∧
    (∃ (s : State) (x : Fin 2) (low : Bool) (n : Nat) (tick : Nat), s.sup.die = .running ∧ n % 2 ^ s.fld (F.SER_CFG_K x) ≠ 0) ∧
    (∃ (s : State) (t : State) (x : Fin 2) (di : List (Nat × Bool)) (t0 : Nat), s.sup.die = .running ∧ s.clocked (0x10 + x) = true ∧ (s.ser x).busy = true ∧ t0 = (s.ser x).frame.2 + s.fld (F.SER_TIME_TRIG x) ∧ t = s.setSer x { s.ser x with busy := false }) ∧
    (∃ (s : State) (x : Fin 2) (t0 : Nat) (di : List (Nat × Bool)), s.on (F.SER_CFG_PROTO x) = false) ∧
    (∃ (s : State) (x : Fin 2) (di : List (Nat × Bool)), s.sup.die = .running ∧ (s.ser x).busy = false) ∧
    (∃ (s : State) (x : Fin 2), s.sup.die = .running ∧ s.clocked (0x10 + x) = true ∧ (s.ser x).busy = true ∧ (s.ser x).codes = [] ∧ 1 < s.fld (F.SER_QCFG_QLOSS x) ∧ (s.ser x).qual = false) :=
  ⟨⟨binds [.pos 4 []] run, 0, true, 0, 0, by decide +kernel⟩,
   ⟨on [((F.SER_CFG_K 0), 1)] up, 0, true, 1, 0, by decide +kernel⟩,
   ⟨State.setSer run 0 { Ser.init with busy := true }, _, 0, [], _, by decide +kernel, by decide +kernel, by decide +kernel, rfl, rfl⟩,
   ⟨on [((F.SER_CFG_PROTO (0)), 0)] up, 0, 0, default, by decide +kernel⟩,
   ⟨up, 0, default, by decide +kernel⟩,
   ⟨State.setSer (on [((F.SER_QCFG_QLOSS 0), 2)] run) 0 { Ser.init with busy := true }, 0, by decide +kernel⟩⟩

theorem test_met_SelfTestAndBoot_1 :
    (∃ (s : State) (sig : Word), s.sup.umpire = true ∧ ((s.sup.die = .down ∨ s.sup.die = .held)) ∧ s.sup.umpTest = false) ∧
    (∃ (s : State) (reads : List GateRead), s.sup.umpire = true ∧ s.gateTestDue = true) ∧
    (∃ (s : State) (fails : List MemLine) (again : List (Fin 88)) (ms : Nat) (m : MemTest), s.sup.die = .running ∧ s.boot.step = 0 ∧ m = memTest s.fuses.repairs fails again ∧ m.fatal = none) ∧
    (∃ (s : State) (fails : List MemLine) (again : List (Fin 88)) (ms : Nat), s.sup.die = .running ∧ s.boot.step = 0) ∧
    (∃ (s : State) (fails : List MemLine) (again : List (Fin 88)) (ms : Nat) (a : Nat), s.sup.die = .running ∧ s.boot.step = 0 ∧ (memTest s.fuses.repairs fails again).fatal = some a) ∧
    (∃ (repairs : List MemLine) (fails : List MemLine) (again : List (Fin 88)) (x : MemLine) (a : Fin 88) (short : Fin 88 → Prop), ((∀ a, short a ↔ ∃ c : Bool, spares a c < sparesOf repairs a c + sparesOf (fails.eraseDups.filter (fun x => !repairs.contains x)) a c))) ∧
    (∃ (s : State) (x : Word) (y : Word) (a : Nat) (b : Nat), s.sup.die = .running ∧ s.boot.step = 1) ∧
    (∃ (s : State) (x : Word) (y : Word) (z : Word) (a : Nat) (b : Nat) (c : Nat), s.sup.die = .running ∧ s.boot.step = 2 ∧ s.sigMatches 1 x = true ∧ s.sigMatches 2 y = true ∧ s.sigMatches 4 z = true) ∧
    (∃ (s : State) (x : Word) (y : Word) (z : Word) (a : Nat) (b : Nat) (c : Nat) (i : Fin 8), s.sup.die = .running ∧ s.boot.step = 2 ∧ [(1, x), (2, y), (4, z)].find? (fun e : Fin 8 × Word => !s.sigMatches e.1 e.2) = some (i, [x, y, z].getD (i.val / 2) 0)) ∧
    (∃ (s : State) (same : List ResetCause), s.sup.die = .running) :=
  ⟨⟨mSup (fun x => { x with die := .held }) up, 0, by decide +kernel⟩,
   ⟨mSup (fun x => { x with die := .down, umpTest := true }) up, [], by decide +kernel⟩,
   ⟨mBoot (fun x => { x with step := 0 }) up, [], [], 0, _, by decide +kernel, by decide +kernel, rfl, by decide +kernel⟩,
   ⟨mBoot (fun x => { x with step := 0 }) up, [], [], 0, by decide +kernel⟩,
   ⟨mBoot (fun x => { x with step := 0 }) up, [⟨0, false, 3⟩], [0], 0, 0, by decide +kernel⟩,
   ⟨[], [], [], ⟨0, false, 3⟩, 0, fun a => ∃ c : Bool, spares a c < sparesOf [] a c + sparesOf (([] : List MemLine).eraseDups.filter (fun x => !([] : List MemLine).contains x)) a c, fun _ => Iff.rfl⟩,
   ⟨mBoot (fun x => { x with step := 1 }) up, 0, 0, 0, 0, by decide +kernel⟩,
   ⟨mBoot (fun x => { x with step := 2 }) up, 0, 0, 0, 0, 0, 0, by decide +kernel⟩,
   ⟨mBoot (fun x => { x with step := 2 }) up, 1, 0, 0, 0, 0, 0, 1, by decide +kernel⟩,
   ⟨up, [], by decide +kernel⟩⟩

theorem test_met_SelfTestAndBoot_2 :
    (∃ (s : State) (ms : Nat), s.sup.die = .running ∧ s.boot.step = 3) ∧
    (∃ (s : State) (loops : List Loopback) (x : Loopback) (ms : Nat), s.sup.die = .running ∧ s.boot.step = 3 ∧ x ∈ loops ∧ loopOk x 10648 64 8192 = false) ∧
    (∃ (s : State) (seed : List Byte), s.sup.die = .running ∧ s.boot.latch = some seed) ∧
    (∃ (s : State) (ok : Bool), s.sup.die = .running ∧ s.boot.latch = none) ∧
    (∃ (s : State) (u : State) (slot : Nat) (image : List Byte) (rest : List (Nat × List Byte)) (flash : List (Nat × List Byte)) (ms : Nat), s.sup.die = .running ∧ s.boot.step = 4 ∧ u = s.set F.SEC_BOOT_MS (min ms 255) ∧ s.fwSlots (flashSlot flash 0) (flashSlot flash 1) = (slot, image) :: rest) ∧
    (∃ (s : State) (flash : List (Nat × List Byte)) (ms : Nat), s.sup.die = .running ∧ s.boot.step = 4 ∧ s.fwSlots (flashSlot flash 0) (flashSlot flash 1) = [] ∧ s.boot.tried = []) ∧
    (∃ (s : State) (a : List Byte) (b : List Byte), fwCandidate a = true ∧ fwCandidate b = true ∧ s.boot.tried = []) ∧
    (∃ (s : State) (c : Fin 4), s.sup.die = .running ∧ s.self.reqs.find? (fun r => r.chan == c.val && s.testDue r) = none) ∧
    (∃ (s : State) (c : Fin 4) (r : SelfReq), s.sup.die = .running ∧ s.self.reqs.find? (fun r => r.chan == c.val && s.testDue r) = some r) ∧
    (∃ (s : State) (c : Fin 4) (r : SelfReq) (loops : List Loopback) (refs : List SarRefs) (g : List GateRead), s.sup.die = .running ∧ s.self.reqs.find? (fun r => r.chan == c.val && r.phase == 4) = some r ∧ r.kind = 4 ∧ r.sd = [] ∧ r.sar = 0) :=
  ⟨⟨mBoot (fun x => { x with step := 3 }) up, 0, by decide +kernel⟩,
   ⟨mBoot (fun x => { x with step := 3 }) up, [⟨0, 0, 0, 0, 0⟩], ⟨0, 0, 0, 0, 0⟩, 0, by decide +kernel⟩,
   ⟨mBoot (fun x => { x with latch := some ([]) }) up, [], by decide +kernel⟩,
   ⟨mBoot (fun x => { x with latch := none }) up, true, by decide +kernel⟩,
   ⟨mBoot (fun x => { x with step := 4 }) up, _, 0, (le 4 0x5746525A ++ le 2 1 ++ le 2 0xA1 ++ le 4 0 ++ le 4 64 ++ List.replicate 48 0), [], [(0, (le 4 0x5746525A ++ le 2 1 ++ le 2 0xA1 ++ le 4 0 ++ le 4 64 ++ List.replicate 48 0))], 0, by decide +kernel, by decide +kernel, rfl, by decide +kernel⟩,
   ⟨mBoot (fun x => { x with step := 4, tried := [] }) up, [], 0, by decide +kernel⟩,
   ⟨mBoot (fun x => { x with tried := [] }) up, (le 4 0x5746525A ++ le 2 1 ++ le 2 0xA1 ++ le 4 0 ++ le 4 64 ++ List.replicate 48 0), (le 4 0x5746525A ++ le 2 1 ++ le 2 0xA1 ++ le 4 0 ++ le 4 64 ++ List.replicate 48 0), by decide +kernel⟩,
   ⟨up, 0, by decide +kernel⟩,
   ⟨mSelf (fun c => { c with reqs := [⟨2, 2, 0, 2, [], 0⟩] }) up, 0, ⟨2, 2, 0, 2, [], 0⟩, by decide +kernel⟩,
   ⟨mSelf (fun c => { c with reqs := [⟨4, 0, 0, 4, [], 0⟩] }) up, 0, ⟨4, 0, 0, 4, [], 0⟩, [], [], [], by decide +kernel⟩⟩

theorem test_met_SelfTestAndBoot_3 :
    (∃ (s : State) (c : Fin 4) (r : SelfReq) (reads : List (List (BitVec 16))) (i : Nat), s.sup.die = .running ∧ s.self.reqs.find? (fun r => r.chan == c.val && r.phase == 4) = some r ∧ r.kind = 4 ∧ i < 16 ∧ bit (s.sensorFails reads) i = true ∧ s.excluded i = false) ∧
    (∃ (s : State) (c : Fin 4) (r : SelfReq) (x : Loopback) (n : Nat) (g : Nat) (p : Nat), s.sup.die = .running ∧ s.self.reqs.find? (fun r => r.chan == c.val && r.phase == 4) = some r ∧ r.kind = 2 ∧ r.sd = [(n, g, p)] ∧ x.input = n ∧ loopOk x g p (g + 2048) = false) ∧
    (∃ (s : State) (c : Fin 4) (r : SelfReq) (gates : List GateRead) (b : Fin 52), s.sup.die = .running ∧ s.self.reqs.find? (fun r => r.chan == c.val && r.phase == 4) = some r ∧ r.kind = 3 ∧ r.sd = [] ∧ r.sar = 0 ∧ gateFails gates = some b) ∧
    (∃ (s : State) (c : Nat) (g : Signing), s.sup.die = .running ∧ s.boot.sign = some g ∧ g.chan = some c ∧ c < 4 ∧ s.bufferHeld = false) ∧
    (∃ (s : State), s.sup.die = .running ∧ s.boot.sign = none) :=
  ⟨⟨mSelf (fun c => { c with reqs := [⟨4, 0, 0, 4, [], 0⟩] }) up, 0, ⟨4, 0, 0, 4, [], 0⟩, [(400 : BitVec 16) :: List.replicate 15 0], 0, by decide +kernel⟩,
   ⟨mSelf (fun c => { c with reqs := [⟨2, 2, 0, 4, [(0, 10648, 64)], 0⟩] }) up, 0, ⟨2, 2, 0, 4, [(0, 10648, 64)], 0⟩, ⟨0, 0, 0, 0, 0⟩, 0, 10648, 64, by decide +kernel⟩,
   ⟨mSelf (fun c => { c with reqs := [⟨3, 0, 0, 4, [], 0⟩] }) up, 0, ⟨3, 0, 0, 4, [], 0⟩, [], 0, by decide +kernel⟩,
   ⟨mBoot (fun x => { x with sign := some (⟨some 0, [], 0⟩) }) up, 0, ⟨some 0, [], 0⟩, by decide +kernel⟩,
   ⟨mBoot (fun x => { x with sign := none }) up, by decide +kernel⟩⟩

theorem test_met_FusesAndEntry_1 :
    (∃ (s : State) (m : Master), s.sup.die = .running ∧ s.fw = true ∧ s.blockStops m R.SEC_FCMD true = none ∧ s.boot.fuse ≠ none) ∧
    (∃ (s : State) (m : Master) (o : List Byte), s.sup.die = .running ∧ s.fw = true ∧ s.blockStops m R.SEC_FCMD true = none ∧ s.boot.fuse = none ∧ o = s.bufBytes 7443 ∧ s.fuses.done.contains o = false) ∧
    (∃ (s : State) (m : Master) (c : Nat) (b : Bool), s.sup.die = .running ∧ s.blockStops m R.SEC_FCMD true = some (c, b)) ∧
    (∃ (s : State) (o : List Byte), s.sup.die = .running ∧ s.boot.fuse = some o) ∧
    (∃ (s : State) (o : List Byte), s.sup.die = .running ∧ s.boot.fuse = some o) ∧
    (∃ (s : State) (ok : Bool), s.sup.die = .running ∧ s.boot.fuse = none) ∧
    (∃ (s : State) (x : Fin 2), s.sup.die = .running ∧ s.boot.step = 9) ∧
    (∃ (s : State) (x : Fin 2), s.sup.die = .running ∧ s.boot.step ≠ 9 ∧ s.fld F.SEC_LC_STATE = 2) ∧
    (∃ (s : State) (x : Fin 2), s.sup.die = .running ∧ s.boot.step ≠ 9 ∧ s.fld F.SEC_LC_STATE ≠ 2) ∧
    (∃ (s : State) (x : Fin 2), s.sup.umpire = true ∧ (s.sup.die = .held ∨ s.sup.die = .resetHold) ∧ s.fuses.lc ≠ 2) :=
  ⟨⟨mBoot (fun x => { x with fuse := some [] }) run, .cox0, by decide +kernel⟩,
   ⟨mBoot (fun x => { x with fuse := none }) run, .cox0, _, by decide +kernel, by decide +kernel, by decide +kernel, by decide +kernel, rfl, by decide +kernel⟩,
   ⟨on [(F.PAGE_LOCK_LOCK 0x1A, 1), (F.PAGE_LOCK_OWNER 0x1A, 3)] up, .can0, 6, false, by decide +kernel⟩,
   ⟨mBoot (fun x => { x with fuse := some ([]) }) up, [], by decide +kernel⟩,
   ⟨mBoot (fun x => { x with fuse := some ([]) }) up, [], by decide +kernel⟩,
   ⟨mBoot (fun x => { x with fuse := none }) up, true, by decide +kernel⟩,
   ⟨mBoot (fun x => { x with step := 9 }) up, 0, by decide +kernel⟩,
   ⟨on [(F.SEC_LC_STATE, 2)] up, 0, by decide +kernel⟩,
   ⟨up, 0, by decide +kernel⟩,
   ⟨mSup (fun x => { x with die := .held }) up, 0, by decide +kernel, Or.inl rfl, by decide +kernel⟩⟩

theorem test_met_FusesAndEntry_2 :
    (∃ (s : State), s.sup.die = .running ∧ s.boot.entry = 0 ∧ s.boot.step ≠ 9 ∧ ((s.fld F.SEC_LC_STATE = 0 ∨ s.fld F.SEC_LC_STATE = 3))) ∧
    (∃ (s : State), s.sup.die = .running ∧ s.boot.entry = 0 ∧ s.boot.step ≠ 9 ∧ ((s.fld F.SEC_LC_STATE = 1 ∨ s.fld F.SEC_LC_STATE = 2))) ∧
    (∃ (s : State), s.sup.die = .running ∧ (s.boot.entry ≠ 0 ∨ s.boot.step = 9)) ∧
    (∃ (s : State), s.sup.die = .running ∧ s.boot.entry = 3) ∧
    (∃ (s : State), s.sup.die = .running ∧ ((s.boot.entry = 1 ∨ s.boot.entry = 2))) ∧
    (∃ (s : State), s.sup.die = .running ∧ s.boot.entry ≠ 0) ∧
    (∃ (s : State) (ok : Bool), s.sup.die = .running ∧ s.boot.entry = 0) :=
  ⟨⟨mBoot (fun x => { x with entry := 0 }) (on [(F.SEC_LC_STATE, 3)] up), by decide +kernel⟩,
   ⟨mBoot (fun x => { x with entry := 0 }) up, by decide +kernel⟩,
   ⟨mBoot (fun x => { x with entry := 1 }) up, by decide +kernel, Or.inl (by decide +kernel)⟩,
   ⟨mBoot (fun x => { x with entry := 3 }) up, by decide +kernel⟩,
   ⟨mBoot (fun x => { x with entry := 2 }) up, by decide +kernel⟩,
   ⟨mBoot (fun x => { x with entry := 3 }) up, by decide +kernel⟩,
   ⟨mBoot (fun x => { x with entry := 0 }) up, true, by decide +kernel⟩⟩

theorem test_met_MailboxServices_1 :
    (∃ (s : State) (c : Fin 4), s.mail.order.head? ≠ some c.val) ∧
    (∃ (s : State) (c : Fin 4), Takes c svInfo s) ∧
    (∃ (s : State) (c : Fin 4), Takes c svLoad s ∧ 2 < s.mbArg c 0) ∧
    (∃ (s : State) (c : Fin 4), Takes c svLoad s ∧ s.mbArg c 0 ≤ 2 ∧ s.takesPlans = false) ∧
    (∃ (s : State) (c : Fin 4), Takes c svLoad s ∧ s.mbArg c 0 ≤ 2 ∧ s.takesPlans = true ∧ s.fld F.CASC_STATE_ROLE ≠ 2 ∧ s.load.phase ≠ 0) ∧
    (∃ (s : State) (c : Fin 4), Takes c svLoad s ∧ s.mbArg c 0 ≤ 2 ∧ s.takesPlans = true ∧ s.fld F.CASC_STATE_ROLE ≠ 2 ∧ s.load.phase = 0 ∧ s.switching = false ∧ s.fab.waiting = false) ∧
    (∃ (s : State) (c : Fin 4), Takes c svActivate s ∧ (s.taken c).blockStops .cox0 R.PLAN_CMD true = none ∧ s.fab.waiting = false ∧ s.stageState = sVerified ∧ s.stage.fits = true ∧ s.seatsFit s.stage = true ∧ ((s.taken c).dcoMeets s.stage).1 = true ∧ s.liveValid = false ∧ ((∀ d < 2, s.stage.catchLow d = false))) ∧
    (∃ (s : State) (t : State) (c : Fin 4) (k : Nat), Takes c svActivate s ∧ (s.taken c).blockStops .cox0 R.PLAN_CMD true = none ∧ (s.taken c).planActivate = (k, t) ∧ k ≠ 0) ∧
    (∃ (s : State) (c : Fin 4), Takes c svArm s ∧ 0xFFFF < s.mbArg c 1) ∧
    (∃ (s : State) (u : State) (t : State) (c : Fin 4) (k : Nat), Takes c svArm s ∧ s.mbArg c 1 ≤ 0xFFFF ∧ s.isCrew = false ∧ s.cascaded = false ∧ (s.taken c).blockStops .cox0 R.PLAN_CMD true = none ∧ u = ((s.taken c).set F.PLAN_TARGET_LO_N_LO (s.mbArg c 0)).set F.PLAN_TARGET_HI_N_HI (s.mbArg c 1) ∧ u.localArm = (k, t) ∧ s.mbArg c 0 < 2 ^ 32) :=
  ⟨⟨up, 0, by decide +kernel⟩,
   ⟨ask svInfo [] up, 0, by unfold Takes; decide +kernel⟩,
   ⟨ask svLoad [3] up, 0, by unfold Takes; decide +kernel⟩,
   ⟨ask svLoad [2] (on [(F.SEC_LC_STATE, 0)] up), 0, by unfold Takes; decide +kernel⟩,
   ⟨ask svLoad [2] (mLoad (fun x => { x with phase := 2 }) (on [(F.SEC_LC_STATE, 1)] up)), 0, by unfold Takes; decide +kernel⟩,
   ⟨ask svLoad [0] (mFab (fun x => { x with waiting := false }) (mLoad (fun x => { x with phase := 0 }) (on [(F.SEC_LC_STATE, 1)] up))), 0, by unfold Takes; decide +kernel⟩,
   ⟨ask svActivate [] (on [(F.PLAN_STATUS_LIVE_VALID, 0)] (armable run)), 0, by unfold Takes; decide +kernel⟩,
   ⟨ask svActivate [] run, _, 0, _, by unfold Takes; decide +kernel, by decide +kernel, Prod.mk.eta.symm, by decide +kernel⟩,
   ⟨ask svArm [0, 0x10000] up, 0, by unfold Takes; decide +kernel⟩,
   ⟨ask svArm [5, 0] run, _, _, 0, _, by unfold Takes; decide +kernel, by decide +kernel, by decide +kernel, by decide +kernel, by decide +kernel, rfl, Prod.mk.eta.symm, by decide +kernel⟩⟩

theorem test_met_MailboxServices_2 :
    (∃ (s : State) (c : Fin 4), Takes c svArm s ∧ s.mbArg c 1 ≤ 0xFFFF ∧ s.isCrew = true) ∧
    (∃ (s : State) (t : State) (c : Fin 4) (k : Nat), Takes c svCancel s ∧ (s.taken c).blockStops .cox0 R.PLAN_CMD true = none ∧ (s.taken c).planCancel = (k, t)) ∧
    (∃ (s : State) (c : Fin 4), Takes c svCancel s ∧ (s.taken c).blockStops .cox0 R.PLAN_CMD true = none ∧ s.stageState ≠ sArmed ∧ s.stageState ≠ sCommitted) ∧
    (∃ (s : State) (c : Fin 4), Takes c svCalibrate s ∧ (3 < s.mbArg c 0 ∨ s.mbArg c 1 < 6 ∨ 10 < s.mbArg c 1)) ∧
    (∃ (s : State) (c : Fin 4), Takes c svCalibrate s ∧ s.mbArg c 0 ≤ 3 ∧ 6 ≤ s.mbArg c 1 ∧ s.mbArg c 1 ≤ 10 ∧ (s.calOf (s.mbArg c 0)).1 = .idle ∧ s.unitOff (s.mbArg c 0) = true) ∧
    (∃ (s : State) (c : Fin 4), Takes c svCalibrate s ∧ s.mbArg c 0 ≤ 3 ∧ 6 ≤ s.mbArg c 1 ∧ s.mbArg c 1 ≤ 10 ∧ (s.calOf (s.mbArg c 0)).1 = .idle ∧ s.unitOff (s.mbArg c 0) = false ∧ bit (s.mbArg c 2) 0 = false) ∧
    (∃ (s : State) (c : Fin 4) (b : Bool), Takes c svCalibrate s ∧ s.mbArg c 0 ≤ 3 ∧ 6 ≤ s.mbArg c 1 ∧ s.mbArg c 1 ≤ 10 ∧ (s.calOf (s.mbArg c 0)).1 = .idle ∧ s.unitOff (s.mbArg c 0) = false ∧ bit (s.mbArg c 2) 0 = true ∧ 4 ≤ s.pllState ∧ s.calFits (s.mbArg c 0) (s.mbArg c 1) = (b, s)) ∧
    (∃ (s : State) (u : Nat) (log : Nat), 4 ≤ s.pllState) ∧
    (∃ (s : State) (c : Fin 4), Takes c svSelftest s ∧ (s.mbArg c 0 < 1 ∨ 4 < s.mbArg c 0)) ∧
    (∃ (s : State) (c : Fin 4) (k : Nat) (u : Nat), Takes c svSelftest s ∧ k = s.mbArg c 0 ∧ u = (if k = 2 then s.mbArg c 1 else 0) ∧ 1 ≤ k ∧ k ≤ 4 ∧ u ≤ 3 ∧ ((∀ r ∈ s.self.reqs, r.kind ≠ k ∨ r.unit ≠ u)) ∧ s.testNeeds k u = true) :=
  ⟨⟨ask svArm [0, 0xFFFF] (on [(F.CASC_CFG_DEVICES, 8), (F.CASC_STATE_ROLE, roleCrew)] up), 0, by unfold Takes; decide +kernel⟩,
   ⟨ask svCancel [] run, _, 0, _, by unfold Takes; decide +kernel, by decide +kernel, Prod.mk.eta.symm⟩,
   ⟨ask svCancel [] run, 0, by unfold Takes; decide +kernel⟩,
   ⟨ask svCalibrate [0, 11] up, 0, by unfold Takes; decide +kernel⟩,
   ⟨ask svCalibrate [3, 6] up, 0, by unfold Takes; decide +kernel⟩,
   ⟨gate (ask svCalibrate [0, 10, 0] up), 0, by unfold Takes; decide +kernel⟩,
   ⟨gate (on [(F.PLL_STATUS_STATE, 4)] (ask svCalibrate [0, 10, 1] up)), 0, false, by unfold Takes; decide +kernel⟩,
   ⟨on [(F.PLL_STATUS_STATE, 4)] up, 0, 0, by decide +kernel⟩,
   ⟨ask svSelftest [5] up, 0, by unfold Takes; decide +kernel⟩,
   ⟨ask svSelftest [2, 3] up, 0, 2, 3, by unfold Takes; decide +kernel⟩⟩

theorem test_met_MailboxServices_3 :
    (∃ (s : State) (c : Fin 4) (k : Nat) (u : Nat), Takes c svSelftest s ∧ k = s.mbArg c 0 ∧ u = (if k = 2 then s.mbArg c 1 else 0) ∧ 1 ≤ k ∧ k ≤ 4 ∧ u ≤ 3 ∧ ((∀ r ∈ s.self.reqs, r.kind ≠ k ∨ r.unit ≠ u)) ∧ s.testNeeds k u = false) ∧
    (∃ (s : State) (c : Fin 4), Takes c svFsClear s ∧ svLeg (s.mbArg c 0) (s.mbArg c 1) = none) ∧
    (∃ (s : State) (t : State) (c : Fin 4) (l : Nat) (k : Nat), Takes c svFsClear s ∧ svLeg (s.mbArg c 0) (s.mbArg c 1) = some l ∧ (s.taken c).blockStops .cox0 (R.LEG_FS l) true = none ∧ (s.taken c).fsClear l = (k, t)) ∧
    (∃ (s : State) (c : Fin 4), Takes c svBrkClear s ∧ 3 < s.mbArg c 0) ∧
    (∃ (s : State) (t : State) (c : Fin 4) (k : Nat), Takes c svBrkClear s ∧ s.mbArg c 0 ≤ 3 ∧ (s.taken c).blockStops .cox0 (R.PROT_BRKCTL (s.mbArg c 0)) true = none ∧ (s.taken c).brkClear (s.mbArg c 0) = (k, t)) ∧
    (∃ (s : State) (c : Fin 4), Takes c svRelease s ∧ 3 < s.mbArg c 0) ∧
    (∃ (s : State) (c : Fin 4), Takes c svRelease s ∧ s.mbArg c 0 ≤ 3 ∧ s.on F.THRM_STATUS_SHUTDOWN = true) ∧
    (∃ (s : State) (c : Fin 4), Takes c svRelease s ∧ s.mbArg c 0 ≤ 3 ∧ s.on F.THRM_STATUS_SHUTDOWN = false ∧ s.umpHolds (s.mbArg c 0) = false ∧ s.on (F.PROT_STATE_HELD (s.mbArg c 0)) = false) ∧
    (∃ (s : State) (t : State) (c : Fin 4) (k : Nat), Takes c svRelease s ∧ s.mbArg c 0 ≤ 3 ∧ s.on F.THRM_STATUS_SHUTDOWN = false ∧ s.umpHolds (s.mbArg c 0) = true ∧ (s.taken c).blockStops .cox0 R.UMP_RELEASE true = none ∧ (s.taken c).umpRelease (s.mbArg c 0) = (k, t)) ∧
    (∃ (s : State) (t : State) (c : Fin 4) (u : Nat) (k : Nat), s.on (F.PROT_STATE_HELD u) = true ∧ s.blockStops .cox0 (R.PROT_CLR u) true = none ∧ s.protRelease u = (k, t)) :=
  ⟨⟨gate (ask svSelftest [2, 0, 0] up), 0, 2, 0, by unfold Takes; decide +kernel⟩,
   ⟨ask svFsClear [0x0B, 9] up, 0, by unfold Takes; decide +kernel⟩,
   ⟨ask svFsClear [0x0D, 5] run, _, 0, 23, _, by unfold Takes; decide +kernel, by decide +kernel, by decide +kernel, Prod.mk.eta.symm⟩,
   ⟨ask svBrkClear [4] up, 0, by unfold Takes; decide +kernel⟩,
   ⟨ask svBrkClear [3] run, _, 0, _, by unfold Takes; decide +kernel, by decide +kernel, by decide +kernel, Prod.mk.eta.symm⟩,
   ⟨ask svRelease [4] up, 0, by unfold Takes; decide +kernel⟩,
   ⟨ask svRelease [3] (on [(F.THRM_STATUS_SHUTDOWN, 1)] up), 0, by unfold Takes; decide +kernel⟩,
   ⟨ask svRelease [3] (on [(F.THRM_STATUS_SHUTDOWN, 0)] up), 0, by unfold Takes; decide +kernel⟩,
   ⟨on [(F.THRM_STATUS_SHUTDOWN, 0), (F.UMP_STATE_HELD, 1)] (ask svRelease [0] up), _, 0, _, by unfold Takes; decide +kernel, by decide +kernel, by decide +kernel, by decide +kernel, by decide +kernel, Prod.mk.eta.symm⟩,
   ⟨on [((F.PROT_STATE_HELD (0)), 1)] run, _, 0, 0, _, by decide +kernel, by decide +kernel, Prod.mk.eta.symm⟩⟩

theorem test_met_MailboxServices_4 :
    (∃ (s : State) (c : Fin 4), Takes c svDischarge s ∧ s.mbArg c 0 ≠ 1 ∧ s.mbArg c 0 ≠ 2) ∧
    (∃ (s : State) (t : State) (c : Fin 4), Takes c svDischarge s ∧ (s.taken c).blockStops .cox0 R.PROT_DISCMD true = none) ∧
    (∃ (s : State) (c : Fin 4), Takes c svContactor s ∧ (s.mbArg c 0 < 1 ∨ 5 < s.mbArg c 0)) ∧
    (∃ (s : State) (c : Fin 4), Takes c svContactor s ∧ 1 ≤ s.mbArg c 0 ∧ s.mbArg c 0 ≤ 3 ∧ (s.taken c).blockStops .cox0 R.UMP_CTRCMD true = none) ∧
    (∃ (s : State) (w : State) (c : Fin 4) (a : Nat) (k : Nat) (quiet : Bool), w = (s.taken c).refuse .cox0 a k true ∧ (s.taken c).blockStops .cox0 a true = some (k, quiet)) ∧
    (∃ (s : State), s.boot.step ≠ 6) ∧
    (∃ (s : State), s.mail.order = []) ∧
    (∃ (s : State) (c : Nat) (l : List Nat), s.boot.step = 6 ∧ s.mail.order = c :: l) ∧
    (∃ (k : Nat), k ∉ [svInfo, svLoad, svActivate, svArm, svCancel, svCalibrate, svSelftest, svFsClear, svBrkClear, svRelease, svDischarge, svContactor, svAttest, svPairing, svAbort]) ∧
    (∃ (s : State) (c : Fin 4), Takes c svAttest s ∧ s.bufferHeld = true) :=
  ⟨⟨ask svDischarge [3] up, 0, by unfold Takes; decide +kernel⟩,
   ⟨ask svDischarge [1] run, up, 0, by unfold Takes; decide +kernel⟩,
   ⟨ask svContactor [6] up, 0, by unfold Takes; decide +kernel⟩,
   ⟨ask svContactor [3] run, 0, by unfold Takes; decide +kernel⟩,
   ⟨ask svActivate [] up, _, 0, R.PLAN_CMD, 1, false, rfl, by decide +kernel⟩,
   ⟨mBoot (fun b => { b with step := 5 }) up, by decide +kernel⟩,
   ⟨mMail (fun x => { x with order := [] }) up, by decide +kernel⟩,
   ⟨ask 0x99 [] up, 0, [], by decide +kernel⟩,
   ⟨0, by decide +kernel⟩,
   ⟨ask svAttest [] (mLoad (fun x => { x with phase := 1 }) up), 0, by unfold Takes; decide +kernel⟩⟩

theorem test_met_MailboxServices_5 :
    (∃ (s : State) (c : Fin 4), Takes c svAttest s ∧ s.bufferHeld = false ∧ s.boot.sign = none ∧ s.on F.SEC_LC_KEYS_VALID = false) ∧
    (∃ (s : State) (c : Fin 4), Takes c svAttest s ∧ s.bufferHeld = false ∧ s.boot.sign = none ∧ s.on F.SEC_LC_KEYS_VALID = true) ∧
    (∃ (s : State) (c : Fin 4), Takes c svPairing s ∧ s.mbArg c 0 = 1) ∧
    (∃ (s : State) (c : Fin 4), Takes c svPairing s ∧ s.mbArg c 0 ≠ 1 ∧ s.mbArg c 0 ≠ 2) ∧
    (∃ (s : State) (c : Fin 4), Takes c svPairing s ∧ s.mbArg c 0 = 2 ∧ s.takesPlans = false) ∧
    (∃ (s : State) (c : Fin 4) (o : List Byte), Takes c svPairing s ∧ s.mbArg c 0 = 2 ∧ s.takesPlans = true ∧ s.mbArg c 1 ≤ 262144 ∧ o = s.bufBytes (s.mbArg c 1)) ∧
    (∃ (s : State) (m : Master) (c : Fin 4), s.sup.die = .running ∧ s.blockStops m (R.MB_REQ c) true = none ∧ s.mbState c = mbQueued) ∧
    (∃ (s : State) (m : Master) (c : Fin 4) (r : SelfReq), s.sup.die = .running ∧ s.blockStops m (R.MB_REQ c) true = none ∧ s.mbState c = mbAccepted ∧ s.runningTest c = some r) ∧
    (∃ (s : State) (m : Master) (c : Fin 4), s.sup.die = .running ∧ s.blockStops m (R.MB_REQ c) true = none ∧ (s.runningTest c).isSome = false ∧ ((s.mbState c = mbPending ∨ s.mbState c = mbAccepted))) :=
  ⟨⟨ask svAttest [] (mBoot (fun x => { x with sign := none }) (on [(F.SEC_LC_KEYS_VALID, 0), (F.SEC_LC_KEYS_VALID, 0)] up)), 0, by unfold Takes; decide +kernel⟩,
   ⟨ask svAttest [] (mBoot (fun x => { x with sign := none }) (on [(F.SEC_LC_KEYS_VALID, 1), (F.SEC_LC_KEYS_VALID, 1)] up)), 0, by unfold Takes; decide +kernel⟩,
   ⟨ask svPairing [1] up, 0, by unfold Takes; decide +kernel⟩,
   ⟨ask svPairing [3] up, 0, by unfold Takes; decide +kernel⟩,
   ⟨ask svPairing [2] (on [(F.SEC_LC_STATE, 3)] up), 0, by unfold Takes; decide +kernel⟩,
   ⟨ask svPairing [2, 0] (on [(F.SEC_LC_STATE, 2)] up), 0, _, by unfold Takes; decide +kernel, by decide +kernel, by decide +kernel, by decide +kernel, rfl⟩,
   ⟨on [((F.MB_STATE_STATE (0)), mbQueued)] run, .cox0, 0, by decide +kernel⟩,
   ⟨mSelf (fun c => { c with reqs := [⟨2, 2, 0, 4, [], 0⟩] }) (on [((F.MB_STATE_STATE (0)), mbAccepted)] run), .cox0, 0, ⟨2, 2, 0, 4, [], 0⟩, by decide +kernel⟩,
   ⟨on [((F.MB_STATE_STATE 0), mbAccepted)] run, .cox0, 0, by decide +kernel⟩⟩

theorem test_met_RegisterAccess_1 :
    (∃ (s : State) (m : Master) (a : Word) (v : Word) (c : Nat) (b : Bool), s.sup.die = .running ∧ s.judge m a.toNat (some v) = some (c, b)) ∧
    (∃ (s : State) (m : Master) (a : Word) (v : Word) (same : Word) (z : AccessSize), s.sup.die = .running ∧ z ≠ .word) ∧
    (∃ (s : State) (m : Master) (a : Word) (v : Word) (same : Word), s.sup.die = .running ∧ (s.busWrite m a.toNat v).2.sup.die = .running) ∧
    (∃ (s : State) (a : Nat) (same : Word) (r : RegRow), regRow a = some r) ∧
    (∃ (s : State) (m : Master) (a : Nat) (c : Nat) (p : Nat) (w : Bool), p = logPage a ∧ a < 2 ^ 32 ∧ c < 16) ∧
    (∃ (s : State) (m : Master) (a : Nat) (w : Option Word), a % 4 ≠ 0) ∧
    (∃ (s : State) (m : Master) (a : Nat) (w : Option Word), a % 4 = 0 ∧ (regionOf a = .unmapped ∨ (regionOf a = .pages ∧ hasReg a = false))) ∧
    (∃ (s : State) (m : Master) (a : Nat) (w : Option Word), a % 4 = 0 ∧ regionOf a = .pages ∧ hasReg a = true ∧ inHeader a = false ∧ s.pageOn (pageOf a) = false ∧ m ≠ .root) ∧
    (∃ (s : State) (m : Master) (a : Nat) (v : Word), a % 4 = 0 ∧ regionOf a = .pages ∧ hasReg a = true ∧ ((inHeader a = true ∨ s.pageOn (pageOf a) = true))) ∧
    (∃ (s : State) (m : Master) (a : Word) (v : Word), s.sup.die = .running ∧ a.toNat % 4 = 0 ∧ ((regionOf a.toNat = .live ∨ regionOf a.toNat = .stage))) :=
  ⟨⟨run, .cox0, 1, 0, 3, false, by decide +kernel⟩,
   ⟨up, .cox0, 0, 0, 0, .byte, by decide +kernel⟩,
   ⟨up, .cox0, 0, 0, 0, by decide +kernel⟩,
   ⟨up, R.RST_CAUSE, 0, _, Eq.symm (Option.some_get (h := by decide +kernel))⟩,
   ⟨up, .cox0, 0, 0, _, true, rfl, by decide +kernel⟩,
   ⟨up, .cox0, 0x40000001, default, by decide +kernel⟩,
   ⟨up, .cox0, 0, default, by decide +kernel⟩,
   ⟨up, .cox1, R.CAP_CMD 0, default, by decide +kernel⟩,
   ⟨run, .cox0, R.CATCH_CTRL, 0, by decide +kernel⟩,
   ⟨up, .cox0, 0x3003FFFC, 0, by decide +kernel⟩⟩

theorem test_met_RegisterAccess_2 :
    (∃ (s : State) (m : Master) (a : Word) (v : Word), s.sup.die = .running ∧ a.toNat % 4 = 0 ∧ ((regionOf a.toNat = .capture ∨ (regionOf a.toNat = .working ∧ internal m = true) ∨ (regionOf a.toNat = .buffer ∧ s.bufferHeld = false) ∨ (regionOf a.toNat = .firmware ∧ m = .root)))) ∧
    (∃ (s : State) (m : Master) (a : Word) (v : Word), s.sup.die = .running ∧ a.toNat % 4 = 0 ∧ (((regionOf a.toNat = .working ∧ internal m = false) ∨ (regionOf a.toNat = .firmware ∧ m ≠ .root)))) ∧
    (∃ (s : State) (m : Master) (a : Word) (v : Word), s.sup.die = .running ∧ a.toNat % 4 = 0 ∧ regionOf a.toNat = .buffer ∧ s.bufferHeld = true) ∧
    (∃ (s : State) (m : Master) (a : Word) (v : Word) (r : RegRow), s.sup.die = .running ∧ regionOf a.toNat = .pages ∧ inHeader a.toNat = false ∧ (pageOf a.toNat = 0x0F ∨ pageOf a.toNat = 0x10 ∨ pageOf a.toNat = 0x11 ∨ pageOf a.toNat = 0x14) ∧ s.judge m a.toNat (some v) = none ∧ regRow a.toNat = some r) ∧
    (∃ (s : State) (m : Master) (a : Word) (v : Word) (r : RegRow), s.sup.die = .running ∧ regionOf a.toNat = .pages ∧ regRow a.toNat = some r ∧ s.on (F.PAGE_CTRL_SEAL (pageOf a.toNat)) = true ∧ ((s.rd a.toNat ^^^ v) &&& BitVec.ofNat 32 r.rws) ≠ 0) ∧
    (∃ (s : State) (m : Master) (a : Word) (v : Word) (p : Nat), s.sup.die = .running ∧ p = pageOf a.toNat ∧ regionOf a.toNat = .pages ∧ inHeader a.toNat = false ∧ external m = true ∧ s.on (F.PAGE_LOCK_LOCK p) = true ∧ s.fld (F.PAGE_LOCK_OWNER p) ≠ masterId m) ∧
    (∃ (s : State) (m : Master) (p : Fin 32) (b : Bool), s.sup.die = .running) ∧
    (∃ (s : State) (m : Master) (i : Fin 2) (d : DriveIx) (v : Word), s.sup.die = .running) ∧
    (∃ (s : State) (m : Master) (p : Fin 32), s.sup.die = .running) ∧
    (∃ (s : State) (m : Master) (p : Fin 32), s.sup.die = .running ∧ pageFixed p = false ∧ p ≠ 0x0B ∧ p ≠ 0x0C ∧ p ≠ 0x0D ∧ s.on (F.PAGE_CTRL_ENABLE p) = true ∧ s.on (F.PAGE_CTRL_SEAL p) = false ∧ s.pageBound p = false) :=
  ⟨⟨up, .cox0, 0x203BFFFC, 0, by decide +kernel⟩,
   ⟨up, .can1, 0x202BFFFC, 0, by decide +kernel⟩,
   ⟨mLoad (fun x => { x with phase := 2 }) up, .cox0, 0x203FFFFC, 0, by decide +kernel⟩,
   ⟨run, .cox0, BitVec.ofNat 32 (R.SER_FMT 0), 0, (regRow (R.SER_FMT 0)).get (by decide +kernel), by decide +kernel⟩,
   ⟨on [(F.PAGE_CTRL_SEAL 0x1E, 1)] run, .cox0, BitVec.ofNat 32 (R.UMP_CKCFG 0), 0xFFFFFFFF, (regRow (R.UMP_CKCFG 0)).get (by decide +kernel), by decide +kernel⟩,
   ⟨on [(F.PAGE_LOCK_LOCK 0x10, 1), (F.PAGE_LOCK_OWNER 0x10, 3)] run, .can0, BitVec.ofNat 32 (R.SER_FMT 0), 0, 0x10, by decide +kernel⟩,
   ⟨up, .cox0, 0, true, by decide +kernel⟩,
   ⟨up, .cox0, 0, 0, 0, by decide +kernel⟩,
   ⟨up, .cox0, 0, by decide +kernel⟩,
   ⟨on [((F.PAGE_CTRL_ENABLE (0x10)), 1), ((F.PAGE_CTRL_SEAL (0x10)), 0)] up, .cox0, 0x10, by decide +kernel⟩⟩

theorem test_met_RegisterAccess_3 :
    (∃ (s : State) (m : Master) (p : Fin 32) (u : Nat), s.sup.die = .running ∧ pageFixed p = false ∧ p ≠ 0x0B ∧ p ≠ 0x0C ∧ p ≠ 0x0D ∧ s.on (F.PAGE_CTRL_ENABLE p) = true ∧ s.pageBound p = true ∧ u < 4 ∧ bit (s.pageUnits p) u = true ∧ s.unitOn u = true) ∧
    (∃ (s : State) (p : Fin 32), s.sup.die = .running) ∧
    (∃ (s : State) (m : Master) (p : Fin 32), s.sup.die = .running ∧ s.fld (F.PAGE_LOCK_OWNER p) = 0xF) ∧
    (∃ (s : State) (m : Master) (p : Fin 32) (b : Bool), s.sup.die = .running ∧ s.fld (F.PAGE_LOCK_OWNER p) ≠ 0xF ∧ s.fld (F.PAGE_LOCK_OWNER p) ≠ masterId m ∧ external m = true) ∧
    (∃ (s : State) (m : Master) (p : Fin 32), s.sup.die = .running ∧ ((s.fld (F.PAGE_LOCK_OWNER p) = masterId m ∨ m = .cox0 ∨ m = .cox1))) ∧
    (∃ (s : State) (m : Master) (p : Fin 32), s.sup.die = .running) ∧
    (∃ (s : State) (m : Master) (i : Fin 2) (a : Nat), s.sup.die = .running ∧ a = R.CAN_CTRL (ifPage (1 + i)) ∧ s.judge m a (some (s.rd a ||| 0x100)) = none) ∧
    (∃ (s : State) (m : Master) (d : DriveIx) (v : Word), s.sup.die = .running ∧ s.judge m (R.DRV_TRQ d) (some v) = none) ∧
    (∃ (s : State) (m : Master) (v : Word), s.sup.die = .running ∧ s.judge m R.CASC_XFER (some v) = none) ∧
    (∃ (s : State) (m : Master), s.sup.die = .running ∧ s.judge m R.CASC_CMD (some 1) = none ∧ s.cascaded = true ∧ s.role = roleStroke ∧ s.on F.CASC_STATE_READY = false) :=
  ⟨⟨on [(F.LEG_STAT_EN 0, 1)] (binds [.unit 0 0 2 1 0, .inject 0 [0, 5]] run), .cox0, 0x13, 0, by decide +kernel⟩,
   ⟨up, 0, by decide +kernel⟩,
   ⟨on [((F.PAGE_LOCK_OWNER (0)), 0xF)] up, .cox0, 0, by decide +kernel⟩,
   ⟨on [((F.PAGE_LOCK_OWNER 0), 3)] up, .can0, 0, true, by decide +kernel⟩,
   ⟨up, .cox0, 0, by decide +kernel⟩,
   ⟨up, .cox0, 0, by decide +kernel⟩,
   ⟨run, .cox0, 0, _, by decide +kernel, rfl, by decide +kernel⟩,
   ⟨run, .cox0, 0, 0, by decide +kernel⟩,
   ⟨run, .cox0, 0, by decide +kernel⟩,
   ⟨on [(F.CASC_CFG_DEVICES, 8), (F.CASC_STATE_ROLE, roleStroke), (F.CASC_STATE_READY, 0)] run, .cox0, by decide +kernel⟩⟩

theorem test_met_RegisterAccess_4 : ∃ (s : State) (p : Nat), p < 32 :=
  ⟨up, 0, by decide +kernel⟩

theorem test_met_HostRequests_1 :
    (∃ (s : State) (i : Fin 3) (n : Nat) (bad : List (Nat × MemErr)), ((∀ f fmt, s.conv.queue.find? (fun e => s.isOpen e.1) ≠ some (i.val, f, fmt)))) ∧
    (∃ (s : State) (u : State) (i : Fin 3) (bad : List (Nat × MemErr)) (f : List Byte) (fmt : Nat) (c : Nat) (n : Nat), u = s.requestTaken ∧ u.checkCode i f = c ∧ c ≠ 0) ∧
    (∃ (s : State) (u : State) (i : Fin 3) (f : List Byte) (fmt : Nat) (n : Nat), u = s.requestTaken ∧ u.checkCode i f = 0 ∧ s.fw = false) ∧
    (∃ (s : State) (u : State) (i : Fin 3) (f : List Byte) (fmt : Nat), HostTakes i 1 f fmt s ∧ u = s.requestTaken ∧ u.checkCode i f = 0 ∧ s.fw = true ∧ reqWords f = 1 ∧ reqAddr f % 4 = 0 ∧ regionOf (reqAddr f) = .capture) ∧
    (∃ (s : State) (u : State) (t : State) (i : Fin 3) (bad : List (Nat × MemErr)) (f : List Byte) (fmt : Nat) (k : Nat) (c : Nat) (ws : List Word), HostTakes i 1 f fmt s ∧ u = s.requestTaken ∧ u.checkCode i f = 0 ∧ s.fw = true ∧ readLoop (s.hostMaster i) bad (reqWords f) 0 (reqAddr f) [] u = ((some (k, c), ws), t)) ∧
    (∃ (s : State) (u : State) (i : Fin 3) (f : List Byte) (fmt : Nat), HostTakes i 2 f fmt s ∧ u = s.requestTaken ∧ u.checkCode i f = 0 ∧ s.fw = true ∧ reqWords f = 1 ∧ reqAddr f % 4 = 0 ∧ regionOf (reqAddr f) = .capture ∧ s.liveValid = false) ∧
    (∃ (s : State) (u : State) (t : State) (i : Fin 3) (f : List Byte) (fmt : Nat) (k : Nat) (c : Nat), HostTakes i 2 f fmt s ∧ u = s.requestTaken ∧ u.checkCode i f = 0 ∧ s.fw = true ∧ writeLoop (s.hostMaster i) (payloadWords (reqWords f) (reqPayload f)) 0 (reqAddr f) u = (some (k, c), t)) ∧
    (∃ (s : State) (u : State) (t : State) (i : Fin 3) (f : List Byte) (fmt : Nat) (c : Nat) (n : Nat), HostTakes i 3 f fmt s ∧ u = s.requestTaken ∧ u.checkCode i f = 0 ∧ s.fw = true ∧ c = ofLe (reqPayload f) ∧ t = u.renew i c n) ∧
    (∃ (s : State) (i : Fin 3) (c : Nat) (n : Nat), c < 2 ^ 32 ∧ s.on (F.HB_CFG_HB_EN (ifPage i)) = true ∧ c ≠ s.fld (F.HB_LAST_COUNTER (ifPage i))) ∧
    (∃ (s : State) (i : Fin 3) (c : Nat) (n : Nat), (s.on (F.HB_CFG_HB_EN (ifPage i)) = false ∨ c = s.fld (F.HB_LAST_COUNTER (ifPage i)))) :=
  ⟨⟨up, 0, 0, [], fun _ _ h => nomatch (show (none : Option (Nat × List Byte × Nat)) = some _ from h)⟩,
   ⟨host (req 1 127 0 []) up, _, 0, [], req 1 127 0 [], 0, stBadLen, 0, rfl, by decide +kernel⟩,
   ⟨mBoot (fun b => { b with step := 4 }) (host (req 2 0 0x203BFFFC [1, 2, 3, 4]) up), _, 0, req 2 0 0x203BFFFC [1, 2, 3, 4], 0, 0, rfl, by decide +kernel⟩,
   ⟨host (req 1 0 0x203BFFFC [1, 0, 0, 0]) up, _, 0, req 1 0 0x203BFFFC [1, 0, 0, 0], 0, by unfold HostTakes; decide +kernel, rfl, by decide +kernel⟩,
   ⟨host (req 1 0 4 [1, 0, 0, 0]) up, _, _, 0, [], req 1 0 4 [1, 0, 0, 0], 0, 0, 4, _, by unfold HostTakes; decide +kernel, rfl, by decide +kernel, by decide +kernel, Prod.ext (Prod.ext (by decide +kernel) rfl) rfl⟩,
   ⟨host (req 2 0 0x203BFFFC [1, 2, 3, 4]) up, _, 0, req 2 0 0x203BFFFC [1, 2, 3, 4], 0, by unfold HostTakes; decide +kernel, rfl, by decide +kernel⟩,
   ⟨host (req 2 0 4 [1, 0, 0, 0]) up, _, _, 0, req 2 0 4 [1, 0, 0, 0], 0, 0, 4, by unfold HostTakes; decide +kernel, rfl, by decide +kernel, by decide +kernel, Prod.ext (by decide +kernel) rfl⟩,
   ⟨host (req 3 0 0 [1, 0, 0, 0]) up, _, _, 0, req 3 0 0 [1, 0, 0, 0], 0, _, 0, by unfold HostTakes; decide +kernel, rfl, by decide +kernel, by decide +kernel, rfl, rfl⟩,
   ⟨on [((F.HB_CFG_HB_EN (ifPage 0)), 1)] up, 0, 0xFFFFFFFF, 0, by decide +kernel⟩,
   ⟨up, 0, 0, 0, by decide +kernel⟩⟩

theorem test_met_HostRequests_2 :
    (∃ (s : State) (i : Fin 3) (f : List Byte) (fmt : Nat), HostTakes i 4 f fmt s ∧ s.requestTaken.checkCode i f = 0 ∧ s.fw = true ∧ (s.hostIf i).dropped = 0) ∧
    (∃ (s : State) (i : Fin 3) (f : List Byte) (fmt : Nat), HostTakes i 5 f fmt s ∧ s.requestTaken.checkCode i f = 0 ∧ s.fw = true ∧ (s.hostIf i).dropped = 0 ∧ (s.hostIf i).events.any (fun e => e.tag == reqAddr f) = true) ∧
    (∃ (s : State) (u : State) (i : Fin 3) (f : List Byte) (fmt : Nat), HostTakes i 5 f fmt s ∧ u = s.requestTaken ∧ u.checkCode i f = 0 ∧ s.fw = true ∧ (s.hostIf i).events.any (fun e => e.tag == reqAddr f) = false) ∧
    (∃ (s : State) (i : Fin 3) (f : List Byte) (pl : List Byte) (fmt : Nat) (err : Nat), byteAt f 0 ≠ 4) ∧
    (∃ (op : Nat) (tag : Nat) (st : Nat) (err : Nat) (session : Nat) (pl : List Byte), pl.length ≤ 1024) :=
  ⟨⟨host (req 4 0 0 []) up, 0, req 4 0 0 [], 0, by unfold HostTakes; decide +kernel⟩,
   ⟨host (req 5 0 127 []) (State.modIf up 0 (fun x => { x with events := [⟨127, [], true⟩] })), 0, req 5 0 127 [], 0, by unfold HostTakes; decide +kernel⟩,
   ⟨host (req 5 0 127 []) up, _, 0, req 5 0 127 [], 0, by unfold HostTakes; decide +kernel, rfl, by decide +kernel⟩,
   ⟨up, 0, [], [], 0, 0, by decide +kernel⟩,
   ⟨0, 0, 0, 0, 0, [], by decide +kernel⟩⟩

theorem test_met_CanAndSpi_1 :
    (∃ (s : State) (l : List Byte), s.sup.die = .running ∧ s.isOpen 0 = false) ∧
    (∃ (s : State) (w : State) (l : List Byte) (sent : List Byte), s.sup.die = .running ∧ s.isOpen 0 = true ∧ sent = (s.spiPreamble ++ ((s.hostIf 0).out.head?.map (fun f => f.bytes)).getD []).take l.length ∧ w = { s with conv := { s.conv with hmiso := sent ++ List.replicate (l.length - sent.length) 0 } }) ∧
    (∃ (s : State), (s.hostIf 0).out = [] ∧ (s.hostIf 0).events = []) ∧
    (∃ (s : State) (i : Fin 3) (f : List Byte) (fmt : Nat) (c : Nat), frameCode f = c ∧ c ≠ 0) ∧
    (∃ (s : State) (i : Fin 3) (f : List Byte) (fmt : Nat), frameCode f = 0 ∧ (s.hostIf i).busy.find? (fun e => e.1 == reqTag f) = none ∧ (s.hostIf i).cache.find? (fun e => e.1 == reqTag f) = none ∧ 1 ≤ byteAt f 0 ∧ byteAt f 0 ≤ 5 ∧ s.on (F.CONV_CFG_ORDER (ifPage i)) = false) ∧
    (∃ (s : State) (i : Fin 3) (f : List Byte) (fmt : Nat) (e : Nat × List Byte), frameCode f = 0 ∧ (s.hostIf i).busy.find? (fun e => e.1 == reqTag f) = some e) ∧
    (∃ (s : State) (i : Fin 3) (f : List Byte) (a : List Byte) (fmt : Nat), frameCode f = 0 ∧ (s.hostIf i).busy.find? (fun e => e.1 == reqTag f) = none ∧ (s.hostIf i).cache.find? (fun e => e.1 == reqTag f) = some (reqTag f, reqBody f, a) ∧ (s.hostIf i).fits a.length (a.length == 10) = true) ∧
    (∃ (s : State) (c : Fin 2) (errs : List CanErr) (f : CanFrame), s.sup.die = .running ∧ s.canOn (1 + c) = false) ∧
    (∃ (s : State) (c : Fin 2) (errs : List CanErr) (f : CanFrame), s.sup.die = .running ∧ s.canOn (1 + c) = true ∧ s.canTakes (ifPage (1 + c)) f = false) ∧
    (∃ (s : State) (t : State) (c : Fin 2) (e : CanErr) (p : Nat), p = ifPage (1 + c) ∧ s.fld (F.CAN_ERR_STATE p) ≠ 2) :=
  ⟨⟨up, [], by decide +kernel⟩,
   ⟨opened up, _, [], _, by decide +kernel, by decide +kernel, rfl, rfl⟩,
   ⟨up, by decide +kernel⟩,
   ⟨up, 0, [], 0, stShort, by decide +kernel⟩,
   ⟨up, 0, req 5 0 0 [], 0, by decide +kernel⟩,
   ⟨State.modIf up 0 (fun x => { x with busy := [(0, [])] }), 0, req 5 0 0 [], 0, (0, []), by decide +kernel⟩,
   ⟨State.modIf up 0 (fun x => { x with cache := [(0, reqBody (req 5 0 0 []), [7])] }), 0, req 5 0 0 [], [7], 0, by decide +kernel⟩,
   ⟨up, 0, [], ⟨0, false, false, 0, false, false, 0, 0, 0, []⟩, by decide +kernel⟩,
   ⟨opened up, 0, [], ⟨0, false, false, 0, false, false, 0, 0, 0, []⟩, by decide +kernel⟩,
   ⟨up, up, 0, ⟨3, 0⟩, _, rfl, by decide +kernel⟩⟩

theorem test_met_CanAndSpi_2 :
    (∃ (s : State) (c : Fin 2) (f : CanFrame), s.sup.die = .running ∧ s.canOn (1 + c) = true ∧ s.canTakes (ifPage (1 + c)) f = true ∧ f.fmt ≠ 3 ∧ (s.hostIf (1 + c)).asm = none ∧ byteAt f.data 0 = 0xC0 ∧ 11 ≤ f.data.length) ∧
    (∃ (s : State) (c : Fin 2) (f : CanFrame), s.sup.die = .running ∧ s.canOn (1 + c) = true ∧ s.canTakes (ifPage (1 + c)) f = true ∧ f.fmt ≠ 3 ∧ (s.hostIf (1 + c)).asm = none ∧ byteAt f.data 0 = 0x80) ∧
    (∃ (s : State) (c : Fin 2) (f : CanFrame) (l : List Byte) (n : Nat) (k : Nat), s.sup.die = .running ∧ s.canOn (1 + c) = true ∧ s.canTakes (ifPage (1 + c)) f = true ∧ f.fmt ≠ 3 ∧ (s.hostIf (1 + c)).asm = some (l, n, k) ∧ byteAt f.data 0 = n ∧ n < 64) ∧
    (∃ (s : State) (c : Fin 2) (f : CanFrame) (l : List Byte) (n : Nat) (k : Nat), s.sup.die = .running ∧ s.canOn (1 + c) = true ∧ s.canTakes (ifPage (1 + c)) f = true ∧ f.fmt ≠ 3 ∧ (s.hostIf (1 + c)).asm = some (l, n, k) ∧ byteAt f.data 0 ≠ n ∧ byteAt f.data 0 < 64) ∧
    (∃ (s : State) (c : Fin 2), s.sup.die = .running ∧ ((s.hostIf (1 + c)).asm = none ∨ s.isOpen (1 + c) = false)) ∧
    (∃ (s : State) (c : Fin 2) (l : List Byte) (n : Nat) (k : Nat), s.sup.die = .running ∧ s.isOpen (1 + c) = true ∧ (s.hostIf (1 + c)).asm = some (l, n, k)) ∧
    (∃ (s : State) (c : Fin 2), s.sup.die = .running ∧ s.canOn (1 + c) = true) ∧
    (∃ (s : State) (c : Fin 2), s.sup.die = .running ∧ s.canOn (1 + c) = false) ∧
    (∃ (s : State) (c : Fin 2), s.sup.die = .running ∧ s.fld (F.CAN_ERR_STATE (ifPage (1 + c))) = 2 ∧ ((s.on (F.CAN_CTRL_AUTO_RECOV (ifPage (1 + c))) = true ∨ (s.hostIf (1 + c)).recov = true))) ∧
    (∃ (s : State) (c : Fin 2), s.sup.die = .running ∧ ((s.fld (F.CAN_ERR_STATE (ifPage (1 + c))) ≠ 2 ∨ (s.on (F.CAN_CTRL_AUTO_RECOV (ifPage (1 + c))) = false ∧ (s.hostIf (1 + c)).recov = false)))) :=
  ⟨⟨opened up, 0, ⟨0, false, false, 0, false, false, 0, 0, 0, 0xC0 :: List.replicate 10 1⟩, by decide +kernel⟩,
   ⟨opened up, 0, ⟨0, false, false, 0, false, false, 0, 0, 0, [0x80]⟩, by decide +kernel⟩,
   ⟨State.modIf (opened up) 1 (fun x => { x with asm := some ([1], 3, 0) }), 0, ⟨0, false, false, 0, false, false, 0, 0, 0, [3]⟩, [1], 3, 0, by decide +kernel⟩,
   ⟨State.modIf (opened up) 1 (fun x => { x with asm := some ([1], 3, 0) }), 0, ⟨0, false, false, 0, false, false, 0, 0, 0, [63]⟩, [1], 3, 0, by decide +kernel⟩,
   ⟨up, 0, by decide +kernel⟩,
   ⟨opened (State.modIf up 1 (fun x => { x with asm := some ([1], 3, 0) })), 0, [1], 3, 0, by decide +kernel⟩,
   ⟨opened up, 0, by decide +kernel⟩,
   ⟨up, 0, by decide +kernel⟩,
   ⟨on [((F.CAN_ERR_STATE (ifPage 1)), 2), ((F.CAN_CTRL_AUTO_RECOV (ifPage 1)), 1)] up, 0, by decide +kernel⟩,
   ⟨up, 0, by decide +kernel⟩⟩

theorem test_met_CanAndSpi_3 :
    (∃ (s : State) (c : Fin 2) (errs : List CanErr), s.sup.die = .running ∧ (((s.hostIf (1 + c)).out = [] ∨ s.canOn (1 + c) = false))) ∧
    (∃ (s : State) (t : State) (c : Fin 2) (errs : List CanErr), s.sup.die = .running ∧ (s.hostIf (1 + c)).out ≠ [] ∧ s.canOn (1 + c) = true ∧ t = s.each errs (fun e t => t.canTxError (1 + c) e) ∧ t.canOn (1 + c) = false) ∧
    (∃ (s : State) (c : Fin 2) (f : OutFrame) (rest : List OutFrame), s.sup.die = .running ∧ s.canOn (1 + c) = true ∧ (s.hostIf (1 + c)).out = f :: rest) :=
  ⟨⟨up, 0, [], by decide +kernel⟩,
   ⟨on [(F.CAN_ERR_TEC (ifPage 1), 250)] (State.modIf (opened up) 1 (fun x => { x with out := [⟨List.replicate 11 0, 0, true, 0, false, false⟩] })), _, 0, [⟨3, 1⟩], by decide +kernel, by decide +kernel, by decide +kernel, rfl, by decide +kernel⟩,
   ⟨State.modIf (opened up) 1 (fun x => { x with out := [⟨List.replicate 11 0, 0, true, 0, false, false⟩] }), 0, ⟨List.replicate 11 0, 0, true, 0, false, false⟩, [], by decide +kernel⟩⟩

theorem test_met_RingFrames_1 :
    (∃ (s : State) (i : Instr) (f : RingHdr × Nat × Nat × Nat × List Byte), frameOf i = some f ∧ s.cascaded = false) ∧
    (∃ (s : State) (i : Instr) (h : RingHdr) (typ : Nat) (b3 : Nat) (addr : Nat) (payload : List Byte), frameOf i = some (h, typ, b3, addr, payload) ∧ s.sup.die = .running ∧ s.cascaded = true) ∧
    (∃ (s : State) (r : Fin 2) (b : Bool) (same : Bool) (fines : List (BitVec 14)) (o : Int) (n : Nat) (p : Fin 8) (x : BitVec 8) (y : BitVec 8) (z : BitVec 8) (c : BitVec 24) (chars : List Bool), s.cascaded = false) ∧
    (∃ (s : State) (r : Fin 2) (x : BitVec 8) (y : BitVec 8) (z : BitVec 8) (fines : List (BitVec 14)) (p : Fin 8) (c : BitVec 24) (n : Nat), s.cascaded = true) ∧
    (∃ (s : State) (r : Fin 2) (status : BitVec 8) (pos : BitVec 8) (check : BitVec 8) (fines : List (BitVec 14)), s.sup.die = .running ∧ s.cascaded = true ∧ setCheck [status, pos] = check ∧ bit s.ring.down r = false ∧ status.getLsbD 0 = true) ∧
    (∃ (s : State) (r : Fin 2) (status : BitVec 8) (pos : BitVec 8) (check : BitVec 8) (fines : List (BitVec 14)), s.sup.die = .running ∧ s.cascaded = true ∧ bit s.ring.down r = true) ∧
    (∃ (s : State) (r : Fin 2) (status : BitVec 8) (pos : BitVec 8) (check : BitVec 8) (fines : List (BitVec 14)), s.sup.die = .running ∧ s.cascaded = true ∧ setCheck [status, pos] = check ∧ bit s.ring.down r = false ∧ status.getLsbD 0 = false ∧ ((s.ring.noSrc.get r = 0 ∨ s.role ≠ roleCrew ∨ s.fld F.PLL_STATUS_SRC ≠ 2 + r.val))) ∧
    (∃ (s : State) (t : State) (r : Fin 2) (status : BitVec 8) (pos : BitVec 8) (check : BitVec 8) (fines : List (BitVec 14)), s.sup.die = .running ∧ s.cascaded = true ∧ setCheck [status, pos] = check ∧ bit s.ring.down r = false ∧ status.getLsbD 0 = false ∧ s.ring.noSrc.get r ≠ 0 ∧ s.role = roleCrew ∧ s.fld F.PLL_STATUS_SRC = 2 + r.val ∧ t = s.set (F.LINK_STAT_SRCOK r) 0) ∧
    (∃ (s : State) (r : Fin 2) (o : Int) (same : Bool), s.sup.die = .running ∧ s.cascaded = true) ∧
    (∃ (s : State) (r : Fin 2) (chars : List Bool) (lost : Bool) (fines : List (BitVec 14)), s.sup.die = .running ∧ s.cascaded = true ∧ bit s.ring.down r = false ∧ s.on (F.LINK_STAT_RX_UP r) = true ∧ ((lost = true ∨ (violRun (s.ring.viols.get r) chars).2 = true))) :=
  ⟨⟨up, .getNonce h0 none, _, rfl, by decide +kernel⟩,
   ⟨on [(F.CASC_STATE_POS, 2)] crew, .getNonce (hd tyCtl 5 0 (ctlBody ctGetNonce [])) none, hd tyCtl 5 0 (ctlBody ctGetNonce []), tyCtl, 5, 0, ctlBody ctGetNonce [], rfl, by decide +kernel⟩,
   ⟨up, 0, true, true, [], 0, 0, 0, 0, 0, 0, 0, [], by decide +kernel⟩,
   ⟨on [(F.CASC_CFG_DEVICES, 8)] up, 0, 0, 0, 0, [], 0, 0, 0, by decide +kernel⟩,
   ⟨on [(F.CASC_CFG_DEVICES, 8)] up, 0, 1, 0, _, [], by decide +kernel, by decide +kernel, rfl, by decide +kernel⟩,
   ⟨mRing (fun r => { r with down := 1 }) (on [(F.CASC_CFG_DEVICES, 8)] up), 0, 0, 0, 0, [], by decide +kernel⟩,
   ⟨on [(F.CASC_CFG_DEVICES, 8)] up, 0, 0, 0, _, [], by decide +kernel, by decide +kernel, rfl, by decide +kernel⟩,
   ⟨mRing (fun x => { x with noSrc := [(0, 1)] }) (on [(F.CASC_CFG_DEVICES, 8), (F.CASC_STATE_ROLE, roleCrew), (F.PLL_STATUS_SRC, 2)] up), _, 0, 0, 0, _, [], by decide +kernel, by decide +kernel, rfl, by decide +kernel, by decide +kernel, by decide +kernel, by decide +kernel, by decide +kernel, rfl⟩,
   ⟨on [(F.CASC_CFG_DEVICES, 8)] up, 0, 0, true, by decide +kernel⟩,
   ⟨on [(F.CASC_CFG_DEVICES, 8), ((F.LINK_STAT_RX_UP (0)), 1)] up, 0, [], true, [], by decide +kernel⟩⟩

theorem test_met_RingFrames_2 :
    (∃ (s : State) (r : Fin 2) (chars : List Bool) (lost : Bool) (fines : List (BitVec 14)), s.sup.die = .running ∧ s.cascaded = true ∧ ((bit s.ring.down r = true ∨ s.on (F.LINK_STAT_RX_UP r) = false ∨ (lost = false ∧ (violRun (s.ring.viols.get r) chars).2 = false)))) ∧
    (∃ (n : Nat) (k : Nat) (l : List Bool), n < 16 ∧ 0 < k) ∧
    (∃ (s : State) (r : Fin 2), s.sup.die = .running ∧ s.cascaded = true ∧ bit s.ring.down r = false) ∧
    (∃ (s : State) (p : Fin 8) (x : BitVec 8) (c : BitVec 8), s.sup.die = .running ∧ s.cascaded = true ∧ setCheck [BitVec.ofNat 8 p, x] = c ∧ p.val ≠ s.pos' ∧ s.live.bound 0 = false ∧ s.live.bound 1 = false) ∧
    (∃ (s : State) (t : State) (u : State) (p : Fin 8) (x : BitVec 8) (c : BitVec 8) (d : Fin 2), s.sup.die = .running ∧ s.cascaded = true ∧ setCheck [BitVec.ofNat 8 p, x] = c ∧ p.val ≠ s.pos' ∧ s.live.bound d = true ∧ s.live.bound (1 - d.val) = false ∧ u = s.ev F.CASC_EVENT_SSN_RX ∧ t = (if s.rd R.CASC_SSN = 0 then ((u.set F.CASC_SSN_POS p).set F.CASC_SSN_REASON x.toNat).set F.CASC_SSN_CATCH s.stamp else u).protReq d none) ∧
    (∃ (s : State) (p : Fin 8) (x : BitVec 8) (c : BitVec 8), p.val = s.pos') ∧
    (∃ (s : State) (p : Fin 8) (b : BitVec 8) (c : BitVec 8), s.sup.die = .running ∧ s.cascaded = true ∧ setCheck [b, BitVec.ofNat 8 p] = c ∧ p.val ≠ s.pos' ∧ s.ring.mode.phase = 1 ∧ s.cat.num ≤ s.ring.mode.n + 1 ∧ b.toNat = (s.ring.mode.n + 2) % 256) ∧
    (∃ (s : State) (p : Fin 8) (b : BitVec 8) (c : BitVec 8), ((s.ring.mode.phase ≠ 1 ∨ s.ring.mode.n + 1 < s.cat.num ∨ b.toNat ≠ (s.ring.mode.n + 2) % 256))) ∧
    (∃ (s : State) (r : Fin 2) (round : BitVec 8) (check : BitVec 8) (n : Nat), s.sup.die = .running ∧ s.cascaded = true ∧ setCheck [round, 0] = check ∧ bit s.ring.down r = false ∧ s.ring.rounds.length < 64 ∧ s.role ≠ roleStroke ∧ ((s.ring.half = none ∨ ∃ k q a, s.ring.half = some (k, q, a) ∧ (q = r.val ∨ k ≠ round.toNat)))) ∧
    (∃ (s : State) (r : Fin 2) (round : BitVec 8) (check : BitVec 8) (n : Nat) (m : Nat), s.sup.die = .running ∧ s.cascaded = true ∧ setCheck [round, 0] = check ∧ bit s.ring.down r = false ∧ s.ring.rounds.length < 64 ∧ s.role ≠ roleStroke ∧ s.ring.half = some (round.toNat, 1 - r.val, m)) :=
  ⟨⟨on [(F.CASC_CFG_DEVICES, 8)] up, 0, [], true, [], by decide +kernel⟩,
   ⟨0, 1, [], by decide +kernel⟩,
   ⟨on [(F.CASC_CFG_DEVICES, 8)] up, 0, by decide +kernel⟩,
   ⟨on [(F.CASC_CFG_DEVICES, 8)] up, 1, 0, _, by decide +kernel, by decide +kernel, rfl, by decide +kernel⟩,
   ⟨binds [.unit 0 0 2 1 0] (on [(F.CASC_CFG_DEVICES, 8)] up), _, _, 1, 0, _, 0, by decide +kernel, by decide +kernel, rfl, by decide +kernel, by decide +kernel, by decide +kernel, rfl, rfl⟩,
   ⟨up, 0, 0, 0, by decide +kernel⟩,
   ⟨mRing (fun x => { x with mode := { Mode.init with phase := 1, n := 9 } }) (on [(F.CASC_CFG_DEVICES, 8)] up), 1, 11, _, by decide +kernel, by decide +kernel, rfl, by decide +kernel⟩,
   ⟨up, 0, 0, 0, by decide +kernel⟩,
   ⟨on [(F.CASC_CFG_DEVICES, 8)] up, 0, 0, _, 0, by decide +kernel, by decide +kernel, rfl, by decide +kernel, by decide +kernel, by decide +kernel, Or.inl (by decide +kernel)⟩,
   ⟨mRing (fun x => { x with half := some (0, 1, 5) }) (on [(F.CASC_CFG_DEVICES, 8)] up), 0, 0, _, 0, 5, by decide +kernel, by decide +kernel, rfl, by decide +kernel⟩⟩

theorem test_met_RingFrames_3 :
    (∃ (s : State) (r : Fin 2) (c : BitVec 24) (x : BitVec 8) (y : BitVec 8) (n : Nat), ((s.isCrew = false ∨ bit s.ring.down r = true ∨ s.fld F.PLL_STATUS_SRC ≠ 2 + r.val ∨ s.cat.waitLock = true ∨ (s.on F.CATCH_CTRL_RUN = false ∧ s.cat.first = false)))) ∧
    (∃ (s : State) (r : Fin 2) (c : BitVec 24) (f : BitVec 8) (check : BitVec 8) (n : Nat) (k : Nat) (x : Int), s.sup.die = .running ∧ s.isCrew = true ∧ setCheck (le 3 c.toNat ++ [f]) = check ∧ s.fld F.PLL_STATUS_SRC = 2 + r.val ∧ bit s.ring.down r = false ∧ s.cat.waitLock = false ∧ ((s.on F.CATCH_CTRL_RUN = true ∨ s.cat.first = true)) ∧ ((s.cat.first = true ∨ s.ring.placed = false)) ∧ s.markerNum c.toNat = some k ∧ x = (n : Int) + 4000 - s.fld (if r = 0 then F.CASC_DELAY_D0 else F.CASC_DELAY_D1)) ∧
    (∃ (s : State) (r : Fin 2) (c : BitVec 24) (f : BitVec 8) (check : BitVec 8) (n : Nat), s.sup.die = .running ∧ s.isCrew = true ∧ setCheck (le 3 c.toNat ++ [f]) = check ∧ s.fld F.PLL_STATUS_SRC = 2 + r.val ∧ bit s.ring.down r = false ∧ s.cat.waitLock = false ∧ ((s.on F.CATCH_CTRL_RUN = true ∨ s.cat.first = true)) ∧ ((s.cat.first = true ∨ s.ring.placed = false)) ∧ s.markerNum c.toNat = none) ∧
    (∃ (s : State) (b : Nat), b < 2 ^ 24) ∧
    (∃ (s : State) (r : Fin 2) (c : BitVec 24) (f : BitVec 8) (check : BitVec 8) (n : Nat) (k : Nat) (x : Int) (e : Int) (e0 : Int) (e1 : Int), s.sup.die = .running ∧ s.isCrew = true ∧ setCheck (le 3 c.toNat ++ [f]) = check ∧ s.fld F.PLL_STATUS_SRC = 2 + r.val ∧ bit s.ring.down r = false ∧ s.cat.waitLock = false ∧ s.on F.CATCH_CTRL_RUN = true ∧ s.cat.first = false ∧ s.ring.placed = true ∧ x = (n : Int) + 4000 - s.fld (if r = 0 then F.CASC_DELAY_D0 else F.CASC_DELAY_D1) ∧ e0 = 32 * (s.cat.tick : Int) + s.ring.base - x ∧ e1 = 32 * (s.cat.next : Int) + s.ring.base - x ∧ (((e0.natAbs < e1.natAbs ∧ e = e0 ∧ k = s.cat.num) ∨ (e1.natAbs ≤ e0.natAbs ∧ e = e1 ∧ k = s.cat.num + 1)))) ∧
    (∃ (s : State) (e : Int), e.natAbs ≤ 8 ∧ s.ring.good = 63 ∧ s.ring.bad < 4) ∧
    (∃ (s : State) (e : Int), 64 < e.natAbs ∧ s.ring.bad = 3) ∧
    (∃ (s : State) (h : RingHdr) (ch : Fin 16) (num : Word) (words : List Word), Reaches h tyExch ch num.toNat (wordBytes words) s) ∧
    (∃ (s : State) (u : State) (h : RingHdr) (ch : Fin 16) (num : Word) (words : List Word) (k : Nat) (lag : Nat) (key : Nat) (rest : List (Nat × Nat)), Reaches h tyExch ch num.toNat (wordBytes words) s ∧ key = 16 * h.src.val + ch.val ∧ s.ring.exch.any (fun e => e.1 == key && e.2 == num.toNat) = false ∧ s.exchInputs h.src ch = [(k, lag, words.length)] ∧ rest = s.ring.exch.filter (fun e => e.1 != key || decide (num.toNat < e.2 + 8)) ∧ u = s.forward h) ∧
    (∃ (s : State) (h : RingHdr) (num : BitVec 48) (dig : List Byte) (wsig : Word) (flags : Word), Reaches h tySig 0 num.toNat (le 6 num.toNat ++ [0, 0] ++ dig ++ le 4 wsig.toNat ++ le 4 flags.toNat) s) :=
  ⟨⟨up, 0, 0, 0, 0, 0, by decide +kernel⟩,
   ⟨mRing (fun r => { r with num48 := some 0x1000001 }) (on [(F.PLL_STATUS_SRC, 2), (F.CATCH_CTRL_RUN, 1)] crew), 0, 1, 0, _, 0, 0x1000001, _, by decide +kernel, by decide +kernel, rfl, by decide +kernel, by decide +kernel, by decide +kernel, by decide +kernel, by decide +kernel, by decide +kernel, rfl⟩,
   ⟨on [(F.PLL_STATUS_SRC, 2), (F.CATCH_CTRL_RUN, 1)] crew, 0, 0, 0, _, 0, by decide +kernel, by decide +kernel, rfl, by decide +kernel⟩,
   ⟨up, 0, by decide +kernel⟩,
   ⟨mCat (fun c => { c with first := false, next := 125 }) (mRing (fun r => { r with placed := true }) (on [(F.PLL_STATUS_SRC, 2), (F.CATCH_CTRL_RUN, 1)] crew)), 0, 0, 0, _, 0, 1, 4000, 0, -4000, 0, by decide +kernel, by decide +kernel, rfl, by decide +kernel⟩,
   ⟨mRing (fun x => { x with good := 63 }) up, -8, by decide +kernel⟩,
   ⟨mRing (fun x => { x with bad := 3 }) up, 65, by decide +kernel⟩,
   ⟨crew, hd tyExch (0 : Fin 16) (0 : BitVec 32).toNat (wordBytes (List.replicate 8 0 : List Word)), 0, 0, List.replicate 8 0, by unfold Reaches; decide +kernel⟩,
   ⟨binds [.exch 0 [33]] (on [(F.CASC_CFG_DEVICES, 8), (F.CASC_STATE_POS, 1)] up), _, hd tyExch (0 : Fin 16) (0 : BitVec 32).toNat (wordBytes ([7] : List Word)), 0, 0, [7], 0, 0, _, _, by unfold Reaches; decide +kernel, rfl, by decide +kernel, by decide +kernel, rfl, rfl⟩,
   ⟨crew, hd tySig 0 (0 : BitVec 48).toNat (le 6 (0 : BitVec 48).toNat ++ [0, 0] ++ ([] : List Byte) ++ le 4 (0 : BitVec 32).toNat ++ le 4 (0 : BitVec 32).toNat), 0, [], 0, 0, by unfold Reaches; decide +kernel⟩⟩

theorem test_met_RingFrames_4 : ∃ (s : State) (u : State) (h : RingHdr) (num : BitVec 48) (dig : List Byte) (wsig : Word) (flags : Word) (sg : List (Nat × Nat × List Byte × Nat)), Reaches h tySig 0 num.toNat (le 6 num.toNat ++ [0, 0] ++ dig ++ le 4 wsig.toNat ++ le 4 flags.toNat) s ∧ h.src.val ≠ s.pos' ∧ bit (s.fld F.CASC_MEMBERS_LOST) h.src = false ∧ h.src.val < s.devices ∧ flags.getLsbD 0 = true ∧ s.role = roleStroke ∧ s.ring.sigs = [] ∧ sg = [(h.src.val, num.toNat, dig.take 8, flags.toNat)] ∧ u = s.forward h :=
  ⟨mRing (fun x => { x with sigs := [] }) (on [(F.CASC_CFG_DEVICES, 8), (F.CASC_STATE_ROLE, roleStroke)] up), _, hdr 2 0 tySig 0 (0 : BitVec 48).toNat (le 6 (0 : BitVec 48).toNat ++ [0, 0] ++ ([] : List Byte) ++ le 4 (0 : BitVec 32).toNat ++ le 4 (1 : BitVec 32).toNat), 0, [], 0, 1, _, by unfold Reaches; decide +kernel, by decide +kernel, by decide +kernel, by decide +kernel, by decide +kernel, by decide +kernel, by decide +kernel, rfl, rfl⟩

theorem test_met_RingRequests_1 :
    (∃ (s : State) (h : RingHdr) (addr : Word) (count : BitVec 16) (bad : List (Nat × MemErr)), RingTakes h tyRd addr.toNat (le 2 count.toNat ++ [0, 0]) s) ∧
    (∃ (s : State) (h : RingHdr) (addr : Word) (w : Word), RingTakes h tyWr addr.toNat (wordBytes [w]) s) ∧
    (∃ (s : State) (h : RingHdr) (addr : Word), RingTakes h tyWr addr.toNat [] s ∧ s.ring.trusted = true) ∧
    (∃ (s : State) (h : RingHdr) (num : BitVec 48), RingTakes h tyCtl 0 (ctlBody ctGo (le 6 num.toNat ++ [0, 0])) s ∧ ((s.ring.trusted = false ∨ s.on F.CASC_STATE_READY = false))) ∧
    (∃ (s : State) (h : RingHdr) (num : BitVec 48), RingTakes h tyCtl 0 (ctlBody ctAlign (le 6 num.toNat ++ [0, 0])) s ∧ s.ring.trusted = false) ∧
    (∃ (s : State) (h : RingHdr), CtlTakes h ctEnum [0, 0, 0, 0] s) ∧
    (∃ (s : State) (h : RingHdr), CtlTakes h ctEnum [1, 0, 0, 0] s ∧ h.hops.val + 1 + s.pos' = s.devices) ∧
    (∃ (s : State) (h : RingHdr), CtlTakes h ctEnum [1, 0, 0, 0] s ∧ h.hops.val + 1 + s.pos' ≠ s.devices ∧ h.hops.val < s.devices) ∧
    (∃ (s : State) (h : RingHdr) (r : Fin 2), Reaches h tyCtl h.tag 0 (ctlBody ctEnum [BitVec.ofNat 8 r, 0, 0, 0]) s ∧ s.role = roleStroke) ∧
    (∃ (s : State) (h : RingHdr) (o : CtlOdd) (u : BitVec 8) (a : BitVec 8) (n : BitVec 48) (r : Fin 2) (l : Word) (x : Word) (y : Word) (z : Word) (c : Nat) (i : Instr), c = o.code.toNat ∧ i ∈ [.enum h r (some o), .loop h l (some o), .getNonce h (some o), .align h n (some o), .readyQ h (some o), .drive h u a n x y z (some o), .go h n (some o), .ctlAbort h n (some o), .restart h (some o)] ∧ RingTakes h tyCtl 0 (ctlBody c o.body) s) :=
  ⟨⟨mRing (fun x => { x with trusted := true }) (on [(F.CASC_CFG_DEVICES, 8), (F.CASC_STATE_ROLE, roleCrew), (F.CASC_STATE_POS, 1), (F.CASC_STATE_READY, 1)] up), hd tyRd 5 (0 : BitVec 32).toNat (le 2 (0 : BitVec 16).toNat ++ [0, 0]), 0, 0, [], by unfold RingTakes Reaches; decide +kernel⟩,
   ⟨mRing (fun x => { x with trusted := true }) (on [(F.CASC_CFG_DEVICES, 8), (F.CASC_STATE_ROLE, roleCrew), (F.CASC_STATE_POS, 1), (F.CASC_STATE_READY, 1)] up), hd tyWr 5 (0 : BitVec 32).toNat (wordBytes [(0 : BitVec 32)]), 0, 0, by unfold RingTakes Reaches; decide +kernel⟩,
   ⟨crew, hd tyWr 5 (0 : BitVec 32).toNat [], 0, by unfold RingTakes Reaches; decide +kernel⟩,
   ⟨on [(F.CASC_STATE_READY, 0)] crew, hd tyCtl 5 0 (ctlBody ctGo (le 6 (0 : BitVec 48).toNat ++ [0, 0])), 0, by unfold RingTakes Reaches; decide +kernel⟩,
   ⟨mRing (fun r => { r with trusted := false }) (on [(F.CASC_CFG_DEVICES, 8), (F.CASC_STATE_ROLE, roleCrew), (F.CASC_STATE_POS, 1), (F.CASC_STATE_READY, 1)] up), hd tyCtl 5 0 (ctlBody ctAlign (le 6 (0 : BitVec 48).toNat ++ [0, 0])), 0, by unfold RingTakes Reaches; decide +kernel⟩,
   ⟨mRing (fun x => { x with trusted := true }) (on [(F.CASC_CFG_DEVICES, 8), (F.CASC_STATE_ROLE, roleCrew), (F.CASC_STATE_POS, 1), (F.CASC_STATE_READY, 1)] up), hd tyCtl 5 0 (ctlBody ctEnum [0, 0, 0, 0]), by unfold CtlTakes RingTakes Reaches; decide +kernel⟩,
   ⟨mRing (fun x => { x with trusted := true }) (on [(F.CASC_CFG_DEVICES, 8), (F.CASC_STATE_ROLE, roleCrew), (F.CASC_STATE_POS, 1), (F.CASC_STATE_READY, 1)] up), { hd tyCtl 5 0 (ctlBody ctEnum [1, 0, 0, 0]) with hops := 6, crc := (crcBytes (ringBytes { hd tyCtl 5 0 (ctlBody ctEnum [1, 0, 0, 0]) with hops := 6 } tyCtl 5 0 (ctlBody ctEnum [1, 0, 0, 0]))) }, by unfold CtlTakes RingTakes Reaches; decide +kernel⟩,
   ⟨mRing (fun x => { x with trusted := true }) (on [(F.CASC_CFG_DEVICES, 8), (F.CASC_STATE_ROLE, roleCrew), (F.CASC_STATE_POS, 1), (F.CASC_STATE_READY, 1)] up), hd tyCtl 5 0 (ctlBody ctEnum [1, 0, 0, 0]), by unfold CtlTakes RingTakes Reaches; decide +kernel⟩,
   ⟨on [(F.CASC_CFG_DEVICES, 8), (F.CASC_STATE_ROLE, roleStroke)] up, hdr 2 0 tyCtl 5 0 (ctlBody ctEnum [BitVec.ofNat 8 (0 : Fin 2), 0, 0, 0]), 0, by unfold Reaches; decide +kernel⟩,
   ⟨crew, hd tyCtl 5 0 (ctlBody 13 []), ⟨13, []⟩, 0, 0, 0, 0, 0, 0, 0, 0, 13, .getNonce (hd tyCtl 5 0 (ctlBody 13 [])) (some ⟨13, []⟩), rfl, by simp, by unfold RingTakes Reaches; decide +kernel⟩⟩

theorem test_met_RingRequests_2 :
    (∃ (s : State) (h : RingHdr) (o : CtlOdd) (r : Fin 2), Reaches h tyCtl h.tag 0 (ctlBody o.code.toNat o.body) s ∧ s.role = roleStroke) ∧
    (∃ (s : State) (h : RingHdr) (l : Word), CtlTakes h ctLoop (le 4 l.toNat) s ∧ s.ring.rounds = []) ∧
    (∃ (s : State) (h : RingHdr) (l : Word) (n : Nat) (x : Int), CtlTakes h ctLoop (le 4 l.toNat) s ∧ n = s.ring.rounds.length ∧ n ≠ 0 ∧ x = (l.toNat : Int) - s.ring.res) ∧
    (∃ (s : State) (h : RingHdr) (n : List Byte), RingTakes h tyCtl 0 (ctlBody ctNonce n) s) ∧
    (∃ (s : State) (h : RingHdr), CtlTakes h ctGetNonce [] s) ∧
    (∃ (s : State) (h : RingHdr) (len : Word) (ns : List (List Byte)) (o : List Byte) (mine : List Byte), CtlTakes h ctVerify (le 4 len.toNat ++ ns.flatten) s ∧ ns.length + 1 = s.devices ∧ ((∀ n ∈ ns, n.length = 16)) ∧ o = s.bufBytes (min len.toNat 262144) ∧ s.ring.nonceOwn.find? (fun e => e.1 == 0) = some (0, mine) ∧ mine ≠ [] ∧ ns.getD (s.pos' - 1) [] = mine) ∧
    (∃ (s : State) (h : RingHdr) (len : Word) (ns : List (List Byte)) (o : List Byte) (v : Nat), CtlTakes h ctVerify (le 4 len.toNat ++ ns.flatten) s ∧ ns.length + 1 = s.devices ∧ ((∀ n ∈ ns, n.length = 16)) ∧ o = s.bufBytes (min len.toNat 262144) ∧ s.verdict o 0 ((digestOf ns.flatten).take 16) = v ∧ v ≠ 0) ∧
    (∃ (s : State) (h : RingHdr) (len : Word) (ns : List (List Byte)), CtlTakes h ctVerify (le 4 len.toNat ++ ns.flatten) s ∧ ((ns.length + 1 ≠ s.devices ∨ ∃ n ∈ ns, n.length ≠ 16))) ∧
    (∃ (s : State) (h : RingHdr) (n : BitVec 48), CtlTakes h ctAlign (le 6 n.toNat ++ [0, 0]) s) ∧
    (∃ (s : State) (h : RingHdr), CtlTakes h ctReadyQ [] s) :=
  ⟨⟨strk, hdr 1 0 tyCtl 5 0 (ctlBody 13 []), ⟨13, []⟩, 0, by unfold Reaches; decide +kernel⟩,
   ⟨mRing (fun x => { x with trusted := true, rounds := [] }) (on [(F.CASC_CFG_DEVICES, 8), (F.CASC_STATE_ROLE, roleCrew), (F.CASC_STATE_POS, 1), (F.CASC_STATE_READY, 1)] up), hd tyCtl 5 0 (ctlBody ctLoop (le 4 (0 : BitVec 32).toNat)), 0, by unfold CtlTakes RingTakes Reaches; decide +kernel⟩,
   ⟨mRing (fun r => { r with rounds := [(1, 2)] }) (mRing (fun x => { x with trusted := true }) (on [(F.CASC_CFG_DEVICES, 8), (F.CASC_STATE_ROLE, roleCrew), (F.CASC_STATE_POS, 1), (F.CASC_STATE_READY, 1)] up)), hd tyCtl 5 0 (ctlBody ctLoop (le 4 (0 : BitVec 32).toNat)), 0, _, _, by unfold CtlTakes RingTakes Reaches; decide +kernel, rfl, by decide +kernel, rfl⟩,
   ⟨mRing (fun x => { x with trusted := true }) (on [(F.CASC_CFG_DEVICES, 8), (F.CASC_STATE_ROLE, roleCrew), (F.CASC_STATE_POS, 1), (F.CASC_STATE_READY, 1)] up), hd tyCtl 5 0 (ctlBody ctNonce ([] : List Byte)), [], by unfold RingTakes Reaches; decide +kernel⟩,
   ⟨mRing (fun x => { x with trusted := true }) (on [(F.CASC_CFG_DEVICES, 8), (F.CASC_STATE_ROLE, roleCrew), (F.CASC_STATE_POS, 1), (F.CASC_STATE_READY, 1)] up), hd tyCtl 5 0 (ctlBody ctGetNonce []), by unfold CtlTakes RingTakes Reaches; decide +kernel⟩,
   ⟨on [(F.CASC_CFG_DEVICES, 2)] (mRing (fun r => { r with nonceOwn := [(0, List.replicate 16 7)] }) (mRing (fun x => { x with trusted := true }) (on [(F.CASC_CFG_DEVICES, 8), (F.CASC_STATE_ROLE, roleCrew), (F.CASC_STATE_POS, 1), (F.CASC_STATE_READY, 1)] up))), hd tyCtl 5 0 (ctlBody ctVerify (le 4 (0 : BitVec 32).toNat ++ ([List.replicate 16 7] : List (List Byte)).flatten)), 0, [List.replicate 16 7], _, List.replicate 16 7, by unfold CtlTakes RingTakes Reaches; decide +kernel, by decide +kernel, by intro n h; rw [List.mem_singleton.mp h]; rfl, rfl, by decide +kernel⟩,
   ⟨on [(F.CASC_CFG_DEVICES, 2)] (mRing (fun x => { x with trusted := true }) (on [(F.CASC_CFG_DEVICES, 8), (F.CASC_STATE_ROLE, roleCrew), (F.CASC_STATE_POS, 1), (F.CASC_STATE_READY, 1)] up)), hd tyCtl 5 0 (ctlBody ctVerify (le 4 (0 : BitVec 32).toNat ++ ([List.replicate 16 7] : List (List Byte)).flatten)), 0, [List.replicate 16 7], _, 1, by unfold CtlTakes RingTakes Reaches; decide +kernel, by decide +kernel, by intro n h; rw [List.mem_singleton.mp h]; rfl, rfl, by decide +kernel⟩,
   ⟨mRing (fun x => { x with trusted := true }) (on [(F.CASC_CFG_DEVICES, 8), (F.CASC_STATE_ROLE, roleCrew), (F.CASC_STATE_POS, 1), (F.CASC_STATE_READY, 1)] up), hd tyCtl 5 0 (ctlBody ctVerify (le 4 (0 : BitVec 32).toNat ++ ([] : List (List Byte)).flatten)), 0, [], by unfold CtlTakes RingTakes Reaches; decide +kernel⟩,
   ⟨mRing (fun x => { x with trusted := true }) (on [(F.CASC_CFG_DEVICES, 8), (F.CASC_STATE_ROLE, roleCrew), (F.CASC_STATE_POS, 1), (F.CASC_STATE_READY, 1)] up), hd tyCtl 5 0 (ctlBody ctAlign (le 6 (0 : BitVec 48).toNat ++ [0, 0])), 0, by unfold CtlTakes RingTakes Reaches; decide +kernel⟩,
   ⟨mRing (fun x => { x with trusted := true }) (on [(F.CASC_CFG_DEVICES, 8), (F.CASC_STATE_ROLE, roleCrew), (F.CASC_STATE_POS, 1), (F.CASC_STATE_READY, 1)] up), hd tyCtl 5 0 (ctlBody ctReadyQ []), by unfold CtlTakes RingTakes Reaches; decide +kernel⟩⟩

theorem test_met_RingRequests_3 :
    (∃ (s : State) (h : RingHdr) (u : BitVec 8) (a : BitVec 8) (n : BitVec 48) (x : Word) (y : Word) (z : Word), CtlTakes h ctDrive ([u, a, 0, 0] ++ le 6 n.toNat ++ [0, 0] ++ wordBytes [x, y, z]) s ∧ u.toNat < 2) ∧
    (∃ (s : State) (h : RingHdr) (u : BitVec 8) (a : BitVec 8) (n : BitVec 48) (x : Word) (y : Word) (z : Word), CtlTakes h ctDrive ([u, a, 0, 0] ++ le 6 n.toNat ++ [0, 0] ++ wordBytes [x, y, z]) s ∧ 2 ≤ u.toNat) ∧
    (∃ (s : State) (t : State) (h : RingHdr) (n : BitVec 48) (o : List (List Byte)) (w : List (List Byte)) (c : Nat) (body : List Byte), body = le 6 n.toNat ++ [0, 0] ++ (List.zipWith (fun a b => a ++ b) o w).flatten ∧ CtlTakes h ctPrepare body s) ∧
    (∃ (s : State) (h : RingHdr) (n : BitVec 48), CtlTakes h ctGo (le 6 n.toNat ++ [0, 0]) s ∧ s.stageState = sArmed ∧ s.fab.armN = n.toNat ∧ s.cat.num + 2 < n.toNat) ∧
    (∃ (s : State) (h : RingHdr) (n : BitVec 48), CtlTakes h ctGo (le 6 n.toNat ++ [0, 0]) s ∧ ((s.stageState ≠ sArmed ∨ s.fab.armN ≠ n.toNat ∨ n.toNat ≤ s.cat.num + 2))) ∧
    (∃ (s : State) (h : RingHdr) (n : BitVec 48), CtlTakes h ctAbort (le 6 n.toNat ++ [0, 0]) s ∧ s.stageState = sArmed ∧ s.fab.armN = n.toNat) ∧
    (∃ (s : State) (h : RingHdr) (n : BitVec 48), CtlTakes h ctAbort (le 6 n.toNat ++ [0, 0]) s ∧ s.stageState = sCommitted) ∧
    (∃ (s : State) (h : RingHdr), CtlTakes h ctRestart [] s) :=
  ⟨⟨mRing (fun x => { x with trusted := true }) (on [(F.CASC_CFG_DEVICES, 8), (F.CASC_STATE_ROLE, roleCrew), (F.CASC_STATE_POS, 1), (F.CASC_STATE_READY, 1)] up), hd tyCtl 5 0 (ctlBody ctDrive ([(0 : BitVec 8), (0 : BitVec 8), 0, 0] ++ le 6 (0 : BitVec 48).toNat ++ [0, 0] ++ wordBytes [(0 : BitVec 32), (0 : BitVec 32), (0 : BitVec 32)])), 0, 0, 0, 0, 0, 0, by unfold CtlTakes RingTakes Reaches; decide +kernel⟩,
   ⟨mRing (fun x => { x with trusted := true }) (on [(F.CASC_CFG_DEVICES, 8), (F.CASC_STATE_ROLE, roleCrew), (F.CASC_STATE_POS, 1), (F.CASC_STATE_READY, 1)] up), hd tyCtl 5 0 (ctlBody ctDrive ([(2 : BitVec 8), (0 : BitVec 8), 0, 0] ++ le 6 (0 : BitVec 48).toNat ++ [0, 0] ++ wordBytes [(0 : BitVec 32), (0 : BitVec 32), (0 : BitVec 32)])), 2, 0, 0, 0, 0, 0, by unfold CtlTakes RingTakes Reaches; decide +kernel⟩,
   ⟨on [(F.CASC_CFG_DEVICES, 2)] (mRing (fun x => { x with trusted := true }) (on [(F.CASC_CFG_DEVICES, 8), (F.CASC_STATE_ROLE, roleCrew), (F.CASC_STATE_POS, 1), (F.CASC_STATE_READY, 1)] up)), up, hd tyCtl 5 0 (ctlBody ctPrepare (le 6 (9 : BitVec 48).toNat ++ [0, 0] ++ (List.zipWith (fun a b => a ++ b) (List.replicate 2 (List.replicate 8 0) : List (List Byte)) (List.replicate 2 (List.replicate 8 0) : List (List Byte))).flatten)), 9, List.replicate 2 (List.replicate 8 0), List.replicate 2 (List.replicate 8 0), 0, _, rfl, by unfold CtlTakes RingTakes Reaches; decide +kernel⟩,
   ⟨mFab (fun f => { f with armN := 9 }) (on [(F.PLAN_STATUS_STAGE_STATE, sArmed)] crew), hd tyCtl 5 0 (ctlBody ctGo (le 6 (9 : BitVec 48).toNat ++ [0, 0])), 9, by unfold CtlTakes RingTakes Reaches; decide +kernel⟩,
   ⟨mRing (fun x => { x with trusted := true }) (on [(F.CASC_CFG_DEVICES, 8), (F.CASC_STATE_ROLE, roleCrew), (F.CASC_STATE_POS, 1), (F.CASC_STATE_READY, 1)] up), hd tyCtl 5 0 (ctlBody ctGo (le 6 (0 : BitVec 48).toNat ++ [0, 0])), 0, by unfold CtlTakes RingTakes Reaches; decide +kernel⟩,
   ⟨mFab (fun f => { f with armN := 9 }) (on [(F.PLAN_STATUS_STAGE_STATE, sArmed)] crew), hd tyCtl 5 0 (ctlBody ctAbort (le 6 (9 : BitVec 48).toNat ++ [0, 0])), 9, by unfold CtlTakes RingTakes Reaches; decide +kernel⟩,
   ⟨mRing (fun x => { x with trusted := true }) (on [(F.CASC_CFG_DEVICES, 8), (F.CASC_STATE_ROLE, roleCrew), (F.CASC_STATE_POS, 1), (F.CASC_STATE_READY, 1), (F.PLAN_STATUS_STAGE_STATE, sCommitted)] up), hd tyCtl 5 0 (ctlBody ctAbort (le 6 (0 : BitVec 48).toNat ++ [0, 0])), 0, by unfold CtlTakes RingTakes Reaches; decide +kernel⟩,
   ⟨mRing (fun x => { x with trusted := true }) (on [(F.CASC_CFG_DEVICES, 8), (F.CASC_STATE_ROLE, roleCrew), (F.CASC_STATE_POS, 1), (F.CASC_STATE_READY, 1)] up), hd tyCtl 5 0 (ctlBody ctRestart []), by unfold CtlTakes RingTakes Reaches; decide +kernel⟩⟩

theorem test_met_DiscardedFrames :
    (∃ (s : State) (i : Instr) (h : RingHdr) (typ : Nat) (b3 : Nat) (addr : Nat) (payload : List Byte), frameOf i = some (h, typ, b3, addr, payload) ∧ s.sup.die = .running ∧ s.cascaded = true ∧ bit s.ring.down h.ring = false ∧ ringGood h typ b3 addr payload = false) ∧
    (∃ (s : State) (r : Fin 2), s.sup.die = .running ∧ s.cascaded = true ∧ bit s.ring.down r = false) ∧
    (∃ (s : State) (r : Fin 2), bit s.ring.down r = true) ∧
    (∃ (h : RingHdr) (ch : Fin 16) (num : Word) (words : List Word), 8 < words.length) ∧
    (∃ (h : RingHdr) (addr : Word) (words : List Word), 256 < words.length) ∧
    (∃ (h : RingHdr) (num : Nat) (dig : List Byte) (w : Nat) (f : Nat), 8 < dig.length) :=
  ⟨⟨crew, .getNonce { h0 with viol := true } none, { h0 with viol := true }, tyCtl, 5, 0, ctlBody ctGetNonce [], rfl, by decide +kernel⟩,
   ⟨on [(F.CASC_CFG_DEVICES, 8)] up, 0, by decide +kernel⟩,
   ⟨mRing (fun r => { r with down := 1 }) up, 0, by decide +kernel⟩,
   ⟨h0, 0, 0, List.replicate 9 0, by decide +kernel⟩,
   ⟨h0, 0, List.replicate 257 0, by decide +kernel⟩,
   ⟨h0, 0, List.replicate 9 0, 0, 0, by decide +kernel⟩⟩

theorem test_met_StrokeTransactions_1 :
    (∃ (s : State) (h : RingHdr) (st : BitVec 8) (err : BitVec 8) (data : List Word), Reaches h tyRsp h.tag 0 ([st, err] ++ wordBytes data) s ∧ s.txnOf h = none) ∧
    (∃ (s : State) (h : RingHdr) (code : BitVec 8) (st : BitVec 8) (body : List Byte), Reaches h tyCtlr h.tag 0 ([code, st, 0, 0] ++ body) s ∧ s.txnOf h = none) ∧
    (∃ (s : State) (h : RingHdr) (st : BitVec 8) (err : BitVec 8) (data : List Word) (x : RingTxn), Reaches h tyRsp h.tag 0 ([st, err] ++ wordBytes data) s ∧ s.txnOf h = some x) ∧
    (∃ (s : State) (h : RingHdr) (data : List Word) (x : RingTxn) (y : Xfer), Reaches h tyRsp h.tag 0 ([0, 0] ++ wordBytes data) s ∧ s.txnOf h = some x ∧ x.typ ≠ tyCtl ∧ hostRegion x.addr = 4 ∧ s.ring.xfer = some y ∧ y.pos = x.dst) ∧
    (∃ (s : State) (h : RingHdr) (data : List Word) (x : RingTxn), Reaches h tyRsp h.tag 0 ([0, 0] ++ wordBytes data) s ∧ s.txnOf h = some x ∧ x.typ ≠ tyCtl ∧ x.addr = R.MB_STATE strokeChannel) ∧
    (∃ (s : State) (h : RingHdr) (data : List Word) (x : RingTxn), Reaches h tyRsp h.tag 0 ([0, 0] ++ wordBytes data) s ∧ s.txnOf h = some x ∧ x.typ ≠ tyCtl ∧ x.addr = R.PLAN_STAGE_DIG 0 ∧ s.startStep ≠ 8) ∧
    (∃ (s : State) (h : RingHdr) (code : BitVec 8) (st : BitVec 8) (body : List Byte) (x : RingTxn), Reaches h tyCtlr h.tag 0 ([code, st, 0, 0] ++ body) s ∧ s.txnOf h = some x ∧ ((x.typ ≠ tyCtl ∨ byteAt x.body 0 ≠ code.toNat ∨ h.src = 0 ∨ s.devices ≤ h.src.val ∨ bit x.got h.src = true))) ∧
    (∃ (s : State) (h : RingHdr) (body : List Byte) (x : RingTxn), Reaches h tyCtlr h.tag 0 ([6, 0, 0, 0] ++ body) s ∧ s.txnOf h = some x ∧ x.typ = tyCtl ∧ byteAt x.body 0 = 6 ∧ h.src ≠ 0 ∧ h.src.val < s.devices ∧ bit x.got h.src = false ∧ x.dst = allMembers ∧ s.allCrew (setBit x.got h.src) = false) ∧
    (∃ (s : State) (h : RingHdr) (body : List Byte) (x : RingTxn), Reaches h tyCtlr h.tag 0 ([6, 0, 0, 0] ++ body) s ∧ s.txnOf h = some x ∧ x.typ = tyCtl ∧ byteAt x.body 0 = 6 ∧ h.src ≠ 0 ∧ h.src.val < s.devices ∧ bit x.got h.src = false ∧ ((x.dst ≠ allMembers ∨ s.allCrew (setBit x.got h.src) = true))) ∧
    (∃ (s : State) (h : RingHdr) (st : BitVec 8) (body : List Byte) (x : RingTxn), Reaches h tyCtlr h.tag 0 ([2, st, 0, 0] ++ body) s ∧ s.txnOf h = some x ∧ x.typ = tyCtl ∧ byteAt x.body 0 = 2 ∧ h.src ≠ 0 ∧ h.src.val < s.devices ∧ bit x.got h.src = false ∧ st ≠ 0) :=
  ⟨⟨strk, hdr 2 0 tyRsp 5 0 ([(0 : BitVec 8), (0 : BitVec 8)] ++ wordBytes ([] : List Word)), 0, 0, [], by unfold Reaches; decide +kernel⟩,
   ⟨on [(F.CASC_CFG_DEVICES, 8)] up, hdr 2 0 tyCtlr 5 0 ([(0 : BitVec 8), (0 : BitVec 8), 0, 0] ++ ([] : List Byte)), 0, 0, [], by unfold Reaches; decide +kernel⟩,
   ⟨sent (txn tyCtl 2 0 []), hdr 2 0 tyRsp 5 0 ([(0 : BitVec 8), (0 : BitVec 8)] ++ wordBytes ([] : List Word)), 0, 0, [], txn tyCtl 2 0 [], by unfold Reaches; decide +kernel⟩,
   ⟨mRing (fun r => { r with xfer := some ⟨0, 2, 0, 0, 1⟩ }) (sent (txn tyRd 2 0x203FFFFC [])), hdr 2 0 tyRsp 5 0 ([0, 0] ++ wordBytes ([] : List Word)), [], txn tyRd 2 0x203FFFFC [], ⟨0, 2, 0, 0, 1⟩, by unfold Reaches; decide +kernel⟩,
   ⟨sent (txn tyRd 2 (R.MB_STATE strokeChannel) []), hdr 2 0 tyRsp 5 0 ([0, 0] ++ wordBytes ([] : List Word)), [], txn tyRd 2 (R.MB_STATE strokeChannel) [], by unfold Reaches; decide +kernel⟩,
   ⟨sent (txn tyRd 2 (R.PLAN_STAGE_DIG 0) []), hdr 2 0 tyRsp 5 0 ([0, 0] ++ wordBytes ([] : List Word)), [], txn tyRd 2 (R.PLAN_STAGE_DIG 0) [], by unfold Reaches; decide +kernel⟩,
   ⟨sent (txn tyRd 2 0 []), hdr 2 0 tyCtlr 5 0 ([(0 : BitVec 8), (0 : BitVec 8), 0, 0] ++ ([] : List Byte)), 0, 0, [], txn tyRd 2 0 [], by unfold Reaches; decide +kernel⟩,
   ⟨sent (txn tyCtl allMembers 0 [6]), hdr 2 0 tyCtlr 5 0 ([6, 0, 0, 0] ++ ([] : List Byte)), [], txn tyCtl allMembers 0 [6], by unfold Reaches; decide +kernel⟩,
   ⟨sent (txn tyCtl 2 0 [6]), hdr 2 0 tyCtlr 5 0 ([6, 0, 0, 0] ++ ([] : List Byte)), [], txn tyCtl 2 0 [6], by unfold Reaches; decide +kernel⟩,
   ⟨sent (txn tyCtl 2 0 [2]), hdr 2 0 tyCtlr 5 0 ([2, (1 : BitVec 8), 0, 0] ++ ([] : List Byte)), 1, [], txn tyCtl 2 0 [2], by unfold Reaches; decide +kernel⟩⟩

theorem test_met_StrokeTransactions_2 :
    (∃ (s : State) (h : RingHdr) (st : BitVec 8) (body : List Byte) (x : RingTxn), Reaches h tyCtlr h.tag 0 ([6, st, 0, 0] ++ body) s ∧ s.txnOf h = some x ∧ x.typ = tyCtl ∧ byteAt x.body 0 = 6 ∧ h.src ≠ 0 ∧ h.src.val < s.devices ∧ bit x.got h.src = false ∧ st ≠ 0) ∧
    (∃ (s : State) (h : RingHdr) (st : BitVec 8) (body : List Byte) (x : RingTxn), Reaches h tyCtlr h.tag 0 ([4, st, 0, 0] ++ body) s ∧ s.txnOf h = some x ∧ x.typ = tyCtl ∧ byteAt x.body 0 = 4 ∧ h.src ≠ 0 ∧ h.src.val < s.devices ∧ bit x.got h.src = false ∧ st ≠ 0) ∧
    (∃ (s : State) (h : RingHdr) (body : List Byte) (x : RingTxn), Reaches h tyCtlr h.tag 0 ([1, 0, 0, 0] ++ body) s ∧ s.txnOf h = some x ∧ x.typ = tyCtl ∧ byteAt x.body 0 = 1 ∧ h.src ≠ 0 ∧ h.src.val < s.devices ∧ bit x.got h.src = false ∧ byteAt body 0 = h.src.val ∧ x.dst = allMembers ∧ s.allCrew (setBit x.got h.src) = false) ∧
    (∃ (s : State) (h : RingHdr) (body : List Byte) (x : RingTxn), Reaches h tyCtlr h.tag 0 ([5, 0, 0, 0] ++ body) s ∧ s.txnOf h = some x ∧ x.typ = tyCtl ∧ byteAt x.body 0 = 5 ∧ h.src ≠ 0 ∧ h.src.val < s.devices ∧ bit x.got h.src = false ∧ x.dst = h.src.val ∧ byteAt body 0 ≠ 0) ∧
    (∃ (s : State) (r : Fin 2) (tag : Fin 128), s.sup.die = .running ∧ s.ring.txns.find? (fun x => x.ring == r.val && x.tag == tag.val) = none) ∧
    (∃ (s : State) (r : Fin 2) (tag : Fin 128) (x : RingTxn), s.sup.die = .running ∧ s.ring.txns.find? (fun x => x.ring == r.val && x.tag == tag.val) = some x) ∧
    (∃ (s : State) (ok : Bool) (us : Nat) (p : Fin 8) (d : BitVec 16), s.sup.die = .running ∧ s.cascaded = true ∧ s.startStep ≠ 0 ∧ ((ok = false ∨ stepBound s.startStep < us))) ∧
    (∃ (s : State) (us : Nat) (p : Fin 8) (d : BitVec 16), s.sup.die = .running ∧ s.cascaded = true ∧ s.startStep ≠ 0 ∧ us ≤ stepBound s.startStep ∧ s.stepDone s.startStep = false) ∧
    (∃ (s : State) (us : Nat) (p : Fin 8) (d : BitVec 16), s.sup.die = .running ∧ s.cascaded = true ∧ s.startStep ≠ 0 ∧ us ≤ stepBound s.startStep ∧ s.stepDone s.startStep = true ∧ s.startStep = 11) ∧
    (∃ (s : State) (us : Nat) (p : Fin 8) (d : BitVec 16), s.sup.die = .running ∧ s.cascaded = true ∧ s.startStep ≠ 0 ∧ us ≤ stepBound s.startStep ∧ s.stepDone s.startStep = true ∧ s.startStep < 11 ∧ s.role ≠ roleStroke) :=
  ⟨⟨sent (txn tyCtl 2 0 [6]), hdr 2 0 tyCtlr 5 0 ([6, (1 : BitVec 8), 0, 0] ++ ([] : List Byte)), 1, [], txn tyCtl 2 0 [6], by unfold Reaches; decide +kernel⟩,
   ⟨sent (txn tyCtl 2 0 [4]), hdr 2 0 tyCtlr 5 0 ([4, (1 : BitVec 8), 0, 0] ++ ([] : List Byte)), 1, [], txn tyCtl 2 0 [4], by unfold Reaches; decide +kernel⟩,
   ⟨sent (txn tyCtl allMembers 0 [1]), hdr 2 0 tyCtlr 5 0 ([1, 0, 0, 0] ++ ([2] : List Byte)), [2], txn tyCtl allMembers 0 [1], by unfold Reaches; decide +kernel⟩,
   ⟨sent (txn tyCtl 2 0 [5]), hdr 2 0 tyCtlr 5 0 ([5, 0, 0, 0] ++ ([1] : List Byte)), [1], txn tyCtl 2 0 [5], by unfold Reaches; decide +kernel⟩,
   ⟨up, 0, 0, by decide +kernel⟩,
   ⟨sent (txn tyCtl 2 0 []), 0, 5, txn tyCtl 2 0 [], by decide +kernel⟩,
   ⟨on [(F.CASC_CFG_DEVICES, 8), (F.CASC_STATE_STEP, 1)] up, false, 0, 0, 0, by decide +kernel⟩,
   ⟨on [(F.CASC_CFG_DEVICES, 8), (F.CASC_STATE_STEP, 4)] up, 0, 0, 0, by decide +kernel⟩,
   ⟨on [(F.CASC_STATE_STEP, 11), (F.PLAN_STATUS_LIVE_VALID, 1)] strk, 0, 0, 0, by decide +kernel⟩,
   ⟨on [(F.CASC_STATE_STEP, 7)] crew, 0, 0, 0, by decide +kernel⟩⟩

theorem test_met_StrokeTransactions_3 :
    (∃ (s : State) (us : Nat) (p : Fin 8) (d : BitVec 16), s.sup.die = .running ∧ s.cascaded = true ∧ s.startStep ≠ 0 ∧ us ≤ stepBound s.startStep ∧ s.stepDone s.startStep = true ∧ s.startStep < 11 ∧ s.role = roleStroke) ∧
    (∃ (s : State) (n : Nat), s.sup.die = .running ∧ s.cascaded = true ∧ s.role = roleStroke ∧ s.startStep = 6 ∧ s.ring.rounds.length < 64) ∧
    (∃ (s : State) (n : Nat), ((s.role ≠ roleStroke ∨ s.startStep ≠ 6 ∨ 64 ≤ s.ring.rounds.length))) :=
  ⟨⟨on [(F.CASC_STATE_STEP, 7)] (mRing (fun r => { r with trusted := true }) strk), 0, 0, 0, by decide +kernel⟩,
   ⟨on [(F.CASC_CFG_DEVICES, 8), (F.CASC_STATE_ROLE, roleStroke), (F.CASC_STATE_STEP, 6)] up, 0, by decide +kernel⟩,
   ⟨up, 0, by decide +kernel⟩⟩

theorem test_met_SoftwareReset :
    (∃ (s : State) (m : Master) (key : Word), s.sup.die = .running ∧ key.toNat % 65536 ≠ 0xA5C3) ∧
    (∃ (s : State) (m : Master) (key : Word), s.sup.die = .running ∧ key.toNat % 65536 = 0xA5C3 ∧ s.lockStops m 0x01 = false ∧ s.anyOn = true) ∧
    (∃ (s : State) (m : Master) (c : Nat), c < 16) ∧
    (∃ (s : State) (m : Master) (key : Word), s.sup.die = .running ∧ key.toNat % 65536 = 0xA5C3 ∧ s.lockStops m 0x01 = false ∧ s.anyOn = false) :=
  ⟨⟨up, .cox0, 0, by decide +kernel⟩,
   ⟨gate up, .cox0, 0xFFFFA5C3, by decide +kernel⟩,
   ⟨up, .cox0, 0, by decide +kernel⟩,
   ⟨up, .cox0, 0xA5C3, by decide +kernel⟩⟩

theorem test_met_RetentionLatch :
    (∃ (s : State) (r : Rail), s.sup.vsup = true ∧ ((r = .v5 ∨ r = .vcsd ∨ r = .uref))) ∧
    (∃ (s : State), s.sup.vsup = false) ∧
    (∃ (s : State), s.sup.vsup = false) ∧
    (∃ (s : State) (c : Nat) (d : Nat) (a : Nat) (h : Die), s.sup.die = .running) ∧
    (∃ (s : State) (r : Rail), s.sup.vsup = true ∧ s.sup.die = .running ∧ ((r = .vio ∨ r = .v18 ∨ r = .vcore ∨ r = .vdda))) :=
  ⟨⟨mSup (fun x => { x with vsup := true }) up, .uref, by decide +kernel⟩,
   ⟨mSup (fun x => { x with vsup := false }) up, by decide +kernel⟩,
   ⟨mSup (fun x => { x with vsup := false }) up, by decide +kernel⟩,
   ⟨up, 0, 0, 0, .held, by decide +kernel⟩,
   ⟨mSup (fun x => { x with vsup := true }) up, .vio, by decide +kernel⟩⟩

theorem test_met_UncorrectableReads :
    (∃ (s : State) (m : Master) (a : Nat), s.judge m a none = none ∧ ((regionOf a = .firmware ∨ regionOf a = .working ∨ regionOf a = .capture ∨ regionOf a = .buffer))) ∧
    (∃ (s : State) (u : State) (t : State) (i : Fin 3) (f : List Byte) (fmt : Nat), HostTakes i 1 f fmt s ∧ u = s.requestTaken ∧ u.checkCode i f = 0 ∧ s.fw = true ∧ reqWords f = 1 ∧ reqAddr f % 4 = 0 ∧ regionOf (reqAddr f) = .capture ∧ t = (u.busRead (u.hostMaster i) (reqAddr f) (some .uncorr)).2.2) ∧
    (∃ (s : State) (m : Master) (a : Nat), s.judge m a none = none ∧ regionOf a = .capture) :=
  ⟨⟨run, .cox0, 0x203BFFFC, by decide +kernel⟩,
   ⟨host (req 1 0 0x203BFFFC [1, 0, 0, 0]) up, _, _, 0, req 1 0 0x203BFFFC [1, 0, 0, 0], 0, by unfold HostTakes; decide +kernel, rfl, by decide +kernel, by decide +kernel, by decide +kernel, by decide +kernel, by decide +kernel, rfl⟩,
   ⟨run, .cox0, 0x203BFFFC, by decide +kernel⟩⟩

theorem test_met_CommandsComplete :
    (∃ (s : State) (i : Instr), i.wf = true) ∧
    (∃ (s : State) (i : Instr) (op : Nat) (r : OpRec), i.record = some (op, r) ∧ r.ok op = false) ∧
    (∃ (s : State) (t : State), step s = .next t) :=
  ⟨⟨up, .powerUp, by decide +kernel⟩,
   ⟨up, .add (opRec 3 0 0 0 []) 0 .none, 0x42, opRec 3 0 0 0 [], by decide +kernel⟩,
   ⟨up, up, rfl⟩⟩

theorem test_met_StepKeepsMaps : ∃ (s : State) (t : State), s.mapsWf = true ∧ step s = .next t :=
  ⟨up, up, by decide +kernel, rfl⟩

theorem test_met_ResetState : ∃ p, p < 32 :=
  ⟨default, by decide +kernel⟩

theorem test_met_RecordRoundTrip :
    (∃ (op : Nat) (r : OpRec), op < 256) ∧
    (∃ (v : Nat), v < 2 ^ 128) :=
  ⟨⟨0xFF, opRec 3 31 7 255 [0x3FFF, 0x3FFF, 0x3FFF, 0x3FFF, 0x3FFF], by decide +kernel⟩,
   ⟨0, by decide +kernel⟩⟩

end Sys2Proof.Tests
end

section
/-! PROOFS. The safety die's supply and reset state (R73, R77 to R81) is outside the reach of the control die: no operation by
which a unit enters its safe state writes it. One lemma an operation, in the order of the model. -/

namespace Sys2Proof.Machine

variable (s : State)

theorem State.each_sup {α : Type} (l : List α) (f : α → State → State) (hf : ∀ x t, (f x t).sup = t.sup) :
    (s.each l f).sup = s.sup :=
  s.each_induction (fun t => t.sup = s.sup) l f (fun x _ t ht => (hf x t).trans ht) rfl

theorem State.when_sup (c : Bool) (f : State → State) (hf : ∀ t, (f t).sup = t.sup) : (s.when c f).sup = s.sup := by
  cases c
  · rfl
  · exact hf s

/-! ### Host events, requests and calibrations -/

@[simp] theorem State.modLeg_sup (l : Nat) (f : Leg → Leg) : (s.modLeg l f).sup = s.sup := rfl
@[simp] theorem State.modDrive_sup (d : Nat) (f : Drive → Drive) : (s.modDrive d f).sup = s.sup := rfl
@[simp] theorem State.modIf_sup (i : Nat) (f : HostIf → HostIf) : (s.modIf i f).sup = s.sup := rfl
@[simp] theorem State.evPend_sup (i : Nat) : (s.evPend i).sup = s.sup := s.set_sup _ _

@[simp] theorem State.raiseOn_sup (i : Nat) (payload : List Byte) : (s.raiseOn i payload).sup = s.sup := by
  unfold State.raiseOn
  extract_lets
  split
  · simp only [State.ev_sup, State.modIf_sup]
  · simp only [State.evPend_sup, State.setIf_sup]

@[simp] theorem State.hostEvent_sup (code unit detail : Nat) : (s.hostEvent code unit detail).sup = s.sup := by
  unfold State.hostEvent
  split
  · exact s.each_sup _ _ fun i t => t.raiseOn_sup i _
  · rfl

@[simp] theorem State.mbResults_sup (c : Nat) (res : List Nat) : (s.mbResults c res).sup = s.sup :=
  s.each_sup _ _ fun _ t => t.wr_sup _ _

@[simp] theorem State.mbEnd_sup (c code : Nat) (res : List Nat) : (s.mbEnd c code res).sup = s.sup := by
  unfold State.mbEnd
  rw [State.hostEvent_sup, State.setFldBit_sup, State.mbResults_sup, State.set_sup, State.set_sup]

@[simp] theorem State.mbFinish_sup (sv : Nat) (p : MbReq → Bool) (code : Nat) (res : List Nat) :
    (s.mbFinish sv p code res).sup = s.sup :=
  s.each_sup _ _ fun c t => t.mbEnd_sup c code res

@[simp] theorem State.setCal_sup (u : Nat) (p : CalPhase) (log code : Nat) : (s.setCal u p log code).sup = s.sup := rfl

@[simp] theorem State.calFail_sup (u code : Nat) : (s.calFail u code).sup = s.sup := by
  unfold State.calFail
  rw [State.mbFinish_sup, State.each_sup _ _ _ fun h t => t.ev_sup _, State.setCal_sup]

@[simp] theorem State.calAbort_sup (u : Nat) : (s.calAbort u).sup = s.sup := by
  unfold State.calAbort
  split
  · exact s.calFail_sup u _
  · rfl

/-! ### What a unit's entry to a safe state stops -/

@[simp] theorem State.capFreeze_sup (u : Nat) : (s.capFreeze u).sup = s.sup := by
  refine s.each_sup _ _ fun c t => ?_
  split
  · split
    · simp only [State.ev_sup, State.set_sup]
    · rfl
  · rfl

@[simp] theorem State.stopTest_sup (u : Nat) : (s.stopTest u).sup = s.sup :=
  s.each_sup _ _ fun r t => by simp only [State.ev_sup, State.mbEnd_sup]

@[simp] theorem State.abortSelf_sup (u : Nat) (water : Bool) : (s.abortSelf u water).sup = s.sup := by
  unfold State.abortSelf
  extract_lets t
  have ht : t.sup = s.sup := by simp only [t, State.stopTest_sup, State.capFreeze_sup]
  split
  · exact (t.calAbort_sup u).trans ht
  · exact ht

@[simp] theorem State.legOff_sup (l : Nat) : (s.legOff l).sup = s.sup := by
  simp only [State.legOff, State.modLeg_sup, State.set_sup]

@[simp] theorem State.auxSettle_sup (u : Nat) : (s.auxSettle u).sup = s.sup := rfl

@[simp] theorem State.clearEnables_sup (u : Nat) : (s.clearEnables u).sup = s.sup :=
  s.each_sup _ _ fun _ t => t.clearFldBit_sup _ _

@[simp] theorem State.releaseUnit_sup (u : Nat) : (s.releaseUnit u).sup = s.sup := by
  unfold State.releaseUnit
  rw [State.auxSettle_sup, State.each_sup _ _ _ fun l t => t.legOff_sup l, State.clearEnables_sup]

@[simp] theorem State.notice_sup (kind a b : Nat) : (s.notice kind a b).sup = s.sup := by
  unfold State.notice
  split
  · rfl
  · rfl

@[simp] theorem State.ssn_sup (reason : Nat) : (s.ssn reason).sup = s.sup := s.notice_sup _ _ _

/-! ### The drives -/

@[simp] theorem State.chopOff_sup (b : Nat) : (s.chopOff b).sup = s.sup := by
  simp only [State.chopOff, State.set_sup]

@[simp] theorem State.dropChoppers_sup : s.dropChoppers.sup = s.sup :=
  s.each_sup _ _ fun b t => t.when_sup _ _ fun t => t.chopOff_sup b

@[simp] theorem State.armBrakes_sup : s.armBrakes.sup = s.sup := by
  unfold State.armBrakes
  rw [State.dropChoppers_sup]
  refine s.each_sup _ _ fun b t => ?_
  split
  · exact t.set_sup _ _
  · rfl

@[simp] theorem State.setDriveState_sup (d st : Nat) : (s.setDriveState d st).sup = s.sup := by
  unfold State.setDriveState
  extract_lets t u
  have ht : t.sup = s.sup := by simp only [t, State.set_sup]
  have hu : u.sup = s.sup := by
    unfold u
    split
    · exact ht
    · exact (t.wr_sup _ _).trans ht
  rw [State.armBrakes_sup, State.when_sup _ _ _ fun v => v.ev_sup _, hu]

@[simp] theorem State.settleSafe_sup (d : Nat) : (s.settleSafe d).sup = s.sup := by
  unfold State.settleSafe
  split
  · simp only [State.setDriveState_sup, State.modDrive_sup]
  · rfl

@[simp] theorem State.driveSafe_sup (d : Nat) : (s.driveSafe d).sup = s.sup := by
  unfold State.driveSafe
  extract_lets t
  have ht : t.sup = s.sup := s.modDrive_sup d _
  rw [State.releaseUnit_sup]
  split
  · exact ht
  · exact (t.settleSafe_sup d).trans ht

/-! ### The umpire's grants and overrides, and the control-die reset -/

@[simp] theorem State.setUmpPattern_sup (u p : Nat) : (s.setUmpPattern u p).sup = s.sup := s.set_sup _ _

@[simp] theorem State.endGrant_sup (u : Nat) : (s.endGrant u).sup = s.sup := by
  unfold State.endGrant
  extract_lets t
  exact (State.each_sup _ _ _ fun l t => t.modLeg_sup l _).trans (s.clearFldBit_sup _ _)

@[simp] theorem State.umpRefuse_sup (code u : Nat) : (s.umpRefuse code u).sup = s.sup := by
  simp only [State.umpRefuse, State.ev_sup, State.set_sup]

@[simp] theorem State.enRefused_sup (page leg code : Nat) : (s.enRefused page leg code).sup = s.sup := by
  simp only [State.enRefused, State.ev_sup, State.set_sup]

@[simp] theorem State.notPermitted_sup (u : Nat) : (s.notPermitted u).sup = s.sup := by
  refine s.each_sup _ _ fun p t => ?_
  split
  · exact t.enRefused_sup p _ _
  · rfl

@[simp] theorem State.withdraw_sup (u code : Nat) : (s.withdraw u code).sup = s.sup := by
  simp only [State.withdraw, State.releaseUnit_sup, State.notPermitted_sup, State.umpRefuse_sup, State.endGrant_sup]

@[simp] theorem State.recheck_sup : s.recheck.sup = s.sup := by
  refine s.each_sup _ _ fun u t => ?_
  split
  · exact t.withdraw_sup u _
  · rfl

@[simp] theorem State.override1_sup (allOff : Bool) (u : Nat) : (s.override1 allOff u).sup = s.sup := by
  unfold State.override1
  extract_lets off cls pat held shown told stopped
  split
  · split
    · exact s.setUmpPattern_sup u _
    · rfl
  · have hheld : held.sup = s.sup := by rw [State.setUmpPattern_sup, State.setFldBit_sup]
    have hshown : shown.sup = s.sup := by
      unfold shown
      split
      · exact (held.set_sup _ _).trans hheld
      · exact hheld
    have hstopped : stopped.sup = s.sup := by rw [State.abortSelf_sup, State.hostEvent_sup, hshown]
    split
    · rw [State.driveSafe_sup, State.ssn_sup, hstopped]
    · exact (stopped.releaseUnit_sup u).trans hstopped

@[simp] theorem State.override_sup (allOff : Bool) (u : Nat) : (s.override allOff u).sup = s.sup := by
  unfold State.override
  extract_lets t
  have ht : t.sup = s.sup := s.override1_sup allOff u
  split
  · simp only [State.override1_sup, ht]
  · exact ht

@[simp] theorem State.overrides_sup (allOff : Bool) (mask : Nat) : (s.overrides allOff mask).sup = s.sup :=
  s.each_sup _ _ fun u t => t.override_sup allOff u

@[simp] theorem State.clearDie_sup : s.clearDie.sup = s.sup := by
  simp only [State.clearDie]
  split
  · rw [State.set_sup, State.wr_sup, State.set_sup]
  · rw [State.wr_sup, State.set_sup]

/-- A reset of a running control die leaves the supply state but for the cause that it logs and the die that it holds (R77, R81). -/
theorem State.dieReset_sup (h : s.sup.die = .running) (code detail also : Nat) (hold : Die) (allOff : Bool) :
    (s.dieReset code detail also hold allOff).sup = { s.sup.log code detail also with die := hold } := by
  unfold State.dieReset
  rw [if_pos (by simp [State.running, h])]
  simp only [State.clearDie_sup, State.recheck_sup, State.overrides_sup]

end Sys2Proof.Machine
end

section
/-! PROOFS. One cause that asserts alone in its umpire cycle (R77, R79, R81), and the retention latch. -/

namespace Sys2Proof.Machine

variable (s : State) (c : ResetCause)

/-! ### A cause that asserts alone -/

@[simp] theorem State.beside_nil : s.beside [] = s := rfl

theorem causeAlso_self_nil : causeAlso c c [] = 0 := by simp [causeAlso]

/-- Alone, a control-die reset's cause that names no comparator resets a running control die, and all-off goes with BO_VIO only. -/
theorem State.causes_alone_die (hl : lockstepOf [c] = none) (hc : resetScope c = 1)
    (hr : (s.causeLatch c).sup.die = .running) :
    s.causes c [] = (s.causeLatch c).dieReset (resetCode c) (resetDetail c) 0 .held (resetCode c == 0x07) := by
  simp [State.causes, causeFirst, causeAlso_self_nil, hl, hc, State.running, hr]

/-- Alone, a device reset's cause leaves the safety die as it starts, the cause in its log and, but for RAIL_OV, in the latch. -/
theorem State.causes_alone_device (hl : lockstepOf [c] = none) (hc : resetScope c = 2) (hov : resetCode c ≠ 0x0B) :
    (s.causes c []).sup.retained = some (resetCode c) ∧ (s.causes c []).sup.die = .down ∧ (s.causes c []).sup.umpire = false := by
  simp [State.causes, causeFirst, hl, hc, hov, State.deviceReset, Supply.log, Supply.init]

/-- BO_V5, BO_VCSD and BO_UREF reset the device; BO_VIO, BO_V18, BO_VCORE and BO_VDDA the control die (R72, R77). -/
theorem resetScope_brownOut (r : Rail) :
    resetScope (.rail (.brownOut r)) =
      match r with
      | .v5 | .vcsd | .uref => 2
      | .vsup | .vio | .v18 | .vcore | .vdda => 1 := by
  cases r <;> rfl

theorem causeCode_brownOut_ne_railOv (r : Rail) : causeCode (.brownOut r) ≠ 0x0B := by cases r <;> decide

theorem exec_brownOut_alone (h : s.sup.vsup = true) (r : Rail) :
    exec (.brownOut r []) s = .next (s.causes (.rail (.brownOut r)) []) := by
  show Host.Outcome.next (brownOut r [] s) = _
  simp [brownOut, h]

/-! ### The retention latch (R81) -/

theorem brownOut_device_retains (r : Rail) (h : s.sup.vsup = true) (hr : r = .v5 ∨ r = .vcsd ∨ r = .uref) :
    Completes (exec (.brownOut r []) s) (fun t =>
      t.sup.retained = some (causeCode (.brownOut r)) ∧ t.sup.die = .down ∧ t.sup.umpire = false) := by
  have hc : resetScope (.rail (.brownOut r)) = 2 := by
    rw [resetScope_brownOut]
    obtain rfl | rfl | rfl := hr <;> rfl
  exact ⟨_, exec_brownOut_alone s h r, s.causes_alone_device _ rfl hc (causeCode_brownOut_ne_railOv r)⟩

theorem brownOut_die_keeps_retained (r : Rail) (h : s.sup.vsup = true) (hd : s.sup.die = .running)
    (hr : r = .vio ∨ r = .v18 ∨ r = .vcore ∨ r = .vdda) :
    Completes (exec (.brownOut r []) s) (fun t => t.sup.retained = s.sup.retained ∧ t.sup.code = causeCode (.brownOut r) ∧
      t.sup.hist = ((s.sup.hist <<< 8) ||| BitVec.ofNat 32 (s.sup.code % 256))) := by
  have hc : resetScope (.rail (.brownOut r)) = 1 := by
    rw [resetScope_brownOut]
    obtain rfl | rfl | rfl | rfl := hr <;> rfl
  have hd' : (s.causeLatch (.rail (.brownOut r))).sup.die = .running := hd
  refine ⟨_, exec_brownOut_alone s h r, ?_⟩
  rw [s.causes_alone_die _ rfl hc hd']
  beta_reduce
  rw [State.dieReset_sup _ hd']
  exact ⟨rfl, rfl, rfl⟩

theorem powerUp_code (h : s.sup.vsup = false) :
    Completes (exec .powerUp s) (fun t => t.sup.retained = s.sup.retained ∧
      (s.sup.retained = none → t.sup.code = 0x01) ∧ (∀ c, s.sup.retained = some c → t.sup.code = c)) := by
  refine ⟨powerUp s, rfl, ?_⟩
  rw [powerUp, if_neg (by simp [h])]
  exact ⟨rfl, fun hn => by simp [hn], fun c hc => by simp [hc]⟩

theorem retentionLoss_empties (h : s.sup.vsup = false) :
    Completes (exec .retentionLoss s) (fun t => t.sup.retained = none) := by
  refine ⟨retentionLoss s, rfl, ?_⟩
  rw [retentionLoss, if_neg (by simp [h])]

theorem dieReset_keeps_causeLog (c d a : Nat) (h : Die) (hd : s.sup.die = .running) :
    (s.dieReset c d a h).sup.retained = s.sup.retained ∧ (s.dieReset c d a h).sup.code = c ∧
      (s.dieReset c d a h).sup.hist = ((s.sup.hist <<< 8) ||| BitVec.ofNat 32 (s.sup.code % 256)) ∧
      (s.dieReset c d a h).sup.restartTimes = s.sup.restartTimes := by
  rw [s.dieReset_sup hd]
  exact ⟨rfl, rfl, rfl, rfl⟩

/-- Settles O55: a device reset's cause enters the latch, POWER_UP takes it or else POR, and a control-die reset adds its cause
to the log and leaves the latch. -/
theorem retentionLatch : Obligations.RetentionLatch :=
  ⟨brownOut_device_retains, powerUp_code, retentionLoss_empties, dieReset_keeps_causeLog,
    brownOut_die_keeps_retained⟩

end Sys2Proof.Machine
end

section
/-! PROOFS. The write to RST_SWREQ (R83), as the command of its own and as a register write: how the bus judges it (R548), what
its refusals log (R549) and the control-die reset it requests. -/

namespace Sys2Proof.Machine

variable (s : State) (m : Master) (key : Word)

/-! ### The logged access (R549) -/

theorem logPage_RST_SWREQ : logPage R.RST_SWREQ = 0x01 := by decide

theorem State.refuse_RST_SWREQ (code : Nat) (write : Bool) : s.refuse m R.RST_SWREQ code write =
    (((((s.wr (R.PAGE_ERR_ADDR 0x01) (BitVec.ofNat 32 R.RST_SWREQ)).set (F.PAGE_ERR_INFO_CODE 0x01) code).set
      (F.PAGE_ERR_INFO_MASTER 0x01) (masterId m)).set (F.PAGE_ERR_INFO_WRITE 0x01) (if write then 1 else 0)).set
      (F.PAGE_ERR_INFO_CATCH 0x01) s.stamp).bump (F.PAGE_ERR_COUNT_COUNT 0x01) := by
  unfold State.refuse
  rw [logPage_RST_SWREQ, if_pos (by decide)]

theorem State.refuse_RST_SWREQ_sup (code : Nat) (write : Bool) : (s.refuse m R.RST_SWREQ code write).sup = s.sup := by
  simp only [State.refuse_RST_SWREQ, State.bump_sup, State.set_sup, State.wr_sup]

theorem State.refuse_RST_SWREQ_addr (code : Nat) (write : Bool) :
    (s.refuse m R.RST_SWREQ code write).rd (R.PAGE_ERR_ADDR 0x01) = BitVec.ofNat 32 R.RST_SWREQ := by
  have hcount : R.PAGE_ERR_ADDR 0x01 ≠ (F.PAGE_ERR_COUNT_COUNT 0x01).addr := by decide
  have hinfo : R.PAGE_ERR_ADDR 0x01 ≠ R.PAGE_ERR_INFO 0x01 := by decide
  rw [State.refuse_RST_SWREQ, State.bump, State.rd_set_ne _ _ _ _ hcount, State.rd_set_ne _ _ _ _ hinfo,
    State.rd_set_ne _ _ _ _ hinfo, State.rd_set_ne _ _ _ _ hinfo, State.rd_set_ne _ _ _ _ hinfo, State.rd_wr, if_pos rfl]

theorem State.refuse_RST_SWREQ_code (code : Nat) (write : Bool) (hc : code < 16) :
    (s.refuse m R.RST_SWREQ code write).fld (F.PAGE_ERR_INFO_CODE 0x01) = code := by
  rw [State.refuse_RST_SWREQ, State.fld_bump_apart _ _ _ (by decide), State.fld_set_apart _ _ _ (by decide),
    State.fld_set_apart _ _ _ (by decide), State.fld_set_apart _ _ _ (by decide), State.fld_set _ _ (by decide)]
  exact Nat.mod_eq_of_lt hc

/-! ### How the write is judged (R548) -/

theorem pageOf_RST_SWREQ : pageOf R.RST_SWREQ = 0x01 := by decide
theorem regionOf_RST_SWREQ : regionOf R.RST_SWREQ = .pages := by decide
theorem hasReg_RST_SWREQ : hasReg R.RST_SWREQ = true := by decide
theorem inHeader_RST_SWREQ : inHeader R.RST_SWREQ = false := by decide
theorem crossingOnly_RST_SWREQ : crossingOnly R.RST_SWREQ = false := by decide
theorem cox0Only_RST_SWREQ : cox0Only R.RST_SWREQ = false := by decide
theorem fsLeg_RST_SWREQ : fsLeg R.RST_SWREQ = none := by decide

/-- The clock of the RST page always runs (R115). -/
theorem State.pageOn_RST : s.pageOn 0x01 = true := rfl

/-- No field of RST_SWREQ is bound by the seal of its page. -/
theorem State.sealStops_RST_SWREQ : s.sealStops R.RST_SWREQ key = false := by
  have hrow : regRow R.RST_SWREQ = some ⟨"RST_SWREQ", 0x4c, 1, 0x4, 1, 4, 0x0, 0x0, 0x0, 0xffff, 0x0, 0x0, 0x0⟩ := by decide
  simp [State.sealStops, hrow]

/-- Order 4 for RST_SWREQ: the lock of its page and the key decide. -/
theorem State.writeAuth_RST_SWREQ :
    s.writeAuth m R.RST_SWREQ key = (!s.lockStops m 0x01 && key.toNat % 65536 == 0xA5C3) := by
  have hwd : (R.RST_SWREQ != R.UMP_WDSVC 0) = true ∧ (R.RST_SWREQ != R.UMP_WDSVC 1) = true := by decide
  have hcasc : (R.RST_SWREQ == R.CASC_XFER || R.RST_SWREQ == R.CASC_CMD ||
      [0, 1].any (fun d => R.RST_SWREQ == R.DRV_CMD d || R.RST_SWREQ == R.DRV_TRQ d)) = false := by decide
  simp only [State.writeAuth, inHeader_RST_SWREQ, pageOf_RST_SWREQ, crossingOnly_RST_SWREQ, cox0Only_RST_SWREQ,
    fsLeg_RST_SWREQ, hwd, hcasc]
  simp

theorem State.judge_RST_SWREQ : s.judge m R.RST_SWREQ (some key) =
    if s.lockStops m 0x01 = false ∧ key.toNat % 65536 = 0xA5C3 then none else some (eAuth, false) := by
  have halign : R.RST_SWREQ % 4 = 0 := by decide
  by_cases h : s.lockStops m 0x01 = false ∧ key.toNat % 65536 = 0xA5C3
  · simp [State.judge, halign, regionOf_RST_SWREQ, hasReg_RST_SWREQ, inHeader_RST_SWREQ, pageOf_RST_SWREQ, State.pageOn_RST,
      State.writeAuth_RST_SWREQ, State.sealStops_RST_SWREQ, h]
  · have hauth : s.writeAuth m R.RST_SWREQ key = false := by
      rw [State.writeAuth_RST_SWREQ]
      simpa using h
    simp [State.judge, halign, regionOf_RST_SWREQ, hasReg_RST_SWREQ, inHeader_RST_SWREQ, pageOf_RST_SWREQ, State.pageOn_RST,
      hauth, h]

theorem State.blockStops_RST_SWREQ (auth : Bool) : s.blockStops m R.RST_SWREQ auth =
    if auth = true ∧ s.lockStops m 0x01 = false then none else some (eAuth, false) := by
  cases auth with
  | false => simp [State.blockStops, pageOf_RST_SWREQ, State.pageOn_RST]
  | true => cases h : s.lockStops m 0x01 <;> simp [State.blockStops, pageOf_RST_SWREQ, State.pageOn_RST, h]

theorem State.regWrite_RST_SWREQ :
    s.regWrite m R.RST_SWREQ key = if s.anyOn then (eBusy, s) else (0, s.causes .soft []) := by
  simp [State.regWrite, inHeader_RST_SWREQ, pageOf_RST_SWREQ]

/-! ### The effect of the write -/

theorem State.causes_soft_alone (hd : s.sup.die = .running) : s.causes .soft [] = s.dieReset 0x16 0 0 :=
  s.causes_alone_die .soft rfl rfl hd

/-- What the write does: a refusal for its key or the page's lock, one for an enabled gate output, or the reset. -/
def State.swreq : State :=
  if s.lockStops m 0x01 = false ∧ key.toNat % 65536 = 0xA5C3 then
    if s.anyOn then s.refuse m R.RST_SWREQ eBusy true else s.dieReset 0x16 0 0
  else s.refuse m R.RST_SWREQ eAuth true

theorem rstSwreq_eq_swreq (hd : s.sup.die = .running) : rstSwreq m key [] s = s.swreq m key := by
  rw [rstSwreq, State.onDie_running _ hd, State.blockWrite, State.blockStops_RST_SWREQ, State.swreq]
  by_cases hk : s.lockStops m 0x01 = false ∧ key.toNat % 65536 = 0xA5C3
  · rw [if_pos ⟨by simp [hk.2], hk.1⟩, if_pos hk, State.beside_nil, s.causes_soft_alone hd]
  · rw [if_neg (by simpa [and_comm] using hk), if_neg hk]

theorem busWrite_eq_swreq (hd : s.sup.die = .running) : (s.busWrite m R.RST_SWREQ key).2 = s.swreq m key := by
  rw [State.busWrite, State.judge_RST_SWREQ, State.swreq, regionOf_RST_SWREQ]
  by_cases hk : s.lockStops m 0x01 = false ∧ key.toNat % 65536 = 0xA5C3
  · rw [if_pos hk, if_pos hk]
    by_cases hon : s.anyOn = true
    · simp [State.regWrite_RST_SWREQ, hon, eBusy]
    · simp [State.regWrite_RST_SWREQ, hon, s.causes_soft_alone hd]
  · rw [if_neg hk, if_neg hk]

theorem State.swreq_key (hk : key.toNat % 65536 ≠ 0xA5C3) : s.swreq m key = s.refuse m R.RST_SWREQ eAuth true :=
  if_neg fun h => hk h.2

theorem State.swreq_enabled (hk : key.toNat % 65536 = 0xA5C3) (hl : s.lockStops m 0x01 = false) (hon : s.anyOn = true) :
    s.swreq m key = s.refuse m R.RST_SWREQ eBusy true := by
  rw [State.swreq, if_pos ⟨hl, hk⟩, if_pos hon]

theorem State.swreq_reset (hk : key.toNat % 65536 = 0xA5C3) (hl : s.lockStops m 0x01 = false) (hon : s.anyOn = false) :
    s.swreq m key = s.dieReset 0x16 0 0 := by
  rw [State.swreq, if_pos ⟨hl, hk⟩, if_neg (by simp [hon])]

/-! ### The two commands -/

theorem exec_rstSwreq_alone (hd : s.sup.die = .running) : exec (.rstSwreq m key []) s = .next (s.swreq m key) :=
  congrArg Host.Outcome.next (rstSwreq_eq_swreq s m key hd)

/-- A register write has the effect of the command, and beside it the W1C bits set in its cycle while the die still runs (R19). -/
theorem exec_registerWrite_RST_SWREQ (hd : s.sup.die = .running) (same : Word) :
    exec (.registerWrite m .word (BitVec.ofNat 32 R.RST_SWREQ) key same) s =
      .next (if (s.swreq m key).running then (s.swreq m key).setBeside R.RST_SWREQ same else s.swreq m key) := by
  have haddr : (BitVec.ofNat 32 R.RST_SWREQ).toNat = R.RST_SWREQ := by decide
  show Host.Outcome.next (registerWrite m .word (BitVec.ofNat 32 R.RST_SWREQ) key same s) = _
  rw [registerWrite, State.onDie_running _ hd, haddr, if_pos rfl, busWrite_eq_swreq s m key hd]

/-- A refused write leaves the control die running, so both commands end in the logged refusal. -/
theorem exec_swreq_refused (hd : s.sup.die = .running) (code : Nat) (h : s.swreq m key = s.refuse m R.RST_SWREQ code true) :
    exec (.rstSwreq m key []) s = .next (s.refuse m R.RST_SWREQ code true) ∧
      exec (.registerWrite m .word (BitVec.ofNat 32 R.RST_SWREQ) key 0) s =
        .next ((s.refuse m R.RST_SWREQ code true).setBeside R.RST_SWREQ 0) := by
  have hrun : (s.refuse m R.RST_SWREQ code true).running = true := by
    rw [State.running, State.refuse_RST_SWREQ_sup, hd]
    rfl
  rw [exec_rstSwreq_alone s m key hd, exec_registerWrite_RST_SWREQ s m key hd, h, if_pos hrun]
  exact ⟨rfl, rfl⟩

/-- A write that is taken holds the control die, so nothing else happens in its cycle. -/
theorem exec_swreq_reset (hd : s.sup.die = .running) (h : s.swreq m key = s.dieReset 0x16 0 0) :
    exec (.rstSwreq m key []) s = .next (s.dieReset 0x16 0 0) ∧
      exec (.registerWrite m .word (BitVec.ofNat 32 R.RST_SWREQ) key 0) s = .next (s.dieReset 0x16 0 0) := by
  have hheld : ¬ (s.dieReset 0x16 0 0).running = true := by
    rw [State.running, s.dieReset_sup hd]
    exact Bool.false_ne_true
  rw [exec_rstSwreq_alone s m key hd, exec_registerWrite_RST_SWREQ s m key hd, h, if_neg hheld]
  exact ⟨rfl, rfl⟩

/-- Settles O54: the write's three outcomes by its key, the page's lock and the gate outputs, each for both commands, and what a
refusal logs. -/
theorem softwareReset : Obligations.SoftwareReset :=
  ⟨fun s m key hd hk => exec_swreq_refused s m key hd eAuth (s.swreq_key m key hk),
    fun s m key hd hk hl hon => exec_swreq_refused s m key hd eBusy (s.swreq_enabled m key hk hl hon),
    fun s m c hc => ⟨s.refuse_RST_SWREQ_addr m c true, s.refuse_RST_SWREQ_code m c true hc⟩,
    fun s m key hd hk hl hon => exec_swreq_reset s m key hd (s.swreq_reset m key hk hl hon)⟩

end Sys2Proof.Machine
end

section
/-! PROOFS. The discarded frames of the ring (R482, R483, R485): what passes, the discard itself, and the commands that bring a
frame. -/

namespace Sys2Proof.Machine

variable (s : State) (h : RingHdr) (typ b3 addr : Nat) (payload : List Byte)

/-! ### What passes R485 -/

theorem ringGood_iff : ringGood h typ b3 addr payload = true ↔
    h.viol = false ∧ typ ∈ ringTypes ∧ payload.length ≤ ringLimit typ ∧ crcBytes (ringBytes h typ b3 addr payload) = h.crc := by
  simp [ringGood, and_assoc]

theorem ringGood_eq_false_iff : ringGood h typ b3 addr payload = false ↔
    h.viol = true ∨ typ ∉ ringTypes ∨ ringLimit typ < payload.length ∨ crcBytes (ringBytes h typ b3 addr payload) ≠ h.crc := by
  rw [← Bool.not_eq_true, ringGood_iff]
  simp only [not_and_or, Bool.not_eq_false, not_le, ne_eq]

theorem ringGood_of_long (hlen : ringLimit typ < payload.length) : ringGood h typ b3 addr payload = false :=
  (ringGood_eq_false_iff h typ b3 addr payload).2 (.inr (.inr (.inl hlen)))

@[simp] theorem le_length (n v : Nat) : (le n v).length = n := by simp [le]

@[simp] theorem wordBytes_length (ws : List Word) : (wordBytes ws).length = 4 * ws.length := by
  simp [wordBytes, List.length_flatMap, Nat.mul_comm]

/-! ### The discard -/

theorem State.fld_badFrame_crcErr (r : Fin 2) :
    (s.badFrame r).fld (F.LINK_STAT_CRC_ERR r) = min (s.fld (F.LINK_STAT_CRC_ERR r) + 1) 65535 := by
  have hfits : (F.LINK_STAT_CRC_ERR r).fits = true := by revert r; decide
  have hapart : F.LINK_EVENT_CRC.apart (F.LINK_STAT_CRC_ERR r) = true := by revert r; decide
  rw [State.badFrame, State.fld_ev_apart _ _ _ hapart, State.fld_bump _ _ hfits]
  rfl

theorem State.on_badFrame_crc (r : Nat) : (s.badFrame r).on F.LINK_EVENT_CRC = true := by
  rw [State.on, State.badFrame, State.fld_ev _ _ (by decide)]
  rfl

@[simp] theorem State.badFrame_ring (r : Nat) : (s.badFrame r).ring = s.ring := rfl

theorem State.onlyRegs_badFrame (r : Nat) : OnlyRegs [R.LINK_STAT r, R.LINK_EVENT] s (s.badFrame r) := by
  refine ⟨rfl, fun a ha => ?_⟩
  obtain ⟨hstat, hevent⟩ : a ≠ (F.LINK_STAT_CRC_ERR r).addr ∧ a ≠ F.LINK_EVENT_CRC.addr := by
    simpa [F.LINK_STAT_CRC_ERR, F.LINK_EVENT_CRC] using ha
  rw [State.badFrame, State.rd_ev, if_neg hevent, State.rd_bump, if_neg hstat]

/-! ### The commands -/

/-- A bad frame is forwarded and then discarded, whatever it asks for (R483, R485). -/
theorem State.takeFrame_bad (hd : s.sup.die = .running) (hc : s.cascaded = true) (hdown : bit s.ring.down h.ring = false)
    (hbad : ringGood h typ b3 addr payload = false) (act : State → State) :
    s.takeFrame h typ b3 addr payload act = (s.forward h).badFrame h.ring := by
  rw [State.takeFrame, State.onDie_running _ hd, if_neg (by simp [hc, hdown])]
  exact if_pos (by simp [hbad])

section
variable {s h} {u : State}

/-- A request whose frame ends in the same state whatever would be done with it ends in that state. -/
theorem State.ringRequest_of_takeFrame {typ addr : Nat} {body : List Byte}
    (hu : ∀ act, s.takeFrame h typ h.tag addr body act = u) (act : List Byte → State → State) :
    s.ringRequest h typ addr body act = u := hu _

theorem State.ctl_of_takeFrame {code : Nat} {body : List Byte} {odd : Option CtlOdd}
    (hu : ∀ act, s.takeFrame h tyCtl h.tag 0 (ctlSent code body odd) act = u) (lenOk : Bool)
    (act : State → (Nat × List Byte) × State) : s.ctl h code body odd lenOk act = u := by
  unfold State.ctl
  exact State.ringRequest_of_takeFrame hu _

/-- A command whose frame ends in the same state whatever would be done with it ends in that state. For RESTART this takes that
nothing is answered, or else it returns to start step 4. -/
theorem exec_of_takeFrame {i : Instr} {typ b3 addr : Nat} {payload : List Byte} (hf : frameOf i = some (h, typ, b3, addr, payload))
    (hu : ∀ act, s.takeFrame h typ b3 addr payload act = u) (hans : u.ring.answers = s.ring.answers) : exec i s = .next u := by
  cases i with
  | exchFrame | sig | rsp | ctlr =>
    cases hf
    exact congrArg Host.Outcome.next (hu _)
  | rd | wr | nonce =>
    cases hf
    exact congrArg Host.Outcome.next (State.ringRequest_of_takeFrame hu _)
  | loop | getNonce | verifyStroke | align | readyQ | drive | prepare | go | ctlAbort =>
    cases hf
    refine congrArg Host.Outcome.next ?_
    refine State.ctl_of_takeFrame ?_ _ _
    exact hu
  | enum h ring odd =>
    cases hf
    refine congrArg Host.Outcome.next ?_
    by_cases hrole : s.role = roleStroke
    · exact (if_pos hrole).trans (hu _)
    · exact (if_neg hrole).trans (State.ctl_of_takeFrame hu _ _)
  | restart h odd =>
    cases hf
    show Host.Outcome.next (restart h odd s) = _
    rw [restart, State.ctl_of_takeFrame hu, if_pos (.inl hans)]
  | _ => nomatch hf

end

theorem exec_bad_frame (i : Instr) (hf : frameOf i = some (h, typ, b3, addr, payload)) (hd : s.sup.die = .running)
    (hc : s.cascaded = true) (hdown : bit s.ring.down h.ring = false) (hbad : ringGood h typ b3 addr payload = false) :
    exec i s = .next ((s.forward h).badFrame h.ring) :=
  exec_of_takeFrame hf (s.takeFrame_bad h typ b3 addr payload hd hc hdown hbad) rfl

theorem exec_linkAbort_up (r : Fin 2) (hd : s.sup.die = .running) (hc : s.cascaded = true) (hdown : bit s.ring.down r = false) :
    exec (.linkAbort r) s = .next (s.badFrame r) := by
  show Host.Outcome.next (linkAbort r s) = _
  rw [linkAbort, State.onDie_running _ hd, if_pos (by simp [hc, hdown])]

theorem exec_linkAbort_down (r : Fin 2) (hdown : bit s.ring.down r = true) : exec (.linkAbort r) s = .next s := by
  show Host.Outcome.next (linkAbort r s) = _
  by_cases hd : s.sup.die = .running
  · rw [linkAbort, State.onDie_running _ hd, if_neg (by simp [hdown])]
  · rw [linkAbort, State.onDie_stopped _ hd]

/-- Settles O52: what passes R485, that every command whose frame does not pass forwards it and ends in the discard, and what the
discard writes. -/
theorem discardedFrames : Obligations.DiscardedFrames := by
  refine ⟨fun s i h typ b3 addr payload => exec_bad_frame s h typ b3 addr payload i, exec_linkAbort_up, exec_linkAbort_down,
    fun h typ b3 addr payload => ?judged, fun h ch num words hlen => ?exch, fun h addr words hlen => ?wr,
    fun h num dig w f hlen => ?sig,
    fun s r => ⟨s.fld_badFrame_crcErr r, s.on_badFrame_crc r, s.badFrame_ring r, s.onlyRegs_badFrame r⟩⟩
  case judged =>
    have hbad := (ringGood_eq_false_iff h typ b3 addr payload).2
    exact ⟨fun hviol => hbad (.inl hviol), fun hcrc => hbad (.inr (.inr (.inr hcrc))), ringGood_of_long h typ b3 addr payload,
      fun htyp => hbad (.inr (.inl htyp)),
      fun htyp hviol hcrc hlen => (ringGood_iff h typ b3 addr payload).2 ⟨hviol, htyp, hlen, hcrc⟩⟩
  case exch =>
    have hlimit : ringLimit tyExch = 32 := rfl
    exact ringGood_of_long h _ _ _ _ (by rw [hlimit, wordBytes_length]; omega)
  case wr =>
    have hlimit : ringLimit tyWr = 1024 := rfl
    exact ringGood_of_long h _ _ _ _ (by rw [hlimit, wordBytes_length]; omega)
  case sig =>
    have hlimit : ringLimit tySig = 24 := rfl
    refine ringGood_of_long h _ _ _ _ ?_
    simp only [hlimit, List.length_append, le_length, List.length_cons, List.length_nil]
    omega

end Sys2Proof.Machine
end

section
/-! PROOFS. A read of SRAM (R545, R546): how the bus judges it, the word and the record of an uncorrectable error, and a host's READ
of one word. -/

namespace Sys2Proof.Machine

variable (s : State) (m : Master) (a : Nat)

/-! ### The read on the bus -/

/-- The regions of R543 that hold SRAM. -/
def Region.isSram (g : Region) : Prop := g = .firmware ∨ g = .working ∨ g = .capture ∨ g = .buffer

theorem State.busRead_uncorr (hj : s.judge m a none = none) (hg : (regionOf a).isSram) :
    s.busRead m a (some .uncorr) = (0, 0, (s.badWord a).2) := by
  rcases hg with hg | hg | hg | hg <;> simp [State.busRead, hj, hg, State.badWord]

/-- A word without an error, and one whose error is corrected, read as they stand. -/
theorem State.busRead_sram (hj : s.judge m a none = none) (hg : (regionOf a).isSram) (err : Option MemErr)
    (he : err ≠ some .uncorr) : s.busRead m a err = (0, s.sramWord a, s) := by
  rcases hg with hg | hg | hg | hg <;> simp [State.busRead, hj, hg, he]

/-- Every master may read the capture rings (R545). -/
theorem State.judge_capture (ha : a % 4 = 0) (hg : regionOf a = .capture) : s.judge m a none = none := by
  simp [State.judge, ha, hg, memAuth]

/-! ### The record of an uncorrectable error -/

theorem State.on_badWord_uncorr : (s.badWord a).2.on F.SYS_EVENT_SRAM_UNCORR = true := by
  rw [State.on, State.badWord, State.fld_ev _ _ (by decide)]
  rfl

theorem State.rd_badWord_addr : (s.badWord a).2.rd R.SYS_ECC_ADDR = BitVec.ofNat 32 a := by
  have hevent : R.SYS_ECC_ADDR ≠ F.SYS_EVENT_SRAM_UNCORR.addr := by decide
  rw [State.badWord, State.rd_ev, if_neg hevent, State.rd_wr, if_pos rfl]

theorem State.onlyRegs_badWord : OnlyRegs [R.SYS_ECC, R.SYS_ECC_ADDR, R.SYS_EVENT] s (s.badWord a).2 := by
  refine ⟨rfl, fun b hb => ?_⟩
  obtain ⟨hcount, haddr, hevent⟩ : b ≠ F.SYS_ECC_UNCORR.addr ∧ b ≠ R.SYS_ECC_ADDR ∧ b ≠ F.SYS_EVENT_SRAM_UNCORR.addr := by
    simpa [F.SYS_ECC_UNCORR, F.SYS_EVENT_SRAM_UNCORR] using hb
  rw [State.badWord, State.rd_ev, if_neg hevent, State.rd_wr, if_neg haddr, State.rd_bump, if_neg hcount]

/-! ### A host's READ of one word -/

/-- The first element with a property is the one that goes when it is erased by its value. -/
theorem erase_eq_eraseP_of_find? {α : Type} [BEq α] [LawfulBEq α] {p : α → Bool} {x : α} {l : List α} (h : l.find? p = some x) :
    l.erase x = l.eraseP p := by
  obtain ⟨hx, before, after, rfl, hbefore⟩ := List.find?_eq_some_iff_append.1 h
  have hnot : x ∉ before := fun hmem => by simpa [hx] using hbefore x hmem
  rw [List.erase_append_right _ hnot, List.eraseP_append_right _ (by simpa using hbefore)]
  simp [hx]

/-- A request that is taken, passes checks 5 to 8 and finds the firmware running is executed (R457, R459). -/
theorem State.hostTake_act {i : Fin 3} {op fmt : Nat} {f : List Byte} (ht : HostTakes i op f fmt s)
    (hc : s.requestTaken.checkCode i f = 0) (hfw : s.fw = true) (rootOk : List Byte → Bool) (act : List Byte → Nat → State → State) :
    s.hostTake i op rootOk act = act f fmt s.requestTaken := by
  obtain ⟨hdie, hfind, hop⟩ := ht
  have htaken : ({ s with conv := { s.conv with queue := s.conv.queue.erase (i.val, f, fmt) } } : State) = s.requestTaken := by
    rw [erase_eq_eraseP_of_find? hfind, State.requestTaken]
  have hfw' : s.requestTaken.fw = true := hfw
  simp [State.hostTake, State.onDie_running _ hdie, hfind, hop, htaken, hc, hfw']

theorem exec_hostRead (i : Fin 3) (bad : List (Nat × MemErr)) : exec (.hostRead i bad) s = .next (hostRead i bad s) := rfl

theorem wordBytes_zero : wordBytes [0] = [0, 0, 0, 0] := by decide

/-- A single word that the bus reads without a refusal is the whole of what is read. -/
theorem readLoop_one {err : MemErr} {w : Word} {t : State} (hread : s.busRead m a (some err) = (0, w, t)) :
    readLoop m [(0, err)] 1 0 a [] s = ((none, [w]), t) := by
  simp [readLoop, hread]

/-- A READ of one word whose memory holds an error answers with the word that the bus gives. -/
theorem hostRead_one {i : Fin 3} {fmt : Nat} {f : List Byte} {err : MemErr} {w : Word} {t : State} (ht : HostTakes i 1 f fmt s)
    (hc : s.requestTaken.checkCode i f = 0) (hfw : s.fw = true) (hone : reqWords f = 1)
    (hread : s.requestTaken.busRead (s.requestTaken.hostMaster i) (reqAddr f) (some err) = (0, w, t)) :
    hostRead i [(0, err)] s = t.respond i f fmt 0 0 (wordBytes [w]) := by
  rw [hostRead, s.hostTake_act ht hc hfw, hone, readLoop_one _ _ _ hread]

/-- Settles O56: the word and the record of a read on the bus, the answer of a host's READ, and the reads that give the word stored. -/
theorem uncorrectableReads : Obligations.UncorrectableReads := by
  refine ⟨fun s m a hj hg => ?bus, fun s u t i f fmt ht hu hc hfw hone halign hg htu => ?host, fun s m a hj hg => ?good⟩
  case bus =>
    rw [s.busRead_uncorr m a hj hg]
    exact ⟨rfl, rfl, s.on_badWord_uncorr a, s.rd_badWord_addr a, s.onlyRegs_badWord a⟩
  case host =>
    subst hu htu
    have hj := s.requestTaken.judge_capture (s.requestTaken.hostMaster i) _ halign hg
    have hread := s.requestTaken.busRead_uncorr _ _ hj (.inr (.inr (.inl hg)))
    rw [exec_hostRead, hostRead_one s ht hc hfw hone hread, wordBytes_zero, hread]
  case good =>
    have hread := s.busRead_sram m a hj (.inr (.inr (.inl hg)))
    exact ⟨hread none (by decide), hread (some .corrected) (by decide)⟩

end Sys2Proof.Machine
end
